-- ==== Sys2Proof/Word.lean ====
section
/-! DEFINITION. The widths that cross the part's pins (spec/11, R187). -/

namespace Sys2Proof

/-- One byte of a frame or message. -/
abbrev Byte := BitVec 8

/-- A two-byte field. -/
abbrev Half := BitVec 16

/-- A four-byte field. -/
abbrev Long := BitVec 32

end Sys2Proof
end

