-- ==== Sys2Proof/Config.lean ====
section
/-! DEFINITION. The constants the manual fixes for every SD-6424: capacities, identity, limits and defaults.
The manual leaves no result of an instruction undefined, so no opaque free value stands here. -/

namespace Sys2Proof

/-- Pile slots (R1). -/
abbrev Config.pileSlots : Nat := 64
/-- Grade entries (R6). -/
abbrev Config.grades : Nat := 16
/-- Forecast slots (R60). -/
abbrev Config.forecastSlots : Nat := 48
/-- Order entries (R74). -/
abbrev Config.orders : Nat := 32
/-- Cannon entries (R99). -/
abbrev Config.cannons : Nat := 24
/-- Permit records (R143). -/
abbrev Config.permits : Nat := 16
/-- Mast records (R44). -/
abbrev Config.masts : Nat := 2
/-- Loop nodes (R158). -/
abbrev Config.nodes : Nat := 28
/-- Bytes of command payload (R184). -/
abbrev Config.payload : Nat := 60
/-- Vendor code (R184). -/
abbrev Config.vendor : Nat := 0x5046
/-- Part code (R184). -/
abbrev Config.part : Nat := 0x6424
/-- Revision number (R184). -/
abbrev Config.revision : Nat := 3
/-- Header slots on reuse (R122). -/
abbrev Config.reuseSlots : Nat := 4
/-- Header slots on fresh (R122). -/
abbrev Config.freshSlots : Nat := 2
/-- The trickle limit in litres (R35). -/
abbrev Config.trickle : Nat := 50
/-- The highest wind speed, in 0.1 m/s (spec/00, section 6). -/
abbrev Config.maxWind : Nat := 600
/-- The highest moisture, in mq (spec/00, section 6). -/
abbrev Config.maxMoisture : Nat := 4000
/-- The retry delay of a TRIPPED cannon, in seconds (R115). -/
abbrev Config.retryDelay : Nat := 30
/-- What the close wait adds to the ramp time, in seconds (R113). -/
abbrev Config.closeWaitExtra : Nat := 5
/-- The minutes after the last trip at which the trip count returns to 0 (R116). -/
abbrev Config.tripDecay : Nat := 30
/-- The start wait of the transfer run, in seconds (R138). -/
abbrev Config.startWait : Nat := 10
/-- The hold-off of the transfer run, in seconds (R138). -/
abbrev Config.holdOff : Nat := 60
/-- The default stale limit of a mast and of the gauge, in seconds (R45, R125). -/
abbrev Config.staleDefault : Nat := 120
/-- Rounds between two probes of a lost node (R160, R165). -/
abbrev Config.probeRounds : Nat := 8
/-- Consecutive misses that declare a node LOST (R165). -/
abbrev Config.lostMisses : Nat := 3
/-- Minutes of a yard day (R134). -/
abbrev Config.dayMinutes : Nat := 1440
/-- One more than the largest 32-bit count. -/
abbrev Config.two32 : Nat := 4294967296
/-- One more than the largest 16-bit count. -/
abbrev Config.two16 : Nat := 65536
/-- The steps one event's agenda may take (log entry 7): far beyond what 32 orders and 16 permits can occasion. -/
abbrev Config.agendaFuel : Nat := 4096

end Sys2Proof
end

