-- ==== Sys2Proof/Syntax.lean ====
section
/-! DEFINITION. The commands of the part: one constructor for each row of spec/opcode_table.json.
A host command carries the fields of its frame, unchecked, at the widths of R187 and R189; an enumerated field is the
byte as it came, so that an unlisted value reaches the command and is answered BAD-ARGUMENT (R187). An event carries
the number of the object it concerns, or the bytes that came over the line. -/

namespace Sys2Proof

/-- The eight exposure values of a pile, X[0] to X[7] (R2). -/
structure Profile where
  x0 : Byte
  x1 : Byte
  x2 : Byte
  x3 : Byte
  x4 : Byte
  x5 : Byte
  x6 : Byte
  x7 : Byte
  deriving DecidableEq, Repr

/-- The grade record LOAD-GRADE carries (R6, R7). -/
structure GradeArgs where
  kg : Byte
  gk : Byte
  mt : Half
  mwork : Half
  msat : Half
  margin : Half
  dg : Byte
  fdef : Byte
  deriving DecidableEq, Repr

/-- What OPEN-PILE carries (R9). -/
structure OpenPileArgs where
  tag : Half
  grade : Byte
  area : Half
  profile : Profile
  moisture : Half
  mcore : Half
  auto : Bool
  deriving DecidableEq, Repr

/-- What AMEND-PILE carries; each field but the tag is optional (R11). -/
structure AmendPileArgs where
  tag : Half
  grade : Option Byte
  area : Option Half
  profile : Option Profile
  mcore : Option Half
  auto : Option Bool
  deriving DecidableEq, Repr

/-- The six limits of SET-WIND-LIMITS; the two temperatures are signed (R57). -/
structure WindLimitArgs where
  gust : Half
  hysteresis : Half
  cutOut : Half
  release : Half
  frost : Byte
  frostRelease : Byte
  deriving DecidableEq, Repr

/-- The slot POST-FORECAST carries, before the clamping of R62 (R189). -/
structure ForecastArgs where
  code : Byte
  issue : Half
  start : Long
  length : Half
  wind : Half
  gust : Half
  octant : Byte
  rh : Byte
  rain : Half
  temp : Byte
  deriving DecidableEq, Repr

/-- A plan entry of PLACE-ORDER: a cannon byte (0xFF for none), a packed arc and a share (R189). -/
structure PlanEntryArgs where
  cannon : Byte
  arcStart : BitVec 12
  arcEnd : BitVec 12
  share : Half
  deriving DecidableEq, Repr

/-- What PLACE-ORDER carries (R78, R189). -/
structure PlaceOrderArgs where
  tag : Half
  priority : Byte
  policy : Byte
  dose : Half
  volley : Option (BitVec 7)
  plan : List PlanEntryArgs
  deriving DecidableEq, Repr

/-- A coverage entry of LOAD-CANNON (R101). -/
structure CoverArgs where
  tag : Half
  arcStart : Half
  arcEnd : Half
  deriving DecidableEq, Repr

/-- The fields LOAD-CANNON carries beside the cannon number and the node address (R102). -/
structure CannonArgs where
  supply : Byte
  maxDose : Half
  rampTime : Byte
  sweepRate : Byte
  coverage : List CoverArgs
  minDose : Option Half
  rampAllowance : Option Half
  slewTimeout : Option Byte
  blanking : Option Half
  extraDelay : Option Byte
  deriving DecidableEq, Repr

/-- The fields of an unloading LOAD-CANNON, which are not read (R102). -/
def CannonArgs.none : CannonArgs := ⟨0, 0, 0, 0, [], .none, .none, .none, .none, .none⟩

/-- The fields LOAD-BASIN TANK carries beside the node address (R125). -/
structure TankArgs where
  capacity : Half
  low : Half
  high : Half
  hysteresis : Half
  turbidityLimit : Byte
  stale : Half
  deriving DecidableEq, Repr

/-- The fields of an unloading LOAD-BASIN TANK, which are not read (R125). -/
def TankArgs.none : TankArgs := ⟨0, 0, 0, 0, 0, 0⟩

/-- What LOAD-BASIN POND carries (R135). -/
structure PondArgs where
  capacity : Long
  startMark : Long
  stopMark : Long
  volume : Option Long
  node : Byte
  deriving DecidableEq, Repr

/-- What RELEASE-PERMIT carries; the tonnage is signed (R153, R189). -/
structure ReleaseArgs where
  machine : Byte
  tonnage : Long
  f : Byte
  mf : Option Half
  emptied : Bool
  deriving DecidableEq, Repr

/-- The commands of the part, one for each row of the table. -/
inductive Instr where
  /-- POWER_ON_RESET (R185), with the level of ADDR0 to ADDR3. -/
  | powerOnReset (pins : BitVec 4)
  /-- BAD_FRAME (R172): a transaction judged at CS rising, with the levels of ADDR0 to ADDR3 and of RESET then. -/
  | badFrame (pins : BitVec 4) (resetLow : Bool) (bytes : List Byte)
  /-- FETCH_REPLY (R175), with the number of bytes the host clocks after the first four. -/
  | fetchReply (clocked : Nat)
  /-- READ_IDENT (R184). -/
  | readIdent
  /-- READ_NOTICES (R181). -/
  | readNotices
  /-- READ_CHANGES (R182). -/
  | readChanges (category : Byte)
  /-- SET_MASK (R183). -/
  | setMask (bits : Byte)
  /-- SET_CLOCK (R178), addressed or broadcast. -/
  | setClock (broadcast : Bool) (minute : Long)
  /-- READ_CLOCK (R178). -/
  | readClock
  /-- RESET_YARD (R186), with the level of ADDR0 to ADDR3. -/
  | resetYard (pins : BitVec 4)
  /-- LOAD_GRADE (R7). -/
  | loadGrade (number : Byte) (args : GradeArgs)
  /-- OPEN_PILE (R9, R10). -/
  | openPile (args : OpenPileArgs)
  /-- AMEND_PILE (R11). -/
  | amendPile (args : AmendPileArgs)
  /-- READ_PILE (R13): selector 0 by tag, 1 by slot. -/
  | readPile (selector : Byte) (value : Half)
  /-- RANK_PILES (R14). -/
  | rankPiles (band : Byte)
  /-- SET_MOISTURE (R15). -/
  | setMoisture (tag : Half) (value : Half)
  /-- REPORT_DISTURBANCE (R16). -/
  | reportDisturbance (tag : Half) (f : Byte) (mf : Option Half)
  /-- RETIRE_PILE (R18). -/
  | retirePile (tag : Half)
  /-- SET_LEAD (R41). -/
  | setLead (value : Half)
  /-- SET_BANDS (R42). -/
  | setBands (b1 : Byte) (b2 : Byte) (b3 : Byte)
  /-- READ_MODEL (R43). -/
  | readModel
  /-- MODEL_STEP (R23). -/
  | modelStep
  /-- LOAD_MAST (R45). -/
  | loadMast (mast : Byte) (node : Byte) (stale : Half)
  /-- MAST_STALE_EXPIRY (R49). -/
  | mastStaleExpiry (mast : Byte)
  /-- SET_WIND_LIMITS (R57). -/
  | setWindLimits (args : WindLimitArgs)
  /-- READ_WIND (R58). -/
  | readWind
  /-- POST_FORECAST (R62 to R68), addressed or broadcast. -/
  | postForecast (broadcast : Bool) (args : ForecastArgs)
  /-- SLOT_RETIREMENT (R69). -/
  | slotRetirement
  /-- SET_YARD_CODES (R71). -/
  | setYardCodes (c1 : Byte) (c2 : Byte) (c3 : Byte) (c4 : Byte)
  /-- READ_FORECAST (R72): form 0 by minute, 1 by index. -/
  | readForecast (form : Byte) (key : Long)
  /-- CLEAR_FORECASTS (R73). -/
  | clearForecasts
  /-- PLACE_ORDER (R78). -/
  | placeOrder (args : PlaceOrderArgs)
  /-- SUSPEND_ORDER (R83). -/
  | suspendOrder (id : Half)
  /-- RESUME_ORDER (R83). -/
  | resumeOrder (id : Half)
  /-- CANCEL_ORDER (R93). -/
  | cancelOrder (id : Half)
  /-- VOLLEY (R95), addressed or broadcast. -/
  | volley (broadcast : Bool) (code : Byte)
  /-- READ_ORDER (R96): selector 0 by id, 1 by position. -/
  | readOrder (selector : Byte) (value : Half)
  /-- SET_DISPATCH (R98). -/
  | setDispatch (lapse : Half) (maxDose : Half) (floor : Byte)
  /-- READ_DISPATCH (R98). -/
  | readDispatch
  /-- ARBITRATION (R85). -/
  | arbitration
  /-- ORDER_LAPSE (R94) of one order. -/
  | orderLapse (id : Half)
  /-- LOAD_CANNON (R102, R103). -/
  | loadCannon (number : Byte) (node : Byte) (args : CannonArgs)
  /-- SLEW_TIMEOUT (R109). -/
  | slewTimeout (number : Byte)
  /-- BLANKING_TIMER_EXPIRY (R114). -/
  | blankingTimerExpiry (number : Byte)
  /-- CLOSE_WAIT_EXPIRY (R113). -/
  | closeWaitExpiry (number : Byte)
  /-- RETRY_DELAY_END (R115). -/
  | retryDelayEnd (number : Byte)
  /-- TRIP_COUNT_DECAY (R116). -/
  | tripCountDecay (number : Byte)
  /-- RESET_CANNON (R119). -/
  | resetCannon (number : Byte)
  /-- READ_CANNON (R120). -/
  | readCannon (number : Byte)
  /-- LOAD_BASIN_TANK (R125). -/
  | loadBasinTank (node : Byte) (args : TankArgs)
  /-- LOAD_BASIN_POND (R135). -/
  | loadBasinPond (args : PondArgs)
  /-- GAUGE_STALE_EXPIRY (R129). -/
  | gaugeStaleExpiry
  /-- SET_ALLOWANCE (R133). -/
  | setAllowance (value : Long)
  /-- DAY_ROLLOVER (R134). -/
  | dayRollover
  /-- REPORT_INFLOW (R136). -/
  | reportInflow (litres : Long)
  /-- SET_POND (R137). -/
  | setPond (volume : Long) (clearSpill : Bool)
  /-- START_WAIT_EXPIRY (R140). -/
  | startWaitExpiry
  /-- HOLD_OFF_END (R140). -/
  | holdOffEnd
  /-- READ_WATER (R142). -/
  | readWater
  /-- REQUEST_PERMIT (R145, R146). -/
  | requestPermit (machine : Byte) (kind : Byte) (tag : Half)
  /-- PREWET_WAIT_EXPIRY (R150) of one machine's permit. -/
  | prewetWaitExpiry (machine : Byte)
  /-- MAX_HOLD_LAPSE (R152) of one machine's permit. -/
  | maxHoldLapse (machine : Byte)
  /-- RELEASE_PERMIT (R153, R154). -/
  | releasePermit (args : ReleaseArgs)
  /-- SET_PERMIT_LIMITS (R155). -/
  | setPermitLimits (prewet : Byte) (stacker : Half) (reclaimer : Half) (dozer : Half)
  /-- READ_PERMIT (R156): form 0 by machine id, 1 by position. -/
  | readPermit (form : Byte) (key : Byte)
  /-- ROUND_START (R160). -/
  | roundStart
  /-- ROUND_OVERRUN (R161). -/
  | roundOverrun
  /-- MESSAGE (R163). -/
  | message
  /-- VALID_REPLY (R164), with the bytes that came in the reply window. -/
  | validReply (bytes : List Byte)
  /-- MISS (R165). -/
  | miss
  /-- CALL (R167). -/
  | call
  /-- CALL_ANSWER (R167), with the bytes that came in the call slot. -/
  | callAnswer (bytes : List Byte)
  /-- CALL_SLOT_TIMEOUT (R167). -/
  | callSlotTimeout
  /-- SET_LOOP (R169). -/
  | setLoop (period : Half)
  /-- READ_LOOP (R170), with an optional node address. -/
  | readLoop (node : Option Byte)
  /-- YARD_MINUTE_CHANGE (R176). -/
  | yardMinuteChange
  /-- SECONDS_COUNT_RISE (R176). -/
  | secondsCountRise
  deriving DecidableEq, Repr

end Sys2Proof
end

