-- ==== Sys2Proof/Decode.lean ====
section
/-! DEFINITION. Reading a command from the pins: the word of an opcode-table row (the table gives no row any bits), and
the bytes of an SPI transaction (R172, R173, R187 to R189). -/

namespace Sys2Proof

/-- The command a word of the opcode table spells: spec/opcode_table.json gives no row any bits, so none. -/
def decodeTableWord (_nbits _w : Nat) : Option Instr := none

/-! ## CRC-8 (R187) -/

/-- One shift of the CRC register: polynomial x^8 + x^2 + x + 1. -/
def crcShift (c : Nat) : Nat := if 128 ≤ c then ((2 * c) % 256) ^^^ 7 else 2 * c

/-- One byte taken into the CRC register. -/
def crcByte (c : Nat) (b : Byte) : Nat :=
  crcShift (crcShift (crcShift (crcShift (crcShift (crcShift (crcShift (crcShift (c ^^^ b.toNat))))))))

/-- CRC-8 of a string of bytes: initial value 0, no reflection, no final inversion. -/
def crc8 (bytes : List Byte) : Byte := BitVec.ofNat 8 (bytes.foldl crcByte 0)

/-- A frame or message closed by its CRC-8. -/
def closeFrame (bytes : List Byte) : List Byte := bytes ++ [crc8 bytes]

/-! ## Fields of a payload: most significant byte first (R187) -/

/-- The byte at an offset. -/
def u8 (p : List Byte) (i : Nat) : Byte := p.getD i 0

/-- The two-byte field at an offset. -/
def u16 (p : List Byte) (i : Nat) : Half := u8 p i ++ u8 p (i + 1)

/-- The four-byte field at an offset. -/
def u32 (p : List Byte) (i : Nat) : Long := u16 p i ++ u16 p (i + 2)

/-- The two 12-bit halves of the three bytes at an offset: arc start above arc end (R189). -/
def packedArc (p : List Byte) (i : Nat) : BitVec 12 × BitVec 12 :=
  let x : BitVec 24 := u16 p i ++ u8 p (i + 2)
  (x.extractLsb' 12 12, x.extractLsb' 0 12)

/-- The eight exposure values at an offset. -/
def profileAt (p : List Byte) (i : Nat) : Profile :=
  ⟨u8 p i, u8 p (i + 1), u8 p (i + 2), u8 p (i + 3), u8 p (i + 4), u8 p (i + 5), u8 p (i + 6), u8 p (i + 7)⟩

/-- A field whose presence bit is bit `k` of the flag byte (R187). -/
def present {α : Type} (flags : Byte) (k : Nat) (x : α) : Option α := if flags.getLsbD k then some x else none

/-! ## Payloads of the commands (R187, R189) -/

/-- What a payload of a code spells: a command, an unlisted form that no row of the table stands for, or a length that
no layout of the code admits. -/
inductive Layout where
  | command (i : Instr)
  | unlisted
  | bad
  deriving DecidableEq, Repr

/-- A layout of one fixed length. -/
def sized (n : Nat) (p : List Byte) (i : Instr) : Layout := if p.length = n then .command i else .bad

/-- POST-FORECAST (R189). -/
def forecastAt (p : List Byte) : ForecastArgs :=
  ⟨u8 p 0, u16 p 1, u32 p 3, u16 p 7, u16 p 9, u16 p 11, u8 p 13, u8 p 14, u16 p 15, u8 p 17⟩

/-- The plan entry of PLACE-ORDER at an offset (R189). -/
def planEntryAt (p : List Byte) (i : Nat) : PlanEntryArgs :=
  ⟨u8 p i, (packedArc p (i + 1)).1, (packedArc p (i + 1)).2, u16 p (i + 4)⟩

/-- PLACE-ORDER: 7 + 6k bytes (R189). -/
def placeOrderAt (p : List Byte) : Layout :=
  let k := (p.length - 7) / 6
  if p.length = 7 + 6 * k then
    .command (.placeOrder ⟨u16 p 0, u8 p 2, u8 p 3, u16 p 4, present (u8 p 6) 7 ((u8 p 6).setWidth 7),
      (List.range k).map fun j => planEntryAt p (7 + 6 * j)⟩)
  else .bad

/-- LOAD-CANNON: a flag byte, the cannon number and the node address, and for a loading the fields of R102 in order, the
optional ones last; a node address of 0 ends the payload (R187). -/
def loadCannonAt (p : List Byte) : Layout :=
  if u8 p 2 = 0 then sized 3 p (.loadCannon (u8 p 1) 0 CannonArgs.none)
  else
    let k := (u8 p 8).toNat
    let e := 9 + 6 * k
    if p.length = e + 8 then
      .command (.loadCannon (u8 p 1) (u8 p 2) ⟨u8 p 3, u16 p 4, u8 p 6, u8 p 7,
        (List.range k).map fun j => ⟨u16 p (9 + 6 * j), u16 p (11 + 6 * j), u16 p (13 + 6 * j)⟩,
        present (u8 p 0) 0 (u16 p e), present (u8 p 0) 1 (u16 p (e + 2)), present (u8 p 0) 2 (u8 p (e + 4)),
        present (u8 p 0) 3 (u16 p (e + 5)), present (u8 p 0) 4 (u8 p (e + 7))⟩)
    else .bad

/-- LOAD-BASIN by its form byte: TANK 0, POND 1 (R187). A basin that is not listed admits the lengths of the two forms
and stands for neither row. -/
def loadBasinAt (p : List Byte) : Layout :=
  if p.length = 0 then .bad
  else if u8 p 0 = 0 then
    if u8 p 1 = 0 then sized 2 p (.loadBasinTank 0 TankArgs.none)
    else sized 13 p (.loadBasinTank (u8 p 1) ⟨u16 p 2, u16 p 4, u16 p 6, u16 p 8, u8 p 10, u16 p 11⟩)
  else if u8 p 0 = 1 then
    sized 19 p (.loadBasinPond ⟨u32 p 2, u32 p 6, u32 p 10, present (u8 p 1) 0 (u32 p 14), u8 p 18⟩)
  else if p.length = 2 ∨ p.length = 13 ∨ p.length = 19 then .unlisted
  else .bad

/-- READ-FORECAST by its form byte: a minute after form 0, an index after form 1 (R72, R187). -/
def readForecastAt (p : List Byte) : Layout :=
  if p.length = 5 ∧ u8 p 0 ≠ 1 then .command (.readForecast (u8 p 0) (u32 p 1))
  else if p.length = 2 ∧ u8 p 0 ≠ 0 then .command (.readForecast (u8 p 0) ((u8 p 1).setWidth 32))
  else .bad

/-- The payload of each code of the catalogue (section 10.3). FETCH-REPLY is judged on its first four bytes before this
(R172), so a FETCH-REPLY that reaches this is bad. -/
def decodePayload (broadcast : Bool) (pins : BitVec 4) (code : Nat) (p : List Byte) : Layout :=
  match code with
  | 0x02 => sized 0 p .readIdent
  | 0x03 => sized 0 p .readNotices
  | 0x04 => sized 1 p (.readChanges (u8 p 0))
  | 0x05 => sized 1 p (.setMask (u8 p 0))
  | 0x06 => sized 4 p (.setClock broadcast (u32 p 0))
  | 0x07 => sized 0 p .readClock
  | 0x0F => sized 0 p (.resetYard pins)
  | 0x10 => sized 13 p (.loadGrade (u8 p 0)
      ⟨u8 p 1, u8 p 2, u16 p 3, u16 p 5, u16 p 7, u16 p 9, u8 p 11, u8 p 12⟩)
  | 0x11 => sized 18 p (.openPile
      ⟨u16 p 0, u8 p 2, u16 p 3, profileAt p 5, u16 p 13, u16 p 15, (u8 p 17).getLsbD 0⟩)
  | 0x12 => sized 17 p (.amendPile ⟨u16 p 1, present (u8 p 0) 0 (u8 p 3), present (u8 p 0) 1 (u16 p 4),
      present (u8 p 0) 2 (profileAt p 6), present (u8 p 0) 3 (u16 p 14), present (u8 p 0) 4 ((u8 p 16).getLsbD 0)⟩)
  | 0x13 => sized 3 p (.readPile (u8 p 0) (u16 p 1))
  | 0x14 => sized 1 p (.rankPiles (u8 p 0))
  | 0x15 => sized 4 p (.setMoisture (u16 p 0) (u16 p 2))
  | 0x16 => sized 6 p (.reportDisturbance (u16 p 1) (u8 p 3) (present (u8 p 0) 0 (u16 p 4)))
  | 0x17 => sized 2 p (.retirePile (u16 p 0))
  | 0x20 => sized 2 p (.setLead (u16 p 0))
  | 0x21 => sized 3 p (.setBands (u8 p 0) (u8 p 1) (u8 p 2))
  | 0x22 => sized 0 p .readModel
  | 0x28 => sized 4 p (.loadMast (u8 p 0) (u8 p 1) (u16 p 2))
  | 0x29 => sized 10 p (.setWindLimits ⟨u16 p 0, u16 p 2, u16 p 4, u16 p 6, u8 p 8, u8 p 9⟩)
  | 0x2A => sized 0 p .readWind
  | 0x30 => sized 18 p (.postForecast broadcast (forecastAt p))
  | 0x31 => sized 4 p (.setYardCodes (u8 p 0) (u8 p 1) (u8 p 2) (u8 p 3))
  | 0x32 => readForecastAt p
  | 0x33 => sized 0 p .clearForecasts
  | 0x40 => placeOrderAt p
  | 0x41 => sized 2 p (.suspendOrder (u16 p 0))
  | 0x42 => sized 2 p (.resumeOrder (u16 p 0))
  | 0x43 => sized 2 p (.cancelOrder (u16 p 0))
  | 0x44 => sized 1 p (.volley broadcast (u8 p 0))
  | 0x45 => sized 3 p (.readOrder (u8 p 0) (u16 p 1))
  | 0x46 => sized 5 p (.setDispatch (u16 p 0) (u16 p 2) (u8 p 4))
  | 0x47 => sized 0 p .readDispatch
  | 0x50 => loadCannonAt p
  | 0x51 => sized 1 p (.readCannon (u8 p 0))
  | 0x52 => sized 1 p (.resetCannon (u8 p 0))
  | 0x58 => loadBasinAt p
  | 0x59 => sized 4 p (.setAllowance (u32 p 0))
  | 0x5A => sized 4 p (.reportInflow (u32 p 0))
  | 0x5B => sized 5 p (.setPond (u32 p 0) ((u8 p 4).getLsbD 0))
  | 0x5C => sized 0 p .readWater
  | 0x60 => sized 4 p (.requestPermit (u8 p 0) (u8 p 1) (u16 p 2))
  | 0x61 => sized 9 p (.releasePermit
      ⟨u8 p 0, u32 p 1, u8 p 5, present (u8 p 6) 0 (u16 p 7), (u8 p 6).getLsbD 1⟩)
  | 0x62 => sized 7 p (.setPermitLimits (u8 p 0) (u16 p 1) (u16 p 3) (u16 p 5))
  | 0x63 => sized 2 p (.readPermit (u8 p 0) (u8 p 1))
  | 0x68 => sized 2 p (.setLoop (u16 p 0))
  | 0x69 => sized 2 p (.readLoop (present (u8 p 0) 0 (u8 p 1)))
  | _ => .bad

/-! ## Transactions (R172) -/

/-- What a transaction comes to at CS rising. -/
inductive Verdict where
  /-- the transaction is ignored -/
  | ignored
  /-- an addressed bad frame, with its code byte -/
  | bad (code : Nat)
  /-- an addressed good frame whose form byte is not listed, with its code -/
  | unlisted (code : Nat)
  /-- a good frame: the command it carries -/
  | command (i : Instr)
  deriving DecidableEq, Repr

/-- The codes that may be broadcast: SET-CLOCK, POST-FORECAST and VOLLEY (R173). -/
def mayBroadcast (code : Nat) : Bool := code == 0x06 || code == 0x30 || code == 0x44

/-- The frame's layout: bad when its length field is above 60, its byte count is not the length plus four or its CRC-8
does not match, and otherwise what its payload spells (R172). -/
def frameLayout (broadcast : Bool) (pins : BitVec 4) (bytes : List Byte) : Layout :=
  let n := (u8 bytes 2).toNat
  if Config.payload < n ∨ bytes.length ≠ n + 4 ∨ u8 bytes (n + 3) ≠ crc8 (bytes.take (n + 3)) then .bad
  else decodePayload broadcast pins (u8 bytes 1).toNat ((bytes.drop 3).take n)

/-- An addressed FETCH-REPLY is judged on its first four bytes alone (R172). -/
def isFetch (bytes : List Byte) : Bool :=
  u8 bytes 1 == 0x01 && u8 bytes 2 == 0 && u8 bytes 3 == crc8 (bytes.take 3)

/-- The judgement of a transaction, by the first case of R172 that applies. -/
def decodeFrame (own : Nat) (pins : BitVec 4) (resetLow : Bool) (bytes : List Byte) : Verdict :=
  let address := (u8 bytes 0).toNat
  let code := (u8 bytes 1).toNat
  if resetLow then .ignored
  else if bytes.length < 4 then .ignored
  else if address = 0xFF then
    if mayBroadcast code then
      match frameLayout true pins bytes with
      | .command i => .command i
      | .unlisted | .bad => .ignored
    else .ignored
  else if address ≠ own then .ignored
  else if isFetch bytes then .command (.fetchReply (bytes.length - 4))
  else
    match frameLayout false pins bytes with
    | .command i => .command i
    | .unlisted => .unlisted code
    | .bad => .bad code

end Sys2Proof
end

