-- ==== Sys2Proof/Machine/Table.lean ====
section
/-! DEFINITION. Sparse tables: a collection with a numbered key, kept in ascending key order with no key twice
(spec/00, section 7, Records and collections). An entry that is FREE, unloaded or ABSENT is not listed. -/

namespace Sys2Proof.Machine

/-- A sparse table: pairs of key and entry. -/
abbrev Table (α : Type) := List (Nat × α)

/-- The entry at a key. -/
def Table.get {α : Type} : Table α → Nat → Option α
  | [], _ => none
  | (k', v) :: t, k => if k' = k then some v else Table.get t k

/-- The table with the entry at a key written. -/
def Table.set {α : Type} : Table α → Nat → α → Table α
  | [], k, v => [(k, v)]
  | (k', v') :: t, k, v =>
    if k < k' then (k, v) :: (k', v') :: t
    else if k' = k then (k, v) :: t
    else (k', v') :: Table.set t k v

/-- The table without the entry at a key. -/
def Table.erase {α : Type} (t : Table α) (k : Nat) : Table α := t.filter fun e => e.1 != k

/-- The table with the entry at a key changed in place, when there is one. -/
def Table.update {α : Type} (t : Table α) (k : Nat) (f : α → α) : Table α :=
  t.map fun e => if e.1 = k then (e.1, f e.2) else e

/-- The keys of a table. -/
def Table.keys {α : Type} (t : Table α) : List Nat := t.map Prod.fst

/-- A list of numbers is strictly ascending. -/
def ascending : List Nat → Bool
  | [] => true
  | [_] => true
  | a :: b :: t => a < b && ascending (b :: t)

/-- The canonical form: keys strictly ascending. -/
def Table.wf {α : Type} (t : Table α) : Bool := ascending (Table.keys t)

/-- A key joins an ascending set of keys; a key already held leaves the set as it was (R179). -/
def insertKey : List Nat → Nat → List Nat
  | [], k => [k]
  | a :: t, k => if k < a then k :: a :: t else if a = k then a :: t else a :: insertKey t k

/-- The lowest number below `n` that is no key of the table. -/
def Table.lowestFree {α : Type} (t : Table α) (n : Nat) : Option Nat :=
  (List.range n).find? fun k => (Table.get t k).isNone

end Sys2Proof.Machine
end

