-- ==== Sys2Proof/Machine/State.lean ====
section
/-! DEFINITION. The state of the part, block by block (spec/00, section 2.1), as plain data, and its state after reset.
INVENTORY.md lists every field with the rule that names it and its reset value. -/

namespace Sys2Proof.Machine

/-! ## Why a step can stop -/

/-- The faults of the machine. The manual names no condition that stops the part, so no meaning raises one. -/
inductive Fault where
  /-- Raised by nothing: the part answers every command with a status and goes on (spec/10, section 10.2.1). Safe: a
  model that stopped here would only prove less. -/
  | halted
  deriving DecidableEq, Repr

/-- The refusals of the machine. -/
inductive Refusal where
  /-- A row whose meaning is not modelled yet, by its mnemonic. Raised by no arm of exec now. Safe: it answers no state. -/
  | notModelled (mnemonic : String)
  deriving DecidableEq, Repr

/-! ## Command port (spec/10) -/

/-- The statuses a reply can carry (section 10.2.1), in the order of their codes (R188). -/
inductive Status where
  | ok | badFrame | badArgument | unknown | unknownGrade | duplicate | full | badPlan | stale | notMine
  | notOpen | already | notSuspended | inUse | retiring | machineBusy | conflict | cannonBusy | noReply
  deriving DecidableEq, Repr

/-- A pending reply (R174). -/
structure Reply where
  status : Status
  /-- the code of the command it answers -/
  code : Nat
  overrun : Bool
  payload : List Byte
  deriving DecidableEq, Repr

/-- The command port (R172 to R175). -/
structure Port where
  /-- the device address sampled at the last reset -/
  address : Nat
  reply : Option Reply
  /-- the bytes driven on SDO in the latest FETCH-REPLY that R175 served; SDO is at high impedance otherwise -/
  sdo : List Byte
  deriving DecidableEq, Repr

/-- What one block the step timer's expiries are handed to has not yet acted on (the model's own, log entry 6). -/
structure Expiries where
  /-- expiries handed to the block on which its row has not yet acted -/
  due : Nat
  /-- the row has already acted on the expiry of the coming second, ahead of what else falls in that second -/
  ahead : Bool
  deriving DecidableEq, Repr

/-- The yard clock (R176, R177). -/
structure Clock where
  minute : Nat
  seconds : Nat
  /-- seconds left to the next expiry of the step timer -/
  stepLeft : Nat
  /-- the expiries handed to the moisture model (the model's own, log entry 6) -/
  modelDue : Expiries
  /-- the expiries handed to the forecast table (the model's own, log entry 6) -/
  retireDue : Expiries
  deriving DecidableEq, Repr

/-- One bit for each category (R180). -/
structure Categories where
  pile : Bool
  order : Bool
  cannon : Bool
  permit : Bool
  wind : Bool
  water : Bool
  deriving DecidableEq, Repr

/-- The notice unit (R179, R180): four change sets in ascending key order, six flags and a mask. -/
structure Notices where
  piles : List Nat
  orders : List Nat
  cannons : List Nat
  permits : List Nat
  flags : Categories
  /-- a set bit masks its category -/
  mask : Categories
  deriving DecidableEq, Repr

/-! ## Piles and grades (spec/01) -/

/-- The dust-risk bands (R29). -/
inductive Band where
  | calm | watch | act | severe
  deriving DecidableEq, Repr

/-- The states of a slot that holds a pile (R1); a FREE slot is unlisted. -/
inductive PileLife where
  | live | retiring
  deriving DecidableEq, Repr

/-- A pile record (R2). -/
structure Pile where
  tag : Nat
  life : PileLife
  grade : Nat
  area : Nat
  profile : Profile
  m : Nat
  residue : Nat
  mcore : Nat
  lastWp : Nat
  lastWgp : Nat
  risk : Nat
  band : Band
  auto : Bool
  estimated : Bool
  degraded : Bool
  retirePending : Bool
  lastWetted : Option Nat
  deriving DecidableEq, Repr

/-- A grade record (R6). -/
structure Grade where
  kg : Nat
  gk : Nat
  mt : Nat
  mwork : Nat
  msat : Nat
  margin : Nat
  dg : Nat
  fdef : Nat
  deriving DecidableEq, Repr

/-! ## Moisture model (spec/02) -/

/-- The settings and the record of the last step (R22). -/
structure Model where
  lead : Nat
  b1 : Nat
  b2 : Nat
  b3 : Nat
  lastStep : Option Nat
  stepped : Nat
  shortfall : Nat
  deriving DecidableEq, Repr

/-! ## Wind monitor (spec/03) -/

/-- A loaded mast (R44). The average and the peak are functions of the ring. -/
structure Mast where
  node : Nat
  stale : Nat
  fresh : Bool
  /-- speeds of the last accepted samples, oldest first -/
  ring : List Nat
  inst : Option Nat
  octant : Option Nat
  pendingOctant : Option Nat
  gust : Bool
  gustCount : Nat
  direction : Option Nat
  rh : Option Nat
  rain : Option Nat
  temp : Option Int
  age : Option Nat
  deriving DecidableEq, Repr

/-- The sources of the effective weather (R50). -/
inductive Source where
  | observed | forecast | held | unset
  deriving DecidableEq, Repr

/-- The effective weather (R50). -/
structure Weather where
  speed : Nat
  gustSpeed : Nat
  octant : Nat
  rh : Nat
  rain : Nat
  temp : Int
  source : Source
  deriving DecidableEq, Repr

/-- The six wind limits (R57). -/
structure WindLimits where
  gust : Nat
  hysteresis : Nat
  cutOut : Nat
  release : Nat
  frost : Int
  frostRelease : Int
  deriving DecidableEq, Repr

/-- The wind monitor. -/
structure Wind where
  masts : Table Mast
  weather : Weather
  established : Bool
  lastOctant : Nat
  cutOut : Bool
  frost : Bool
  limits : WindLimits
  deriving DecidableEq, Repr

/-! ## Forecast table (spec/04) -/

/-- A forecast slot, after clamping (R61). -/
structure Slot where
  code : Nat
  issue : Nat
  start : Nat
  length : Nat
  wind : Nat
  gust : Nat
  octant : Nat
  rh : Nat
  rain : Nat
  temp : Int
  deriving DecidableEq, Repr

/-- The forecast table (R60): slots in ascending start, four own codes, five latest issues. -/
structure Forecast where
  slots : List Slot
  codes : List Nat
  latest : List (Option Nat)
  deriving DecidableEq, Repr

/-! ## Order dispatcher (spec/05) -/

/-- Who placed an order (R75). -/
inductive Origin where
  | host | autoRisk | autoLookahead | prewet
  deriving DecidableEq, Repr

/-- Which sources an order may draw from (R75). -/
inductive Policy where
  | reuseOnly | reuseThenFresh | freshOnly
  deriving DecidableEq, Repr

/-- The states of an order (R77). -/
inductive OrderState where
  | volleyHeld | waiting | active | ended
  deriving DecidableEq, Repr

/-- The kinds of pass end (R75, R105). -/
inductive PassKind where
  | closed | abandoned | trip | aimTimeout | lost | reset | valveStuck
  deriving DecidableEq, Repr

/-- How an order ended (R75). -/
inductive OrderOutcome where
  | done | cancelled | withdrawn | lapsed | failed
  deriving DecidableEq, Repr

/-- The states of a pass (R76). -/
inductive PassState where
  | aiming | spraying | rampDown | closed
  deriving DecidableEq, Repr

/-- The two supply headers (R76). -/
inductive Header where
  | reuse | fresh
  deriving DecidableEq, Repr

/-- The reasons that keep an order from spraying (R82). -/
inductive Reason where
  | host | hold | zone
  deriving DecidableEq, Repr

/-- A suspension set (R75). -/
structure Suspension where
  host : Bool
  hold : Bool
  zone : Bool
  deriving DecidableEq, Repr

/-- A plan entry (R76). -/
structure PlanEntry where
  cannon : Option Nat
  arcStart : Nat
  arcEnd : Nat
  share : Nat
  remaining : Nat
  deriving DecidableEq, Repr

/-- A plan with the index of its current entry (R75). -/
structure Plan where
  entries : List PlanEntry
  current : Nat
  deriving DecidableEq, Repr

/-- The current pass of an order (R76). -/
structure Pass where
  cannon : Nat
  header : Header
  dose : Nat
  reservation : Nat
  meterStart : Option Nat
  delivered : Nat
  state : PassState
  deriving DecidableEq, Repr

/-- An order (R75). Its outstanding volume is a function of dose and delivered. -/
structure Order where
  id : Nat
  tag : Nat
  origin : Origin
  priority : Nat
  dose : Nat
  delivered : Nat
  policy : Policy
  volley : Option Nat
  plan : Option Plan
  state : OrderState
  suspension : Suspension
  starved : Bool
  clamped : Bool
  cancelPending : Bool
  accepted : Nat
  lapseRef : Nat
  passes : Nat
  lastEnd : Option PassKind
  pass : Option Pass
  outcome : Option OrderOutcome
  endedMinute : Option Nat
  /-- the number of the event in which the order ended (the model's own, log entry 18) -/
  endedEvent : Nat
  deriving DecidableEq, Repr

/-- The order dispatcher (R74, R98). -/
structure Dispatcher where
  /-- in acceptance order -/
  orders : List Order
  nextId : Nat
  lapseTime : Nat
  maxDose : Nat
  freshFloor : Nat
  /-- arbitrations occasioned and not yet made (the model's own, log entry 4) -/
  due : Nat
  deriving DecidableEq, Repr

/-! ## Cannon controller (spec/06) -/

/-- The headers a cannon can draw from (R100). -/
inductive Supply where
  | reuse | fresh | both
  deriving DecidableEq, Repr

/-- A coverage entry (R101). -/
structure Cover where
  tag : Nat
  arcStart : Nat
  arcEnd : Nat
  deriving DecidableEq, Repr

/-- The configuration fields of a cannon (R100). -/
structure CannonConfig where
  node : Nat
  supply : Supply
  minDose : Nat
  maxDose : Nat
  rampTime : Nat
  rampAllowance : Nat
  sweepRate : Nat
  slewTimeout : Nat
  blanking : Nat
  extraDelay : Nat
  coverage : List Cover
  deriving DecidableEq, Repr

/-- The states of a loaded cannon (R99); an ABSENT entry is unlisted. -/
inductive CannonState where
  | idle | aiming | spraying | rampDown | tripped | locked | lost | resetting
  deriving DecidableEq, Repr

/-- The aim phases of AIMING (R100). -/
inductive AimPhase where
  | slewing | opening
  deriving DecidableEq, Repr

/-- The valve states a cannon node reports (R100). -/
inductive Valve where
  | closed | moving | opened
  deriving DecidableEq, Repr

/-- The report of a cannon node (R100). -/
structure NodeReport where
  valve : Valve
  settled : Bool
  overload : Bool
  valveFault : Bool
  deriving DecidableEq, Repr

/-- A loaded cannon (R100). -/
structure Cannon where
  config : CannonConfig
  state : CannonState
  aimPhase : Option AimPhase
  tripCount : Nat
  lastTrip : Option Nat
  meterLast : Option Nat
  report : Option NodeReport
  /-- the order whose pass is bound -/
  bound : Option Nat
  header : Option Header
  stray : Nat
  /-- seconds left on the slew timer (R106) -/
  slew : Option Nat
  /-- seconds left on the close wait (R113) -/
  closeWait : Option Nat
  /-- seconds left of the retry delay (R115) -/
  retry : Option Nat
  /-- the blanking timer runs (R114) -/
  blankingOn : Bool
  /-- an AIM waits for the command slot to empty (R106) -/
  aimWaiting : Bool
  deriving DecidableEq, Repr

/-! ## Water account (spec/07) -/

/-- The latest reading of the gauge (R126). -/
structure Reading where
  level : Nat
  turbidity : Nat
  alarm : Bool
  deriving DecidableEq, Repr

/-- The configuration of the tank (R125). -/
structure TankConfig where
  node : Nat
  capacity : Nat
  low : Nat
  high : Nat
  hysteresis : Nat
  turbidityLimit : Nat
  stale : Nat
  deriving DecidableEq, Repr

/-- The tank record (R125, R126). -/
structure Tank where
  config : TankConfig
  reading : Option Reading
  nearEmpty : Bool
  nearFull : Bool
  qualityHold : Bool
  qualityCount : Nat
  fresh : Bool
  age : Option Nat
  deriving DecidableEq, Repr

/-- The pond record (R122, R135). -/
structure Pond where
  capacity : Nat
  startMark : Nat
  stopMark : Nat
  volume : Nat
  spill : Nat
  node : Option Nat
  deriving DecidableEq, Repr

/-- The transfer states (R138). -/
inductive TransferState where
  | stopped | starting | running | stopping
  deriving DecidableEq, Repr

/-- How the latest run ended (R138). -/
inductive RunEnd where
  | stopCondition | pondEmpty | pumpStopped | startFailed | nodeLost | reloaded
  deriving DecidableEq, Repr

/-- The transfer record (R138). -/
structure Transfer where
  state : TransferState
  meterLast : Option Nat
  lastEnd : Option RunEnd
  /-- seconds left of the start wait -/
  startWait : Option Nat
  /-- seconds left of the hold-off -/
  holdOff : Option Nat
  pendingHoldOff : Bool
  /-- a RUN waits for the command slot to empty (R138) -/
  runWaiting : Bool
  deriving DecidableEq, Repr

/-- The water account (R122). -/
structure Water where
  tank : Option Tank
  allowance : Nat
  usedToday : Nat
  spent : Bool
  /-- the yard day that usedToday counts (the model's own, log entry 19) -/
  countedDay : Nat
  pond : Pond
  transfer : Transfer
  deriving DecidableEq, Repr

/-! ## Permit table (spec/08) -/

/-- The kinds of machine (R144). -/
inductive PermitKind where
  | stacker | reclaimer | dozer
  deriving DecidableEq, Repr

/-- The states of a permit (R144). -/
inductive PermitState where
  | pendingWet | clearing | granted
  deriving DecidableEq, Repr

/-- How a permit ended (R143). -/
inductive PermitOutcome where
  | grantedEnd | released | lapsed | refusedTooDry | refusedRetired
  deriving DecidableEq, Repr

/-- A permit (R144). -/
structure Permit where
  id : Nat
  machine : Nat
  kind : PermitKind
  tag : Nat
  state : PermitState
  requested : Nat
  entered : Nat
  prewetOrder : Option Nat
  deriving DecidableEq, Repr

/-- A machine outcome entry (R143). -/
structure OutcomeEntry where
  outcome : PermitOutcome
  minute : Nat
  tag : Nat
  permitId : Nat
  m : Option Nat
  deriving DecidableEq, Repr

/-- The max hold of each kind (R143). -/
structure MaxHold where
  stacker : Nat
  reclaimer : Nat
  dozer : Nat
  deriving DecidableEq, Repr

/-- The permit table (R143). -/
structure Permits where
  /-- in request order -/
  list : List Permit
  nextId : Nat
  outcomes : Table OutcomeEntry
  prewetWait : Nat
  maxHold : MaxHold
  deriving DecidableEq, Repr

/-! ## Loop master (spec/09) -/

/-- The kinds of node (R158), in the order of their kind bytes (R190). -/
inductive NodeKind where
  | cannon | mast | gauge | transfer
  deriving DecidableEq, Repr

/-- Whom a node's replies go to (R158); the owner fixes the kind. -/
inductive Owner where
  | cannon (number : Nat)
  | mast (number : Nat)
  | tank
  | pond
  deriving DecidableEq, Repr

/-- The commands of a command slot (R162). -/
inductive LoopCommand where
  | aim (arcStart : Nat) (arcEnd : Nat) (rate : Nat)
  | openValve (header : Header)
  | close
  | run
  | stop
  deriving DecidableEq, Repr

/-- A node entry (R158). -/
structure Node where
  owner : Owner
  extraDelay : Nat
  slot : Option LoopCommand
  misses : Nat
  lost : Bool
  countdown : Option Nat
  totalMisses : Nat
  deriving DecidableEq, Repr

/-- The message an exchange carries (R163). -/
inductive Sent where
  | command (c : LoopCommand)
  | probe
  | poll
  deriving DecidableEq, Repr

/-- Where the round stands (R160, R163, R167). -/
inductive Phase where
  /-- no round is under way -/
  | noRound
  /-- the exchange before has ended; the listed nodes are still to be sent their messages -/
  | between (todo : List Nat)
  /-- an exchange runs with the node addressed -/
  | exchange (node : Nat) (sent : Sent) (todo : List Nat)
  /-- the call slot is open -/
  | calling
  deriving DecidableEq, Repr

/-- The round timer (R160, R161). -/
inductive RoundTimer where
  | stopped
  | running (period : Nat)
  | expired
  deriving DecidableEq, Repr

/-- The loop master (R158). -/
structure Loop where
  nodes : Table Node
  /-- the loop state is RUNNING -/
  running : Bool
  period : Nat
  roundCount : Nat
  overruns : Nat
  winner : Option Nat
  phase : Phase
  timer : RoundTimer
  /-- the bytes of the last message the master sent -/
  line : List Byte
  deriving DecidableEq, Repr

/-! ## The machine -/

/-- The state of the part and the queue of waiting commands. -/
structure State where
  port : Port
  clock : Clock
  notices : Notices
  piles : Table Pile
  grades : Table Grade
  model : Model
  wind : Wind
  forecast : Forecast
  dispatch : Dispatcher
  cannons : Table Cannon
  water : Water
  permits : Permits
  loop : Loop
  /-- the waiting commands, first in first out -/
  pending : List Instr
  /-- the number of the current event (the model's own, log entry 18) -/
  events : Nat
  deriving DecidableEq, Repr

/-- No expiry to act on, and none acted on ahead. -/
def Expiries.noneDue : Expiries := ⟨0, false⟩

/-- No category. -/
def Categories.none : Categories := ⟨false, false, false, false, false, false⟩

/-- The effective weather of source NONE (R50). -/
def Weather.initial : Weather := ⟨0, 0, 0, 100, 0, 10, .unset⟩

/-- The default wind limits (R57). -/
def WindLimits.initial : WindLimits := ⟨150, 20, 200, 170, 2, 4⟩

/-- The pond before it is loaded (R122). -/
def Pond.initial : Pond := ⟨0, 0, 0, 0, 0, .none⟩

/-- The transfer record after a reset (R122). -/
def Transfer.initial : Transfer := ⟨.stopped, .none, .none, .none, .none, false, false⟩

/-- The machine right after reset (R185, and the reset column of each chapter). The device address is sampled from the
pins, whose level the manual does not fix: 0 here (log entry 11). -/
def State.reset : State where
  port := ⟨0, none, []⟩
  clock := ⟨0, 0, 60, Expiries.noneDue, Expiries.noneDue⟩
  notices := ⟨[], [], [], [], Categories.none, Categories.none⟩
  piles := []
  grades := []
  model := ⟨30, 32, 96, 192, none, 0, 0⟩
  wind := ⟨[], Weather.initial, false, 0, false, false, WindLimits.initial⟩
  forecast := ⟨[], [0, 0, 0, 0], [none, none, none, none, none]⟩
  dispatch := ⟨[], 1, 120, 20000, 2, 0⟩
  cannons := []
  water := ⟨none, 0, 0, true, 0, Pond.initial, Transfer.initial⟩
  permits := ⟨[], 1, [], 45, ⟨240, 240, 240⟩⟩
  loop := ⟨[], false, 500, 0, 0, none, .noRound, .stopped, []⟩
  pending := []
  events := 0

end Sys2Proof.Machine
end

