-- ==== Sys2Proof/Machine/Formats.lean ====
section
/-! DEFINITION. Byte layouts of what the part sends and of what the nodes send (spec/11, R187 to R190). -/

namespace Sys2Proof.Machine

/-! ## Numbers, most significant byte first (R187) -/

/-- A one-byte field. -/
def be8 (n : Nat) : List Byte := [BitVec.ofNat 8 n]

/-- A two-byte field. -/
def be16 (n : Nat) : List Byte := [BitVec.ofNat 8 (n / 256), BitVec.ofNat 8 n]

/-- A four-byte field. -/
def be32 (n : Nat) : List Byte := be16 (n / 65536) ++ be16 n

/-- A signed one-byte field, two's complement. -/
def be8s (n : Int) : List Byte := [BitVec.ofInt 8 n]

/-- A two-valued item: bit 0 of a byte of its own (log entry 13). -/
def flag (b : Bool) : List Byte := [if b then 1 else 0]

/-- Flags gathered in one byte, bit 0 first. -/
def bitsToNat : List Bool → Nat
  | [] => 0
  | b :: t => b.toNat + 2 * bitsToNat t

/-- A flag byte, bit 0 first. -/
def flagByte (bs : List Bool) : Byte := BitVec.ofNat 8 (bitsToNat bs)

/-- One flag byte for each eight flags (R187). -/
def flagBytes (bs : List Bool) : List Byte :=
  (List.range ((bs.length + 7) / 8)).map fun i => flagByte ((bs.drop (8 * i)).take 8)

/-! ## Payloads of replies without a table (R187) -/

/-- An item of a reply: one that is always there, or an optional one with its presence and its bytes (zeros when it is
absent). -/
inductive Item where
  | always (bytes : List Byte)
  | optional (isPresent : Bool) (bytes : List Byte)

/-- The presence flag of an item, when it has one. -/
def Item.presence : Item → List Bool
  | .always _ => []
  | .optional b _ => [b]

/-- The bytes of an item. -/
def Item.bytes : Item → List Byte
  | .always bs => bs
  | .optional _ bs => bs

/-- A payload: one flag byte for each eight optional items, then the items in their order (R187). -/
def pack (items : List Item) : List Byte := flagBytes (items.flatMap Item.presence) ++ items.flatMap Item.bytes

/-- A list of groups after a count byte (R187). -/
def counted (groups : List (List Byte)) : List Byte := be8 groups.length ++ groups.flatten

/-- An optional one-byte item. -/
def opt8 (x : Option Nat) : Item := .optional x.isSome (be8 (x.getD 0))

/-- An optional two-byte item. -/
def opt16 (x : Option Nat) : Item := .optional x.isSome (be16 (x.getD 0))

/-- An optional four-byte item. -/
def opt32 (x : Option Nat) : Item := .optional x.isSome (be32 (x.getD 0))

/-- An optional signed one-byte item. -/
def opt8s (x : Option Int) : Item := .optional x.isSome (be8s (x.getD 0))

/-- An optional two-valued item. -/
def optFlag (x : Option Bool) : Item := .optional x.isSome (flag (x.getD false))

/-! ## Codes of enumerated fields: the position in the list of the owning rule (R187) -/

/-- Status codes (R188). -/
def Status.code : Status → Nat
  | .ok => 0x00
  | .badFrame => 0x01
  | .badArgument => 0x02
  | .unknown => 0x03
  | .unknownGrade => 0x04
  | .duplicate => 0x05
  | .full => 0x06
  | .badPlan => 0x07
  | .stale => 0x08
  | .notMine => 0x09
  | .notOpen => 0x0A
  | .already => 0x0B
  | .notSuspended => 0x0C
  | .inUse => 0x0D
  | .retiring => 0x0E
  | .machineBusy => 0x0F
  | .conflict => 0x10
  | .cannonBusy => 0x11
  | .noReply => 0x12

/-- Bands (R14, R29). -/
def Band.code : Band → Nat
  | .calm => 0
  | .watch => 1
  | .act => 2
  | .severe => 3

/-- The band a byte names, when it names one. -/
def Band.ofCode : Nat → Option Band
  | 0 => some .calm
  | 1 => some .watch
  | 2 => some .act
  | 3 => some .severe
  | _ => none

/-- Pile states: FREE 0, LIVE 1, RETIRING 2 (R187). -/
def PileLife.code : PileLife → Nat
  | .live => 1
  | .retiring => 2

/-- Sources of the effective weather (R50). -/
def Source.code : Source → Nat
  | .observed => 0
  | .forecast => 1
  | .held => 2
  | .unset => 3

/-- Origins (R75). -/
def Origin.code : Origin → Nat
  | .host => 0
  | .autoRisk => 1
  | .autoLookahead => 2
  | .prewet => 3

/-- Policies (R75). -/
def Policy.code : Policy → Nat
  | .reuseOnly => 0
  | .reuseThenFresh => 1
  | .freshOnly => 2

/-- The policy a byte names, when it names one. -/
def Policy.ofCode : Nat → Option Policy
  | 0 => some .reuseOnly
  | 1 => some .reuseThenFresh
  | 2 => some .freshOnly
  | _ => none

/-- Order states (R75). -/
def OrderState.code : OrderState → Nat
  | .volleyHeld => 0
  | .waiting => 1
  | .active => 2
  | .ended => 3

/-- Kinds of pass end (R75). -/
def PassKind.code : PassKind → Nat
  | .closed => 0
  | .abandoned => 1
  | .trip => 2
  | .aimTimeout => 3
  | .lost => 4
  | .reset => 5
  | .valveStuck => 6

/-- Outcomes of orders (R75). -/
def OrderOutcome.code : OrderOutcome → Nat
  | .done => 0
  | .cancelled => 1
  | .withdrawn => 2
  | .lapsed => 3
  | .failed => 4

/-- Pass states (R76). -/
def PassState.code : PassState → Nat
  | .aiming => 0
  | .spraying => 1
  | .rampDown => 2
  | .closed => 3

/-- Headers: REUSE 0, FRESH 1 (R187). -/
def Header.code : Header → Nat
  | .reuse => 0
  | .fresh => 1

/-- Supplies (R100). -/
def Supply.code : Supply → Nat
  | .reuse => 0
  | .fresh => 1
  | .both => 2

/-- The supply a byte names, when it names one. -/
def Supply.ofCode : Nat → Option Supply
  | 0 => some .reuse
  | 1 => some .fresh
  | 2 => some .both
  | _ => none

/-- Cannon states: the list of R99 starts with ABSENT. -/
def CannonState.code : CannonState → Nat
  | .idle => 1
  | .aiming => 2
  | .spraying => 3
  | .rampDown => 4
  | .tripped => 5
  | .locked => 6
  | .lost => 7
  | .resetting => 8

/-- Aim phases (R100). -/
def AimPhase.code : AimPhase → Nat
  | .slewing => 0
  | .opening => 1

/-- Valve states (R100). -/
def Valve.code : Valve → Nat
  | .closed => 0
  | .moving => 1
  | .opened => 2

/-- Transfer states (R138). -/
def TransferState.code : TransferState → Nat
  | .stopped => 0
  | .starting => 1
  | .running => 2
  | .stopping => 3

/-- Ends of a transfer run (R138). -/
def RunEnd.code : RunEnd → Nat
  | .stopCondition => 0
  | .pondEmpty => 1
  | .pumpStopped => 2
  | .startFailed => 3
  | .nodeLost => 4
  | .reloaded => 5

/-- Kinds of machine (R144). -/
def PermitKind.code : PermitKind → Nat
  | .stacker => 0
  | .reclaimer => 1
  | .dozer => 2

/-- The kind of machine a byte names, when it names one. -/
def PermitKind.ofCode : Nat → Option PermitKind
  | 0 => some .stacker
  | 1 => some .reclaimer
  | 2 => some .dozer
  | _ => none

/-- Permit states (R144). -/
def PermitState.code : PermitState → Nat
  | .pendingWet => 0
  | .clearing => 1
  | .granted => 2

/-- Permit outcomes (R143). -/
def PermitOutcome.code : PermitOutcome → Nat
  | .grantedEnd => 0
  | .released => 1
  | .lapsed => 2
  | .refusedTooDry => 3
  | .refusedRetired => 4

/-- The kind byte of a node (R190). -/
def NodeKind.code : NodeKind → Nat
  | .cannon => 0
  | .mast => 1
  | .gauge => 2
  | .transfer => 3

/-- The kind of a node, from its owner (R158). -/
def Owner.kind : Owner → NodeKind
  | .cannon _ => .cannon
  | .mast _ => .mast
  | .tank => .gauge
  | .pond => .transfer

/-- The owning block of a node: cannon controller, wind monitor, water account (R158; log entry 42). -/
def Owner.block : Owner → Nat
  | .cannon _ => 0
  | .mast _ => 1
  | .tank => 2
  | .pond => 2

/-- The number that goes with the owner of a node, when there is one (R158). -/
def Owner.number : Owner → Option Nat
  | .cannon n => some n
  | .mast n => some n
  | .tank => none
  | .pond => none

/-- A pending command named by its position in the list of R162 for the node's kind (log entry 14). -/
def LoopCommand.code : LoopCommand → Nat
  | .aim _ _ _ => 0
  | .openValve _ => 1
  | .close => 2
  | .run => 0
  | .stop => 1

/-- A suspension set as the flag byte of R189: bit 0 HOST, 1 HOLD, 2 ZONE; also in the replies without a layout (log entry 43). -/
def Suspension.bytes (x : Suspension) : List Byte := [flagByte [x.host, x.hold, x.zone]]

/-- Six category bits in one byte, in the order of R180, bit 0 first (log entry 37). -/
def Categories.bytes (x : Categories) : List Byte :=
  [flagByte [x.pile, x.order, x.cannon, x.permit, x.wind, x.water]]

/-- The six category bits of a byte; bits 6 and 7 are ignored on receipt (R187). -/
def Categories.ofByte (b : Byte) : Categories :=
  ⟨b.getLsbD 0, b.getLsbD 1, b.getLsbD 2, b.getLsbD 3, b.getLsbD 4, b.getLsbD 5⟩

/-- The eight exposure values in order. -/
def profileBytes (p : Profile) : List Byte := [p.x0, p.x1, p.x2, p.x3, p.x4, p.x5, p.x6, p.x7]

/-! ## Reply frames (R188) -/

/-- A reply frame: address, status, code, flags, length, payload, CRC-8. -/
def Reply.frame (address : Nat) (r : Reply) : List Byte :=
  closeFrame (be8 address ++ be8 r.status.code ++ be8 r.code ++ [flagByte [r.overrun]] ++ be8 r.payload.length
    ++ r.payload)

/-! ## Master messages (R190) -/

/-- The type byte of a command message. -/
def LoopCommand.type : LoopCommand → Nat
  | .aim _ _ _ => 0x10
  | .openValve _ => 0x11
  | .close => 0x12
  | .run => 0x20
  | .stop => 0x21

/-- The payload of a command message. -/
def LoopCommand.payload : LoopCommand → List Byte
  | .aim s e r => be16 s ++ be16 e ++ be8 r
  | .openValve h => be8 h.code
  | .close => []
  | .run => []
  | .stop => []

/-- A master message: node address, type, length, payload, CRC-8. -/
def masterMessage (address type : Nat) (payload : List Byte) : List Byte :=
  closeFrame (be8 address ++ be8 type ++ be8 payload.length ++ payload)

/-- The bytes of the message an exchange carries. -/
def Sent.bytes (address : Nat) : Sent → List Byte
  | .poll => masterMessage address 0x01 []
  | .probe => masterMessage address 0x02 []
  | .command c => masterMessage address c.type c.payload

/-- CALL, sent to address 0. -/
def callMessage : List Byte := masterMessage 0 0x03 []

/-! ## Node replies (R190) -/

/-- What a node's reply reports, by kind. -/
inductive NodeReply where
  | cannon (report : NodeReport) (meter : Nat)
  | mast (speed : Nat) (direction : Nat) (rh : Nat) (rain : Nat) (temp : Int)
  | gauge (level : Nat) (turbidity : Nat) (alarm : Bool)
  | transfer (running : Bool) (meter : Nat)
  deriving DecidableEq, Repr

/-- The valve state of a report byte: bits 0 and 1, of which 3 is not listed. -/
def Valve.ofByte (b : Byte) : Option Valve :=
  match (b.setWidth 2).toNat with
  | 0 => some .closed
  | 1 => some .moving
  | 2 => some .opened
  | _ => none

/-- The report byte of a cannon node. -/
def NodeReport.ofByte (b : Byte) : Option NodeReport :=
  (Valve.ofByte b).map fun v => ⟨v, b.getLsbD 2, b.getLsbD 3, b.getLsbD 4⟩

/-- The reply a payload holds for a node of a kind: its length is that kind's and every enumerated field holds a listed
value. -/
def replyPayload (kind : NodeKind) (p : List Byte) : Option NodeReply :=
  match kind with
  | .cannon =>
    if p.length = 3 then (NodeReport.ofByte (u8 p 0)).map fun r => .cannon r (u16 p 1).toNat else none
  | .mast =>
    if p.length = 8 then
      some (.mast (u16 p 0).toNat (u16 p 2).toNat (u8 p 4).toNat (u16 p 5).toNat (u8 p 7).toInt)
    else none
  | .gauge =>
    if p.length = 4 then some (.gauge (u16 p 0).toNat (u8 p 2).toNat ((u8 p 3).getLsbD 0)) else none
  | .transfer =>
    if p.length = 3 then some (.transfer ((u8 p 0).getLsbD 0) (u16 p 1).toNat) else none

/-- The reply a complete string of bytes holds for the node of an address and a kind: address, kind, length, payload and
CRC-8 all fit, or none (R163, R190). -/
def parseReply (address : Nat) (kind : NodeKind) (bytes : List Byte) : Option NodeReply :=
  let n := (u8 bytes 2).toNat
  if bytes.length = n + 4 ∧ (u8 bytes 0).toNat = address ∧ (u8 bytes 1).toNat = kind.code
      ∧ u8 bytes (n + 3) = crc8 (bytes.take (n + 3)) then
    replyPayload kind ((bytes.drop 3).take n)
  else none

/-- The kind of a node reply. -/
def NodeReply.kind : NodeReply → NodeKind
  | .cannon _ _ => .cannon
  | .mast _ _ _ _ _ => .mast
  | .gauge _ _ _ => .gauge
  | .transfer _ _ => .transfer

/-- The report byte a cannon node sends. -/
def NodeReport.byte (r : NodeReport) : Byte :=
  BitVec.ofNat 8 (r.valve.code + 4 * r.settled.toNat + 8 * r.overload.toNat + 16 * r.valveFault.toNat)

/-- The payload a node sends. -/
def NodeReply.payload : NodeReply → List Byte
  | .cannon r m => [r.byte] ++ be16 m
  | .mast s d rh rain t => be16 s ++ be16 d ++ be8 rh ++ be16 rain ++ be8s t
  | .gauge l t a => be16 l ++ be8 t ++ flag a
  | .transfer r m => flag r ++ be16 m

/-- The whole string of bytes a node sends. -/
def NodeReply.bytes (address : Nat) (r : NodeReply) : List Byte :=
  closeFrame (be8 address ++ be8 r.kind.code ++ be8 r.payload.length ++ r.payload)

/-! ## Codes of the commands (section 10.3) -/

/-- The code of each host command. -/
abbrev Code.fetchReply : Nat := 0x01
/-- READ-IDENT -/
abbrev Code.readIdent : Nat := 0x02
/-- READ-NOTICES -/
abbrev Code.readNotices : Nat := 0x03
/-- READ-CHANGES -/
abbrev Code.readChanges : Nat := 0x04
/-- SET-MASK -/
abbrev Code.setMask : Nat := 0x05
/-- SET-CLOCK -/
abbrev Code.setClock : Nat := 0x06
/-- READ-CLOCK -/
abbrev Code.readClock : Nat := 0x07
/-- LOAD-GRADE -/
abbrev Code.loadGrade : Nat := 0x10
/-- OPEN-PILE -/
abbrev Code.openPile : Nat := 0x11
/-- AMEND-PILE -/
abbrev Code.amendPile : Nat := 0x12
/-- READ-PILE -/
abbrev Code.readPile : Nat := 0x13
/-- RANK-PILES -/
abbrev Code.rankPiles : Nat := 0x14
/-- SET-MOISTURE -/
abbrev Code.setMoisture : Nat := 0x15
/-- REPORT-DISTURBANCE -/
abbrev Code.reportDisturbance : Nat := 0x16
/-- RETIRE-PILE -/
abbrev Code.retirePile : Nat := 0x17
/-- SET-LEAD -/
abbrev Code.setLead : Nat := 0x20
/-- SET-BANDS -/
abbrev Code.setBands : Nat := 0x21
/-- READ-MODEL -/
abbrev Code.readModel : Nat := 0x22
/-- LOAD-MAST -/
abbrev Code.loadMast : Nat := 0x28
/-- SET-WIND-LIMITS -/
abbrev Code.setWindLimits : Nat := 0x29
/-- READ-WIND -/
abbrev Code.readWind : Nat := 0x2A
/-- POST-FORECAST -/
abbrev Code.postForecast : Nat := 0x30
/-- SET-YARD-CODES -/
abbrev Code.setYardCodes : Nat := 0x31
/-- READ-FORECAST -/
abbrev Code.readForecast : Nat := 0x32
/-- CLEAR-FORECASTS -/
abbrev Code.clearForecasts : Nat := 0x33
/-- PLACE-ORDER -/
abbrev Code.placeOrder : Nat := 0x40
/-- SUSPEND-ORDER -/
abbrev Code.suspendOrder : Nat := 0x41
/-- RESUME-ORDER -/
abbrev Code.resumeOrder : Nat := 0x42
/-- CANCEL-ORDER -/
abbrev Code.cancelOrder : Nat := 0x43
/-- VOLLEY -/
abbrev Code.volley : Nat := 0x44
/-- READ-ORDER -/
abbrev Code.readOrder : Nat := 0x45
/-- SET-DISPATCH -/
abbrev Code.setDispatch : Nat := 0x46
/-- READ-DISPATCH -/
abbrev Code.readDispatch : Nat := 0x47
/-- LOAD-CANNON -/
abbrev Code.loadCannon : Nat := 0x50
/-- READ-CANNON -/
abbrev Code.readCannon : Nat := 0x51
/-- RESET-CANNON -/
abbrev Code.resetCannon : Nat := 0x52
/-- LOAD-BASIN -/
abbrev Code.loadBasin : Nat := 0x58
/-- SET-ALLOWANCE -/
abbrev Code.setAllowance : Nat := 0x59
/-- REPORT-INFLOW -/
abbrev Code.reportInflow : Nat := 0x5A
/-- SET-POND -/
abbrev Code.setPond : Nat := 0x5B
/-- READ-WATER -/
abbrev Code.readWater : Nat := 0x5C
/-- REQUEST-PERMIT -/
abbrev Code.requestPermit : Nat := 0x60
/-- RELEASE-PERMIT -/
abbrev Code.releasePermit : Nat := 0x61
/-- SET-PERMIT-LIMITS -/
abbrev Code.setPermitLimits : Nat := 0x62
/-- READ-PERMIT -/
abbrev Code.readPermit : Nat := 0x63
/-- SET-LOOP -/
abbrev Code.setLoop : Nat := 0x68
/-- READ-LOOP -/
abbrev Code.readLoop : Nat := 0x69

end Sys2Proof.Machine
end

