-- ==== Sys2Proof/Machine/Flags.lean ====
section
/-! DEFINITION. Flags: change sets, category flags and ATTN (R179, R180); the hysteresis flags of the wind monitor and of
the water account (R48, R54, R55, R127, R128); suspension sets (R82). -/

namespace Sys2Proof.Machine

/-! ## The notice unit -/

/-- The four change sets (R179). -/
inductive ChangeSet where
  | pile | order | cannon | permit
  deriving DecidableEq, Repr

/-- A key is handed to a change set: it joins the set, and the set's category flag is set when the set was empty
(R179). -/
def Notices.hand (n : Notices) (c : ChangeSet) (k : Nat) : Notices :=
  match c with
  | .pile => { n with
      piles := insertKey n.piles k
      flags := { n.flags with pile := n.flags.pile || n.piles.isEmpty } }
  | .order => { n with
      orders := insertKey n.orders k
      flags := { n.flags with order := n.flags.order || n.orders.isEmpty } }
  | .cannon => { n with
      cannons := insertKey n.cannons k
      flags := { n.flags with cannon := n.flags.cannon || n.cannons.isEmpty } }
  | .permit => { n with
      permits := insertKey n.permits k
      flags := { n.flags with permit := n.flags.permit || n.permits.isEmpty } }

/-- The keys a change set holds. -/
def Notices.keys (n : Notices) : ChangeSet → List Nat
  | .pile => n.piles
  | .order => n.orders
  | .cannon => n.cannons
  | .permit => n.permits

/-- The notices with the keys of one change set replaced; the flags are not touched (R182). -/
def Notices.withKeys (n : Notices) (c : ChangeSet) (ks : List Nat) : Notices :=
  match c with
  | .pile => { n with piles := ks }
  | .order => { n with orders := ks }
  | .cannon => { n with cannons := ks }
  | .permit => { n with permits := ks }

/-- ATTN is asserted while a flag is set whose category is not masked (R180). -/
def Notices.attn (n : Notices) : Bool :=
  (n.flags.pile && !n.mask.pile) || (n.flags.order && !n.mask.order) || (n.flags.cannon && !n.mask.cannon)
    || (n.flags.permit && !n.mask.permit) || (n.flags.wind && !n.mask.wind) || (n.flags.water && !n.mask.water)

/-- The change-set category a byte names; WIND and WATER have no change set (R182). -/
def ChangeSet.ofCode : Nat → Option ChangeSet
  | 0 => some .pile
  | 1 => some .order
  | 2 => some .cannon
  | 3 => some .permit
  | _ => none

/-! ## Hysteresis -/

/-- The drift cut-out: on at or above the cut-out speed, off at or below the release speed (R54). -/
def cutOutNext (l : WindLimits) (speed : Nat) (on : Bool) : Bool :=
  if on then !(decide (speed ≤ l.release)) else decide (l.cutOut ≤ speed)

/-- The frost hold: on at or below the frost limit, off at or above the frost release (R55). -/
def frostNext (l : WindLimits) (temp : Int) (on : Bool) : Bool :=
  if on then !(decide (l.frostRelease ≤ temp)) else decide (temp ≤ l.frost)

/-- The gust state and gust count after a sample of speed `v` (R48). -/
def gustNext (l : WindLimits) (v : Nat) (on : Bool) (count : Nat) : Bool × Nat :=
  let toward := if on then decide (v ≤ l.gust - l.hysteresis) else decide (l.gust ≤ v)
  if toward then (if count = 0 then (on, 1) else (!on, 0)) else (on, 0)

/-- Near-empty at a level: set below the low mark, clear at the low mark plus hysteresis (R127). -/
def nearEmptyNext (c : TankConfig) (level : Nat) (on : Bool) : Bool :=
  if on then !(decide (c.low + c.hysteresis ≤ level)) else decide (level < c.low)

/-- Near-full at a level: set above the high mark, clear at the high mark less hysteresis (R127). -/
def nearFullNext (c : TankConfig) (level : Nat) (on : Bool) : Bool :=
  if on then !(decide (level + c.hysteresis ≤ c.high)) else decide (c.high < level)

/-- The quality hold and its count after a reading of a turbidity (R128). -/
def qualityNext (limit turbidity : Nat) (on : Bool) (count : Nat) : Bool × Nat :=
  let toward := if on then decide (turbidity ≤ limit) else decide (limit < turbidity)
  if toward then (if count = 0 then (on, 1) else (!on, 0)) else (on, 0)

/-! ## Suspension sets (R82) -/

/-- The empty suspension set. -/
def Suspension.none : Suspension := ⟨false, false, false⟩

/-- A reason is in the set. -/
def Suspension.has (x : Suspension) : Reason → Bool
  | .host => x.host
  | .hold => x.hold
  | .zone => x.zone

/-- The set with a reason added. -/
def Suspension.add (x : Suspension) : Reason → Suspension
  | .host => { x with host := true }
  | .hold => { x with hold := true }
  | .zone => { x with zone := true }

/-- The set with a reason removed. -/
def Suspension.drop (x : Suspension) : Reason → Suspension
  | .host => { x with host := false }
  | .hold => { x with hold := false }
  | .zone => { x with zone := false }

/-- The set holds no reason. -/
def Suspension.isEmpty (x : Suspension) : Bool := !x.host && !x.hold && !x.zone

end Sys2Proof.Machine
end

