-- ==== Sys2Proof/Machine/Operands.lean ====
section
/-! DEFINITION. Operand forms: clamping and range checks of the fields commands carry, arcs, issues and ids. A check is
true when the value may stand; a command whose check fails is answered as its rule says. -/

namespace Sys2Proof.Machine

/-- A value clamped to a range. -/
def clamp (lo hi n : Nat) : Nat := max lo (min n hi)

/-- A signed value clamped to a range. -/
def clampInt (lo hi n : Int) : Int := max lo (min n hi)

/-- A number is in a range, both ends included. -/
def within (lo hi n : Nat) : Bool := lo ≤ n && n ≤ hi

/-- A signed number is in a range, both ends included. -/
def withinInt (lo hi n : Int) : Bool := decide (lo ≤ n) && decide (n ≤ hi)

/-- `ceil(a / b)` (spec/00, section 7). -/
def ceilDiv (a b : Nat) : Nat := (a + b - 1) / b

/-- `a + b`, saturating at a 32-bit count. -/
def satAdd32 (a b : Nat) : Nat := min (Config.two32 - 1) (a + b)

/-- `a + b`, saturating at a 16-bit count. -/
def satAdd16 (a b : Nat) : Nat := min (Config.two16 - 1) (a + b)

/-- The litres between two readings of a 16-bit meter (R104, R139). -/
def meterDelta (last : Option Nat) (meter : Nat) : Nat :=
  match last with
  | some l => (meter + Config.two16 - l % Config.two16) % Config.two16
  | none => 0

/-- Minutes from one minute to now, 0 when now lies before it (R94, R116, R150, R152). -/
def minutesSince (now since : Nat) : Nat := now - since

/-- The octant of a direction in degrees (spec/00, section 6). -/
def octantOf (degrees : Nat) : Nat := ((degrees + 22) / 45) % 8

/-- The exposure value of an octant 0 to 7 (R25). -/
def exposureAt (p : Profile) : Nat → Nat
  | 0 => p.x0.toNat
  | 1 => p.x1.toNat
  | 2 => p.x2.toNat
  | 3 => p.x3.toNat
  | 4 => p.x4.toNat
  | 5 => p.x5.toNat
  | 6 => p.x6.toNat
  | _ => p.x7.toNat

/-- The largest of the eight exposure values (R25). -/
def exposureMax (p : Profile) : Nat :=
  max p.x0.toNat (max p.x1.toNat (max p.x2.toNat (max p.x3.toNat
    (max p.x4.toNat (max p.x5.toNat (max p.x6.toNat p.x7.toNat))))))

/-- The exposure value for an octant, the largest for a variable one (R25, R30). -/
def exposure (p : Profile) (octant : Nat) : Nat := if octant < 8 then exposureAt p octant else exposureMax p

/-- The clockwise offset of a bearing from the start of an arc (R79). -/
def arcOffset (start x : Nat) : Nat := (x + 360 - start % 360) % 360

/-- An arc lies within a coverage arc (R79). -/
def arcWithin (c : Cover) (arcStart arcEnd : Nat) : Bool :=
  arcOffset c.arcStart arcStart ≤ arcOffset c.arcStart arcEnd
    && arcOffset c.arcStart arcEnd ≤ arcOffset c.arcStart c.arcEnd

/-- Issue `a` is newer than issue `b`: (a − b) mod 65536 lies in 1 to 32767 (R65). -/
def issueNewer (a b : Nat) : Bool := within 1 32767 ((a + Config.two16 - b % Config.two16) % Config.two16)

/-- Issue `a` is the same as issue `b`, or newer (R66). -/
def issueStands (a b : Nat) : Bool := a == b || issueNewer a b

/-- The first id from `next` on, counting from `top` round to 1, that is in no list of ids taken (R74, R143). -/
def freeId (top : Nat) (taken : List Nat) : Nat → Nat → Nat
  | 0, next => next
  | fuel + 1, next => if taken.contains next then freeId top taken fuel (next % top + 1) else next

/-! ## Checks of the loading commands -/

/-- A grade record is in range and consistent (R7). -/
def gradeArgsOk (number : Byte) (a : GradeArgs) : Bool :=
  decide (number.toNat < Config.grades) && within 1 Config.maxMoisture a.msat.toNat && a.kg != 0 && a.gk != 0
    && a.dg != 0 && decide (a.mt.toNat ≤ a.msat.toNat) && decide (a.mwork.toNat ≤ a.msat.toNat)
    && decide (a.margin.toNat ≤ 1000) && decide (a.fdef.toNat ≤ 100)

/-- The grade record of the fields carried. -/
def gradeOf (a : GradeArgs) : Grade :=
  ⟨a.kg.toNat, a.gk.toNat, a.mt.toNat, a.mwork.toNat, a.msat.toNat, a.margin.toNat, a.dg.toNat, a.fdef.toNat⟩

/-- The first check of OPEN-PILE (R9). -/
def openPileArgsOk (a : OpenPileArgs) : Bool :=
  a.tag != 0 && decide (a.grade.toNat < Config.grades) && a.area != 0 && decide (a.mcore.toNat ≤ Config.maxMoisture)

/-- The second check of AMEND-PILE, on the fields present (R11). -/
def amendPileArgsOk (a : AmendPileArgs) : Bool :=
  (a.grade.all fun g => decide (g.toNat < Config.grades)) && (a.area.all fun x => x != 0)
    && (a.mcore.all fun x => decide (x.toNat ≤ Config.maxMoisture))

/-- Three band limits ascend within 1 to 255 (R42). -/
def bandsOk (b1 b2 b3 : Byte) : Bool :=
  decide (1 ≤ b1.toNat) && decide (b1.toNat < b2.toNat) && decide (b2.toNat < b3.toNat)

/-- A stale limit is 0, for the default, or 10 to 600 s (R45, R125). -/
def staleArgOk (stale : Half) : Bool := stale == 0 || within 10 600 stale.toNat

/-- The stale limit meant. -/
def staleOf (stale : Half) : Nat := if stale = 0 then Config.staleDefault else stale.toNat

/-- The first check of LOAD-MAST (R45). -/
def mastArgsOk (mast node : Byte) (stale : Half) : Bool :=
  decide (mast.toNat < Config.masts) && decide (node.toNat ≤ 31) && staleArgOk stale

/-- The wind limits carried; the two temperatures are signed (R57, R187). -/
def windLimitsOf (a : WindLimitArgs) : WindLimits :=
  ⟨a.gust.toNat, a.hysteresis.toNat, a.cutOut.toNat, a.release.toNat, a.frost.toInt, a.frostRelease.toInt⟩

/-- Six wind limits are in range (R57). -/
def windLimitsOk (l : WindLimits) : Bool :=
  within 1 600 l.gust && decide (l.hysteresis < l.gust) && within 1 600 l.cutOut && decide (l.release < l.cutOut)
    && withinInt (-40) 59 l.frost && decide (l.frost < l.frostRelease) && decide (l.frostRelease ≤ 60)

/-- The forecast slot carried, clamped (R62). -/
def slotOf (a : ForecastArgs) : Slot where
  code := a.code.toNat
  issue := a.issue.toNat
  start := a.start.toNat
  length := clamp 10 360 a.length.toNat
  wind := min a.wind.toNat Config.maxWind
  gust := min a.gust.toNat Config.maxWind
  octant := a.octant.toNat
  rh := min a.rh.toNat 100
  rain := min a.rain.toNat 999
  temp := clampInt (-40) 60 a.temp.toInt

/-- The first minute after a slot, at full width (R61). -/
def Slot.stop (x : Slot) : Nat := x.start + x.length

/-- A slot covers a minute (R61). -/
def Slot.covers (x : Slot) (t : Nat) : Bool := decide (x.start ≤ t) && decide (t < x.stop)

/-- A slot is ended at a minute (R61). -/
def Slot.endedAt (x : Slot) (now : Nat) : Bool := decide (x.stop ≤ now)

/-- Two slots overlap (R61). -/
def Slot.overlaps (x y : Slot) : Bool := decide (x.start < y.stop) && decide (y.start < x.stop)

/-- A clamped slot may be held: its octant is listed and the yard minute reaches its end (R62). -/
def slotOk (x : Slot) : Bool := decide (x.octant ≤ 8) && decide (x.stop ≤ Config.two32)

/-- The first check of PLACE-ORDER (R78); the policy byte is checked with it (R187). -/
def placeOrderArgsOk (a : PlaceOrderArgs) : Bool :=
  a.tag != 0 && decide (a.priority.toNat ≤ 3) && (Policy.ofCode a.policy.toNat).isSome
    && (a.volley.all fun v => within 1 15 v.toNat)
    && (a.plan.all fun e => (e.cannon == 0xFF || decide (e.cannon.toNat < Config.cannons))
        && decide (e.arcStart.toNat < 360) && decide (e.arcEnd.toNat < 360) && e.share != 0)
    && (!a.plan.isEmpty || a.dose != 0)

/-- The plan entry carried. -/
def planEntryOf (e : PlanEntryArgs) : PlanEntry :=
  ⟨if e.cannon = 0xFF then none else some e.cannon.toNat, e.arcStart.toNat, e.arcEnd.toNat, e.share.toNat,
    e.share.toNat⟩

/-- The settings of SET-DISPATCH are in range (R98). -/
def dispatchArgsOk (lapse maxDose : Half) (floor : Byte) : Bool :=
  within 10 1440 lapse.toNat && decide (100 ≤ maxDose.toNat) && decide (floor.toNat ≤ 4)

/-- The configuration LOAD-CANNON carries, absent fields at their defaults (R100, R102). -/
def cannonConfigOf (node : Byte) (supply : Supply) (a : CannonArgs) : CannonConfig where
  node := node.toNat
  supply := supply
  minDose := (a.minDose.map (·.toNat)).getD 200
  maxDose := a.maxDose.toNat
  rampTime := a.rampTime.toNat
  rampAllowance := (a.rampAllowance.map (·.toNat)).getD 0
  sweepRate := a.sweepRate.toNat
  slewTimeout := (a.slewTimeout.map (·.toNat)).getD 20
  blanking := (a.blanking.map (·.toNat)).getD 1000
  extraDelay := (a.extraDelay.map (·.toNat)).getD 0
  coverage := a.coverage.map fun c => ⟨c.tag.toNat, c.arcStart.toNat, c.arcEnd.toNat⟩

/-- A coverage list may stand: 1 to 6 entries, no tag 0, arcs below 360, no tag twice (R101, R102). -/
def coverageOk (cs : List Cover) : Bool :=
  within 1 6 cs.length && (cs.all fun c => c.tag != 0 && decide (c.arcStart < 360) && decide (c.arcEnd < 360))
    && decide ((cs.map Cover.tag).Nodup)

/-- The fields of a cannon's configuration are in range (R100, R102). -/
def cannonConfigOk (c : CannonConfig) : Bool :=
  decide (50 ≤ c.minDose) && decide (c.minDose ≤ c.maxDose) && within 2 30 c.rampTime
    && decide (c.rampAllowance ≤ 5000) && within 1 60 c.sweepRate && within 5 60 c.slewTimeout
    && decide (c.blanking ≤ 5000) && decide (c.extraDelay ≤ 15) && coverageOk c.coverage

/-- The configuration LOAD-BASIN TANK carries (R125). -/
def tankConfigOf (node : Byte) (a : TankArgs) : TankConfig :=
  ⟨node.toNat, a.capacity.toNat, a.low.toNat, a.high.toNat, a.hysteresis.toNat, a.turbidityLimit.toNat,
    staleOf a.stale⟩

/-- The first check of LOAD-BASIN TANK for a loading (R125). -/
def tankArgsOk (a : TankArgs) : Bool :=
  a.capacity != 0 && decide (a.high.toNat ≤ a.capacity.toNat)
    && decide (a.low.toNat + 2 * a.hysteresis.toNat ≤ a.high.toNat) && a.turbidityLimit != 0 && staleArgOk a.stale

/-- The first check of LOAD-BASIN POND (R135). -/
def pondArgsOk (a : PondArgs) : Bool :=
  a.capacity != 0 && decide (a.stopMark.toNat < a.startMark.toNat) && decide (a.startMark.toNat ≤ a.capacity.toNat)
    && decide (a.node.toNat ≤ 31)

/-- The first check of REQUEST-PERMIT (R145); the kind byte is checked with it (R187). -/
def permitArgsOk (machine kind : Byte) (tag : Half) : Bool :=
  within 1 63 machine.toNat && (PermitKind.ofCode kind.toNat).isSome && tag != 0

/-- The four limits of SET-PERMIT-LIMITS are in range (R155). -/
def permitLimitsOk (prewet : Byte) (stacker reclaimer dozer : Half) : Bool :=
  within 5 240 prewet.toNat && within 10 1440 stacker.toNat && within 10 1440 reclaimer.toNat
    && within 10 1440 dozer.toNat

/-- A tonnage may go with a kind of machine: a stacker's is not below 0, a reclaimer's not above 0 (R153). -/
def tonnageOk (kind : PermitKind) (tonnage : Long) : Bool :=
  match kind with
  | .stacker => decide (0 ≤ tonnage.toInt)
  | .reclaimer => decide (tonnage.toInt ≤ 0)
  | .dozer => true

/-- A round period may stand: 100 to 2500 ms in steps of 20 (R169). -/
def periodOk (period : Half) : Bool := within 100 2500 period.toNat && period.toNat % 20 == 0

end Sys2Proof.Machine
end

