-- ==== Sys2Proof/Machine/Ops.lean ====
section
/-! DEFINITION. The named operations over State that every block uses: notices, replies, the tables, the command slots of
the loop's nodes, and the passing of time. Taking an exception has no counterpart in this block: raising a flag or
handing a key to a change set is the whole of it. -/

namespace Sys2Proof.Machine

/-! ## Time -/

/-- Now: the current yard minute (spec/00, section 7). -/
def State.now (s : State) : Nat := s.clock.minute

/-- The yard day of a minute (R134). -/
def dayOf (minute : Nat) : Nat := minute / Config.dayMinutes

/-! ## Notices and replies -/

/-- A key is handed to a change set (R179). -/
def State.hand (s : State) (c : ChangeSet) (k : Nat) : State := { s with notices := s.notices.hand c k }

/-- The WIND notice is raised (R59). -/
def State.raiseWind (s : State) : State :=
  { s with notices := { s.notices with flags := { s.notices.flags with wind := true } } }

/-- The WATER notice is raised (R141). -/
def State.raiseWater (s : State) : State :=
  { s with notices := { s.notices with flags := { s.notices.flags with water := true } } }

/-- The level of the attention line: asserted or released (R180). -/
def State.attn (s : State) : Bool := s.notices.attn

/-- A reply becomes the pending reply, with OVERRUN set when it replaces one that was not fetched (R174). -/
def State.answer (s : State) (code : Nat) (status : Status) (payload : List Byte) : State :=
  { s with port := { s.port with reply := some ⟨status, code, s.port.reply.isSome, payload⟩ } }

/-- A reply to an addressed command; a broadcast one makes none (R173). -/
def State.answerUnless (s : State) (broadcast : Bool) (code : Nat) (status : Status) (payload : List Byte) : State :=
  if broadcast then s else s.answer code status payload

/-- A new event begins (log entry 18). -/
def State.openEvent (s : State) : State := { s with events := s.events + 1 }

/-! ## The tables -/

/-- The pile that carries a tag, with its slot: the tag map (R3). -/
def State.pileAt? (s : State) (tag : Nat) : Option (Nat × Pile) := s.piles.find? fun e => e.2.tag == tag

/-- A pile's record is changed in its slot. -/
def State.mapPile (s : State) (slot : Nat) (f : Pile → Pile) : State :=
  { s with piles := Table.update s.piles slot f }

/-- The grade of a pile; an entry never loaded has no constants (R6). -/
def State.gradeOf? (s : State) (p : Pile) : Option Grade := Table.get s.grades p.grade

/-- The order that carries an id. -/
def State.order? (s : State) (id : Nat) : Option Order := s.dispatch.orders.find? fun o => o.id == id

/-- The order of an id is changed in its place. -/
def State.mapOrder (s : State) (id : Nat) (f : Order → Order) : State :=
  { s with dispatch := { s.dispatch with orders := s.dispatch.orders.map fun o => if o.id = id then f o else o } }

/-- The order is open: in any state other than ENDED (spec/00, section 5). -/
def Order.isOpen (o : Order) : Bool := o.state != .ended

/-- The open orders on a pile, in acceptance order. -/
def State.openOn (s : State) (tag : Nat) : List Order :=
  s.dispatch.orders.filter fun o => o.tag == tag && o.isOpen

/-- An arbitration is occasioned (R85). -/
def State.occasion (s : State) : State := { s with dispatch := { s.dispatch with due := s.dispatch.due + 1 } }

/-- A loaded cannon. -/
def State.cannon? (s : State) (n : Nat) : Option Cannon := Table.get s.cannons n

/-- A loaded cannon is changed. -/
def State.mapCannon (s : State) (n : Nat) (f : Cannon → Cannon) : State :=
  { s with cannons := Table.update s.cannons n f }

/-- The permits on a pile, in request order. -/
def State.permitsOn (s : State) (tag : Nat) : List Permit := s.permits.list.filter fun p => p.tag == tag

/-- The permit a machine holds. -/
def State.permit? (s : State) (machine : Nat) : Option Permit := s.permits.list.find? fun p => p.machine == machine

/-- The permits that satisfy a condition are changed in their places. -/
def State.mapPermits (s : State) (c : Permit → Bool) (f : Permit → Permit) : State :=
  { s with permits := { s.permits with list := s.permits.list.map fun p => if c p then f p else p } }

/-- A permit on the pile is CLEARING or GRANTED (R80, R84). -/
def State.zoned (s : State) (tag : Nat) : Bool := (s.permitsOn tag).any fun p => p.state != .pendingWet

/-! ## Orders and passes -/

/-- The outstanding volume of an order (R75). -/
def Order.outstanding (o : Order) : Nat := o.dose - o.delivered

/-- The pass of an order is aiming, spraying or ramping down (R151). -/
def Order.passRuns (o : Order) : Bool :=
  match o.pass with
  | some p => p.state != .closed
  | none => false

/-- The current pass of an order is changed. -/
def Order.mapPass (o : Order) (f : Pass → Pass) : Order := { o with pass := o.pass.map f }

/-- The pass bound to a cannon, with the order it belongs to. -/
def State.boundPass? (s : State) (c : Cannon) : Option (Order × Pass) :=
  c.bound.bind fun id => (s.order? id).bind fun o => o.pass.map fun p => (o, p)

/-- A cannon has an entry for a tag in its coverage list (R101). -/
def Cannon.coverOf? (c : Cannon) (tag : Nat) : Option Cover := c.config.coverage.find? fun e => e.tag == tag

/-! ## Nodes and their command slots (R162) -/

/-- A node entry. -/
def State.node? (s : State) (a : Nat) : Option Node := Table.get s.loop.nodes a

/-- A node entry is changed. -/
def State.mapNode (s : State) (a : Nat) (f : Node → Node) : State :=
  { s with loop := { s.loop with nodes := Table.update s.loop.nodes a f } }

/-- The command pending in a node's slot. -/
def State.slot? (s : State) (a : Nat) : Option LoopCommand := (s.node? a).bind (·.slot)

/-- The loop master holds a node LOST. -/
def State.nodeLost (s : State) (a : Nat) : Bool := ((s.node? a).map (·.lost)).getD false

/-- A stopping command is placed, replacing whatever is pending (R162). -/
def State.placeStop (s : State) (a : Nat) (c : LoopCommand) : State := s.mapNode a fun n => { n with slot := some c }

/-- A starting command is placed when the slot is empty, and is not placed when it is not (R162). -/
def State.placeStart (s : State) (a : Nat) (c : LoopCommand) : State :=
  s.mapNode a fun n => if n.slot.isNone then { n with slot := some c } else n

/-- A command stops what it is sent to: it stays in the slot of a node declared LOST (R162, R165). -/
def LoopCommand.stopping : LoopCommand → Bool
  | .aim _ _ _ => false
  | .openValve _ => false
  | .close => true
  | .run => false
  | .stop => true

/-! ## The passing of seconds (R176, R177; log entry 3) -/

/-- An age after some seconds, saturating (R44, R142). -/
def ageAfter (k : Nat) (age : Option Nat) : Option Nat := age.map fun a => satAdd16 a k

/-- Seconds left after some seconds, no lower than 0: the expiry is an event of its own, which may come once none is left
(log entry 1). -/
def leftAfter (k : Nat) (left : Option Nat) : Option Nat := left.map fun n => n - k

/-- The seconds to the next expiry of the step timer after some seconds: it expires every 60 s (R177). -/
def stepLeftAfter (k left : Nat) : Nat := (left + 119 - k % 60) % 60 + 1

/-- How often the step timer expires within some seconds (R177). -/
def expiriesWithin (k left : Nat) : Nat := (k + 60 - left) / 60

/-- Expiries handed to a block after some more of them; one acted on ahead is not handed again (R177; log entry 6). -/
def Expiries.handed (x : Expiries) (n : Nat) : Expiries :=
  if n = 0 then x else ⟨x.due + n - x.ahead.toNat, false⟩

/-- The expiry a block's row acts on, when it may act: one handed to it, or else that of the coming second, ahead of the
minute change that may fall in it (R177; log entry 6). -/
def Expiries.taken? (x : Expiries) (stepLeft : Nat) : Option Expiries :=
  if 0 < x.due then some { x with due := x.due - 1 }
  else if stepLeft = 1 ∧ x.ahead = false then some ⟨0, true⟩
  else none

/-- The yard clock after some seconds of the clock input: the step timer runs on, and hands each expiry to the moisture
model and to the forecast table (R177). -/
def Clock.after (c : Clock) (k : Nat) : Clock :=
  { c with
    stepLeft := stepLeftAfter k c.stepLeft
    modelDue := c.modelDue.handed (expiriesWithin k c.stepLeft)
    retireDue := c.retireDue.handed (expiriesWithin k c.stepLeft) }

/-- Ages and timers after some seconds of the clock input. -/
def State.elapse (s : State) (k : Nat) : State :=
  { s with
    clock := s.clock.after k
    wind := { s.wind with masts := s.wind.masts.map fun e => (e.1, { e.2 with age := ageAfter k e.2.age }) }
    cannons := s.cannons.map fun e => (e.1, { e.2 with
      slew := leftAfter k e.2.slew
      closeWait := leftAfter k e.2.closeWait
      retry := leftAfter k e.2.retry })
    water := { s.water with
      tank := s.water.tank.map fun t => { t with age := ageAfter k t.age }
      transfer := { s.water.transfer with
        startWait := leftAfter k s.water.transfer.startWait
        holdOff := leftAfter k s.water.transfer.holdOff } } }

end Sys2Proof.Machine
end

