-- ==== Sys2Proof/Machine/Moisture.lean ====
section
/-! DEFINITION. The arithmetic of the moisture model (spec/02): the stages of a model step on one pile, doses, pass gain,
runoff and the disturbance blend. Every function here is on records alone. -/

namespace Sys2Proof.Machine

/-- Wind scaled by an exposure value, capped (R25, R30). -/
def scaledWind (wind x : Nat) : Nat := min Config.maxWind (wind * x / 128)

/-- Stage 1: the wind at the pile (R25). -/
def stageWind (w : Weather) (p : Pile) : Pile :=
  { p with
    lastWp := scaledWind w.speed (exposure p.profile w.octant)
    lastWgp := scaledWind w.gustSpeed (exposure p.profile w.octant) }

/-- Stage 2: rain gain (R26). -/
def stageRain (w : Weather) (g : Grade) (p : Pile) : Pile := { p with m := min g.msat (p.m + w.rain * g.gk / 256) }

/-- Stage 3: evaporation (R27). -/
def stageDry (w : Weather) (g : Grade) (p : Pile) : Pile :=
  let n := g.kg * (p.lastWp + 20) * (100 - w.rh) + p.residue
  if p.m < n / Config.two16 then { p with m := 0, residue := 0 }
  else { p with m := p.m - n / Config.two16, residue := n % Config.two16 }

/-- The dust risk of a pile (R28). -/
def riskOf (g : Grade) (p : Pile) : Nat := min 255 ((g.mt - p.m) * p.lastWgp / (g.dg * 64))

/-- Stage 4: risk (R28). -/
def stageRisk (g : Grade) (p : Pile) : Pile := { p with risk := riskOf g p }

/-- The band a risk selects (R29). -/
def bandOf (l : Model) (risk : Nat) : Band :=
  if risk < l.b1 then .calm else if risk < l.b2 then .watch else if risk < l.b3 then .act else .severe

/-- Stage 5: band (R29). -/
def stageBand (l : Model) (p : Pile) : Pile := { p with band := bandOf l p.risk }

/-- Stage 8: the degraded flag (R34). -/
def stageDegraded (w : Weather) (p : Pile) : Pile :=
  { p with degraded := match w.source with
    | .held => true
    | .unset => true
    | .observed => false
    | .forecast => false }

/-- The outcomes of the look-ahead (R30). -/
inductive Look where
  | failed | passed | notEvaluated
  deriving DecidableEq, Repr

/-- The projected moisture under a forecast slot over Lead minutes (R30). -/
def projected (g : Grade) (lead : Nat) (f : Slot) (p : Pile) : Int :=
  let wpf := scaledWind f.wind (exposure p.profile f.octant)
  let eproj : Int := (g.kg * (wpf + 20) * (100 - f.rh) / Config.two16 : Nat)
  let grf : Int := (f.rain * g.gk / 256 : Nat)
  clampInt 0 g.msat (p.m + (grf - eproj) * lead)

/-- Stage 6: look-ahead, on the slot covering now + Lead if there is one (R30). -/
def stageLook (g : Grade) (lead : Nat) (slot : Option Slot) (p : Pile) : Look :=
  if lead = 0 ∨ p.life ≠ .live ∨ p.auto = false then .notEvaluated
  else
    match slot with
    | none => .notEvaluated
    | some f => if projected g lead f p < g.mt then .failed else .passed

/-- The drift of a wind at the pile, in 1/256 (R35, R37). -/
def driftOf (wp : Nat) : Nat := min 192 (wp / 4)

/-- The litres that must leave the cannon to bring a pile to a target moisture (R35, steps 2 to 5). -/
def litresFor (g : Grade) (p : Pile) (target : Nat) : Nat :=
  ceilDiv (ceilDiv ((target - p.m) * p.area) g.gk * 256) (256 - driftOf p.lastWp)

/-- The spray target of a grade (R35, step 1). -/
def sprayTarget (g : Grade) : Nat := min g.msat (g.mt + g.margin)

/-- A dose cut to the order max dose, with the CLAMPED flag (R35, step 7). -/
def cutDose (maxDose vc : Nat) : Nat × Bool := (min vc maxDose, decide (maxDose < vc))

/-- The auto dose of a pile, or none (R35). -/
def autoDose (g : Grade) (maxDose : Nat) (p : Pile) : Option (Nat × Bool) :=
  let vc := litresFor g p (sprayTarget g)
  if sprayTarget g ≤ p.m then none else if vc < Config.trickle then none else some (cutDose maxDose vc)

/-- The prewet dose of a pile (R36). -/
def prewetDose (g : Grade) (maxDose : Nat) (p : Pile) : Nat × Bool :=
  cutDose maxDose (max Config.trickle (litresFor g p (max g.mwork (sprayTarget g))))

/-- The moisture a pass of `vm` litres would bring a pile to, before saturation (R37). -/
def gained (g : Grade) (vm : Nat) (p : Pile) : Nat :=
  p.m + vm * (256 - driftOf p.lastWp) / 256 * g.gk / p.area

/-- The pass gain (R37, R38). -/
def passGain (g : Grade) (vm now : Nat) (p : Pile) : Pile :=
  { p with m := min g.msat (gained g vm p), lastWetted := some now }

/-- The litres that run off to the settling pond (R38). -/
def runoffOf (g : Grade) (vm : Nat) (p : Pile) : Nat := (gained g vm p - g.msat) * p.area / g.gk

/-- The disturbance blend (R40). -/
def blend (g : Grade) (f : Nat) (mf : Option Nat) (p : Pile) : Pile :=
  let f' := min f 100
  let mf' := min (mf.getD p.mcore) g.msat
  { p with m := (p.m * (100 - f') + mf' * f' + 50) / 100 }

end Sys2Proof.Machine
end

