-- ==== Sys2Proof/Machine/Account.lean ====
section
/-! DEFINITION. The water account (spec/07): slots and reservations, the fresh account, the pond's credits and debits and
the evaluation of the transfer run. -/

namespace Sys2Proof.Machine

/-! ## Header slots and reservations -/

/-- What a pass adds to the committed volume of a header (R122). -/
def committedOf (h : Header) (o : Order) : Nat :=
  match o.state, o.pass with
  | .active, some p => if p.header = h then p.reservation - p.delivered else 0
  | _, _ => 0

/-- The committed volume of a header (R122). -/
def State.committed (s : State) (h : Header) : Nat := (s.dispatch.orders.map (committedOf h)).sum

/-- The cannons that hold a slot on a header, in number order (R122). -/
def State.holders (s : State) (h : Header) : List Nat :=
  (s.cannons.filter fun e => e.2.header == some h).map Prod.fst

/-- The slots of a header (R122). -/
def slotsOf : Header → Nat
  | .reuse => Config.reuseSlots
  | .fresh => Config.freshSlots

/-- The reuse available volume: the right-hand side of R130 whatever the flags, and 0 where there is no level (log entry
35). -/
def State.reuseAvailable (s : State) : Nat :=
  match s.water.tank with
  | some t =>
    match t.reading with
    | some r => (r.level - t.config.low) * 100 - s.committed .reuse
    | none => 0
  | none => 0

/-- The fresh available volume (R132). -/
def State.freshAvailable (s : State) : Nat := s.water.allowance - s.water.usedToday - s.committed .fresh

/-- The tank lets reuse water be reserved: loaded, FRESH, near-empty and quality hold clear (R130). -/
def Tank.serves (t : Tank) : Bool := t.fresh && !t.nearEmpty && !t.qualityHold

/-- A reservation of `d` litres on a header would be granted (R130, R132). -/
def State.reserves (s : State) (h : Header) (d : Nat) : Bool :=
  match h with
  | .reuse => (s.water.tank.map (·.serves)).getD false && decide (d ≤ s.reuseAvailable)
  | .fresh => decide (d ≤ s.freshAvailable)

/-- The account grants a cannon a slot on a header and a reservation of `d` litres from it (R123). -/
def State.grants (s : State) (h : Header) (c : Cannon) (d : Nat) : Bool :=
  c.header.isNone && decide ((s.holders h).length < slotsOf h) && s.reserves h d

/-- Spent is evaluated; its going from clear to set raises the WATER notice (R132). -/
def State.evalSpent (s : State) : State :=
  let spent := decide (s.freshAvailable < Config.trickle)
  let s' := { s with water := { s.water with spent := spent } }
  if spent && !s.water.spent then s'.raiseWater else s'

/-- A cannon's header slot is released, which occasions an arbitration (R123). -/
def State.releaseHeader (s : State) (n : Nat) : State :=
  match s.cannon? n with
  | some c => if c.header.isSome then (s.mapCannon n fun c => { c with header := none }).occasion else s
  | none => s

/-- The litres a cannon node meters while it holds a slot on a header (R124). -/
def State.takeLitres (s : State) (h : Header) (litres : Nat) : State :=
  match h with
  | .reuse => s
  | .fresh =>
    { s with water := { s.water with usedToday := satAdd32 s.water.usedToday litres } }.evalSpent

/-! ## The transfer run (R138) -/

/-- The tank is loaded and its gauge FRESH. -/
def Water.gauged (w : Water) : Bool := (w.tank.map (·.fresh)).getD false

/-- The tank is near-full. -/
def Water.nearFull (w : Water) : Bool := (w.tank.map (·.nearFull)).getD false

/-- The start conditions of the transfer run (R138). -/
def State.startConditions (s : State) : Bool :=
  (s.water.pond.node.any fun a => !s.nodeLost a) && decide (s.water.pond.startMark ≤ s.water.pond.volume)
    && s.water.gauged && !s.water.nearFull

/-- The stop conditions of the transfer run (R138). -/
def State.stopConditions (s : State) : Bool :=
  decide (s.water.pond.volume ≤ s.water.pond.stopMark) || s.water.nearFull || !s.water.gauged

/-- The transfer record is changed. -/
def State.mapTransfer (s : State) (f : Transfer → Transfer) : State :=
  { s with water := { s.water with transfer := f s.water.transfer } }

/-- STOP is placed in the transfer node's slot, replacing anything pending. -/
def State.placeStopRun (s : State) : State :=
  match s.water.pond.node with
  | some a => s.placeStop a .stop
  | none => s

/-- A run in STARTING or RUNNING is stopped with a last end: STOP placed, start wait stopped, STOPPING (R138). -/
def State.stopRun (s : State) (e : RunEnd) : State :=
  s.placeStopRun.mapTransfer fun t =>
    { t with state := .stopping, lastEnd := some e, startWait := none, runWaiting := false }

/-- RUN is placed when the transfer node's slot is empty and the start wait started; otherwise the RUN waits for the
slot to empty (R138). -/
def State.startRun (s : State) : State :=
  match s.water.pond.node with
  | some a =>
    if (s.slot? a).isNone then
      (s.placeStart a .run).mapTransfer fun t =>
        { t with state := .starting, startWait := some Config.startWait, runWaiting := false }
    else s.mapTransfer fun t => { t with state := .starting, startWait := none, runWaiting := true }
  | none => s

/-- The transfer run is evaluated (R138). -/
def State.evalTransfer (s : State) : State :=
  match s.water.transfer.state with
  | .stopped => if s.water.transfer.holdOff.isNone && s.startConditions then s.startRun else s
  | .starting => if s.stopConditions then s.stopRun .stopCondition else s
  | .running => if s.stopConditions then s.stopRun .stopCondition else s
  | .stopping => s

/-! ## The settling pond (R136) -/

/-- The pond record is changed. -/
def State.mapPond (s : State) (f : Pond → Pond) : State :=
  { s with water := { s.water with pond := f s.water.pond } }

/-- The litres of a credit that spill beyond the pond's capacity (R136). -/
def Pond.excess (p : Pond) (c : Nat) : Nat := p.volume + c - p.capacity

/-- The pond after a credit (R136). -/
def Pond.credited (p : Pond) (c : Nat) : Pond :=
  { p with volume := min (p.volume + c) p.capacity, spill := satAdd32 p.spill (p.excess c) }

/-- The pond is credited: spill beyond capacity raises the WATER notice, and the transfer run is evaluated (R136). -/
def State.creditPond (s : State) (c : Nat) : State :=
  let s' := s.mapPond fun p => p.credited c
  (if s.water.pond.excess c = 0 then s' else s'.raiseWater).evalTransfer

/-! ## The day (R134) -/

/-- A day rollover when the yard day differs from the day that used today counts: used today 0, spent evaluated, a report
to the dispatcher (R131, R134). -/
def State.rollOver (s : State) : State :=
  if dayOf s.now = s.water.countedDay then s
  else { s with water := { s.water with usedToday := 0, countedDay := dayOf s.now } }.evalSpent.occasion

end Sys2Proof.Machine
end

