-- ==== Sys2Proof/Machine/Task.lean ====
section
/-! DEFINITION. The tellings of one event. Inside an event one block tells another what has happened (a pass has ended,
a pile's moisture has changed, an order has ended); each telling is a task, and a block that acts on one may bring about
more. The agenda of an event (Machine/Agenda.lean) carries them out in order, depth first (log entry 7). -/

namespace Sys2Proof.Machine

/-- The tasks of an event's agenda. -/
inductive Task where
  /-- a reason joins an order's suspension set (R82) -/
  | addReason (id : Nat) (r : Reason)
  /-- an open order is cancelled (R93) -/
  | cancel (id : Nat)
  /-- a pass has ended with a kind and a final delivered figure: credit and gain (R89, steps 1 to 3) -/
  | passEnd (id : Nat) (kind : PassKind) (vm : Nat)
  /-- the pass is settled and the order's next state decided (R89, steps 4 and 5; R90) -/
  | passNext (id : Nat) (kind : PassKind)
  /-- the permit table is told that a pass on a pile has ended, or of a cannon's close wait (R90, R113, R151) -/
  | passTold (tag : Nat)
  /-- an order has ended: change set, pile table, permit table (R77) -/
  | orderEnded (id : Nat)
  /-- the permit table is told that a PREWET order has ended (R149) -/
  | prewetEnded (id : Nat) (outcome : OrderOutcome)
  /-- a PREWET order is asked for the permits of a pile that wait without one, or for one machine's alone (R146, R148) -/
  | askPrewet (tag : Nat) (only : Option Nat)
  /-- the permits that wait without a PREWET order ask again (R148) -/
  | retryPrewets
  /-- the permit table is told of a pile (R17, R148) -/
  | tellPile (tag : Nat)
  /-- the pass of an order that ZONE has reached is closed down (R82, R151) -/
  | closePass (id : Nat)
  /-- the CLEARING permits of a pile are granted when nothing on it runs (R151) -/
  | askGrant (tag : Nat)
  /-- a permit ends; `withM` says that a blend was applied (R147) -/
  | endPermit (machine : Nat) (outcome : PermitOutcome) (withM : Bool)
  /-- a retire-pending pile without permits enters RETIRING (R19, R147) -/
  | checkRetire (tag : Nat)
  /-- ZONE leaves the pile's orders when no CLEARING or GRANTED permit remains on a LIVE pile (R147) -/
  | liftZone (tag : Nat)
  /-- a RETIRING pile without open orders leaves its slot (R20) -/
  | checkFree (tag : Nat)
  /-- an order's lapse is evaluated (R94) -/
  | lapseOrder (id : Nat)
  /-- the lapse of every order is evaluated (R94, R176) -/
  | lapseOrders
  /-- the prewet wait of a machine's permit is evaluated (R150) -/
  | expirePrewet (machine : Nat)
  /-- the max hold of a machine's permit is evaluated (R152) -/
  | lapsePermit (machine : Nat)
  /-- the permit table acts on a change of the yard minute (R148, R176) -/
  | permitMinute
  /-- the disturbance blend on a pile (R40) -/
  | blendPile (tag : Nat) (f : Nat) (mf : Option Nat)
  /-- the effective weather is selected again (R50) -/
  | selectWeather
  /-- the holds are evaluated (R54 to R56) -/
  | evalHolds
  /-- the return of the trip counts to 0 is evaluated (R116, R176) -/
  | decayTrips
  /-- a day rollover when the yard day has changed (R134, R176) -/
  | rollOver
  deriving DecidableEq, Repr

end Sys2Proof.Machine
end

