-- ==== Sys2Proof/Machine/Weather.lean ====
section
/-! DEFINITION. The wind monitor's own operations (spec/03): samples, staleness, selection of the effective weather and
the holds; and the forecast table's lookup (R70). -/

namespace Sys2Proof.Machine

/-! ## Lookup (R70) -/

/-- The slot that covers a minute, with its index, ended slots included: that a minute before now finds a slot which has
ended and is not yet retired is the model's choice (log entry 47). -/
def Forecast.lookupIndexed (f : Forecast) (t : Nat) : Option (Nat × Slot) :=
  (f.slots.findIdx? fun x => x.covers t).bind fun i => (f.slots[i]?).map fun x => (i, x)

/-- The slot that covers a minute; a minute beyond 32 bits is covered by none. -/
def Forecast.lookup (f : Forecast) (t : Nat) : Option Slot :=
  if Config.two32 ≤ t then none else f.slots.find? fun x => x.covers t

/-! ## Masts -/

/-- The average of a mast's ring (R44). -/
def Mast.average (m : Mast) : Option Nat := if m.ring.isEmpty then none else some (m.ring.sum / m.ring.length)

/-- The peak of a mast's ring (R44). -/
def Mast.peak (m : Mast) : Option Nat := if m.ring.isEmpty then none else some (m.ring.foldl max 0)

/-- A mast on loading (R44). -/
def Mast.loaded (node stale : Nat) : Mast :=
  ⟨node, stale, false, [], none, none, none, false, 0, none, none, none, none, none⟩

/-- A mast on its stale expiry (R49). -/
def Mast.staled (m : Mast) : Mast :=
  { m with fresh := false, ring := [], octant := none, pendingOctant := none, gust := false, gustCount := 0 }

/-- The accepted and the pending octant after a sample of a direction (R47). -/
def octantNext (accepted pending : Option Nat) (direction : Option Nat) : Option Nat × Option Nat :=
  match direction with
  | none => (accepted, none)
  | some d =>
    let o := octantOf d
    if accepted = none then (some o, none)
    else if accepted = some o then (accepted, none)
    else if pending = some o then (some o, none)
    else (accepted, some o)

/-- The ring with a speed appended; of five entries the oldest is removed (R46). -/
def ringNext (ring : List Nat) (speed : Nat) : List Nat :=
  let r := ring ++ [speed]
  if r.length = 5 then r.drop 1 else r

/-- A mast after an accepted sample (R46, steps 1 to 6). -/
def Mast.sampled (m : Mast) (l : WindLimits) (speed direction rh rain : Nat) (temp : Int) : Mast :=
  let v := min speed Config.maxWind
  let d := if direction < 360 then some direction else none
  let oct := octantNext m.octant m.pendingOctant d
  let g := gustNext l v m.gust m.gustCount
  { m with
    fresh := true
    ring := ringNext m.ring v
    inst := some v
    octant := oct.1
    pendingOctant := oct.2
    gust := g.1
    gustCount := g.2
    direction := d
    rh := some (min rh 100)
    rain := some (min rain 999)
    temp := some (clampInt (-40) 60 temp)
    age := some 0 }

/-- A mast of the wind monitor is changed. -/
def State.mapMast (s : State) (n : Nat) (f : Mast → Mast) : State :=
  { s with wind := { s.wind with masts := Table.update s.wind.masts n f } }

/-! ## Selection (R50 to R53) -/

/-- The fresh masts, mast 0 before mast 1. -/
def Wind.freshMasts (w : Wind) : List Mast := (w.masts.map Prod.snd).filter (·.fresh)

/-- The chosen mast: the fresh mast with the larger average, the earlier one of equals (R51). -/
def chosenMast : List Mast → Option Mast
  | [] => none
  | m :: t =>
    match chosenMast t with
    | none => some m
    | some m' => if (m.average.getD 0) < (m'.average.getD 0) then some m' else some m

/-- An octant made definite: 8 becomes the last definite octant (R51, R53). -/
def Wind.definite (w : Wind) (o : Nat) : Nat := if o < 8 then o else w.lastOctant

/-- The lower of the temperatures of masts (R51). -/
def lowestTemp : List Mast → Option Int
  | [] => none
  | m :: t =>
    match m.temp, lowestTemp t with
    | some a, some b => some (min a b)
    | some a, none => some a
    | none, x => x

/-- The effective weather under source OBSERVED, from the fresh masts and the chosen one (R51). -/
def Wind.observed (w : Wind) (ms : List Mast) (m : Mast) : Weather where
  speed := m.average.getD 0
  gustSpeed := if ms.any (·.gust) then max (m.average.getD 0) (m.peak.getD 0) else m.average.getD 0
  octant := m.octant.getD (w.definite w.weather.octant)
  rh := m.rh.getD 0
  rain := m.rain.getD 0
  temp := (lowestTemp ms).getD 0
  source := .observed

/-- The effective weather under source FORECAST (R52). -/
def forecastWeather (x : Slot) : Weather :=
  ⟨x.wind, max x.wind x.gust, x.octant, x.rh, x.rain, x.temp, .forecast⟩

/-- The effective weather under source HELD (R53). -/
def Wind.heldWeather (w : Wind) : Weather :=
  { w.weather with octant := w.definite w.weather.octant, source := .held }

/-- The effective weather a selection takes: the first source of R50 that applies. -/
def State.weatherNow (s : State) : Weather :=
  match chosenMast s.wind.freshMasts with
  | some m => s.wind.observed s.wind.freshMasts m
  | none =>
    match s.forecast.lookup s.now with
    | some x => forecastWeather x
    | none => if s.wind.established then s.wind.heldWeather else Weather.initial

/-- Selecting OBSERVED or FORECAST sets established (R50). -/
def Source.establishes : Source → Bool
  | .observed => true
  | .forecast => true
  | .held => false
  | .unset => false

/-- The wind monitor with a selected weather written (R50). -/
def Wind.withWeather (w : Wind) (x : Weather) : Wind :=
  { w with
    weather := x
    established := w.established || x.source.establishes
    lastOctant := if x.octant < 8 then x.octant else w.lastOctant }

/-- A selection: the weather is written, a change of source raises the WIND notice, and a change of any value has the
holds evaluated (R50). -/
def State.selectWeather (s : State) : State × List Task :=
  let x := s.weatherNow
  let s' := { s with wind := s.wind.withWeather x }
  let s'' := if x.source = s.wind.weather.source then s' else s'.raiseWind
  (s'', if x = s.wind.weather then [] else [.evalHolds])

/-! ## Holds (R54 to R56) -/

/-- HOLD is active (R56). -/
def Wind.hold (w : Wind) : Bool := w.cutOut || w.frost

/-- An order whose suspension set a reason joins: a WAITING order is starved no more (R82, R88). -/
def Order.withReason (o : Order) (r : Reason) : Order :=
  { o with suspension := o.suspension.add r, starved := o.starved && o.state != .waiting }

/-- A reason leaves an order's suspension set (R82). -/
def State.dropReason (s : State) (id : Nat) (r : Reason) : State :=
  match s.order? id with
  | none => s
  | some o =>
    if o.isOpen && o.suspension.has r then
      let s' := s.mapOrder id fun o => { o with suspension := o.suspension.drop r }
      if o.state = .waiting ∧ (o.suspension.drop r).isEmpty = true then s'.occasion else s'
    else s

/-- HOLD leaves every open order, and one arbitration follows when it empties the set of a WAITING order (R84). -/
def State.dropHold (s : State) : State :=
  let freed := s.dispatch.orders.any fun o =>
    o.state == .waiting && o.suspension.hold && (o.suspension.drop .hold).isEmpty
  let s' := { s with dispatch := { s.dispatch with orders := s.dispatch.orders.map fun o =>
    if o.isOpen then { o with suspension := o.suspension.drop .hold } else o } }
  if freed then s'.occasion else s'

/-- The holds are evaluated against the effective weather: each change raises the WIND notice, and the dispatcher is
told of a change of HOLD (R54 to R56). -/
def State.evalHolds (s : State) : State × List Task :=
  let cut := cutOutNext s.wind.limits s.wind.weather.speed s.wind.cutOut
  let fr := frostNext s.wind.limits s.wind.weather.temp s.wind.frost
  let s1 := { s with wind := { s.wind with cutOut := cut, frost := fr } }
  let s2 := if cut = s.wind.cutOut ∧ fr = s.wind.frost then s1 else s1.raiseWind
  if s1.wind.hold = s.wind.hold then (s2, [])
  else if s1.wind.hold then
    (s2, (s2.dispatch.orders.filter Order.isOpen).map fun o => .addReason o.id .hold)
  else (s2.dropHold, [])

/-! ## Events of a mast -/

/-- A mast reply is taken as one sample; a gust turning ON raises the WIND notice (R46, R48). -/
def State.takeSample (s : State) (n speed direction rh rain : Nat) (temp : Int) : State × List Task :=
  match Table.get s.wind.masts n with
  | none => (s, [])
  | some m =>
    let m' := m.sampled s.wind.limits speed direction rh rain temp
    let s' := s.mapMast n fun _ => m'
    (if m'.gust && !m.gust then s'.raiseWind else s', [.selectWeather])

/-- The stale timer of a mast runs and has reached the stale limit (R45, R49). -/
def Mast.overdue (m : Mast) : Bool := m.fresh && decide (m.stale ≤ m.age.getD 0)

/-- The stale expiry of a mast, when its sample age has reached the stale limit (R49). -/
def State.staleMast (s : State) (n : Nat) : State × List Task :=
  match Table.get s.wind.masts n with
  | none => (s, [])
  | some m => if m.overdue then (s.mapMast n Mast.staled, [.selectWeather]) else (s, [])

end Sys2Proof.Machine
end

