-- ==== Sys2Proof/Machine/Orders.lean ====
section
/-! DEFINITION. The order dispatcher's own operations (spec/05): acceptance, candidates, binding and arbitration, the
credit of a plan, completion, the failure check and the record of an ending. -/

namespace Sys2Proof.Machine

/-! ## Plans and completion (R76, R91) -/

/-- The current entry of a plan, absent once the plan has moved past its last entry. -/
def Plan.entry? (p : Plan) : Option PlanEntry := p.entries[p.current]?

/-- The index reached from `i` by advancing while the entry there has less than the trickle limit remaining (R91). -/
def advanceFrom (entries : List PlanEntry) : Nat → Nat → Nat
  | 0, i => i
  | fuel + 1, i =>
    match entries[i]? with
    | some e => if e.remaining < Config.trickle then advanceFrom entries fuel (i + 1) else i
    | none => i

/-- A plan after the advance of R91. -/
def Plan.advanced (p : Plan) : Plan := { p with current := advanceFrom p.entries p.entries.length p.current }

/-- A plan whose current entry is credited with `vm` litres, and then advanced (R91). -/
def Plan.credited (p : Plan) (vm : Nat) : Plan :=
  Plan.advanced { p with entries := p.entries.modify p.current fun e => { e with remaining := e.remaining - vm } }

/-- The order is complete (R91). -/
def Order.complete (o : Order) : Bool :=
  match o.plan with
  | none => decide (o.outstanding < Config.trickle)
  | some p => decide (p.entries.length ≤ p.current)

/-! ## Acceptance (R80, R81) -/

/-- What an order is accepted with, after the checks of the block that asks. -/
structure OrderRequest where
  tag : Nat
  origin : Origin
  priority : Nat
  dose : Nat
  clamped : Bool
  policy : Policy
  volley : Option Nat
  plan : Option (List PlanEntry)
  deriving DecidableEq, Repr

/-- Orders that are open stand in every entry of the table (R78). -/
def State.ordersFull (s : State) : Bool := decide (Config.orders ≤ (s.dispatch.orders.filter Order.isOpen).length)

/-- Of a list of orders, the one that ended first in time, the earlier in the list of equals (R80). -/
def endedFirst : List Order → Option Order
  | [] => none
  | o :: t =>
    match endedFirst t with
    | none => if o.isOpen then none else some o
    | some x => if o.isOpen then some x else if x.endedEvent < o.endedEvent then some x else some o

/-- The order whose ENDED entry is freed to make room, when no entry is free (R80). -/
def State.evicted (s : State) : Option Order :=
  if s.dispatch.orders.length < Config.orders then none else endedFirst s.dispatch.orders

/-- An order's entry is freed (R80, R96). -/
def State.freeOrder (s : State) (id : Nat) : State :=
  { s with dispatch := { s.dispatch with orders := s.dispatch.orders.filter fun o => o.id != id } }

/-- The suspension set an order is accepted with (R80). -/
def State.suspensionAt (s : State) (tag : Nat) : Suspension := ⟨false, s.wind.hold, s.zoned tag⟩

/-- The record of an order at acceptance, before its state is decided (R80). -/
def State.newOrder (s : State) (r : OrderRequest) (id : Nat) : Order where
  id := id
  tag := r.tag
  origin := r.origin
  priority := r.priority
  dose := r.dose
  delivered := 0
  policy := r.policy
  volley := r.volley
  plan := r.plan.map fun es => Plan.advanced ⟨es, 0⟩
  state := if r.volley.isSome then .volleyHeld else .waiting
  suspension := s.suspensionAt r.tag
  starved := false
  clamped := r.clamped
  cancelPending := false
  accepted := s.now
  lapseRef := s.now
  passes := 0
  lastEnd := none
  pass := none
  outcome := none
  endedMinute := none
  endedEvent := 0

/-- The record of an ended order (R75, R77, R88). -/
def Order.ended (o : Order) (x : OrderOutcome) (now event : Nat) : Order :=
  { o with state := .ended, outcome := some x, endedMinute := some now, endedEvent := event, starved := false }

/-- An order ends, and the tellings of R77 follow. -/
def State.endOrder (s : State) (id : Nat) (x : OrderOutcome) : State × List Task :=
  (s.mapOrder id fun o => o.ended x s.now s.events, [.orderEnded id])

/-- The state after an acceptance, the id given, the id of the order freed to make room, and the tellings (R80). -/
def State.accept (s : State) (r : OrderRequest) : State × Nat × Option Nat × List Task :=
  let freed := s.evicted
  let s1 := match freed with
    | some o => s.freeOrder o.id
    | none => s
  let id := freeId 65535 (s1.dispatch.orders.map Order.id) (Config.orders + 1) s1.dispatch.nextId
  let o := s1.newOrder r id
  let s2 := { s1 with dispatch := { s1.dispatch with
    orders := s1.dispatch.orders ++ [if o.complete then o.ended .done s.now s.events else o]
    nextId := id % 65535 + 1 } }
  let s3 := if !o.complete && o.state == .waiting then s2.occasion else s2
  (s3, id, freed.map Order.id, if o.complete then [.orderEnded id] else [])

/-! ## Candidates and sizes (R86, R87) -/

/-- A cannon's coverage entry for a tag holds an arc (R79). -/
def Cannon.coversArc (c : Cannon) (tag arcStart arcEnd : Nat) : Bool :=
  match c.coverOf? tag with
  | some e => arcWithin e arcStart arcEnd
  | none => false

/-- The candidate cannons of an order, in number order (R86). -/
def State.candidates (s : State) (o : Order) : Table Cannon :=
  match o.plan with
  | none => s.cannons.filter fun e => (e.2.coverOf? o.tag).isSome
  | some p =>
    match p.entry? with
    | none => []
    | some x =>
      match x.cannon with
      | some n => s.cannons.filter fun e => e.1 == n
      | none => s.cannons.filter fun e => e.2.coversArc o.tag x.arcStart x.arcEnd

/-- The candidates that are offered: those in IDLE (R86). -/
def State.offered (s : State) (o : Order) : Table Cannon :=
  (s.candidates o).filter fun e => e.2.state == .idle

/-- The pass dose of an order on a cannon (R87). -/
def Order.passDose (o : Order) (c : Cannon) : Nat :=
  match o.plan with
  | none => max c.config.minDose (min o.outstanding c.config.maxDose)
  | some p => clamp c.config.minDose c.config.maxDose ((p.entry?.map PlanEntry.remaining).getD 0)

/-- A cannon of a supply can draw from a header (R86). -/
def Supply.draws : Supply → Header → Bool
  | .reuse, .reuse => true
  | .reuse, .fresh => false
  | .fresh, .reuse => false
  | .fresh, .fresh => true
  | .both, _ => true

/-- The headers tried for an order, in their order (R86). -/
def State.headersFor (s : State) (o : Order) : List Header :=
  match o.policy with
  | .reuseOnly => [.reuse]
  | .freshOnly => [.fresh]
  | .reuseThenFresh => if s.dispatch.freshFloor ≤ o.priority then [.reuse, .fresh] else [.reuse]

/-- A header serves an offered cannon for an order (R86, R123). -/
def State.serves (s : State) (o : Order) (h : Header) (c : Cannon) : Bool :=
  c.config.supply.draws h && s.grants h c (o.passDose c)

/-- The header, cannon number and cannon found for an order (R86). -/
def State.offer (s : State) (o : Order) : Option (Header × Nat × Cannon) :=
  (s.headersFor o).findSome? fun h =>
    ((s.offered o).find? fun e => s.serves o h e.2).map fun e => (h, e.1, e.2)

/-! ## Binding (R87, R106) -/

/-- The arc of the AIM for an order on a cannon: the plan's current entry, or the coverage entry for the pile (R106). -/
def Order.aimArc (o : Order) (c : Cannon) : Nat × Nat :=
  match o.plan with
  | some p => (p.entry?.map fun e => (e.arcStart, e.arcEnd)).getD (0, 0)
  | none => ((c.coverOf? o.tag).map fun e => (e.arcStart, e.arcEnd)).getD (0, 0)

/-- AIM is placed in the node's slot and the slew timer started when the slot is empty; otherwise the AIM waits for the
slot to empty (R106). -/
def State.placeAim (s : State) (n : Nat) (c : Cannon) (o : Order) : State :=
  if (s.slot? c.config.node).isNone then
    (s.placeStart c.config.node (.aim (o.aimArc c).1 (o.aimArc c).2 c.config.sweepRate)).mapCannon n fun c =>
      { c with slew := some c.config.slewTimeout, aimWaiting := false }
  else s.mapCannon n fun c => { c with aimWaiting := true }

/-- The order's side of a binding (R87, steps 2 and 3). -/
def Order.boundTo (o : Order) (n : Nat) (h : Header) (dose : Nat) : Order :=
  { o with
    state := .active
    starved := false
    passes := min 255 (o.passes + 1)
    pass := some ⟨n, h, dose, dose, none, 0, .aiming⟩ }

/-- A pass is bound (R87): slot and reservation, pass, ACTIVE, and the cannon AIMING. Spent is evaluated on the new
committed volume (R132). -/
def State.bindPass (s : State) (o : Order) (h : Header) (n : Nat) (c : Cannon) : State :=
  (((s.mapOrder o.id fun o => o.boundTo n h (o.passDose c)).mapCannon n fun c =>
    { c with state := .aiming, aimPhase := some .slewing, bound := some o.id, header := some h }).placeAim n c
      o).evalSpent

/-! ## Arbitration (R85, R88) -/

/-- The order is considered at an arbitration (R85). -/
def Order.eligible (o : Order) : Bool := o.state == .waiting && o.suspension.isEmpty

/-- The eligible orders, highest priority first, and in acceptance order among equals (R85). -/
def State.ranked (s : State) : List Order :=
  [3, 2, 1, 0].flatMap fun p => s.dispatch.orders.filter fun o => o.priority == p && o.eligible

/-- One order in its turn at an arbitration (R85, R86, R88). -/
def State.consider (s : State) (o : Order) : State :=
  match s.offer o with
  | some (h, n, c) => s.bindPass o h n c
  | none =>
    if (s.offered o).isEmpty || o.starved then s
    else (s.mapOrder o.id fun o => { o with starved := true }).hand .order o.id

/-- One arbitration: the scan of the eligible orders (R85). -/
def State.arbitrate (s : State) : State := s.ranked.foldl State.consider s

/-! ## Pass ends and lapses (R89 to R94) -/

/-- The kinds of pass end that are cannon faults (R92). -/
def PassKind.isFault : PassKind → Bool
  | .closed => false
  | .abandoned => false
  | .trip => true
  | .aimTimeout => true
  | .lost => true
  | .reset => true
  | .valveStuck => true

/-- A cannon remains for the order: a candidate other than LOCKED and LOST (R92). -/
def State.cannonRemains (s : State) (o : Order) : Bool :=
  (s.candidates o).any fun e => e.2.state != .locked && e.2.state != .lost

/-- The order at a pass end: the pass CLOSED with its final delivered figure, the order and its plan credited (R89,
steps 1 and 2; R91). -/
def Order.creditedEnd (o : Order) (kind : PassKind) (vm : Nat) : Order :=
  { o with
    pass := o.pass.map fun p => { p with state := .closed, delivered := vm }
    lastEnd := some kind
    delivered := satAdd32 o.delivered vm
    plan := o.plan.map fun p => p.credited vm }

/-- The outcome with which a settled pass end ends the order, or none (R90). -/
def State.outcomeAfter (s : State) (o : Order) (kind : PassKind) : Option OrderOutcome :=
  if o.cancelPending then some .cancelled
  else if o.complete then some .done
  else if kind.isFault && !s.cannonRemains o then some .failed
  else none

/-- The order's lapse time is exceeded (R94). -/
def Order.lapses (o : Order) (now lapseTime : Nat) : Bool :=
  (o.state == .volleyHeld || o.state == .waiting) && decide (lapseTime < minutesSince now o.lapseRef)

/-- The lapse of one order is evaluated (R94). -/
def State.lapseOrder (s : State) (id : Nat) : State × List Task :=
  match s.order? id with
  | some o => if o.lapses s.now s.dispatch.lapseTime then s.endOrder id .lapsed else (s, [])
  | none => (s, [])

end Sys2Proof.Machine
end

