-- ==== Sys2Proof/Machine/Controller.lean ====
section
/-! DEFINITION. The cannon controller's own operations (spec/06): CLOSE and the close wait, pass ends, trips, loss, reset,
and the taking of a node's reply. An operation answers the state and the tellings it brings about. -/

namespace Sys2Proof.Machine

/-! ## Shared pieces -/

/-- CLOSE is placed in a cannon's slot (R162). -/
def State.placeClose (s : State) (n : Nat) : State :=
  match s.cannon? n with
  | some c => s.placeStop c.config.node .close
  | none => s

/-- What a close wait is started with: the one that runs goes on from its first start (R113). -/
def Cannon.closeWaitStart (c : Cannon) : Option Nat :=
  some (c.closeWait.getD (c.config.rampTime + Config.closeWaitExtra))

/-- The tellings to the permit table when the close wait of a cannon with no pass bound stops or expires (R113). -/
def Cannon.closeTold (c : Cannon) : List Task :=
  if c.bound.isNone && c.closeWait.isSome then c.config.coverage.map fun e => .passTold e.tag else []

/-- A cannon whose pass has ended: slew and blanking timers stopped, no pass bound (R105). -/
def Cannon.unbound (c : Cannon) : Cannon :=
  { c with bound := none, slew := none, blankingOn := false, aimWaiting := false }

/-- The ending of a cannon's bound pass is handed to the dispatcher (R105). -/
def Cannon.passEndTasks (c : Cannon) (kind : PassKind) (vm : Nat) : List Task :=
  match c.bound with
  | some id => [.passEnd id kind vm]
  | none => []

/-- The bound pass is changed by the controller, which owns its meter start, delivered and state (R100). -/
def State.mapBoundPass (s : State) (c : Cannon) (f : Pass → Pass) : State :=
  match c.bound with
  | some id => s.mapOrder id fun o => o.mapPass f
  | none => s

/-- The litres of the bound pass as last metered. -/
def State.metered (s : State) (c : Cannon) : Nat := ((s.boundPass? c).map fun x => x.2.delivered).getD 0

/-- A cannon in IDLE, which occasions an arbitration (R85). -/
def State.toIdle (s : State) (n : Nat) : State :=
  (s.mapCannon n fun c => { c with state := .idle, aimPhase := none }).occasion

/-! ## Ramp-down and abandonment (R110, R111) -/

/-- A pass ramps down: CLOSE placed, pass and cannon RAMP-DOWN, the close wait started (R110, R111). -/
def State.rampDown (s : State) (n : Nat) : State :=
  match s.cannon? n with
  | some c =>
    ((s.placeClose n).mapCannon n fun c =>
      { c with state := .rampDown, closeWait := c.closeWaitStart, blankingOn := false }).mapBoundPass c
        fun p => { p with state := .rampDown }
  | none => s

/-- What the controller does when a reason or a cancellation reaches the pass of a cannon (R111). -/
def State.closeDown (s : State) (n : Nat) : State × List Task :=
  match s.cannon? n with
  | none => (s, [])
  | some c =>
    match c.state with
    | .aiming =>
      let s1 := (s.placeClose n).mapCannon n Cannon.unbound
      if c.aimPhase = some .opening then
        (s1.mapCannon n fun c =>
            { c with state := .rampDown, aimPhase := none, closeWait := c.closeWaitStart },
          c.passEndTasks .abandoned 0)
      else ((s1.releaseHeader n).toIdle n, c.passEndTasks .abandoned 0)
    | .spraying => (s.rampDown n, [])
    | .idle | .rampDown | .tripped | .locked | .lost | .resetting => (s, [])

/-! ## Trips (R109, R114, R115) -/

/-- A cannon after a trip: count, minute, close wait, and TRIPPED or LOCKED (R115). -/
def Cannon.afterTrip (c : Cannon) (now : Nat) : Cannon :=
  { c with
    tripCount := c.tripCount + 1
    lastTrip := some now
    closeWait := c.closeWaitStart
    state := if 3 ≤ c.tripCount + 1 then .locked else .tripped
    aimPhase := none
    slew := none
    blankingOn := false }

/-- A trip: from AIMING the pass ends at once, from SPRAYING it ramps down (R115). -/
def State.trip (s : State) (n : Nat) (kind : PassKind) : State × List Task :=
  match s.cannon? n with
  | none => (s, [])
  | some c =>
    let s1 := ((s.placeClose n).mapCannon n fun c => c.afterTrip s.now).hand .cannon n
    if c.state = .aiming then (s1.mapCannon n Cannon.unbound, c.passEndTasks kind 0)
    else (s1.mapBoundPass c fun p => { p with state := .rampDown }, [])

/-- The slew timer expires with the cannon still AIMING: its time has run out (R109). -/
def State.slewExpiry (s : State) (n : Nat) : State × List Task :=
  match s.cannon? n with
  | some c => if c.state = .aiming ∧ c.slew = some 0 then s.trip n .aimTimeout else (s, [])
  | none => (s, [])

/-- The blanking timer expires in AIMING or SPRAYING (R114). -/
def State.blankingExpiry (s : State) (n : Nat) : State × List Task :=
  match s.cannon? n with
  | some c =>
    if c.blankingOn = true ∧ (c.state = .aiming ∨ c.state = .spraying) then s.trip n .trip else (s, [])
  | none => (s, [])

/-- The close wait expires, its time having run out: LOCKED with the header slot kept (R113). -/
def State.closeWaitExpiry (s : State) (n : Nat) : State × List Task :=
  match s.cannon? n with
  | some c =>
    if c.closeWait = some 0 then
      ((s.mapCannon n fun c => { c.unbound with state := .locked, closeWait := none }).hand .cannon n,
        c.passEndTasks .valveStuck (s.metered c) ++ c.closeTold)
    else (s, [])
  | none => (s, [])

/-- The retry delay of a TRIPPED cannon ends: its time has run out (R115). -/
def State.retryEnd (s : State) (n : Nat) : State :=
  match s.cannon? n with
  | some c =>
    if c.state = .tripped ∧ c.retry = some 0 then
      ((s.mapCannon n fun c => { c with retry := none }).toIdle n).hand .cannon n
    else s
  | none => s

/-- A cannon after the evaluation of its trip decay (R116). -/
def Cannon.decayed (c : Cannon) (now : Nat) : Cannon :=
  match c.lastTrip with
  | some t =>
    if c.state ≠ .locked ∧ Config.tripDecay ≤ minutesSince now t then { c with tripCount := 0 } else c
  | none => c

/-- The trip decay of one cannon is evaluated (R116). -/
def State.decayTrip (s : State) (n : Nat) : State := s.mapCannon n fun c => c.decayed s.now

/-- The trip decay of every cannon is evaluated (R116, R176). -/
def State.decayTrips (s : State) : State :=
  { s with cannons := s.cannons.map fun e => (e.1, e.2.decayed s.now) }

/-! ## Lost nodes and reset (R118, R119) -/

/-- Every timer of a cannon but the trip decay stopped, and no pass bound. -/
def Cannon.quiet (c : Cannon) : Cannon := { c.unbound with closeWait := none, retry := none, aimPhase := none }

/-- The cannon leaves or enters one of the states the CANNON change set reports (R121). -/
def CannonState.noticed : CannonState → Bool
  | .tripped => true
  | .locked => true
  | .lost => true
  | .idle => false
  | .aiming => false
  | .spraying => false
  | .rampDown => false
  | .resetting => false

/-- The node of a cannon is declared LOST (R118). -/
def State.cannonLost (s : State) (n : Nat) : State × List Task :=
  match s.cannon? n with
  | none => (s, [])
  | some c =>
    match c.state with
    | .locked | .resetting | .lost => (s, [])
    | .idle | .aiming | .spraying | .rampDown | .tripped =>
      (((s.mapCannon n fun c => { c.quiet with state := .lost }).releaseHeader n).hand .cannon n,
        c.passEndTasks .lost (s.metered c) ++ c.closeTold)

/-- A loaded cannon is reset by the host: RESETTING, timers stopped, CLOSE placed, the pass ended (R119). -/
def State.cannonReset (s : State) (n : Nat) (c : Cannon) : State × List Task :=
  let s1 := (s.placeClose n).mapCannon n fun c => { c.quiet with state := .resetting }
  (if c.state.noticed then s1.hand .cannon n else s1, c.passEndTasks .reset (s.metered c) ++ c.closeTold)

/-! ## The slot has emptied (R106, R162) -/

/-- The loop master tells that the slot of a cannon's node has emptied: a waiting AIM is placed (R106). -/
def State.cannonSlotEmptied (s : State) (n : Nat) : State :=
  match s.cannon? n with
  | some c =>
    if c.aimWaiting then
      match s.boundPass? c with
      | some (o, _) => s.placeAim n c o
      | none => s
    else s
  | none => s

/-! ## A reply of a cannon node (R104) -/

/-- The reply opens the pass: aim phase OPENING and valve OPEN (R108). -/
def Cannon.opens (c : Cannon) (r : NodeReport) : Bool :=
  c.state == .aiming && c.aimPhase == some .opening && r.valve == .opened

/-- The pass opened: meter start at the meter last that stood before, SPRAYING, the slew timer stopped (R108). -/
def State.openPass (s : State) (n : Nat) (c : Cannon) : State :=
  (s.mapBoundPass c fun p => { p with meterStart := c.meterLast, state := .spraying }).mapCannon n fun c =>
    { c with state := .spraying, aimPhase := none, slew := none }

/-- A pass with some more litres metered (R104). -/
def Pass.fed (p : Pass) (litres : Nat) : Pass := { p with delivered := satAdd16 p.delivered litres }

/-- The delta of a reply goes to the bound pass whose meter start is present, or to stray litres, and to the account of
the header held (R104, step 3). -/
def State.routeDelta (s : State) (n : Nat) (c : Cannon) (litres : Nat) : State :=
  let s1 :=
    match s.boundPass? c with
    | some (_, p) =>
      if p.meterStart.isSome then s.mapBoundPass c fun p => p.fed litres
      else s.mapCannon n fun c => { c with stray := satAdd32 c.stray litres }
    | none => s.mapCannon n fun c => { c with stray := satAdd32 c.stray litres }
  match c.header with
  | some h => s1.takeLitres h litres
  | none => s1

/-- Steps 1 to 3 of R104, with the opening of R108 made first so that the delta falls to the pass. -/
def State.meterReply (s : State) (n : Nat) (c : Cannon) (r : NodeReport) (meter : Nat) : State :=
  let s1 := if c.opens r then s.openPass n c else s
  (s1.mapCannon n fun c => { c with report := some r, meterLast := some meter }).routeDelta n c
    (meterDelta c.meterLast meter)

/-- The early close: CLOSE once delivered has reached the pass dose less the ramp allowance (R110). -/
def State.examineDose (s : State) (n : Nat) : State :=
  match s.cannon? n with
  | some c =>
    match s.boundPass? c with
    | some (_, p) => if p.dose - c.config.rampAllowance ≤ p.delivered then s.rampDown n else s
    | none => s
  | none => s

/-- The pass of a cannon ends on a CLOSED report: header slot released, IDLE, the pass end or the telling (R110, R112). -/
def State.closedToIdle (s : State) (n : Nat) (c : Cannon) : State × List Task :=
  (((s.mapCannon n fun c => { c.unbound with closeWait := none }).releaseHeader n).toIdle n,
    c.passEndTasks .closed (s.metered c) ++ c.closeTold)

/-- A CLOSED report after a trip while the close wait runs: the wait stops, the slot is released, a pass still bound ends
TRIP, and a TRIPPED cannon starts its retry delay (R115). -/
def State.closedAfterTrip (s : State) (n : Nat) (c : Cannon) : State × List Task :=
  ((s.mapCannon n fun c => { c.unbound with
      closeWait := none
      retry := if c.state = .tripped then some Config.retryDelay else c.retry }).releaseHeader n,
    c.passEndTasks .trip (s.metered c) ++ c.closeTold)

/-- The reset is complete: trip count 0, header slot released, IDLE (R119). -/
def State.resetComplete (s : State) (n : Nat) : State :=
  ((s.mapCannon n fun c => { c with tripCount := 0 }).releaseHeader n).toIdle n

/-- The SETTLED report that OPEN waits for: the AIM has been placed and has left the slot (R107). -/
def State.aimSettled (s : State) (c : Cannon) (r : NodeReport) : Bool :=
  r.settled && !c.aimWaiting && (s.slot? c.config.node).isNone

/-- OPEN is placed with the header of the pass, and the aim phase becomes OPENING (R107). -/
def State.placeOpen (s : State) (n : Nat) (c : Cannon) : State :=
  match s.boundPass? c with
  | some (_, p) =>
    (s.placeStart c.config.node (.openValve p.header)).mapCannon n fun c => { c with aimPhase := some .opening }
  | none => s

/-- Step 4 of R104: the report acts on the cannon's state. -/
def State.actOnReport (s : State) (n : Nat) (r : NodeReport) (opened : Bool) : State × List Task :=
  match s.cannon? n with
  | none => (s, [])
  | some c =>
    match c.state with
    | .idle => (s, [])
    | .aiming =>
      if c.aimPhase = some .slewing ∧ s.aimSettled c r = true then (s.placeOpen n c, []) else (s, [])
    | .spraying =>
      if r.valve = .closed ∧ opened = false then s.closedToIdle n c else (s.examineDose n, [])
    | .rampDown => if r.valve = .closed then s.closedToIdle n c else (s, [])
    | .tripped => if r.valve = .closed ∧ c.closeWait.isSome = true then s.closedAfterTrip n c else (s, [])
    | .locked => if r.valve = .closed ∧ c.closeWait.isSome = true then s.closedAfterTrip n c else (s, [])
    | .lost =>
      (((s.placeClose n).mapCannon n fun c => { c with state := .resetting }).hand .cannon n, [])
    | .resetting =>
      if r.valve = .closed ∧ (s.slot? c.config.node).isNone = true then (s.resetComplete n, []) else (s, [])

/-- The overload of a reply, in AIMING or SPRAYING (R114; log entry 8). -/
def State.actOnOverload (s : State) (n : Nat) (r : NodeReport) : State × List Task :=
  match s.cannon? n with
  | none => (s, [])
  | some c =>
    if c.state = .aiming ∨ c.state = .spraying then
      if r.overload then
        if c.config.blanking = 0 then s.trip n .trip
        else (s.mapCannon n fun c => { c with blankingOn := true }, [])
      else (s.mapCannon n fun c => { c with blankingOn := false }, [])
    else (s, [])

/-- A valid reply of a cannon's node is taken (R104). -/
def State.takeCannonReply (s : State) (n : Nat) (r : NodeReport) (meter : Nat) : State × List Task :=
  match s.cannon? n with
  | none => (s, [])
  | some c =>
    let x := (s.meterReply n c r meter).actOnReport n r (c.opens r)
    let y := x.1.actOnOverload n r
    (y.1, x.2 ++ y.2)

end Sys2Proof.Machine
end

