-- ==== Sys2Proof/Machine/PermitOps.lean ====
section
/-! DEFINITION. The permit table's and the pile table's tellings (spec/08, spec/01 section 1.6): working moisture,
clearing and grant, prewet orders, endings, retirement. `quiet` is the machine whose own command is being carried out: its
permit hands nothing to the PERMIT change set, as that command's reply carries it (R157). -/

namespace Sys2Proof.Machine

/-- A machine id is handed to the PERMIT change set, but for the machine whose own command it is (R157). -/
def State.handPermit (s : State) (quiet : Option Nat) (machine : Nat) : State :=
  if quiet = some machine then s else s.hand .permit machine

/-- A permit waits for the pile of a tag to reach working moisture. -/
def Permit.waitsOn (p : Permit) (tag : Nat) : Bool := p.tag == tag && p.state == .pendingWet

/-- A permit of a pile clears. -/
def Permit.clearsOn (p : Permit) (tag : Nat) : Bool := p.tag == tag && p.state == .clearing

/-- The open PREWET order of a pile, when it has one (R81). -/
def State.openPrewet? (s : State) (tag : Nat) : Option Order := (s.openOn tag).find? fun o => o.origin == .prewet

/-- A pile is at its working moisture. -/
def State.workable (s : State) (p : Pile) : Bool :=
  match s.gradeOf? p with
  | some g => decide (g.mwork ≤ p.m)
  | none => false

/-! ## Clearing (R148, R151) -/

/-- The pile's open PREWET order is ended DONE, when it is not ACTIVE and no permit on the pile is PENDING-WET any more
(R94, R148). -/
def State.endOpenPrewet (s : State) (tag : Nat) : State × List Task :=
  match s.openPrewet? tag with
  | some o =>
    if o.state ≠ .active ∧ (s.permits.list.any fun x => x.waitsOn tag) = false then s.endOrder o.id .done else (s, [])
  | none => (s, [])

/-- ZONE has yet to join an open order of a pile. -/
def Order.zoneJoins (o : Order) (tag : Nat) : Bool := o.tag == tag && o.isOpen && !o.suspension.has .zone

/-- ZONE joins every open order on the pile, whose passes are then closed down one by one; after them the grant is considered
(R82, R84, R151). -/
def State.enterClearing (s : State) (tag : Nat) : State × List Task :=
  let joined := s.dispatch.orders.map fun o => if o.zoneJoins tag then o.withReason .zone else o
  ({ s with dispatch := { s.dispatch with orders := joined } },
    ((s.dispatch.orders.filter fun o => o.zoneJoins tag).map fun o => .closePass o.id) ++ [.askGrant tag])

/-! ## The pile table tells of a pile (R17, R148) -/

/-- The permit table is told of a pile: the PENDING-WET permits of a LIVE pile at working moisture enter CLEARING, once the
pile's open PREWET order has been ended (R17, R148). -/
def State.tellPile (s : State) (quiet : Option Nat) (tag : Nat) : State × List Task :=
  match s.pileAt? tag with
  | none => (s, [])
  | some (_, p) =>
    let moved := s.permits.list.filter fun x => x.waitsOn tag
    if p.life = .live ∧ s.workable p = true ∧ moved ≠ [] then
      let s1 := s.mapPermits (fun x => x.waitsOn tag) fun x =>
        { x with state := .clearing, entered := s.now, prewetOrder := none }
      let a := (moved.foldl (fun s x => s.handPermit quiet x.machine) s1).endOpenPrewet tag
      let b := a.1.enterClearing tag
      (b.1, a.2 ++ b.2)
    else (s, [])

/-! ## Grant (R151) -/

/-- Something on the pile is still running (R151). -/
def State.runningOn (s : State) (tag : Nat) : Bool :=
  (s.dispatch.orders.any fun o => o.tag == tag && o.passRuns)
    || s.cannons.any fun e => (e.2.coverOf? tag).isSome && e.2.bound.isNone && e.2.closeWait.isSome

/-- The CLEARING permits of a pile are granted, in request order, when nothing on it runs (R151). -/
def State.askGrant (s : State) (quiet : Option Nat) (tag : Nat) : State :=
  if s.runningOn tag then s
  else
    (s.permits.list.filter fun x => x.clearsOn tag).foldl (fun s x => s.handPermit quiet x.machine)
      (s.mapPermits (fun x => x.clearsOn tag) fun x => { x with state := .granted, entered := s.now })

/-- The permit table is told that a pass on a pile has ended, or of a cannon's close wait: the grant is considered, and an
orphan PREWET order in WAITING is ended DONE (R151). -/
def State.passTold (s : State) (quiet : Option Nat) (tag : Nat) : State × List Task :=
  let s1 := s.askGrant quiet tag
  match s1.openPrewet? tag with
  | some o =>
    if o.state = .waiting ∧ (s1.permits.list.any fun x => x.waitsOn tag && x.prewetOrder == some o.id) = false then
      s1.endOrder o.id .done
    else (s1, [])
  | none => (s1, [])

/-! ## Prewet orders (R146, R148, R149) -/

/-- A PENDING-WET permit of the pile has no prewet order id, and is the one asked for when one alone is. -/
def Permit.asksOn (p : Permit) (tag : Nat) (only : Option Nat) : Bool :=
  p.waitsOn tag && p.prewetOrder.isNone && only.all (· == p.machine)

/-- The request for a PREWET order of a pile (R36, R81). -/
def State.prewetRequest (s : State) (p : Pile) (g : Grade) : OrderRequest :=
  let d := prewetDose g s.dispatch.maxDose p
  ⟨p.tag, .prewet, 3, d.1, d.2, .reuseThenFresh, none, none⟩

/-- A PREWET order is asked for: the id of the one already open, or of a new one, becomes that of every PENDING-WET
permit on the pile without one, or of the one permit at whose acceptance it is asked for; FULL leaves them without (R81,
R146, R148). -/
def State.askPrewet (s : State) (tag : Nat) (only : Option Nat) : State × List Task :=
  if (s.permits.list.any fun x => x.asksOn tag only) = false then (s, [])
  else
    match s.openPrewet? tag with
    | some o => (s.mapPermits (fun x => x.asksOn tag only) fun x => { x with prewetOrder := some o.id }, [])
    | none =>
      match s.pileAt? tag with
      | none => (s, [])
      | some (_, p) =>
        match s.gradeOf? p with
        | none => (s, [])
        | some g =>
          if s.ordersFull then (s, [])
          else
            let a := s.accept (s.prewetRequest p g)
            (a.1.mapPermits (fun x => x.asksOn tag only) fun x => { x with prewetOrder := some a.2.1 }, a.2.2.2)

/-- The permits that wait without a PREWET order ask again, in request order (R148). -/
def State.retryPrewets (s : State) : State × List Task :=
  (s, (s.permits.list.filter fun x => x.asksOn x.tag none).map fun x => .askPrewet x.tag none)

/-- A PENDING-WET permit names a PREWET order. -/
def Permit.names (p : Permit) (id : Nat) : Bool := p.state == .pendingWet && p.prewetOrder == some id

/-- The permit table is told that a PREWET order has ended (R149). -/
def State.prewetEnded (s : State) (id : Nat) (x : OrderOutcome) : State × List Task :=
  let waiting := s.permits.list.filter fun p => p.names id
  match x with
  | .done => (s.mapPermits (fun p => p.names id) fun p => { p with prewetOrder := none },
      waiting.map fun p => .askPrewet p.tag none)
  | .cancelled | .lapsed | .failed => (s, waiting.map fun p => .endPermit p.machine .refusedTooDry false)
  | .withdrawn => (s, [])

/-! ## Endings (R147) -/

/-- The record of the end of a machine's permit (R143, R147). -/
def State.outcomeEntry (s : State) (p : Permit) (x : PermitOutcome) (withM : Bool) : OutcomeEntry :=
  ⟨x, s.now, p.tag, p.id, if withM then (s.pileAt? p.tag).map fun e => e.2.m else none⟩

/-- The prewet order that the ending of a PENDING-WET permit cancels: open, and named by no other (R147, step 4). -/
def State.orphanPrewet? (s : State) (p : Permit) : Option Nat :=
  if p.state = .pendingWet then
    p.prewetOrder.filter fun id =>
      ((s.order? id).any Order.isOpen) && !(s.permits.list.any fun x => x.machine != p.machine && x.names id)
  else none

/-- A permit ends (R147). -/
def State.endPermit (s : State) (quiet : Option Nat) (machine : Nat) (x : PermitOutcome) (withM : Bool) :
    State × List Task :=
  match s.permit? machine with
  | none => (s, [])
  | some p =>
    let s1 := { s with permits := { s.permits with
      list := s.permits.list.filter fun y => y.machine != machine
      outcomes := Table.set s.permits.outcomes machine (s.outcomeEntry p x withM) } }
    (s1.handPermit quiet machine,
      (s.orphanPrewet? p).toList.map Task.cancel ++ [.checkRetire p.tag]
        ++ if p.state = .pendingWet then [] else [.liftZone p.tag])

/-- A retire-pending pile on which no permit remains enters RETIRING: its open orders are cancelled (R19). -/
def State.checkRetire (s : State) (tag : Nat) : State × List Task :=
  match s.pileAt? tag with
  | none => (s, [])
  | some (slot, p) =>
    if p.life = .live ∧ p.retirePending = true ∧ s.permitsOn tag = [] then
      ((s.mapPile slot fun p => { p with life := .retiring, retirePending := false }).hand .pile slot,
        ((s.openOn tag).map fun o => .cancel o.id) ++ [.checkFree tag])
    else (s, [])

/-- ZONE leaves the open orders of a LIVE pile on which no permit is CLEARING or GRANTED (R147, step 6). -/
def State.liftZone (s : State) (tag : Nat) : State :=
  match s.pileAt? tag with
  | none => s
  | some (_, p) =>
    if p.life = .live ∧ s.zoned tag = false then (s.openOn tag).foldl (fun s o => s.dropReason o.id .zone) s else s

/-- A RETIRING pile without open orders leaves its slot (R20). -/
def State.checkFree (s : State) (tag : Nat) : State :=
  match s.pileAt? tag with
  | none => s
  | some (slot, p) =>
    if p.life = .retiring ∧ s.openOn tag = [] then
      { s with piles := Table.erase s.piles slot }.hand .pile slot
    else s

/-! ## Expiries (R150, R152) -/

/-- The max hold of a kind of machine (R143). -/
def MaxHold.of (x : MaxHold) : PermitKind → Nat
  | .stacker => x.stacker
  | .reclaimer => x.reclaimer
  | .dozer => x.dozer

/-- The prewet wait of a machine's permit is evaluated (R150). -/
def State.expirePrewet (s : State) (machine : Nat) : State × List Task :=
  match s.permit? machine with
  | some p =>
    if p.state = .pendingWet ∧ s.permits.prewetWait ≤ minutesSince s.now p.entered then
      (s, [.endPermit machine .refusedTooDry false])
    else (s, [])
  | none => (s, [])

/-- The disturbance blend on the pile of a tag (R40). -/
def State.blendPile (s : State) (tag f : Nat) (mf : Option Nat) : State :=
  match s.pileAt? tag with
  | none => s
  | some (slot, p) =>
    match s.gradeOf? p with
    | some g => s.mapPile slot fun p => blend g f mf p
    | none => s

/-- The estimated flag of a pile is set; its going from clear to set hands the slot (R5, R152). -/
def State.markEstimated (s : State) (tag : Nat) : State :=
  match s.pileAt? tag with
  | none => s
  | some (slot, p) =>
    if p.estimated then s else (s.mapPile slot fun p => { p with estimated := true }).hand .pile slot

/-- The fdef of the grade of the pile of a tag. -/
def State.fdefAt (s : State) (tag : Nat) : Nat :=
  (((s.pileAt? tag).bind fun e => s.gradeOf? e.2).map Grade.fdef).getD 0

/-- The max hold of a machine's permit is evaluated: a lapse blends with fdef and Mcore and marks the pile (R152). -/
def State.lapsePermit (s : State) (machine : Nat) : State × List Task :=
  match s.permit? machine with
  | some p =>
    if p.state = .granted ∧ s.permits.maxHold.of p.kind ≤ minutesSince s.now p.entered then
      ((s.blendPile p.tag (s.fdefAt p.tag) none).markEstimated p.tag,
        [.tellPile p.tag, .endPermit machine .lapsed true])
    else (s, [])
  | none => (s, [])

/-- The permit table at a change of the yard minute: prewet waits, max holds, then the requests still to be made (R148). -/
def State.permitMinute (s : State) : State × List Task :=
  (s, (s.permits.list.map fun p => .expirePrewet p.machine) ++ (s.permits.list.map fun p => .lapsePermit p.machine)
    ++ [.retryPrewets])

end Sys2Proof.Machine
end

