-- ==== Sys2Proof/Machine/Agenda.lean ====
section
/-! DEFINITION. The agenda of an event: what each telling does, and the carrying out of all of them, depth first (log
entry 7). -/

namespace Sys2Proof.Machine

/-- The pass of an order is closed down by its state, unless it has ended already (R82, R93). -/
def State.closePass (s : State) (o : Order) : State × List Task :=
  match o.pass with
  | some p => if p.state = .closed then (s, []) else s.closeDown p.cannon
  | none => (s, [])

/-- A reason joins an order's suspension set, and its pass is closed down by its state (R82). -/
def State.addReason (s : State) (id : Nat) (r : Reason) : State × List Task :=
  match s.order? id with
  | none => (s, [])
  | some o =>
    if o.isOpen = false ∨ o.suspension.has r = true then (s, [])
    else (s.mapOrder id fun o => o.withReason r).closePass o

/-- An open order is cancelled (R93). -/
def State.cancel (s : State) (id : Nat) : State × List Task :=
  match s.order? id with
  | none => (s, [])
  | some o =>
    match o.state with
    | .volleyHeld => s.endOrder id .cancelled
    | .waiting => s.endOrder id .cancelled
    | .ended => (s, [])
    | .active =>
      if o.cancelPending then (s, [])
      else (s.mapOrder id fun o => { o with cancelPending := true }).closePass o

/-- The pass of an order that ZONE has reached is closed down (R82, R151). -/
def State.closePassOf (s : State) (id : Nat) : State × List Task :=
  match s.order? id with
  | some o => s.closePass o
  | none => (s, [])

/-- The pass gain on the pile of a tag, with its runoff (R37, R38); nothing at 0 litres. -/
def State.applyGain (s : State) (tag vm : Nat) : State × List Task :=
  match s.pileAt? tag with
  | none => (s, [])
  | some (slot, p) =>
    match s.gradeOf? p with
    | none => (s, [])
    | some g =>
      if vm = 0 then (s, [])
      else
        let s1 := s.mapPile slot fun p => passGain g vm s.now p
        (if runoffOf g vm p = 0 then s1 else s1.creditPond (runoffOf g vm p), [.tellPile tag])

/-- A pass end: the pass CLOSED, the order credited, the gain applied, and the rest to follow (R89, steps 1 to 3). -/
def State.passEnd (s : State) (id : Nat) (kind : PassKind) (vm : Nat) : State × List Task :=
  match s.order? id with
  | none => (s, [])
  | some o =>
    let x := (s.mapOrder id fun o => o.creditedEnd kind vm).applyGain o.tag vm
    (x.1, x.2 ++ [.passNext id kind])

/-- The pass is settled and the order's next state decided (R89, steps 4 and 5; R90). -/
def State.passNext (s : State) (id : Nat) (kind : PassKind) : State × List Task :=
  match s.order? id with
  | none => (s, [])
  | some o =>
    let s1 := (s.mapOrder id fun o => { o with pass := none }).evalSpent
    match s1.outcomeAfter o kind with
    | some x =>
      (s1.mapOrder id fun o => o.ended x s.now s.events, [.passTold o.tag, .orderEnded id])
    | none =>
      ((s1.mapOrder id fun o => { o with state := .waiting, lapseRef := s.now }).occasion, [.passTold o.tag])

/-- What follows the ending of an order: the ORDER change set, then the pile table for a RETIRING pile, then the permit
table for a PREWET order (R77). -/
def State.orderEnded (s : State) (id : Nat) : State × List Task :=
  match s.order? id with
  | none => (s, [])
  | some o =>
    (s.hand .order id,
      .checkFree o.tag ::
        match o.origin, o.outcome with
        | .prewet, some x => [.prewetEnded id x]
        | _, _ => [])

/-- What one telling does: the state after it and the tellings it brings about. -/
def doTask (quiet : Option Nat) (t : Task) (s : State) : State × List Task :=
  match t with
  | .addReason id r => s.addReason id r
  | .cancel id => s.cancel id
  | .passEnd id kind vm => s.passEnd id kind vm
  | .passNext id kind => s.passNext id kind
  | .passTold tag => s.passTold quiet tag
  | .orderEnded id => s.orderEnded id
  | .prewetEnded id x => s.prewetEnded id x
  | .askPrewet tag only => s.askPrewet tag only
  | .retryPrewets => s.retryPrewets
  | .tellPile tag => s.tellPile quiet tag
  | .closePass id => s.closePassOf id
  | .askGrant tag => (s.askGrant quiet tag, [])
  | .endPermit machine x withM => s.endPermit quiet machine x withM
  | .checkRetire tag => s.checkRetire tag
  | .liftZone tag => (s.liftZone tag, [])
  | .checkFree tag => (s.checkFree tag, [])
  | .lapseOrder id => s.lapseOrder id
  | .lapseOrders => (s, s.dispatch.orders.map fun o => .lapseOrder o.id)
  | .expirePrewet machine => s.expirePrewet machine
  | .lapsePermit machine => s.lapsePermit machine
  | .permitMinute => s.permitMinute
  | .blendPile tag f mf => (s.blendPile tag f mf, [])
  | .selectWeather => s.selectWeather
  | .evalHolds => s.evalHolds
  | .decayTrips => (s.decayTrips, [])
  | .rollOver => (s.rollOver, [])

/-- The tellings carried out one by one, those a telling brings about before the ones that waited (log entry 7). -/
def runTasks (quiet : Option Nat) : Nat → List Task → State → State
  | 0, _, s => s
  | _ + 1, [], s => s
  | fuel + 1, t :: rest, s => runTasks quiet fuel ((doTask quiet t s).2 ++ rest) (doTask quiet t s).1

/-- The state once every telling of an event has been carried out. -/
def State.settle (s : State) (quiet : Option Nat) (tasks : List Task) : State :=
  runTasks quiet Config.agendaFuel tasks s

/-- An operation with its tellings carried out. -/
def settled (x : State × List Task) : State := x.1.settle none x.2

end Sys2Proof.Machine
end

