-- ==== Sys2Proof/Machine/WaterOps.lean ====
section
/-! DEFINITION. The events of the reuse tank's gauge and of the transfer station (spec/07, sections 7.2 and 7.5). -/

namespace Sys2Proof.Machine

/-! ## The gauge -/

/-- The tank record is changed. -/
def State.withTank (s : State) (t : Tank) : State := { s with water := { s.water with tank := some t } }

/-- A tank with its two level flags evaluated against a level (R127). -/
def Tank.marked (t : Tank) (level : Nat) : Tank :=
  { t with
    nearEmpty := nearEmptyNext t.config level t.nearEmpty
    nearFull := nearFullNext t.config level t.nearFull }

/-- A tank with its quality hold evaluated on a turbidity (R128). -/
def Tank.judged (t : Tank) (turbidity : Nat) : Tank :=
  let q := qualityNext t.config.turbidityLimit turbidity t.qualityHold t.qualityCount
  { t with qualityHold := q.1, qualityCount := q.2 }

/-- A tank after a reading (R126, steps 1 to 4). -/
def Tank.read (t : Tank) (level turbidity : Nat) (alarm : Bool) : Tank :=
  { ((t.marked (min level t.config.capacity)).judged turbidity) with
    reading := some ⟨min level t.config.capacity, turbidity, alarm⟩
    fresh := true
    age := some 0 }

/-- A change of the tank's flags raises the WATER notice: a level flag set, or the quality hold changed (R141). -/
def Tank.noticed (t t' : Tank) : Bool :=
  (t'.nearEmpty && !t.nearEmpty) || (t'.nearFull && !t.nearFull) || t'.qualityHold != t.qualityHold

/-- The reports a change of the tank's flags makes to the dispatcher: near-empty or the quality hold clearing (R131). -/
def Tank.reports (t t' : Tank) : Nat :=
  (t.nearEmpty && !t'.nearEmpty).toNat + (t.qualityHold && !t'.qualityHold).toNat

/-- A number of reports to the dispatcher, each of which occasions an arbitration (R131). -/
def State.report (s : State) (k : Nat) : State := { s with dispatch := { s.dispatch with due := s.dispatch.due + k } }

/-- A tank's record replaces another, with the notice and the reports its flags call for. -/
def State.retank (s : State) (t t' : Tank) : State :=
  let s1 := (s.withTank t').report (t.reports t')
  if t.noticed t' then s1.raiseWater else s1

/-- A gauge reply is taken as one reading (R126). -/
def State.takeReading (s : State) (level turbidity : Nat) (alarm : Bool) : State :=
  match s.water.tank with
  | none => s
  | some t => (s.retank t (t.read level turbidity alarm)).occasion.evalTransfer

/-- The stale timer of the gauge runs and has reached the stale limit (R125, R129). -/
def Tank.overdue (t : Tank) : Bool := t.fresh && decide (t.config.stale ≤ t.age.getD 0)

/-- The stale expiry of the gauge, when the age of its reading has reached the stale limit (R129). -/
def State.staleGauge (s : State) : State :=
  match s.water.tank with
  | none => s
  | some t =>
    if t.overdue then (s.withTank { t with fresh := false, qualityCount := 0 }).raiseWater.evalTransfer else s

/-! ## The transfer station -/

/-- The meter of a transfer reply debits the pond; a debit beyond its volume empties it and stops the run (R139). -/
def State.debitPond (s : State) (p : Nat) : State :=
  if p ≤ s.water.pond.volume then s.mapPond fun x => { x with volume := x.volume - p }
  else
    let s1 := s.mapPond fun x => { x with volume := 0 }
    match s.water.transfer.state with
    | .starting => s1.stopRun .pondEmpty
    | .running => s1.stopRun .pondEmpty
    | .stopped => s1
    | .stopping => s1

/-- The slot of the transfer node is empty. -/
def State.transferSlotEmpty (s : State) : Bool := (s.water.pond.node.bind s.slot?).isNone

/-- The pump report of a transfer reply acts by state (R139). -/
def State.pumpReport (s : State) (running : Bool) : State :=
  match s.water.transfer.state with
  | .starting =>
    if running then s.mapTransfer fun t => { t with state := .running, startWait := none, runWaiting := false } else s
  | .running =>
    if running then s
    else (s.mapTransfer fun t =>
      { t with state := .stopped, lastEnd := some .pumpStopped, holdOff := some Config.holdOff }).raiseWater
  | .stopping =>
    if running = false ∧ s.transferSlotEmpty = true then
      s.mapTransfer fun t => { t with
        state := .stopped
        holdOff := if t.pendingHoldOff then some Config.holdOff else t.holdOff
        pendingHoldOff := false }
    else s
  | .stopped => if running then s.placeStopRun else s

/-- A valid reply of the transfer node is taken (R139); one evaluation follows a debit, an arrival at STOPPED or a
rejoining (log entry 10). -/
def State.takeTransferReply (s : State) (running : Bool) (meter : Nat) (rejoined : Bool) : State :=
  let p := meterDelta s.water.transfer.meterLast meter
  let s1 := ((s.mapTransfer fun t => { t with meterLast := some meter }).debitPond p).pumpReport running
  let arrived := s1.water.transfer.state == .stopped && s.water.transfer.state != .stopped
  if p ≠ 0 ∨ arrived = true ∨ rejoined = true then s1.evalTransfer else s1

/-- The transfer node is declared LOST (R140). -/
def State.transferLost (s : State) : State :=
  if s.water.transfer.state = .stopped then s.mapTransfer fun t => { t with meterLast := none }
  else
    (s.mapTransfer fun t => { t with
      state := .stopped
      lastEnd := some .nodeLost
      startWait := none
      holdOff := none
      pendingHoldOff := false
      runWaiting := false
      meterLast := none }).evalTransfer

/-- The slot of the transfer node has emptied: a waiting RUN is placed if the run is still STARTING (R138). -/
def State.transferSlotEmptied (s : State) : State :=
  if s.water.transfer.runWaiting = true ∧ s.water.transfer.state = .starting then s.startRun else s

/-- The start wait expires with the run still STARTING: its time has run out (R140). -/
def State.startWaitExpiry (s : State) : State :=
  if s.water.transfer.state = .starting ∧ s.water.transfer.startWait = some 0 then
    ((s.stopRun .startFailed).mapTransfer fun t => { t with pendingHoldOff := true }).raiseWater
  else s

/-- The hold-off ends: its time has run out (R140). -/
def State.holdOffEnd (s : State) : State :=
  if s.water.transfer.state = .stopped ∧ s.water.transfer.holdOff = some 0 then
    (s.mapTransfer fun t => { t with holdOff := none }).evalTransfer
  else s

end Sys2Proof.Machine
end

