-- ==== Sys2Proof/Machine/LoopMaster.lean ====
section
/-! DEFINITION. The loop master (spec/09): the node list, rounds, exchanges, misses and the call slot. -/

namespace Sys2Proof.Machine

/-! ## Rounds (R160) -/

/-- A lost node whose countdown reaches 0 at this start: it is due a probe (R160). -/
def Node.due (n : Node) : Bool := n.lost && decide (n.countdown.getD 0 ≤ 1)

/-- A node entry at the start of a round: the countdown of a lost node falls by 1, and is set back to 8 when it reaches 0
(R160). -/
def Node.counted (n : Node) : Node :=
  if n.lost then
    { n with countdown := some (if n.due then Config.probeRounds else n.countdown.getD 0 - 1) }
  else n

/-- The nodes a round serves: the call winner first, then the others that are not lost or are due, in ascending address
(R160). -/
def Loop.todo (l : Loop) : List Nat :=
  l.winner.toList ++
    (l.nodes.filter fun e => some e.1 != l.winner && (!e.2.lost || e.2.due)).map Prod.fst

/-- A round starts (R160). The call winner becomes absent here, though its message is sent by the round's first MESSAGE
(log entry 46). -/
def Loop.startRound (l : Loop) : Loop :=
  { l with
    roundCount := (l.roundCount + 1) % Config.two32
    timer := .running l.period
    nodes := l.nodes.map fun e => (e.1, e.2.counted)
    winner := none
    phase := .between l.todo }

/-- The round ends with its call slot: the next starts at once when the round timer has expired (R160, R161). -/
def Loop.endRound (l : Loop) : Loop :=
  match l.timer with
  | .expired => l.startRound
  | .running _ => { l with phase := .noRound }
  | .stopped => { l with phase := .noRound }

/-! ## The node list (R159) -/

/-- A node entry as added (R159). -/
def Node.added (owner : Owner) (extraDelay : Nat) : Node := ⟨owner, extraDelay, none, 0, false, none, 0⟩

/-- A node is added; the first one starts the loop and a round (R159). -/
def State.addNode (s : State) (a : Nat) (owner : Owner) (extraDelay : Nat) : State :=
  let l := { s.loop with nodes := Table.set s.loop.nodes a (Node.added owner extraDelay) }
  { s with loop := if l.nodes.length = 1 ∧ l.running = false then Loop.startRound { l with running := true } else l }

/-- Where the round stands once a node has left the list (R159). -/
def Phase.without (p : Phase) (a : Nat) : Phase :=
  match p with
  | .noRound => .noRound
  | .between todo => .between (todo.filter (· != a))
  | .exchange b sent todo =>
    if b = a then .between (todo.filter (· != a)) else .exchange b sent (todo.filter (· != a))
  | .calling => .calling

/-- A node is removed with its slot and counts; the last one stops the loop (R159). -/
def State.removeNode (s : State) (a : Nat) : State :=
  let nodes := Table.erase s.loop.nodes a
  if nodes.isEmpty then
    { s with loop := { s.loop with nodes := nodes, running := false, winner := none, phase := .noRound, timer := .stopped } }
  else
    { s with loop := { s.loop with
        nodes := nodes
        winner := s.loop.winner.filter (· != a)
        phase := s.loop.phase.without a } }

/-! ## Taking a reply (R164) -/

/-- The owner of a node is told that its slot has emptied (R162). -/
def State.slotEmptied (s : State) : Owner → State
  | .cannon n => s.cannonSlotEmptied n
  | .pond => s.transferSlotEmptied
  | .mast _ => s
  | .tank => s

/-- A valid reply is handed to the owner of its node (R164, step 4). -/
def State.handOn (s : State) (owner : Owner) (r : NodeReply) (rejoined : Bool) : State × List Task :=
  match owner, r with
  | .cannon n, .cannon report meter => s.takeCannonReply n report meter
  | .mast n, .mast speed direction rh rain temp => s.takeSample n speed direction rh rain temp
  | .tank, .gauge level turbidity alarm => (s.takeReading level turbidity alarm, [])
  | .pond, .transfer running meter => (s.takeTransferReply running meter rejoined, [])
  | _, _ => (s, [])

/-- A node entry after a valid reply: no misses, and rejoined when it was lost (R164, steps 1 and 2). -/
def Node.answered (n : Node) : Node := { n with misses := 0, lost := false, countdown := none }

/-- The exchange under way ends: the round goes on to the nodes still to be served. -/
def State.withPhase (s : State) (p : Phase) : State := { s with loop := { s.loop with phase := p } }

/-- The slot is emptied if it still holds the command the exchange carried, and the owner is told (R164, step 3). -/
def State.emptySlot (s : State) (a : Nat) (owner : Owner) (sent : Sent) : State :=
  match sent with
  | .command c =>
    if s.slot? a = some c then (s.mapNode a fun n => { n with slot := none }).slotEmptied owner else s
  | .probe => s
  | .poll => s

/-- A valid reply in an exchange is taken (R164). -/
def State.takeReply (s : State) (a : Nat) (n : Node) (sent : Sent) (r : NodeReply) : State :=
  settled (((s.mapNode a Node.answered).emptySlot a n.owner sent).handOn n.owner r n.lost)

/-! ## Misses (R165) -/

/-- A node entry after a miss that does not declare it LOST (R165). -/
def Node.missed (n : Node) : Node :=
  { n with totalMisses := satAdd16 n.totalMisses 1, misses := if n.lost then n.misses else n.misses + 1 }

/-- A node entry declared LOST: a pending starting command is discarded, a stopping one kept (R165). -/
def Node.declared (n : Node) : Node :=
  { n with
    totalMisses := satAdd16 n.totalMisses 1
    misses := 0
    lost := true
    countdown := some Config.probeRounds
    slot := n.slot.filter LoopCommand.stopping }

/-- This miss is the third in a row of a node that is not lost (R165). -/
def Node.thirdMiss (n : Node) : Bool := !n.lost && decide (Config.lostMisses ≤ n.misses + 1)

/-- The owner of a node is told of its declaration (R165). -/
def State.ownerLost (s : State) : Owner → State × List Task
  | .cannon n => s.cannonLost n
  | .pond => (s.transferLost, [])
  | .mast _ => (s, [])
  | .tank => (s, [])

/-- An exchange ends without a valid reply (R165). -/
def State.takeMiss (s : State) (a : Nat) (n : Node) : State :=
  if n.thirdMiss then settled ((s.mapNode a Node.declared).ownerLost n.owner) else s.mapNode a Node.missed

/-! ## The events of a round -/

/-- The message an exchange with a node carries: PROBE to a lost node, else its pending command, else POLL (R163). -/
def Node.message (n : Node) : Sent :=
  if n.lost then .probe
  else
    match n.slot with
    | some c => .command c
    | none => .poll

/-- The next message of the round is sent (R163). -/
def State.sendMessage (s : State) : State :=
  match s.loop.phase with
  | .between (a :: rest) =>
    match s.node? a with
    | some n =>
      { s with loop := { s.loop with phase := .exchange a n.message rest, line := Sent.bytes a n.message } }
    | none => s
  | .between [] => s
  | .noRound => s
  | .exchange _ _ _ => s
  | .calling => s

/-- The exchange under way ends with the bytes that came in the reply window: a valid reply, or a miss (R163 to R165). -/
def State.endExchange (s : State) (bytes : List Byte) : State :=
  match s.loop.phase with
  | .exchange a sent rest =>
    match s.node? a with
    | some n =>
      match parseReply a n.owner.kind bytes with
      | some r => (s.withPhase (.between rest)).takeReply a n sent r
      | none => (s.withPhase (.between rest)).takeMiss a n
    | none => s
  | .noRound => s
  | .between _ => s
  | .calling => s

/-- The exchange under way ends without a reply (R165). -/
def State.endSilent (s : State) : State :=
  match s.loop.phase with
  | .exchange a _ rest =>
    match s.node? a with
    | some n => (s.withPhase (.between rest)).takeMiss a n
    | none => s
  | .noRound => s
  | .between _ => s
  | .calling => s

/-- CALL is sent after the last exchange of the round (R167). -/
def State.sendCall (s : State) : State :=
  match s.loop.phase with
  | .between [] => { s with loop := { s.loop with phase := .calling, line := callMessage } }
  | .between (_ :: _) => s
  | .noRound => s
  | .exchange _ _ _ => s
  | .calling => s

/-- The call slot ends, and with it the round (R160, R167). -/
def State.endRound (s : State) : State := { s with loop := s.loop.endRound }

/-- A call answer that passes the checks is taken: no slot is emptied, and its node becomes the call winner (R167). -/
def State.takeCall (s : State) (a : Nat) (n : Node) (r : NodeReply) : State :=
  let s1 := settled ((s.mapNode a Node.answered).handOn n.owner r n.lost)
  State.endRound { s1 with loop := { s1.loop with winner := some a } }

/-- The call slot brings an answer (R167). -/
def State.endCall (s : State) (bytes : List Byte) : State :=
  match s.loop.phase with
  | .calling =>
    match s.node? (u8 bytes 0).toNat with
    | some n =>
      match parseReply (u8 bytes 0).toNat n.owner.kind bytes with
      | some r => s.takeCall (u8 bytes 0).toNat n r
      | none => s.endRound
    | none => s.endRound
  | .noRound => s
  | .between _ => s
  | .exchange _ _ _ => s

/-- The call slot ends without an answer (R167). -/
def State.endCallSilent (s : State) : State :=
  match s.loop.phase with
  | .calling => s.endRound
  | .noRound => s
  | .between _ => s
  | .exchange _ _ _ => s

/-- The round timer expires after the call slot has ended: a round starts (R160). -/
def State.timerStart (s : State) : State :=
  if s.loop.running = true ∧ s.loop.phase = .noRound then { s with loop := s.loop.startRound } else s

/-- The round timer expires while a round is running: an overrun (R161). -/
def State.timerOverrun (s : State) : State :=
  match s.loop.timer with
  | .running _ =>
    if s.loop.running = true ∧ s.loop.phase ≠ .noRound then
      { s with loop := { s.loop with overruns := satAdd16 s.loop.overruns 1, timer := .expired } }
    else s
  | .stopped => s
  | .expired => s

end Sys2Proof.Machine
end

