-- ==== Sys2Proof/Machine/Piles.lean ====
section
/-! DEFINITION. The commands of the pile table and the grade table (spec/01). -/

namespace Sys2Proof.Machine

/-- What a meaning answers. -/
abbrev Out := Host.Outcome State Fault Refusal

/-! ## Bodies -/

/-- Every pile of a grade is clamped to its Msat (R8). -/
def State.clampGrade (s : State) (number : Nat) (g : Grade) : State :=
  { s with piles := s.piles.map fun e => if e.2.grade = number then (e.1, { e.2 with m := min e.2.m g.msat }) else e }

/-- The tellings of the piles of a grade, in slot order (R8, R17). -/
def State.gradeTold (s : State) (number : Nat) : List Task :=
  (s.piles.filter fun e => e.2.grade == number).map fun e => .tellPile e.2.tag

/-- LOAD-GRADE (R7, R8). -/
def State.loadGrade (s : State) (number : Byte) (a : GradeArgs) : State :=
  if gradeArgsOk number a then
    let s1 := { s.openEvent with grades := Table.set s.grades number.toNat (gradeOf a) }
    let s2 := s1.clampGrade number.toNat (gradeOf a)
    (settled (s2, s2.gradeTold number.toNat)).answer Code.loadGrade .ok []
  else s.answer Code.loadGrade .badArgument []

/-- The record of a pile at OPEN-PILE (R10). -/
def newPile (l : Model) (g : Grade) (a : OpenPileArgs) : Pile where
  tag := a.tag.toNat
  life := .live
  grade := a.grade.toNat
  area := a.area.toNat
  profile := a.profile
  m := min a.moisture.toNat g.msat
  residue := 0
  mcore := a.mcore.toNat
  lastWp := 0
  lastWgp := 0
  risk := 0
  band := bandOf l 0
  auto := a.auto
  estimated := false
  degraded := false
  retirePending := false
  lastWetted := none

/-- OPEN-PILE (R9, R10). -/
def State.openPile (s : State) (a : OpenPileArgs) : State :=
  if openPileArgsOk a = false then s.answer Code.openPile .badArgument []
  else if (s.pileAt? a.tag.toNat).isSome then s.answer Code.openPile .duplicate []
  else
    match Table.get s.grades a.grade.toNat with
    | none => s.answer Code.openPile .unknownGrade []
    | some g =>
      match Table.lowestFree s.piles Config.pileSlots with
      | none => s.answer Code.openPile .full []
      | some slot =>
        { s with piles := Table.set s.piles slot (newPile s.model g a) }.answer Code.openPile .ok (be8 slot)

/-- A pile with the fields AMEND-PILE carries, but for the grade, written (R11). -/
def Pile.amended (p : Pile) (a : AmendPileArgs) : Pile :=
  { p with
    area := (a.area.map (·.toNat)).getD p.area
    profile := a.profile.getD p.profile
    mcore := (a.mcore.map (·.toNat)).getD p.mcore
    auto := a.auto.getD p.auto }

/-- A pile that takes its constants from a grade from now on (R12). -/
def Pile.regraded (p : Pile) (number : Nat) (g : Grade) : Pile := { p with grade := number, m := min p.m g.msat }

/-- AMEND-PILE (R11, R12). -/
def State.amendPile (s : State) (a : AmendPileArgs) : State :=
  match s.pileAt? a.tag.toNat with
  | none => s.answer Code.amendPile .unknown []
  | some (slot, p) =>
    if amendPileArgsOk a = false then s.answer Code.amendPile .badArgument []
    else
      match a.grade with
      | none => (s.mapPile slot fun p => p.amended a).answer Code.amendPile .ok []
      | some n =>
        match Table.get s.grades n.toNat with
        | none => s.answer Code.amendPile .unknownGrade []
        | some g =>
          if n.toNat = p.grade then (s.mapPile slot fun p => p.amended a).answer Code.amendPile .ok []
          else
            (settled (s.openEvent.mapPile slot fun p => (p.amended a).regraded n.toNat g,
              [.tellPile a.tag.toNat])).answer Code.amendPile .ok []

/-- The 34 bytes of the READ-PILE reply for a slot that holds a pile (R189). -/
def State.pileBytes (s : State) (slot : Nat) (p : Pile) : List Byte :=
  be8 slot ++ be8 p.life.code ++ be16 p.tag ++ be8 p.grade ++ be16 p.area ++ profileBytes p.profile ++ be16 p.m
    ++ be16 p.residue ++ be16 p.mcore ++ be16 p.lastWp ++ be16 p.lastWgp ++ be8 p.risk ++ be8 p.band.code
    ++ [flagByte [p.auto, p.estimated, p.degraded, p.retirePending, p.lastWetted.isSome]]
    ++ be32 (p.lastWetted.getD 0) ++ be8 (s.openOn p.tag).length ++ be8 (s.permitsOn p.tag).length

/-- READ-PILE by slot number (R13). -/
def State.readPileSlot (s : State) (slot : Nat) : State :=
  if Config.pileSlots ≤ slot then s.answer Code.readPile .badArgument []
  else
    match Table.get s.piles slot with
    | none => s.answer Code.readPile .ok (be8 slot ++ be8 0)
    | some p => s.answer Code.readPile .ok (s.pileBytes slot p)

/-- READ-PILE (R13): selector 0 by tag, 1 by slot (R189). -/
def State.readPile (s : State) (selector : Byte) (value : Half) : State :=
  match selector.toNat with
  | 0 =>
    match s.pileAt? value.toNat with
    | none => s.answer Code.readPile .unknown []
    | some (slot, p) => s.answer Code.readPile .ok (s.pileBytes slot p)
  | 1 => s.readPileSlot value.toNat
  | _ => s.answer Code.readPile .badArgument []

/-- A pile joins a list ordered by descending risk, after those of equal risk (R14). -/
def rankInsert (x : Nat × Pile) : List (Nat × Pile) → List (Nat × Pile)
  | [] => [x]
  | y :: t => if y.2.risk < x.2.risk then x :: y :: t else y :: rankInsert x t

/-- Piles ordered by descending risk, and by ascending slot among equals (R14). -/
def rankOf (ps : List (Nat × Pile)) : List (Nat × Pile) := ps.foldl (fun acc x => rankInsert x acc) []

/-- RANK-PILES (R14). -/
def State.rankPiles (s : State) (band : Byte) : State :=
  match Band.ofCode band.toNat with
  | none => s.answer Code.rankPiles .badArgument []
  | some b =>
    let chosen := rankOf (s.piles.filter fun e => e.2.life == .live && decide (b.code ≤ e.2.band.code))
    s.answer Code.rankPiles .ok (be8 chosen.length
      ++ counted ((chosen.take 16).map fun e => be16 e.2.tag ++ be8 e.2.risk))

/-- The grade's Msat of a pile (R2). -/
def State.msatOf (s : State) (p : Pile) : Nat := ((s.gradeOf? p).map Grade.msat).getD Config.maxMoisture

/-- SET-MOISTURE (R15). -/
def State.setMoisture (s : State) (tag : Half) (value : Half) : State :=
  match s.pileAt? tag.toNat with
  | none => s.answer Code.setMoisture .unknown []
  | some (slot, p) =>
    let m := min value.toNat (min Config.maxMoisture (s.msatOf p))
    (settled (s.openEvent.mapPile slot fun p => { p with m := m, residue := 0, estimated := false },
      [.tellPile tag.toNat])).answer Code.setMoisture .ok (be16 m)

/-- The surface moisture of the pile of a tag. -/
def State.moistureAt (s : State) (tag : Nat) : Nat := ((s.pileAt? tag).map fun e => e.2.m).getD 0

/-- REPORT-DISTURBANCE (R16). -/
def State.reportDisturbance (s : State) (tag : Half) (f : Byte) (mf : Option Half) : State :=
  match s.pileAt? tag.toNat with
  | none => s.answer Code.reportDisturbance .unknown []
  | some _ =>
    let s1 := s.openEvent.blendPile tag.toNat f.toNat (mf.map (·.toNat))
    (settled (s1, [.tellPile tag.toNat])).answer Code.reportDisturbance .ok (be16 (s1.moistureAt tag.toNat))

/-- RETIRE-PILE (R18). -/
def State.retirePile (s : State) (tag : Half) : State :=
  match s.pileAt? tag.toNat with
  | none => s.answer Code.retirePile .unknown []
  | some (slot, p) =>
    if p.life = .retiring then s.answer Code.retirePile .retiring []
    else if s.permitsOn tag.toNat ≠ [] then s.answer Code.retirePile .inUse []
    else
      let s1 := s.openEvent.mapPile slot fun p => { p with life := .retiring }
      let s2 := settled (s1, ((s.openOn tag.toNat).map fun o => .cancel o.id) ++ [.checkFree tag.toNat])
      s2.answer Code.retirePile .ok (be8 (s.openOn tag.toNat).length ++ be8 (s2.openOn tag.toNat).length
        ++ be8 (((s2.pileAt? tag.toNat).map fun e => e.2.life.code).getD 0))

/-! ## Meanings -/

/-- LOAD_GRADE (R7, R8). -/
def execLoadGrade (number : Byte) (a : GradeArgs) (s : State) : Out := .next (s.loadGrade number a)
/-- OPEN_PILE (R9, R10). -/
def execOpenPile (a : OpenPileArgs) (s : State) : Out := .next (s.openPile a)
/-- AMEND_PILE (R11, R12). -/
def execAmendPile (a : AmendPileArgs) (s : State) : Out := .next (s.amendPile a)
/-- READ_PILE (R13). -/
def execReadPile (selector : Byte) (value : Half) (s : State) : Out := .next (s.readPile selector value)
/-- RANK_PILES (R14). -/
def execRankPiles (band : Byte) (s : State) : Out := .next (s.rankPiles band)
/-- SET_MOISTURE (R15). -/
def execSetMoisture (tag value : Half) (s : State) : Out := .next (s.setMoisture tag value)
/-- REPORT_DISTURBANCE (R16). -/
def execReportDisturbance (tag : Half) (f : Byte) (mf : Option Half) (s : State) : Out :=
  .next (s.reportDisturbance tag f mf)
/-- RETIRE_PILE (R18). -/
def execRetirePile (tag : Half) (s : State) : Out := .next (s.retirePile tag)

end Sys2Proof.Machine
end

