-- ==== Sys2Proof/Machine/MoistureModel.lean ====
section
/-! DEFINITION. The model step and the commands of the moisture model (spec/02). -/

namespace Sys2Proof.Machine

/-! ## The model step (R23 to R34) -/

/-- The first five stages on a pile's record (R25 to R29). -/
def stages1to5 (l : Model) (w : Weather) (g : Grade) (p : Pile) : Pile :=
  stageBand l (stageRisk g (stageDry w g (stageRain w g (stageWind w p))))

/-- An order placed by the moisture model. -/
def Order.isAuto (o : Order) : Bool := o.origin == .autoRisk || o.origin == .autoLookahead

/-- The open auto order of a pile, when it has one (R81). -/
def State.openAuto? (s : State) (tag : Nat) : Option Order := (s.openOn tag).find? Order.isAuto

/-- The reason of an auto order no longer holds, for the band and the look-ahead of this step (R31). -/
def Order.reasonGone (o : Order) (b : Band) (look : Look) : Bool :=
  match o.origin with
  | .autoRisk => b == .calm || b == .watch
  | .autoLookahead => look == .passed
  | .host => false
  | .prewet => false

/-- The withdrawal of stage 7 (R31). -/
def State.withdrawAuto (s : State) (tag : Nat) (b : Band) (look : Look) : State :=
  match s.openAuto? tag with
  | some o =>
    if o.state = .waiting ∧ o.passes = 0 ∧ o.reasonGone b look = true then settled (s.endOrder o.id .withdrawn) else s
  | none => s

/-- The origin and priority an auto order is asked for with, by band and look-ahead (R32). -/
def autoWanted (b : Band) (look : Look) : Option (Origin × Nat) :=
  match b with
  | .severe => some (.autoRisk, 2)
  | .act => some (.autoRisk, 1)
  | .watch => if look = .failed then some (.autoLookahead, 0) else none
  | .calm => if look = .failed then some (.autoLookahead, 0) else none

/-- The placement of stage 7, with the pile counted in the shortfall when the order table is full (R32). -/
def State.placeAuto (s : State) (g : Grade) (p : Pile) (look : Look) : State × Nat :=
  if p.life = .live ∧ p.auto = true ∧ s.wind.hold = false then
    match autoWanted p.band look, autoDose g s.dispatch.maxDose p with
    | some (origin, priority), some (dose, clamped) =>
      if s.ordersFull then (s, 1)
      else
        let a := s.accept ⟨p.tag, origin, priority, dose, clamped, .reuseThenFresh, none, none⟩
        (settled (a.1, a.2.2.2), 0)
    | _, _ => (s, 0)
  else (s, 0)

/-- An order's origin and priority changed at the model's request; a raise of a WAITING order occasions an arbitration
(R33, R81). -/
def State.raiseTo (s : State) (o : Order) (priority : Nat) : State :=
  let s1 := s.mapOrder o.id fun o => { o with origin := .autoRisk, priority := priority }
  if o.state = .waiting ∧ o.priority < priority then s1.occasion else s1

/-- The raise of stage 7 (R33). -/
def State.raiseAuto (s : State) (o : Order) (b : Band) : State :=
  match autoWanted b .notEvaluated with
  | some (_, priority) => if o.origin = .autoLookahead ∨ o.priority < priority then s.raiseTo o priority else s
  | none => s

/-- Stage 7: withdrawal, then placement or raise (R31 to R33). On a RETIRING pile an ACTIVE auto order whose cancellation is
pending is raised as on a LIVE one, though R31 takes such a pile to have no open auto order (log entry 49). -/
def State.stageAuto (s : State) (g : Grade) (p : Pile) (look : Look) : State × Nat :=
  let s1 := s.withdrawAuto p.tag p.band look
  match s1.openAuto? p.tag with
  | some o => (s1.raiseAuto o p.band, 0)
  | none => s1.placeAuto g p look

/-- The eight stages on the pile of one slot, with the count of the shortfall (R23). -/
def State.stepPile (acc : State × Nat) (slot : Nat) : State × Nat :=
  let s := acc.1
  match Table.get s.piles slot with
  | none => acc
  | some p =>
    match s.gradeOf? p with
    | none => acc
    | some g =>
      let w := s.wind.weather
      let p1 := stages1to5 s.model w g p
      let s1 := s.mapPile slot fun _ => p1
      let s2 := if p1.band = p.band then s1 else s1.hand .pile slot
      let x := s2.stageAuto g p1 (stageLook g s.model.lead (s.forecast.lookup (s.now + s.model.lead)) p1)
      let s3 := x.1.mapPile slot fun p => stageDegraded w p
      (if (stageDegraded w p1).degraded && !p.degraded then s3.hand .pile slot else s3, acc.2 + x.2)

/-- The tellings that close a step: the LIVE piles whose M differs from before it, in slot order (R34). -/
def stepTold (old new : Table Pile) : List Task :=
  (new.filter fun e => e.2.life == .live && (Table.get old e.1).any fun p => p.m != e.2.m).map fun e =>
    .tellPile e.2.tag

/-- One model step (R23): every pile in slot order, then the record of the step and the tellings (R34). -/
def State.takeStep (s : State) : State :=
  let s0 := s.openEvent
  let x := (Table.keys s0.piles).foldl State.stepPile (s0, 0)
  let s1 := { x.1 with model := { x.1.model with
    lastStep := some s.now, stepped := s0.piles.length, shortfall := x.2 } }
  settled (s1, stepTold s.piles s1.piles)

/-- MODEL_STEP (R23, R177): one model step for an expiry of the step timer handed to the moisture model; nothing where none
is (log entry 6). -/
def State.modelStep (s : State) : State :=
  match s.clock.modelDue.taken? s.clock.stepLeft with
  | some x => { s with clock := { s.clock with modelDue := x } }.takeStep
  | none => s

/-! ## Settings (R41 to R43) -/

/-- SET-LEAD (R41). -/
def State.setLead (s : State) (value : Half) : State :=
  { s with model := { s.model with lead := min value.toNat 240 } }.answer Code.setLead .ok (be8 (min value.toNat 240))

/-- The slots whose band differs from the band their risk selects under some limits (R42). -/
def bandMoves (l : Model) (ps : Table Pile) : List Nat :=
  (ps.filter fun e => bandOf l e.2.risk != e.2.band).map Prod.fst

/-- SET-BANDS (R42). -/
def State.setBands (s : State) (b1 b2 b3 : Byte) : State :=
  if bandsOk b1 b2 b3 then
    let l : Model := { s.model with b1 := b1.toNat, b2 := b2.toNat, b3 := b3.toNat }
    let s1 : State := { s with model := l, piles := s.piles.map fun e => (e.1, stageBand l e.2) }
    ((bandMoves l s.piles).foldl (fun s k => s.hand .pile k) s1).answer Code.setBands .ok
      (be8 (bandMoves l s.piles).length)
  else s.answer Code.setBands .badArgument []

/-- READ-MODEL (R43). -/
def State.readModel (s : State) : State :=
  s.answer Code.readModel .ok (pack [.always (be8 s.model.lead), .always (be8 s.model.b1), .always (be8 s.model.b2),
    .always (be8 s.model.b3), opt32 s.model.lastStep, .always (be8 s.model.stepped), .always (be8 s.model.shortfall)])

/-! ## Meanings -/

/-- SET_LEAD (R41). -/
def execSetLead (value : Half) (s : State) : Out := .next (s.setLead value)
/-- SET_BANDS (R42). -/
def execSetBands (b1 b2 b3 : Byte) (s : State) : Out := .next (s.setBands b1 b2 b3)
/-- READ_MODEL (R43). -/
def execReadModel (s : State) : Out := .next s.readModel
/-- MODEL_STEP (R23). -/
def execModelStep (s : State) : Out := .next s.modelStep

end Sys2Proof.Machine
end

