-- ==== Sys2Proof/Machine/WindCommands.lean ====
section
/-! DEFINITION. The commands and the timer event of the wind monitor (spec/03), and the commands of the forecast table
(spec/04). -/

namespace Sys2Proof.Machine

/-- An address is held by a node of another owner (R45, R102, R125, R135). -/
def State.heldByOther (s : State) (a : Nat) (owner : Owner) : Bool := (s.node? a).any fun n => n.owner != owner

/-! ## Masts -/

/-- The mast table changed. -/
def State.withMasts (s : State) (masts : Table Mast) : State := { s with wind := { s.wind with masts := masts } }

/-- The selection that follows a LOAD-MAST which discards a mast's samples (R45). -/
def State.reselect (s : State) (m : Mast) : State := if m.inst.isSome then settled (s, [.selectWeather]) else s

/-- LOAD-MAST once its checks have passed (R45); a stale limit already reached makes the mast stale at once. -/
def State.takeMast (s : State) (n a stale : Nat) : State :=
  match Table.get s.wind.masts n with
  | none =>
    if a = 0 then s else (s.withMasts (Table.set s.wind.masts n (Mast.loaded a stale))).addNode a (.mast n) 0
  | some m =>
    if a = 0 then ((s.withMasts (Table.erase s.wind.masts n)).removeNode m.node).reselect m
    else if a = m.node then
      settled ((s.mapMast n fun m => { m with stale := stale }).staleMast n)
    else
      (((s.withMasts (Table.set s.wind.masts n (Mast.loaded a stale))).removeNode m.node).addNode a (.mast n) 0).reselect
        m

/-- LOAD-MAST (R45). -/
def State.loadMast (s : State) (mast node : Byte) (stale : Half) : State :=
  if mastArgsOk mast node stale = false then s.answer Code.loadMast .badArgument []
  else if node ≠ 0 ∧ s.heldByOther node.toNat (.mast mast.toNat) = true then s.answer Code.loadMast .duplicate []
  else (s.openEvent.takeMast mast.toNat node.toNat (staleOf stale)).answer Code.loadMast .ok []

/-- SET-WIND-LIMITS (R57). -/
def State.setWindLimits (s : State) (a : WindLimitArgs) : State :=
  let l := windLimitsOf a
  if windLimitsOk l then
    let s0 := s.openEvent
    let s1 := { s0 with wind := { s0.wind with
      limits := l
      masts := s0.wind.masts.map fun e => (e.1, { e.2 with gustCount := 0 }) } }
    let s2 := settled (s1, [.evalHolds])
    s2.answer Code.setWindLimits .ok (flag s2.wind.cutOut ++ flag s2.wind.frost)
  else s.answer Code.setWindLimits .badArgument []

/-- The items of one mast in the READ-WIND reply; every item but the first is absent for an unloaded mast (R58), each
with a presence bit of its own (log entry 41). The gust state is told as a flag, ON 1 and OFF 0 (log entry 30). -/
def mastItems (m : Option Mast) : List Item :=
  [.always (flag m.isSome),
    opt8 (m.map (·.node)), opt16 (m.map (·.stale)), optFlag (m.map fun m => !m.fresh),
    opt8 (m.map fun m => m.ring.length), opt16 (m.bind Mast.average), opt16 (m.bind Mast.peak),
    opt16 (m.bind (·.inst)), opt8 (m.bind (·.octant)), opt8 (m.bind (·.pendingOctant)), optFlag (m.map (·.gust)),
    opt16 (m.bind (·.direction)), opt8 (m.bind (·.rh)), opt16 (m.bind (·.rain)), opt8s (m.bind (·.temp)),
    opt16 (m.bind (·.age))]

/-- The effective weather, the holds and the limits in the READ-WIND reply (R58). The holds are told as flags, ON 1 and OFF
0 (log entry 30). -/
def Wind.bytes (w : Wind) : List Byte :=
  be16 w.weather.speed ++ be16 w.weather.gustSpeed ++ be8 w.weather.octant ++ be8 w.weather.rh ++ be16 w.weather.rain
    ++ be8s w.weather.temp ++ be8 w.weather.source.code ++ flag w.cutOut ++ flag w.frost
    ++ be16 w.limits.gust ++ be16 w.limits.hysteresis ++ be16 w.limits.cutOut ++ be16 w.limits.release
    ++ be8s w.limits.frost ++ be8s w.limits.frostRelease

/-- READ-WIND (R58). -/
def State.readWind (s : State) : State :=
  s.answer Code.readWind .ok (s.wind.bytes
    ++ counted ((List.range Config.masts).map fun n => pack (mastItems (Table.get s.wind.masts n))))

/-! ## Forecasts -/

/-- A slot of a yard code is for this part (R63). -/
def Forecast.mine (f : Forecast) (code : Nat) : Bool := code == 0 || f.codes.contains code

/-- The earliest contender that refuses a slot by its issue (R66). -/
def Forecast.refuser? (f : Forecast) (now : Nat) (x : Slot) : Option Slot :=
  f.slots.find? fun y => x.overlaps y && !y.endedAt now && !issueStands x.issue y.issue

/-- The slots a new slot does not overlap (R66). -/
def Slot.keeps (x : Slot) (ys : List Slot) : List Slot := ys.filter fun y => !x.overlaps y

/-- A slot inserted in ascending start (R68). -/
def insertSlot (x : Slot) : List Slot → List Slot
  | [] => [x]
  | y :: t => if x.start < y.start then x :: y :: t else y :: insertSlot x t

/-- The latest-issue entries after a slot is inserted: position 0 for code 0, else every own position of its code (R68). -/
def Forecast.latestAfter (f : Forecast) (x : Slot) : List (Option Nat) :=
  List.zipWith (fun c old => if c = x.code then some x.issue else old)
    (0 :: f.codes.map fun c => if c = 0 then 256 else c) f.latest

/-- The forecast table with a slot inserted in the place of those it overlaps (R68). -/
def Forecast.inserted (f : Forecast) (x : Slot) : Forecast :=
  { f with slots := insertSlot x (x.keeps f.slots), latest := f.latestAfter x }

/-- The index at which a slot stands (R68). -/
def Slot.indexIn (x : Slot) (ys : List Slot) : Nat := (ys.filter fun y => decide (y.start < x.start)).length

/-- The slots that are not ended (R67, R69). -/
def Forecast.unended (f : Forecast) (now : Nat) : List Slot := f.slots.filter fun y => !y.endedAt now

/-- The forecast table in which room is looked for: with its ended slots retired when no room is found without (R67). -/
def Forecast.roomed (f : Forecast) (now : Nat) (x : Slot) : Forecast :=
  if (x.keeps f.slots).length < Config.forecastSlots then f else { f with slots := f.unended now }

/-- The forecast table replaced, and the effective weather selected once (R50). -/
def State.withForecast (s : State) (f : Forecast) : State :=
  settled ({ s with forecast := f }, [.selectWeather])

/-- POST-FORECAST once its slot stands: room and insertion (R67, R68). -/
def State.insertForecast (s : State) (broadcast : Bool) (x : Slot) : State :=
  let f := s.forecast.roomed s.now x
  let retired := s.forecast.slots.length - f.slots.length
  if (x.keeps f.slots).length < Config.forecastSlots then
    (s.withForecast (f.inserted x)).answerUnless broadcast Code.postForecast .ok
      (be8 (x.indexIn (x.keeps f.slots)) ++ be8 (f.slots.length - (x.keeps f.slots).length) ++ be8 retired
        ++ be8 ((x.keeps f.slots).length + 1))
  else (if retired = 0 then s else s.withForecast f).answerUnless broadcast Code.postForecast .full []

/-- POST-FORECAST (R62 to R68). -/
def State.postForecast (s : State) (broadcast : Bool) (a : ForecastArgs) : State :=
  let x := slotOf a
  if slotOk x = false then s.answerUnless broadcast Code.postForecast .badArgument []
  else if s.forecast.mine x.code = false then s.answerUnless broadcast Code.postForecast .notMine []
  else if x.endedAt s.now then s.answerUnless broadcast Code.postForecast .stale (be8 0 ++ be16 0)
  else
    match s.forecast.refuser? s.now x with
    | some y => s.answerUnless broadcast Code.postForecast .stale (be8 1 ++ be16 y.issue)
    | none => s.openEvent.insertForecast broadcast x

/-- The ended slots retired, and the effective weather selected when there were any (R69). -/
def State.retireSlots (s : State) : State :=
  if s.forecast.unended s.now = s.forecast.slots then s
  else s.openEvent.withForecast { s.forecast with slots := s.forecast.unended s.now }

/-- SLOT_RETIREMENT (R69, R177): the ended slots retired for an expiry of the step timer handed to the forecast table;
nothing where none is (log entry 6). -/
def State.slotRetirement (s : State) : State :=
  match s.clock.retireDue.taken? s.clock.stepLeft with
  | some x => { s with clock := { s.clock with retireDue := x } }.retireSlots
  | none => s

/-- The latest-issue entries after SET-YARD-CODES: absent where a position's code changes (R71). -/
def Forecast.latestRecoded (f : Forecast) (codes : List Nat) : List (Option Nat) :=
  f.latest.take 1 ++ List.zipWith (fun changed old => if changed then none else old)
    (List.zipWith (fun a b => a != b) f.codes codes) (f.latest.drop 1)

/-- SET-YARD-CODES (R71). -/
def State.setYardCodes (s : State) (c1 c2 c3 c4 : Byte) : State :=
  let codes := [c1.toNat, c2.toNat, c3.toNat, c4.toNat]
  { s with forecast := { s.forecast with codes := codes, latest := s.forecast.latestRecoded codes } }.answer
    Code.setYardCodes .ok []

/-- The bytes of a slot in the READ-FORECAST reply (R72). -/
def Slot.bytes (x : Slot) : List Byte :=
  be8 x.code ++ be16 x.issue ++ be32 x.start ++ be16 x.length ++ be16 x.wind ++ be16 x.gust ++ be8 x.octant ++ be8 x.rh
    ++ be16 x.rain ++ be8s x.temp

/-- The items every READ-FORECAST reply carries (R72). The five latest-issue entries are five optional items with bits in the
leading flag byte, not a counted group (log entry 39). -/
def State.forecastItems (s : State) : List Item :=
  [.always (be8 s.forecast.slots.length), .always (s.forecast.codes.flatMap be8)] ++ s.forecast.latest.map opt16
    ++ [.always (be32 s.now)]

/-- READ-FORECAST (R72): form 0 by minute, 1 by index. -/
def State.readForecast (s : State) (form : Byte) (key : Long) : State :=
  match form.toNat with
  | 0 =>
    match s.forecast.lookupIndexed key.toNat with
    | some (i, x) => s.answer Code.readForecast .ok (pack (.always (x.bytes ++ be8 i) :: s.forecastItems))
    | none => s.answer Code.readForecast .unknown (pack s.forecastItems)
  | 1 =>
    if Config.forecastSlots ≤ key.toNat then s.answer Code.readForecast .badArgument []
    else
      match s.forecast.slots[key.toNat]? with
      | some x => s.answer Code.readForecast .ok (pack (.always (x.bytes ++ flag (x.endedAt s.now)) :: s.forecastItems))
      | none => s.answer Code.readForecast .unknown (pack s.forecastItems)
  | _ => s.answer Code.readForecast .badArgument []

/-- CLEAR-FORECASTS (R73). -/
def State.clearForecasts (s : State) : State :=
  (s.openEvent.withForecast { s.forecast with slots := [], latest := [none, none, none, none, none] }).answer
    Code.clearForecasts .ok (be8 s.forecast.slots.length)

/-! ## Meanings -/

/-- LOAD_MAST (R45). -/
def execLoadMast (mast node : Byte) (stale : Half) (s : State) : Out := .next (s.loadMast mast node stale)
/-- MAST_STALE_EXPIRY (R49). -/
def execMastStaleExpiry (mast : Byte) (s : State) : Out := .next (settled (s.openEvent.staleMast mast.toNat))
/-- SET_WIND_LIMITS (R57). -/
def execSetWindLimits (a : WindLimitArgs) (s : State) : Out := .next (s.setWindLimits a)
/-- READ_WIND (R58). -/
def execReadWind (s : State) : Out := .next s.readWind
/-- POST_FORECAST (R62 to R68). -/
def execPostForecast (broadcast : Bool) (a : ForecastArgs) (s : State) : Out := .next (s.postForecast broadcast a)
/-- SLOT_RETIREMENT (R69). -/
def execSlotRetirement (s : State) : Out := .next s.slotRetirement
/-- SET_YARD_CODES (R71). -/
def execSetYardCodes (c1 c2 c3 c4 : Byte) (s : State) : Out := .next (s.setYardCodes c1 c2 c3 c4)
/-- READ_FORECAST (R72). -/
def execReadForecast (form : Byte) (key : Long) (s : State) : Out := .next (s.readForecast form key)
/-- CLEAR_FORECASTS (R73). -/
def execClearForecasts (s : State) : Out := .next s.clearForecasts

end Sys2Proof.Machine
end

