-- ==== Sys2Proof/Machine/OrderCommands.lean ====
section
/-! DEFINITION. The commands and events of the order dispatcher (spec/05). -/

namespace Sys2Proof.Machine

/-! ## PLACE-ORDER (R78 to R80) -/

/-- A plan entry that names a cannon fits that cannon's coverage of the pile (R79). -/
def State.entryFits (s : State) (tag : Nat) (e : PlanEntry) : Bool :=
  match e.cannon with
  | none => true
  | some n => (s.cannon? n).any fun c => c.coversArc tag e.arcStart e.arcEnd

/-- The share of an entry that names a cannon, clamped to that cannon's pass doses (R79). -/
def State.clampShare (s : State) (e : PlanEntry) : PlanEntry :=
  match e.cannon.bind s.cannon? with
  | some c =>
    { e with
      share := clamp c.config.minDose c.config.maxDose e.share
      remaining := clamp c.config.minDose c.config.maxDose e.share }
  | none => e

/-- The plan as it would be held (R79). -/
def State.planOf (s : State) (a : PlaceOrderArgs) : List PlanEntry :=
  (a.plan.map planEntryOf).map s.clampShare

/-- The sum of the shares of a plan. -/
def planDose (es : List PlanEntry) : Nat := (es.map PlanEntry.share).sum

/-- The plan passes the checks of R79. -/
def State.planOk (s : State) (a : PlaceOrderArgs) : Bool :=
  ((a.plan.map planEntryOf).all fun e => s.entryFits a.tag.toNat e)
    && (a.plan.isEmpty || decide (planDose (s.planOf a) ≤ s.dispatch.maxDose))

/-- The request PLACE-ORDER makes once its checks have passed (R79). -/
def State.placeRequest (s : State) (a : PlaceOrderArgs) : OrderRequest where
  tag := a.tag.toNat
  origin := .host
  priority := a.priority.toNat
  dose := if a.plan.isEmpty then min a.dose.toNat s.dispatch.maxDose else planDose (s.planOf a)
  clamped := a.plan.isEmpty && decide (s.dispatch.maxDose < a.dose.toNat)
  policy := (Policy.ofCode a.policy.toNat).getD .reuseOnly
  volley := a.volley.map (·.toNat)
  plan := if a.plan.isEmpty then none else some (s.planOf a)

/-- The state code of an order, ENDED when its record is gone. -/
def State.orderCode (s : State) (id : Nat) : Nat := ((s.order? id).map fun o => o.state.code).getD OrderState.ended.code

/-- A LIVE pile carries the tag. -/
def State.liveTag (s : State) (tag : Nat) : Bool := (s.pileAt? tag).any fun e => e.2.life == .live

/-- PLACE-ORDER (R78 to R80). -/
def State.placeOrder (s : State) (a : PlaceOrderArgs) : State :=
  if placeOrderArgsOk a = false then s.answer Code.placeOrder .badArgument []
  else if s.liveTag a.tag.toNat = false then s.answer Code.placeOrder .unknown []
  else if s.planOk a = false then s.answer Code.placeOrder .badPlan []
  else if s.ordersFull then s.answer Code.placeOrder .full []
  else
    let r := s.placeRequest a
    let x := s.openEvent.accept r
    let s2 := settled (x.1, x.2.2.2)
    s2.answer Code.placeOrder .ok (pack [.always (be16 x.2.1), .always (be8 (s2.orderCode x.2.1)), .always (be16 r.dose),
      .always (flag r.clamped), .always (s.suspensionAt r.tag).bytes, opt16 x.2.2.1])

/-! ## Suspension, cancellation and volley (R83, R93, R95) -/

/-- The reply of SUSPEND-ORDER and RESUME-ORDER: state, suspension set and pass state (R83). -/
def State.suspensionReply (s : State) (id : Nat) : List Byte :=
  match s.order? id with
  | some o => pack [.always (be8 o.state.code), .always o.suspension.bytes, opt8 (o.pass.map fun p => p.state.code)]
  | none => []

/-- SUSPEND-ORDER (R83). -/
def State.suspendOrder (s : State) (id : Half) : State :=
  match s.order? id.toNat with
  | none => s.answer Code.suspendOrder .unknown []
  | some o =>
    if o.isOpen = false then s.answer Code.suspendOrder .notOpen []
    else if o.suspension.host then s.answer Code.suspendOrder .already []
    else
      let s1 := settled (s.openEvent.addReason id.toNat .host)
      s1.answer Code.suspendOrder .ok (s1.suspensionReply id.toNat)

/-- RESUME-ORDER (R83). -/
def State.resumeOrder (s : State) (id : Half) : State :=
  match s.order? id.toNat with
  | none => s.answer Code.resumeOrder .unknown []
  | some o =>
    if o.isOpen = false then s.answer Code.resumeOrder .notOpen []
    else if o.suspension.host = false then s.answer Code.resumeOrder .notSuspended []
    else
      let s1 := s.dropReason id.toNat .host
      s1.answer Code.resumeOrder .ok (s1.suspensionReply id.toNat)

/-- The delivered volume of an order. -/
def State.deliveredOf (s : State) (id : Nat) : Nat := ((s.order? id).map Order.delivered).getD 0

/-- CANCEL-ORDER (R93). The reply carries the state and the delivered volume; that the order ends at its pass end is told by
the state ACTIVE (log entry 33). -/
def State.cancelOrder (s : State) (id : Half) : State :=
  match s.order? id.toNat with
  | none => s.answer Code.cancelOrder .unknown []
  | some o =>
    if o.isOpen = false then s.answer Code.cancelOrder .notOpen []
    else
      let s1 := settled (s.openEvent.cancel id.toNat)
      s1.answer Code.cancelOrder .ok (be8 (s1.orderCode id.toNat) ++ be32 (s1.deliveredOf id.toNat))

/-- A VOLLEY of a code moves the order (R95). -/
def Order.heardVolley (o : Order) (code : Nat) : Bool :=
  o.state == .volleyHeld && (code == 0 || o.volley == some code)

/-- An order after a VOLLEY of a code: one that it moves goes to WAITING without a volley code (R95). -/
def Order.afterVolley (o : Order) (code : Nat) : Order :=
  if o.heardVolley code then { o with state := .waiting, volley := none } else o

/-- The orders a VOLLEY moves go to WAITING, and one arbitration follows (R95). -/
def State.releaseVolley (s : State) (code : Nat) : State :=
  let s1 := { s with dispatch := { s.dispatch with orders := s.dispatch.orders.map fun o => o.afterVolley code } }
  if (s.dispatch.orders.any fun o => o.heardVolley code) then s1.occasion else s1

/-- VOLLEY (R95). -/
def State.fireVolley (s : State) (broadcast : Bool) (code : Byte) : State :=
  (s.releaseVolley code.toNat).answerUnless broadcast Code.volley .ok
    (be8 (s.dispatch.orders.filter fun o => o.heardVolley code.toNat).length)

/-! ## READ-ORDER (R96) -/

/-- The bytes of a plan entry in the READ-ORDER reply (R189). -/
def PlanEntry.bytes (e : PlanEntry) : List Byte :=
  be8 (e.cannon.getD 255) ++ be8 (e.arcStart / 16) ++ be8 (e.arcStart % 16 * 16 + e.arcEnd / 256) ++ be8 e.arcEnd
    ++ be16 e.share ++ be16 e.remaining

/-- The bytes of the current pass in the READ-ORDER reply, zeros when it is absent (R189). -/
def passBytes (p : Option Pass) : List Byte :=
  be8 ((p.map Pass.cannon).getD 0) ++ be8 ((p.map fun p => p.header.code).getD 0) ++ be16 ((p.map Pass.dose).getD 0)
    ++ be16 ((p.map Pass.reservation).getD 0) ++ be16 ((p.bind Pass.meterStart).getD 0)
    ++ be16 ((p.map Pass.delivered).getD 0) ++ be8 ((p.map fun p => p.state.code).getD 0)

/-- The litres metered so far, given during a pass and 0 without one (R76, R96; log entry 31). -/
def Order.meteredSoFar (o : Order) : Nat := (o.pass.map fun p => o.delivered + p.delivered).getD 0

/-- The entries of an order's plan, none without a plan. -/
def Order.entries (o : Order) : List PlanEntry := (o.plan.map Plan.entries).getD []

/-- The READ-ORDER reply (R189). -/
def Order.bytes (o : Order) : List Byte :=
  be16 o.id ++ be16 o.tag ++ be8 o.origin.code ++ be8 o.priority ++ be16 o.dose ++ be32 o.delivered
    ++ be16 o.outstanding ++ be8 o.policy.code ++ be8 o.state.code ++ o.suspension.bytes
    ++ [flagByte [o.starved, o.clamped, o.cancelPending, o.volley.isSome, o.lastEnd.isSome, o.pass.isSome,
      o.state == .ended, (o.pass.bind Pass.meterStart).isSome]]
    ++ be8 (o.volley.getD 0) ++ be32 o.accepted ++ be32 o.lapseRef ++ be8 o.passes
    ++ be8 ((o.lastEnd.map PassKind.code).getD 0) ++ be8 ((o.outcome.map OrderOutcome.code).getD 0)
    ++ be32 (o.endedMinute.getD 0) ++ passBytes o.pass ++ be32 o.meteredSoFar
    ++ be8 ((o.plan.map Plan.current).getD 0) ++ be8 o.entries.length ++ o.entries.flatMap PlanEntry.bytes

/-- READ-ORDER by id: reading an ENDED order frees its entry once the reply is built (R96). -/
def State.readOrderById (s : State) (id : Nat) : State :=
  match s.order? id with
  | none => s.answer Code.readOrder .unknown []
  | some o =>
    (if o.isOpen then s else s.freeOrder id).answer Code.readOrder .ok o.bytes

/-- READ-ORDER by position along the acceptance list (R96). -/
def State.readOrderAt (s : State) (i : Nat) : State :=
  if Config.orders ≤ i then s.answer Code.readOrder .badArgument []
  else
    match s.dispatch.orders[i]? with
    | none => s.answer Code.readOrder .unknown []
    | some o => s.answer Code.readOrder .ok o.bytes

/-- READ-ORDER (R96): selector 0 by id, 1 by position (R189). -/
def State.readOrder (s : State) (selector : Byte) (value : Half) : State :=
  match selector.toNat with
  | 0 => s.readOrderById value.toNat
  | 1 => s.readOrderAt value.toNat
  | _ => s.answer Code.readOrder .badArgument []

/-! ## Settings (R98) -/

/-- The orders that ended LAPSED in the current event. -/
def State.lapsedNow (s : State) : Nat :=
  (s.dispatch.orders.filter fun o => o.state == .ended && o.outcome == some .lapsed && o.endedEvent == s.events).length

/-- SET-DISPATCH (R98). -/
def State.setDispatch (s : State) (lapse maxDose : Half) (floor : Byte) : State :=
  if dispatchArgsOk lapse maxDose floor then
    let s0 := s.openEvent
    let s1 := { s0 with dispatch := { s0.dispatch with
      lapseTime := lapse.toNat, maxDose := maxDose.toNat, freshFloor := floor.toNat } }
    let s2 := settled (s1, [.lapseOrders])
    s2.occasion.answer Code.setDispatch .ok
      (be16 lapse.toNat ++ be16 maxDose.toNat ++ be8 floor.toNat ++ be8 s2.lapsedNow)
  else s.answer Code.setDispatch .badArgument []

/-- The number of orders that satisfy a condition. -/
def State.countOrders (s : State) (c : Order → Bool) : Nat := (s.dispatch.orders.filter c).length

/-- READ-DISPATCH (R98). -/
def State.readDispatch (s : State) : State :=
  s.answer Code.readDispatch .ok (be16 s.dispatch.lapseTime ++ be16 s.dispatch.maxDose ++ be8 s.dispatch.freshFloor
    ++ be16 s.dispatch.nextId ++ be8 (s.countOrders fun o => o.state == .volleyHeld)
    ++ be8 (s.countOrders fun o => o.state == .waiting) ++ be8 (s.countOrders fun o => o.state == .active)
    ++ be8 (s.countOrders fun o => o.state == .ended) ++ be8 (s.countOrders fun o => o.isOpen && o.starved)
    ++ be8 (s.countOrders fun o => o.pass.isSome))

/-- One of the arbitrations occasioned is made (R85; log entry 4). -/
def State.arbitrateDue (s : State) : State :=
  if s.dispatch.due = 0 then s
  else State.arbitrate { s with dispatch := { s.dispatch with due := s.dispatch.due - 1 } }

/-! ## Meanings -/

/-- PLACE_ORDER (R78). -/
def execPlaceOrder (a : PlaceOrderArgs) (s : State) : Out := .next (s.placeOrder a)
/-- SUSPEND_ORDER (R83). -/
def execSuspendOrder (id : Half) (s : State) : Out := .next (s.suspendOrder id)
/-- RESUME_ORDER (R83). -/
def execResumeOrder (id : Half) (s : State) : Out := .next (s.resumeOrder id)
/-- CANCEL_ORDER (R93). -/
def execCancelOrder (id : Half) (s : State) : Out := .next (s.cancelOrder id)
/-- VOLLEY (R95). -/
def execVolley (broadcast : Bool) (code : Byte) (s : State) : Out := .next (s.fireVolley broadcast code)
/-- READ_ORDER (R96). -/
def execReadOrder (selector : Byte) (value : Half) (s : State) : Out := .next (s.readOrder selector value)
/-- SET_DISPATCH (R98). -/
def execSetDispatch (lapse maxDose : Half) (floor : Byte) (s : State) : Out := .next (s.setDispatch lapse maxDose floor)
/-- READ_DISPATCH (R98). -/
def execReadDispatch (s : State) : Out := .next s.readDispatch
/-- ARBITRATION (R85). -/
def execArbitration (s : State) : Out := .next s.arbitrateDue
/-- ORDER_LAPSE (R94). -/
def execOrderLapse (id : Half) (s : State) : Out := .next (settled (s.openEvent.lapseOrder id.toNat))

end Sys2Proof.Machine
end

