-- ==== Sys2Proof/Machine/CannonCommands.lean ====
section
/-! DEFINITION. The commands and timer events of the cannon controller (spec/06). -/

namespace Sys2Proof.Machine

/-! ## LOAD-CANNON (R102, R103) -/

/-- A cannon's record on loading at a new address (R100). -/
def Cannon.loaded (c : CannonConfig) : Cannon :=
  ⟨c, .idle, none, 0, none, none, none, none, none, 0, none, none, none, false, false⟩

/-- The configuration a loading carries, when it is in range (R102). -/
def loadingConfig (node : Byte) (a : CannonArgs) : Option CannonConfig :=
  (Supply.ofCode a.supply.toNat).bind fun supply =>
    if cannonConfigOk (cannonConfigOf node supply a) then some (cannonConfigOf node supply a) else none

/-- The state of a cannon forbids its loading (R102). -/
def loadBusy (c : Option Cannon) : Bool := c.any fun c => c.state != .idle

/-- The state of a cannon forbids its unloading (R102). -/
def unloadBusy (c : Option Cannon) : Bool :=
  c.any fun c => c.state != .idle && c.state != .lost && !(c.state == .locked && c.header.isNone)

/-- The cannon table with an entry written. -/
def State.withCannon (s : State) (n : Nat) (c : Cannon) : State := { s with cannons := Table.set s.cannons n c }

/-- A loading that passes its checks is taken (R103). -/
def State.takeLoading (s : State) (n : Nat) (k : CannonConfig) : State :=
  match s.cannon? n with
  | none => ((s.withCannon n (Cannon.loaded k)).addNode k.node (.cannon n) k.extraDelay).occasion
  | some c =>
    if k.node = c.config.node then
      ((s.mapCannon n fun c => { c with config := k }).mapNode k.node fun x => { x with extraDelay := k.extraDelay }).occasion
    else
      (((s.withCannon n (Cannon.loaded k)).removeNode c.config.node).addNode k.node (.cannon n) k.extraDelay).occasion

/-- An unloading that passes its checks is taken (R103). -/
def State.takeUnloading (s : State) (n : Nat) : State :=
  match s.cannon? n with
  | none => s
  | some c =>
    let s1 := { s with cannons := Table.erase s.cannons n }.removeNode c.config.node
    if c.state.noticed then s1.hand .cannon n else s1

/-- LOAD-CANNON with a node address of 0 (R102, R103). -/
def State.unloadCannon (s : State) (number : Byte) : State :=
  if unloadBusy (s.cannon? number.toNat) then s.answer Code.loadCannon .cannonBusy []
  else (s.takeUnloading number.toNat).answer Code.loadCannon .ok []

/-- LOAD-CANNON (R102, R103). -/
def State.loadCannon (s : State) (number node : Byte) (a : CannonArgs) : State :=
  if Config.cannons ≤ number.toNat ∨ 31 < node.toNat then s.answer Code.loadCannon .badArgument []
  else if node = 0 then s.unloadCannon number
  else
    match loadingConfig node a with
    | none => s.answer Code.loadCannon .badArgument []
    | some k =>
      if loadBusy (s.cannon? number.toNat) then s.answer Code.loadCannon .cannonBusy []
      else if s.heldByOther k.node (.cannon number.toNat) then s.answer Code.loadCannon .duplicate []
      else (s.takeLoading number.toNat k).answer Code.loadCannon .ok []

/-! ## RESET-CANNON and READ-CANNON (R119, R120) -/

/-- RESET-CANNON (R119). -/
def State.resetCannon (s : State) (number : Byte) : State :=
  if Config.cannons ≤ number.toNat then s.answer Code.resetCannon .badArgument []
  else
    match s.cannon? number.toNat with
    | none => s.answer Code.resetCannon .unknown []
    | some c =>
      (settled (s.openEvent.cannonReset number.toNat c)).answer Code.resetCannon .ok
        (pack [.always (be8 c.state.code), opt16 (c.bound.map fun _ => s.metered c)])

/-- A coverage list as bytes. -/
def coverageBytes (cs : List Cover) : List Byte :=
  counted (cs.map fun c => be16 c.tag ++ be16 c.arcStart ++ be16 c.arcEnd)

/-- The time left on the slew timer or the close wait of a cannon with a pass bound (R120). -/
def Cannon.timeLeft (c : Cannon) : Option Nat :=
  if c.bound.isNone then none
  else
    match c.slew with
    | some t => some t
    | none => c.closeWait

/-- The items of READ-CANNON; every item but the state is absent for an ABSENT cannon (R120). The node report is told as the
report byte of R190 (log entry 34), and each item has a presence bit of its own (log entry 41). -/
def State.cannonItems (s : State) (x : Option Cannon) : List Item :=
  let k := x.map Cannon.config
  let p := (x.bind s.boundPass?).map Prod.snd
  [opt8 (k.map (·.node)), opt8 (k.map fun k => k.supply.code), opt16 (k.map (·.minDose)), opt16 (k.map (·.maxDose)),
    opt8 (k.map (·.rampTime)), opt16 (k.map (·.rampAllowance)), opt8 (k.map (·.sweepRate)), opt8 (k.map (·.slewTimeout)),
    opt16 (k.map (·.blanking)), opt8 (k.map (·.extraDelay)),
    .optional k.isSome (coverageBytes ((k.map (·.coverage)).getD [])),
    .always (be8 ((x.map fun c => c.state.code).getD 0)), opt8 ((x.bind (·.aimPhase)).map AimPhase.code),
    opt8 (x.map (·.tripCount)), opt32 (x.bind (·.lastTrip)), opt16 (x.bind (·.meterLast)),
    .optional (x.bind (·.report)).isSome [((x.bind (·.report)).map NodeReport.byte).getD 0],
    opt8 ((x.bind (·.header)).map Header.code), opt32 (x.map (·.stray)),
    optFlag (k.map fun k => s.nodeLost k.node), opt8 ((k.bind fun k => s.slot? k.node).map LoopCommand.code),
    opt16 (x.bind (·.bound)), opt8 (p.map fun p => p.header.code), opt16 (p.map Pass.dose),
    opt16 (p.bind Pass.meterStart), opt16 (p.map Pass.delivered), opt8 (x.bind Cannon.timeLeft)]

/-- READ-CANNON (R120). -/
def State.readCannon (s : State) (number : Byte) : State :=
  if Config.cannons ≤ number.toNat then s.answer Code.readCannon .badArgument []
  else s.answer Code.readCannon .ok (pack (s.cannonItems (s.cannon? number.toNat)))

/-! ## Meanings -/

/-- LOAD_CANNON (R102, R103). -/
def execLoadCannon (number node : Byte) (a : CannonArgs) (s : State) : Out := .next (s.loadCannon number node a)
/-- SLEW_TIMEOUT (R109). -/
def execSlewTimeout (number : Byte) (s : State) : Out := .next (settled (s.openEvent.slewExpiry number.toNat))
/-- BLANKING_TIMER_EXPIRY (R114). -/
def execBlankingTimerExpiry (number : Byte) (s : State) : Out :=
  .next (settled (s.openEvent.blankingExpiry number.toNat))
/-- CLOSE_WAIT_EXPIRY (R113). -/
def execCloseWaitExpiry (number : Byte) (s : State) : Out :=
  .next (settled (s.openEvent.closeWaitExpiry number.toNat))
/-- RETRY_DELAY_END (R115). -/
def execRetryDelayEnd (number : Byte) (s : State) : Out := .next (s.retryEnd number.toNat)
/-- TRIP_COUNT_DECAY (R116). -/
def execTripCountDecay (number : Byte) (s : State) : Out := .next (s.decayTrip number.toNat)
/-- RESET_CANNON (R119). -/
def execResetCannon (number : Byte) (s : State) : Out := .next (s.resetCannon number)
/-- READ_CANNON (R120). -/
def execReadCannon (number : Byte) (s : State) : Out := .next (s.readCannon number)

end Sys2Proof.Machine
end

