-- ==== Sys2Proof/Machine/WaterCommands.lean ====
section
/-! DEFINITION. The commands and timer events of the water account (spec/07). -/

namespace Sys2Proof.Machine

/-! ## LOAD-BASIN, TANK (R125) -/

/-- A tank's record as formed on loading (R125). -/
def Tank.loaded (c : TankConfig) : Tank := ⟨c, none, false, false, false, 0, false, none⟩

/-- A tank under a new configuration, with its level flags evaluated against the held level (R125). -/
def Tank.reconfigured (t : Tank) (c : TankConfig) : Tank :=
  match t.reading with
  | some r => { t with config := c }.marked r.level
  | none => { t with config := c }

/-- The tank record unloaded. -/
def State.noTank (s : State) : State := { s with water := { s.water with tank := none } }

/-- LOAD-BASIN TANK for a loading, once its checks have passed (R125). -/
def State.takeTank (s : State) (c : TankConfig) : State :=
  match s.water.tank with
  | none => ((s.withTank (Tank.loaded c)).addNode c.node .tank 0).evalTransfer
  | some t =>
    if c.node = t.config.node then (s.retank t (t.reconfigured c)).staleGauge.occasion.evalTransfer
    else (((s.withTank (Tank.loaded c)).removeNode t.config.node).addNode c.node .tank 0).evalTransfer

/-- LOAD-BASIN TANK with address 0 (R125). -/
def State.unloadTank (s : State) : State :=
  match s.water.tank with
  | none => s.evalTransfer
  | some t => (s.noTank.removeNode t.config.node).evalTransfer

/-- LOAD-BASIN TANK (R125). -/
def State.loadBasinTank (s : State) (node : Byte) (a : TankArgs) : State :=
  if 31 < node.toNat then s.answer Code.loadBasin .badArgument []
  else if node = 0 then s.unloadTank.answer Code.loadBasin .ok []
  else if tankArgsOk a = false then s.answer Code.loadBasin .badArgument []
  else if s.heldByOther node.toNat .tank then s.answer Code.loadBasin .duplicate []
  else (s.takeTank (tankConfigOf node a)).answer Code.loadBasin .ok []

/-! ## LOAD-BASIN, POND (R135) -/

/-- The transfer record once the transfer node has changed: a run in progress, in any state but STOPPED, ends RELOADED
(R135; log entry 32). -/
def Transfer.reloaded (t : Transfer) : Transfer :=
  ⟨.stopped, none, if t.state = .stopped then t.lastEnd else some .reloaded, none, none, false, false⟩

/-- The node of an address, 0 meaning none. -/
def nodeOf (a : Nat) : Option Nat := if a = 0 then none else some a

/-- The transfer node changed in the loop master's list (R135). -/
def State.renode (s : State) (old new : Option Nat) : State :=
  let s1 := match old with
    | some a => s.removeNode a
    | none => s
  match new with
  | some a => s1.addNode a .pond 0
  | none => s1

/-- The pond record LOAD-BASIN writes (R135). -/
def Pond.loaded (p : Pond) (a : PondArgs) : Pond :=
  { p with
    capacity := a.capacity.toNat
    startMark := a.startMark.toNat
    stopMark := a.stopMark.toNat
    volume := min ((a.volume.map (·.toNat)).getD p.volume) a.capacity.toNat
    node := nodeOf a.node.toNat }

/-- LOAD-BASIN POND once its checks have passed (R135). -/
def State.takePond (s : State) (a : PondArgs) : State :=
  let s1 := s.mapPond fun p => p.loaded a
  if nodeOf a.node.toNat = s.water.pond.node then s1.evalTransfer
  else ((s1.mapTransfer Transfer.reloaded).renode s.water.pond.node (nodeOf a.node.toNat)).evalTransfer

/-- LOAD-BASIN POND (R135). -/
def State.loadBasinPond (s : State) (a : PondArgs) : State :=
  if pondArgsOk a = false then s.answer Code.loadBasin .badArgument []
  else if a.node ≠ 0 ∧ s.heldByOther a.node.toNat .pond = true then s.answer Code.loadBasin .duplicate []
  else
    let s1 := s.takePond a
    s1.answer Code.loadBasin .ok (be32 s1.water.pond.volume ++ be32 s1.water.pond.spill
      ++ be8 s1.water.transfer.state.code)

/-! ## The fresh account and the pond (R133, R136, R137) -/

/-- SET-ALLOWANCE (R133). -/
def State.setAllowance (s : State) (value : Long) : State :=
  let s1 := { s with water := { s.water with allowance := value.toNat } }.evalSpent.occasion
  s1.answer Code.setAllowance .ok (be32 s1.water.allowance ++ be32 s1.water.usedToday ++ be32 (s1.committed .fresh)
    ++ be32 s1.freshAvailable)

/-- REPORT-INFLOW (R136); a count of 0 changes nothing. -/
def State.reportInflow (s : State) (litres : Long) : State :=
  let s1 := if litres = 0 then s else s.creditPond litres.toNat
  s1.answer Code.reportInflow .ok (be32 s1.water.pond.volume ++ be32 (s.water.pond.excess litres.toNat)
    ++ be32 s1.water.pond.spill)

/-- SET-POND (R137). -/
def State.setPond (s : State) (volume : Long) (clearSpill : Bool) : State :=
  let s1 := s.mapPond fun p =>
    { p with volume := min volume.toNat p.capacity, spill := if clearSpill then 0 else p.spill }
  s1.evalTransfer.answer Code.setPond .ok (be32 s1.water.pond.volume ++ be32 s1.water.pond.spill)

/-! ## READ-WATER (R142) -/

/-- The items of the tank; every item but the first is absent for an unloaded tank (R142), each with a presence bit of its
own (log entry 41). Until the first reading the alarm flag is told as absent, like level and turbidity (log entry 40). -/
def State.tankItems (s : State) : List Item :=
  let t := s.water.tank
  let c := t.map Tank.config
  let r := t.bind Tank.reading
  [.always (flag t.isSome), opt8 (c.map (·.node)), opt16 (c.map (·.capacity)), opt16 (c.map (·.low)),
    opt16 (c.map (·.high)), opt16 (c.map (·.hysteresis)), opt8 (c.map (·.turbidityLimit)), opt16 (c.map (·.stale)),
    opt16 (r.map (·.level)), opt8 (r.map (·.turbidity)), optFlag (r.map (·.alarm)), optFlag (t.map (·.nearEmpty)),
    optFlag (t.map (·.nearFull)), optFlag (t.map (·.qualityHold)), opt8 (t.map (·.qualityCount)),
    optFlag (t.map fun t => !t.fresh), opt16 (t.bind (·.age)), optFlag (c.map fun c => s.nodeLost c.node)]

/-- The items of the two headers (R142). -/
def State.headerItems (s : State) : List Item :=
  [.always (counted ((s.holders .reuse).map be8)), .always (be32 (s.committed .reuse)), .always (be32 s.reuseAvailable),
    .always (counted ((s.holders .fresh).map be8)), .always (be32 s.water.allowance), .always (be32 s.water.usedToday),
    .always (be32 (s.committed .fresh)), .always (be32 s.freshAvailable), .always (flag s.water.spent)]

/-- The time left on the start wait or the hold-off (R142). -/
def Transfer.timeLeft (t : Transfer) : Option Nat :=
  match t.startWait with
  | some k => some k
  | none => t.holdOff

/-- The items of the pond and of the transfer run (R142). The address of the transfer node and its LOST item are optional
items, absent when the pond has no transfer node (log entry 45). -/
def State.pondItems (s : State) : List Item :=
  let p := s.water.pond
  let t := s.water.transfer
  [.always (be32 p.capacity), .always (be32 p.startMark), .always (be32 p.stopMark), .always (be32 p.volume),
    .always (be32 p.spill), opt8 p.node, .always (be8 t.state.code), opt16 t.meterLast, opt8 (t.lastEnd.map RunEnd.code),
    opt8 t.timeLeft, optFlag (p.node.map s.nodeLost)]

/-- READ-WATER (R142). -/
def State.readWater (s : State) : State :=
  s.answer Code.readWater .ok (pack (s.tankItems ++ s.headerItems ++ s.pondItems))

/-! ## Meanings -/

/-- LOAD_BASIN_TANK (R125). -/
def execLoadBasinTank (node : Byte) (a : TankArgs) (s : State) : Out := .next (s.loadBasinTank node a)
/-- LOAD_BASIN_POND (R135). -/
def execLoadBasinPond (a : PondArgs) (s : State) : Out := .next (s.loadBasinPond a)
/-- GAUGE_STALE_EXPIRY (R129). -/
def execGaugeStaleExpiry (s : State) : Out := .next s.staleGauge
/-- SET_ALLOWANCE (R133). -/
def execSetAllowance (value : Long) (s : State) : Out := .next (s.setAllowance value)
/-- DAY_ROLLOVER (R134). -/
def execDayRollover (s : State) : Out := .next s.rollOver
/-- REPORT_INFLOW (R136). -/
def execReportInflow (litres : Long) (s : State) : Out := .next (s.reportInflow litres)
/-- SET_POND (R137). -/
def execSetPond (volume : Long) (clearSpill : Bool) (s : State) : Out := .next (s.setPond volume clearSpill)
/-- START_WAIT_EXPIRY (R140). -/
def execStartWaitExpiry (s : State) : Out := .next s.startWaitExpiry
/-- HOLD_OFF_END (R140). -/
def execHoldOffEnd (s : State) : Out := .next s.holdOffEnd
/-- READ_WATER (R142). -/
def execReadWater (s : State) : Out := .next s.readWater

end Sys2Proof.Machine
end

