-- ==== Sys2Proof/Machine/PermitCommands.lean ====
section
/-! DEFINITION. The commands and expiries of the permit table (spec/08). -/

namespace Sys2Proof.Machine

/-! ## REQUEST-PERMIT (R145, R146) -/

/-- The kinds that may not share a pile with another STACKER or RECLAIMER (R145). -/
def PermitKind.cuts : PermitKind → Bool
  | .stacker => true
  | .reclaimer => true
  | .dozer => false

/-- A permit of a kind would conflict with those on the pile (R145). -/
def State.conflicts (s : State) (tag : Nat) (kind : PermitKind) : Bool :=
  if kind.cuts then (s.permitsOn tag).any fun p => p.kind.cuts
  else decide (2 ≤ ((s.permitsOn tag).filter fun p => p.kind == .dozer).length)

/-- The refusal of a request for a pile, when there is one (R145, from the third check on). -/
def State.permitRefusal (s : State) (machine tag : Nat) (kind : PermitKind) (p : Pile) : Option Status :=
  if p.life = .retiring ∨ p.retirePending = true then some .retiring
  else if (s.permit? machine).isSome then some .machineBusy
  else if s.conflicts tag kind then some .conflict
  else if Config.permits ≤ s.permits.list.length then some .full
  else none

/-- A permit accepted, with the tellings of its acceptance (R143, R146). -/
def State.acceptPermit (s : State) (machine tag : Nat) (kind : PermitKind) (p : Pile) : State × List Task :=
  let id := freeId 255 (s.permits.list.map Permit.id) (Config.permits + 1) s.permits.nextId
  let clear := s.workable p
  let s1 := { s with permits := { s.permits with
    list := s.permits.list ++
      [⟨id, machine, kind, tag, if clear then .clearing else .pendingWet, s.now, s.now, none⟩]
    nextId := id % 255 + 1 } }
  if clear then s1.enterClearing tag else (s1, [.askPrewet tag (some machine)])

/-- The reply to REQUEST-PERMIT: id, state and prewet order id (R146). -/
def State.requestReply (s : State) (machine : Nat) : List Byte :=
  match s.permit? machine with
  | some p => pack [.always (be8 p.id), .always (be8 p.state.code), opt16 p.prewetOrder]
  | none => []

/-- REQUEST-PERMIT (R145, R146). -/
def State.requestPermit (s : State) (machine kind : Byte) (tag : Half) : State :=
  if permitArgsOk machine kind tag = false then s.answer Code.requestPermit .badArgument []
  else
    match s.pileAt? tag.toNat with
    | none => s.answer Code.requestPermit .unknown []
    | some (_, p) =>
      let k := (PermitKind.ofCode kind.toNat).getD .dozer
      match s.permitRefusal machine.toNat tag.toNat k p with
      | some x => s.answer Code.requestPermit x []
      | none =>
        let a := s.openEvent.acceptPermit machine.toNat tag.toNat k p
        let s1 := a.1.settle (some machine.toNat) a.2
        s1.answer Code.requestPermit .ok (s1.requestReply machine.toNat)

/-! ## RELEASE-PERMIT (R153, R154) -/

/-- The items of a machine's outcome entry (R143, R156): one presence bit for the four fields every entry has, and one for M
(log entry 41). -/
def outcomeItems (e : Option OutcomeEntry) : List Item :=
  [.optional e.isSome (match e with
      | some e => be8 e.outcome.code ++ be32 e.minute ++ be16 e.tag ++ be8 e.permitId
      | none => be8 0 ++ be32 0 ++ be16 0 ++ be8 0),
    opt16 (e.bind OutcomeEntry.m)]

/-- The state of a pile in the reply of a release: LIVE, LIVE with retire-pending set, RETIRING, FREE (R154). -/
def State.releaseCode (s : State) (tag : Nat) : Nat :=
  match s.pileAt? tag with
  | some (_, p) =>
    match p.life with
    | .live => if p.retirePending then 1 else 0
    | .retiring => 2
  | none => 3

/-- The pile's retire-pending flag is set by an emptied release (R4, R154). -/
def State.markEmptied (s : State) (tag : Nat) : State :=
  match s.pileAt? tag with
  | some (slot, _) => s.mapPile slot fun p => { p with retirePending := true }
  | none => s

/-- The refusals an emptied release brings to the permits still waiting on the pile, in request order (R154, step 1). -/
def State.emptiedTasks (s : State) (p : Permit) : List Task :=
  ((s.permitsOn p.tag).filter fun x => x.machine != p.machine && x.state != .granted).map fun x =>
    .endPermit x.machine .refusedRetired false

/-- RELEASE-PERMIT of a GRANTED permit (R154). -/
def State.releaseGranted (s : State) (p : Permit) (a : ReleaseArgs) : State :=
  let s1 := if a.emptied then s.openEvent.markEmptied p.tag else s.openEvent
  s1.settle (some p.machine) ((if a.emptied then s1.emptiedTasks p else [])
    ++ [.blendPile p.tag a.f.toNat (a.mf.map (·.toNat)), .tellPile p.tag, .endPermit p.machine .grantedEnd true])

/-- The M in a machine's outcome entry. -/
def State.outcomeM (s : State) (machine : Nat) : Nat :=
  ((Table.get s.permits.outcomes machine).bind OutcomeEntry.m).getD 0

/-- RELEASE-PERMIT (R153, R154). -/
def State.releasePermit (s : State) (a : ReleaseArgs) : State :=
  if within 1 63 a.machine.toNat = false then s.answer Code.releasePermit .badArgument []
  else
    match s.permit? a.machine.toNat with
    | none =>
      s.answer Code.releasePermit .unknown (pack (outcomeItems (Table.get s.permits.outcomes a.machine.toNat)))
    | some p =>
      if p.state = .granted then
        if tonnageOk p.kind a.tonnage = false then s.answer Code.releasePermit .badArgument []
        else
          let s1 := s.releaseGranted p a
          s1.answer Code.releasePermit .ok (be8 PermitOutcome.grantedEnd.code ++ be16 (s1.outcomeM p.machine)
            ++ be8 (s1.releaseCode p.tag))
      else
        (s.openEvent.settle (some p.machine) [.endPermit p.machine .released false]).answer Code.releasePermit .ok
          (be8 PermitOutcome.released.code)

/-! ## Limits and read-back (R155, R156) -/

/-- The evaluation of a permit under its limit: prewet wait or max hold (R155). -/
def Permit.limitTask (p : Permit) : List Task :=
  match p.state with
  | .pendingWet => [.expirePrewet p.machine]
  | .granted => [.lapsePermit p.machine]
  | .clearing => []

/-- SET-PERMIT-LIMITS (R155). -/
def State.setPermitLimits (s : State) (prewet : Byte) (stacker reclaimer dozer : Half) : State :=
  if permitLimitsOk prewet stacker reclaimer dozer then
    let s0 := s.openEvent
    let s1 := { s0 with permits := { s0.permits with
      prewetWait := prewet.toNat, maxHold := ⟨stacker.toNat, reclaimer.toNat, dozer.toNat⟩ } }
    let s2 := settled (s1, s.permits.list.flatMap Permit.limitTask)
    s2.answer Code.setPermitLimits .ok (be8 prewet.toNat ++ be16 stacker.toNat ++ be16 reclaimer.toNat
      ++ be16 dozer.toNat ++ be8 (s.permits.list.length - s2.permits.list.length))
  else s.answer Code.setPermitLimits .badArgument []

/-- The passes on a pile still aiming, spraying or ramping down (R156). -/
def State.passesOn (s : State) (tag : Nat) : Nat :=
  (s.dispatch.orders.filter fun o => o.tag == tag && o.passRuns).length

/-- The minutes left of a limit that runs from a minute. -/
def minutesLeft (limit now since : Nat) : Nat := limit - minutesSince now since

/-- A value that is there in one state of a permit only. -/
def Permit.inState {α : Type} (p : Permit) (x : PermitState) (v : α) : Option α := if p.state = x then some v else none

/-- The items of READ-PERMIT about one machine: the permit, its outcome entry, and what its state adds (R156). Each field of
the permit has a presence bit of its own (log entry 41). -/
def State.permitItems (s : State) (p : Option Permit) (machine : Nat) : List Item :=
  let o := (p.bind (·.prewetOrder)).bind s.order?
  [opt8 (p.map (·.id)), opt8 (p.map (·.machine)), opt8 (p.map fun p => p.kind.code), opt16 (p.map (·.tag)),
    opt8 (p.map fun p => p.state.code), opt32 (p.map (·.requested)), opt32 (p.map (·.entered)),
    opt16 (p.bind (·.prewetOrder))]
    ++ outcomeItems (Table.get s.permits.outcomes machine) ++
  [opt8 (p.bind fun p => p.inState .pendingWet (minutesLeft s.permits.prewetWait s.now p.entered)),
    opt8 (o.map fun o => o.state.code), .optional o.isSome ((o.map Order.suspension).getD Suspension.none).bytes,
    optFlag (o.map (·.starved)), opt8 (p.bind fun p => p.inState .clearing (s.passesOn p.tag)),
    opt16 (p.bind fun p => p.inState .granted (minutesLeft (s.permits.maxHold.of p.kind) s.now p.entered)),
    .always (be8 s.permits.list.length), .always (be8 s.permits.prewetWait), .always (be16 s.permits.maxHold.stacker),
    .always (be16 s.permits.maxHold.reclaimer), .always (be16 s.permits.maxHold.dozer)]

/-- READ-PERMIT by machine id (R156). -/
def State.readPermitOf (s : State) (machine : Nat) : State :=
  if within 1 63 machine = false then s.answer Code.readPermit .badArgument []
  else s.answer Code.readPermit .ok (pack (s.permitItems (s.permit? machine) machine))

/-- READ-PERMIT by position along the request list (R156). -/
def State.readPermitAt (s : State) (i : Nat) : State :=
  if Config.permits ≤ i then s.answer Code.readPermit .badArgument []
  else
    match s.permits.list[i]? with
    | none => s.answer Code.readPermit .unknown []
    | some p => s.answer Code.readPermit .ok (pack (s.permitItems (some p) p.machine))

/-- READ-PERMIT (R156): form 0 by machine id, 1 by position (R187). -/
def State.readPermit (s : State) (form key : Byte) : State :=
  match form.toNat with
  | 0 => s.readPermitOf key.toNat
  | 1 => s.readPermitAt key.toNat
  | _ => s.answer Code.readPermit .badArgument []

/-! ## Meanings -/

/-- REQUEST_PERMIT (R145, R146). -/
def execRequestPermit (machine kind : Byte) (tag : Half) (s : State) : Out := .next (s.requestPermit machine kind tag)
/-- PREWET_WAIT_EXPIRY (R150). -/
def execPrewetWaitExpiry (machine : Byte) (s : State) : Out :=
  .next (settled (s.openEvent.expirePrewet machine.toNat))
/-- MAX_HOLD_LAPSE (R152). -/
def execMaxHoldLapse (machine : Byte) (s : State) : Out := .next (settled (s.openEvent.lapsePermit machine.toNat))
/-- RELEASE_PERMIT (R153, R154). -/
def execReleasePermit (a : ReleaseArgs) (s : State) : Out := .next (s.releasePermit a)
/-- SET_PERMIT_LIMITS (R155). -/
def execSetPermitLimits (prewet : Byte) (stacker reclaimer dozer : Half) (s : State) : Out :=
  .next (s.setPermitLimits prewet stacker reclaimer dozer)
/-- READ_PERMIT (R156). -/
def execReadPermit (form key : Byte) (s : State) : Out := .next (s.readPermit form key)

end Sys2Proof.Machine
end

