-- ==== Sys2Proof/Machine/LoopCommands.lean ====
section
/-! DEFINITION. The events of the yard loop and the two commands of the loop master (spec/09). -/

namespace Sys2Proof.Machine

/-- SET-LOOP (R169). -/
def State.setLoop (s : State) (period : Half) : State :=
  if periodOk period then
    { s with loop := { s.loop with period := period.toNat } }.answer Code.setLoop .ok (be16 period.toNat)
  else s.answer Code.setLoop .badArgument []

/-- READ-LOOP without an address (R170). -/
def Loop.bytes (l : Loop) : List Byte :=
  pack [.always (flag l.running), .always (be16 l.period), .always (be32 l.roundCount), .always (be16 l.overruns),
    opt8 l.winner, .always (counted (l.nodes.map fun e => be8 e.1 ++ be8 e.2.owner.kind.code ++ flag e.2.lost))]

/-- READ-LOOP with an address: every field of the node's entry (R158, R170). The owner is told as a block byte and the number
of the cannon or mast as an optional item (log entry 42). -/
def Node.bytes (a : Nat) (n : Node) : List Byte :=
  pack [.always (be8 a), .always (be8 n.owner.kind.code), .always (be8 n.owner.block), opt8 n.owner.number,
    .always (be8 n.extraDelay), opt8 (n.slot.map LoopCommand.code), .always (be8 n.misses), .always (flag n.lost),
    opt8 n.countdown, .always (be16 n.totalMisses)]

/-- READ-LOOP (R170). -/
def State.readLoop (s : State) (node : Option Byte) : State :=
  match node with
  | none => s.answer Code.readLoop .ok s.loop.bytes
  | some a =>
    if a = 0 ∨ 31 < a.toNat then s.answer Code.readLoop .badArgument []
    else
      match s.node? a.toNat with
      | none => s.answer Code.readLoop .unknown []
      | some n => s.answer Code.readLoop .ok (Node.bytes a.toNat n)

/-! ## Meanings -/

/-- ROUND_START (R160). -/
def execRoundStart (s : State) : Out := .next s.timerStart
/-- ROUND_OVERRUN (R161). -/
def execRoundOverrun (s : State) : Out := .next s.timerOverrun
/-- MESSAGE (R163). -/
def execMessage (s : State) : Out := .next s.sendMessage
/-- VALID_REPLY (R164): bytes that fail a check of R163 are a miss (log entry 23). -/
def execValidReply (bytes : List Byte) (s : State) : Out := .next (s.openEvent.endExchange bytes)
/-- MISS (R165). -/
def execMiss (s : State) : Out := .next s.openEvent.endSilent
/-- CALL (R167). -/
def execCall (s : State) : Out := .next s.sendCall
/-- CALL_ANSWER (R167). -/
def execCallAnswer (bytes : List Byte) (s : State) : Out := .next (s.openEvent.endCall bytes)
/-- CALL_SLOT_TIMEOUT (R167). -/
def execCallSlotTimeout (s : State) : Out := .next s.endCallSilent
/-- SET_LOOP (R169). -/
def execSetLoop (period : Half) (s : State) : Out := .next (s.setLoop period)
/-- READ_LOOP (R170). -/
def execReadLoop (node : Option Byte) (s : State) : Out := .next (s.readLoop node)

end Sys2Proof.Machine
end

