-- ==== Sys2Proof/Machine/PortCommands.lean ====
section
/-! DEFINITION. The commands of the command port, the notice unit and the yard clock, and the two whole-part resets
(spec/10). -/

namespace Sys2Proof.Machine

/-! ## The port (R174, R175, R184) -/

/-- The frame FETCH-REPLY sends: the pending reply, or NO-REPLY (R175). -/
def Port.frame (p : Port) : List Byte :=
  (p.reply.getD ⟨.noReply, Code.fetchReply, false, []⟩).frame p.address

/-- The bytes driven on SDO while the host clocks `n` bytes after a FETCH-REPLY: the frame, then 0xFF (R175). -/
def Port.driven (p : Port) (n : Nat) : List Byte := (p.frame ++ List.replicate n 0xFF).take n

/-- FETCH-REPLY (R175). -/
def State.fetchReply (s : State) (clocked : Nat) : State :=
  { s with port := { s.port with
    sdo := s.port.driven clocked
    reply := if s.port.frame.length ≤ clocked then none else s.port.reply } }

/-- The nine capacities of READ-IDENT (R184). -/
def capacities : List Nat :=
  [Config.pileSlots, Config.grades, Config.forecastSlots, Config.orders, Config.cannons, Config.permits, Config.masts,
    Config.nodes, Config.payload]

/-- READ-IDENT (R184). -/
def State.readIdent (s : State) : State :=
  s.answer Code.readIdent .ok (be16 Config.vendor ++ be16 Config.part ++ be8 Config.revision ++ be8 s.port.address
    ++ capacities.flatMap be8)

/-! ## Notices (R181 to R183) -/

/-- The reply of READ-NOTICES: flags, mask and the four counts (R181). -/
def Notices.bytes (n : Notices) : List Byte :=
  n.flags.bytes ++ n.mask.bytes ++ be8 n.piles.length ++ be16 n.orders.length ++ be8 n.cannons.length
    ++ be8 n.permits.length

/-- READ-NOTICES: the flags are returned and cleared, the sets not touched (R181). -/
def State.readNotices (s : State) : State :=
  { s with notices := { s.notices with flags := Categories.none } }.answer Code.readNotices .ok s.notices.bytes

/-- A key as READ-CHANGES returns it; a machine id comes with its permit state and its outcome (R182), as a group
with a flag byte of its own (log entry 14). -/
def State.keyBytes (s : State) (c : ChangeSet) (k : Nat) : List Byte :=
  match c with
  | .pile => be8 k
  | .order => be16 k
  | .cannon => be8 k
  | .permit =>
    pack [.always (be8 k), opt8 ((s.permit? k).map fun p => p.state.code),
      opt8 ((Table.get s.permits.outcomes k).map fun e => e.outcome.code)]

/-- READ-CHANGES: up to 16 of the lowest keys leave the set (R182). -/
def State.readChanges (s : State) (category : Byte) : State :=
  match ChangeSet.ofCode category.toNat with
  | none => s.answer Code.readChanges .badArgument []
  | some c =>
    let ks := s.notices.keys c
    { s with notices := s.notices.withKeys c (ks.drop 16) }.answer Code.readChanges .ok
      (counted ((ks.take 16).map (s.keyBytes c)) ++ flag (!(ks.drop 16).isEmpty))

/-- SET-MASK (R183). -/
def State.setMask (s : State) (bits : Byte) : State :=
  { s with notices := { s.notices with mask := Categories.ofByte bits } }.answer Code.setMask .ok
    ((Categories.ofByte bits).bytes ++ s.notices.flags.bytes)

/-! ## The clock (R176 to R178) -/

/-- What the blocks do at a change of the yard minute, in the order of R176 (log entry 5). An arbitration that the change itself
occasions (HOLD lifted by the selection, the day rollover, ZONE lifted by a permit's lapse) is taken once the row is complete,
and so after every lapse of the change; R94 lets a lapse and an arbitration at one minute be taken in either order (log
entry 48). -/
def minuteTasks : List Task := [.selectWeather, .lapseOrders, .decayTrips, .rollOver, .permitMinute]

/-- The yard minute and the seconds count written (R176, R178). -/
def State.withMinute (s : State) (minute seconds : Nat) : State :=
  { s with clock := { s.clock with minute := minute, seconds := seconds } }

/-- A change of the yard minute to a value, with the seconds count at 0 (R176, R178). It is one event for all the blocks
that act at it (log entry 38). -/
def State.changeMinute (s : State) (minute : Nat) : State :=
  settled ((s.openEvent).withMinute minute 0, minuteTasks)

/-- The seconds count wraps and the yard minute rises, wrapping at 32 bits; the seconds of the clock input up to there
pass for the ages and the timers (R176; log entry 3). They pass before the minute changes, within the one event: a mast's
or a gauge's stale expiry, or a timer's, that falls in that second can be taken after the minute change only (R49; log
entry 44). -/
def State.minuteRise (s : State) : State :=
  (s.elapse (60 - s.clock.seconds)).changeMinute ((s.clock.minute + 1) % Config.two32)

/-- One second of the clock input (R176). -/
def State.secondRise (s : State) : State :=
  if 59 ≤ s.clock.seconds then s.minuteRise else (s.elapse 1).withMinute s.clock.minute (s.clock.seconds + 1)

/-- SET-CLOCK (R178). -/
def State.setClock (s : State) (broadcast : Bool) (minute : Long) : State :=
  let s1 := if minute.toNat = s.clock.minute then s.withMinute s.clock.minute 0 else s.changeMinute minute.toNat
  s1.answerUnless broadcast Code.setClock .ok (be32 s.clock.minute ++ be32 minute.toNat
    ++ flag (dayOf s.clock.minute != dayOf minute.toNat))

/-- READ-CLOCK (R178). -/
def State.readClock (s : State) : State :=
  s.answer Code.readClock .ok (be32 s.clock.minute ++ be8 s.clock.seconds ++ be32 (dayOf s.clock.minute)
    ++ be8 s.clock.stepLeft)

/-! ## Resets (R185, R186) -/

/-- The state a whole-part reset leaves: every block in its reset state, the device address sampled from the pins, the
waiting commands kept (R185; log entry 12). -/
def State.powerOn (s : State) (pins : BitVec 4) : State :=
  { State.reset with port := { State.reset.port with address := pins.toNat }, pending := s.pending }

/-- RESET-YARD: the state a power-on reset gives, and no reply (R186). -/
def State.resetYard (s : State) (pins : BitVec 4) : State := s.powerOn pins

/-! ## Meanings -/

/-- POWER_ON_RESET (R185). -/
def execPowerOnReset (pins : BitVec 4) (s : State) : Out := .next (s.powerOn pins)
/-- FETCH_REPLY (R175). -/
def execFetchReply (clocked : Nat) (s : State) : Out := .next (s.fetchReply clocked)
/-- READ_IDENT (R184). -/
def execReadIdent (s : State) : Out := .next s.readIdent
/-- READ_NOTICES (R181). -/
def execReadNotices (s : State) : Out := .next s.readNotices
/-- READ_CHANGES (R182). -/
def execReadChanges (category : Byte) (s : State) : Out := .next (s.readChanges category)
/-- SET_MASK (R183). -/
def execSetMask (bits : Byte) (s : State) : Out := .next (s.setMask bits)
/-- SET_CLOCK (R178). -/
def execSetClock (broadcast : Bool) (minute : Long) (s : State) : Out := .next (s.setClock broadcast minute)
/-- READ_CLOCK (R178). -/
def execReadClock (s : State) : Out := .next s.readClock
/-- RESET_YARD (R186). -/
def execResetYard (pins : BitVec 4) (s : State) : Out := .next (s.resetYard pins)
/-- YARD_MINUTE_CHANGE (R176). -/
def execYardMinuteChange (s : State) : Out := .next s.minuteRise
/-- SECONDS_COUNT_RISE (R176). -/
def execSecondsCountRise (s : State) : Out := .next s.secondRise

end Sys2Proof.Machine
end

