-- ==== Sys2Proof/Machine/Transaction.lean ====
section
/-! DEFINITION. A transaction judged at CS rising (R172): ignored, answered BAD-FRAME, or the command it carries. -/

namespace Sys2Proof.Machine

/-- What the command of a good frame does. A frame carries host commands only; an event of the part is none. -/
def State.hostCommand (i : Instr) (s : State) : State :=
  match i with
  | .fetchReply clocked => s.fetchReply clocked
  | .readIdent => s.readIdent
  | .readNotices => s.readNotices
  | .readChanges category => s.readChanges category
  | .setMask bits => s.setMask bits
  | .setClock broadcast minute => s.setClock broadcast minute
  | .readClock => s.readClock
  | .resetYard pins => s.resetYard pins
  | .loadGrade number a => s.loadGrade number a
  | .openPile a => s.openPile a
  | .amendPile a => s.amendPile a
  | .readPile selector value => s.readPile selector value
  | .rankPiles band => s.rankPiles band
  | .setMoisture tag value => s.setMoisture tag value
  | .reportDisturbance tag f mf => s.reportDisturbance tag f mf
  | .retirePile tag => s.retirePile tag
  | .setLead value => s.setLead value
  | .setBands b1 b2 b3 => s.setBands b1 b2 b3
  | .readModel => s.readModel
  | .loadMast mast node stale => s.loadMast mast node stale
  | .setWindLimits a => s.setWindLimits a
  | .readWind => s.readWind
  | .postForecast broadcast a => s.postForecast broadcast a
  | .setYardCodes c1 c2 c3 c4 => s.setYardCodes c1 c2 c3 c4
  | .readForecast form key => s.readForecast form key
  | .clearForecasts => s.clearForecasts
  | .placeOrder a => s.placeOrder a
  | .suspendOrder id => s.suspendOrder id
  | .resumeOrder id => s.resumeOrder id
  | .cancelOrder id => s.cancelOrder id
  | .volley broadcast code => s.fireVolley broadcast code
  | .readOrder selector value => s.readOrder selector value
  | .setDispatch lapse maxDose floor => s.setDispatch lapse maxDose floor
  | .readDispatch => s.readDispatch
  | .loadCannon number node a => s.loadCannon number node a
  | .resetCannon number => s.resetCannon number
  | .readCannon number => s.readCannon number
  | .loadBasinTank node a => s.loadBasinTank node a
  | .loadBasinPond a => s.loadBasinPond a
  | .setAllowance value => s.setAllowance value
  | .reportInflow litres => s.reportInflow litres
  | .setPond volume clearSpill => s.setPond volume clearSpill
  | .readWater => s.readWater
  | .requestPermit machine kind tag => s.requestPermit machine kind tag
  | .releasePermit a => s.releasePermit a
  | .setPermitLimits prewet stacker reclaimer dozer => s.setPermitLimits prewet stacker reclaimer dozer
  | .readPermit form key => s.readPermit form key
  | .setLoop period => s.setLoop period
  | .readLoop node => s.readLoop node
  | .powerOnReset _ | .badFrame _ _ _ | .modelStep | .mastStaleExpiry _ | .slotRetirement | .arbitration | .orderLapse _
  | .slewTimeout _ | .blankingTimerExpiry _ | .closeWaitExpiry _ | .retryDelayEnd _ | .tripCountDecay _
  | .gaugeStaleExpiry | .dayRollover | .startWaitExpiry | .holdOffEnd | .prewetWaitExpiry _ | .maxHoldLapse _
  | .roundStart | .roundOverrun | .message | .validReply _ | .miss | .call | .callAnswer _ | .callSlotTimeout
  | .yardMinuteChange | .secondsCountRise => s

/-- A transaction is judged, and what it comes to carried out (R172, R174, R187). A BAD-FRAME reply names the code byte as
received (log entry 36). -/
def State.judge (s : State) (pins : BitVec 4) (resetLow : Bool) (bytes : List Byte) : State :=
  match decodeFrame s.port.address pins resetLow bytes with
  | .ignored => s
  | .bad code => s.answer code .badFrame []
  | .unlisted code => s.answer code .badArgument []
  | .command i => s.hostCommand i

/-- BAD_FRAME (R172); a transaction that holds a good frame has its command executed (log entry 15). -/
def execBadFrame (pins : BitVec 4) (resetLow : Bool) (bytes : List Byte) (s : State) : Out :=
  .next (s.judge pins resetLow bytes)

end Sys2Proof.Machine
end

