-- ==== Sys2Proof/Machine/Dispatch.lean ====
section
/-! DEFINITION. One arm for each command of the table. -/

namespace Sys2Proof.Machine

def exec (i : Instr) (s : State) : Host.Outcome State Fault Refusal :=
  match i with
  | .powerOnReset pins => Sys2Proof.Machine.execPowerOnReset pins s
  | .badFrame pins resetLow bytes => Sys2Proof.Machine.execBadFrame pins resetLow bytes s
  | .fetchReply clocked => Sys2Proof.Machine.execFetchReply clocked s
  | .readIdent => Sys2Proof.Machine.execReadIdent s
  | .readNotices => Sys2Proof.Machine.execReadNotices s
  | .readChanges category => Sys2Proof.Machine.execReadChanges category s
  | .setMask bits => Sys2Proof.Machine.execSetMask bits s
  | .setClock broadcast minute => Sys2Proof.Machine.execSetClock broadcast minute s
  | .readClock => Sys2Proof.Machine.execReadClock s
  | .resetYard pins => Sys2Proof.Machine.execResetYard pins s
  | .loadGrade number args => Sys2Proof.Machine.execLoadGrade number args s
  | .openPile args => Sys2Proof.Machine.execOpenPile args s
  | .amendPile args => Sys2Proof.Machine.execAmendPile args s
  | .readPile selector value => Sys2Proof.Machine.execReadPile selector value s
  | .rankPiles band => Sys2Proof.Machine.execRankPiles band s
  | .setMoisture tag value => Sys2Proof.Machine.execSetMoisture tag value s
  | .reportDisturbance tag f mf => Sys2Proof.Machine.execReportDisturbance tag f mf s
  | .retirePile tag => Sys2Proof.Machine.execRetirePile tag s
  | .setLead value => Sys2Proof.Machine.execSetLead value s
  | .setBands b1 b2 b3 => Sys2Proof.Machine.execSetBands b1 b2 b3 s
  | .readModel => Sys2Proof.Machine.execReadModel s
  | .modelStep => Sys2Proof.Machine.execModelStep s
  | .loadMast mast node stale => Sys2Proof.Machine.execLoadMast mast node stale s
  | .mastStaleExpiry mast => Sys2Proof.Machine.execMastStaleExpiry mast s
  | .setWindLimits args => Sys2Proof.Machine.execSetWindLimits args s
  | .readWind => Sys2Proof.Machine.execReadWind s
  | .postForecast broadcast args => Sys2Proof.Machine.execPostForecast broadcast args s
  | .slotRetirement => Sys2Proof.Machine.execSlotRetirement s
  | .setYardCodes c1 c2 c3 c4 => Sys2Proof.Machine.execSetYardCodes c1 c2 c3 c4 s
  | .readForecast form key => Sys2Proof.Machine.execReadForecast form key s
  | .clearForecasts => Sys2Proof.Machine.execClearForecasts s
  | .placeOrder args => Sys2Proof.Machine.execPlaceOrder args s
  | .suspendOrder id => Sys2Proof.Machine.execSuspendOrder id s
  | .resumeOrder id => Sys2Proof.Machine.execResumeOrder id s
  | .cancelOrder id => Sys2Proof.Machine.execCancelOrder id s
  | .volley broadcast code => Sys2Proof.Machine.execVolley broadcast code s
  | .readOrder selector value => Sys2Proof.Machine.execReadOrder selector value s
  | .setDispatch lapse maxDose floor => Sys2Proof.Machine.execSetDispatch lapse maxDose floor s
  | .readDispatch => Sys2Proof.Machine.execReadDispatch s
  | .arbitration => Sys2Proof.Machine.execArbitration s
  | .orderLapse id => Sys2Proof.Machine.execOrderLapse id s
  | .loadCannon number node args => Sys2Proof.Machine.execLoadCannon number node args s
  | .slewTimeout number => Sys2Proof.Machine.execSlewTimeout number s
  | .blankingTimerExpiry number => Sys2Proof.Machine.execBlankingTimerExpiry number s
  | .closeWaitExpiry number => Sys2Proof.Machine.execCloseWaitExpiry number s
  | .retryDelayEnd number => Sys2Proof.Machine.execRetryDelayEnd number s
  | .tripCountDecay number => Sys2Proof.Machine.execTripCountDecay number s
  | .resetCannon number => Sys2Proof.Machine.execResetCannon number s
  | .readCannon number => Sys2Proof.Machine.execReadCannon number s
  | .loadBasinTank node args => Sys2Proof.Machine.execLoadBasinTank node args s
  | .loadBasinPond args => Sys2Proof.Machine.execLoadBasinPond args s
  | .gaugeStaleExpiry => Sys2Proof.Machine.execGaugeStaleExpiry s
  | .setAllowance value => Sys2Proof.Machine.execSetAllowance value s
  | .dayRollover => Sys2Proof.Machine.execDayRollover s
  | .reportInflow litres => Sys2Proof.Machine.execReportInflow litres s
  | .setPond volume clearSpill => Sys2Proof.Machine.execSetPond volume clearSpill s
  | .startWaitExpiry => Sys2Proof.Machine.execStartWaitExpiry s
  | .holdOffEnd => Sys2Proof.Machine.execHoldOffEnd s
  | .readWater => Sys2Proof.Machine.execReadWater s
  | .requestPermit machine kind tag => Sys2Proof.Machine.execRequestPermit machine kind tag s
  | .prewetWaitExpiry machine => Sys2Proof.Machine.execPrewetWaitExpiry machine s
  | .maxHoldLapse machine => Sys2Proof.Machine.execMaxHoldLapse machine s
  | .releasePermit args => Sys2Proof.Machine.execReleasePermit args s
  | .setPermitLimits prewet stacker reclaimer dozer => Sys2Proof.Machine.execSetPermitLimits prewet stacker reclaimer dozer s
  | .readPermit form key => Sys2Proof.Machine.execReadPermit form key s
  | .roundStart => Sys2Proof.Machine.execRoundStart s
  | .roundOverrun => Sys2Proof.Machine.execRoundOverrun s
  | .message => Sys2Proof.Machine.execMessage s
  | .validReply bytes => Sys2Proof.Machine.execValidReply bytes s
  | .miss => Sys2Proof.Machine.execMiss s
  | .call => Sys2Proof.Machine.execCall s
  | .callAnswer bytes => Sys2Proof.Machine.execCallAnswer bytes s
  | .callSlotTimeout => Sys2Proof.Machine.execCallSlotTimeout s
  | .setLoop period => Sys2Proof.Machine.execSetLoop period s
  | .readLoop node => Sys2Proof.Machine.execReadLoop node s
  | .yardMinuteChange => Sys2Proof.Machine.execYardMinuteChange s
  | .secondsCountRise => Sys2Proof.Machine.execSecondsCountRise s

end Sys2Proof.Machine
end

