-- ==== Sys2Proof/Safety.lean ====
section
/-! DEFINITION. What holds of every sound state of the part, block by block: the ranges and the order the manual gives its
records, and what a record's fields say of one another. Claims say that the reset state has these and that every step
keeps them. Then which commands may write which settings, and which make a reply. -/

namespace Sys2Proof.Machine

/-- The port once a reply has become the pending one; it takes OVERRUN set when one stood that the host had not fetched
(R174). -/
def State.replied (s : State) (status : Status) (code : Nat) (payload : List Byte) : Port :=
  { s.port with reply := some ⟨status, code, s.port.reply.isSome, payload⟩ }

/-! ## Fields of a payload at their offsets (R187) -/

/-- The number in the bytes of a payload from an offset on, most significant byte first (R187). -/
def fieldAt (b : List Byte) (offset width : Nat) : Nat :=
  ((b.drop offset).take width).foldl (fun n x => n * 256 + x.toNat) 0

/-- A payload tells each value at its offset, in its width in bytes; a value in its field's range is told as it is. -/
def tells (b : List Byte) (fields : List (Nat × Nat × Nat)) : Prop :=
  ∀ offset width value, (offset, width, value) ∈ fields → fieldAt b offset width = value % 256 ^ width

/-- A payload tells each optional value: its flag, numbered from bit 0 of the payload's first byte on, is set exactly when
the item is present, and its field holds the value, or zeros when the item is absent (R187). -/
def tellsOptional (b : List Byte) (fields : List (Nat × Nat × Nat × Option Nat)) : Prop :=
  ∀ bit offset width value, (bit, offset, width, value) ∈ fields →
    (u8 b (bit / 8)).getLsbD (bit % 8) = value.isSome ∧ fieldAt b offset width = value.getD 0 % 256 ^ width

/-! ## What a selection of the weather brings about (R50, R54 to R56) -/

/-- The holds and the WIND notice after a selection: where a value of the weather has changed each hold stands at its threshold
for turning ON or OFF, and otherwise as it was; the notice is raised by a change of the source or of a hold, and by a gust that
turned ON (R50, R54, R55, R59). -/
def holdsFollow (s t : State) (gusted : Bool) : Prop :=
  (t.wind.weather = s.wind.weather → t.wind.cutOut = s.wind.cutOut ∧ t.wind.frost = s.wind.frost)
  ∧ (t.wind.weather ≠ s.wind.weather →
      (t.wind.cutOut = true ↔ if s.wind.cutOut = true then s.wind.limits.release < t.wind.weather.speed
        else s.wind.limits.cutOut ≤ t.wind.weather.speed)
      ∧ (t.wind.frost = true ↔ if s.wind.frost = true then t.wind.weather.temp < s.wind.limits.frostRelease
        else t.wind.weather.temp ≤ s.wind.limits.frost))
  ∧ t.notices.flags.wind = (s.notices.flags.wind || gusted || t.wind.weather.source != s.wind.weather.source
      || t.wind.cutOut != s.wind.cutOut || t.wind.frost != s.wind.frost)

/-- Orders of which none has a pass, after HOLD has gone from one value to another: it joins or leaves the suspension set of
every open one, and a waiting one it joins is starved no more (R56, R82, R88). -/
def ordersUnderHold (before after : Bool) (orders : List Order) : List Order :=
  if before = after then orders
  else orders.map fun o =>
    if o.state = .ended ∨ o.suspension.hold = after then o
    else { o with
      suspension := { o.suspension with hold := after }, starved := o.starved && !(after && o.state == .waiting) }

/-- The arbitration that HOLD's leaving occasions when it empties the set of a waiting order (R84, R85). -/
def heldOccasions (before after : Bool) (orders : List Order) : Nat :=
  if before = true ∧ after = false ∧ (orders.any fun o =>
    o.state == .waiting && o.suspension.hold && !o.suspension.host && !o.suspension.zone) = true then 1 else 0

/-- HOLD's coming reaches the orders whose passes run, each for itself: one that sprays is ramped down with CLOSE sent, one
that ramps down goes on, and one that aims is abandoned and its order goes back to WAITING (R56, R82). Other passes may run
on other cannons, none of them aiming. -/
def holdReachesPasses (s t : State) (aged : Cannon → Cannon) : Prop :=
  ∀ (o : Order) (p : Pass) (c : Cannon) (n : Node), (s.wind.cutOut || s.wind.frost) = false →
    (t.wind.cutOut || t.wind.frost) = true → (s.dispatch.orders.map fun y => y.id).Nodup → s.dispatch.orders.length ≤ 32 →
    s.order? o.id = some o → o.state = .active → o.suspension.hold = false → o.pass = some p →
    (∀ y ∈ s.dispatch.orders, y.id ≠ o.id → y.state = .ended ∨ y.pass = none ∨ ∃ q d, y.pass = some q ∧ q.state ≠ .aiming
      ∧ q.cannon ≠ p.cannon ∧ s.cannon? q.cannon = some d ∧ d.bound = some y.id ∧ d.state ≠ .aiming
      ∧ d.config.node ≠ c.config.node) →
    s.cannon? p.cannon = some c → c.bound = some o.id → s.node? c.config.node = some n → n.owner = .cannon p.cannon →
    ∀ held : Order, held = { o with suspension := { o.suspension with hold := true } } →
    (p.state = .spraying → c.state = .spraying →
      t.order? o.id = some { held with pass := some { p with state := .rampDown } }
      ∧ t.cannon? p.cannon = some { aged c with
        state := .rampDown, closeWait := some (c.closeWait.getD (c.config.rampTime + 5)), blankingOn := false }
      ∧ t.node? c.config.node = some { n with slot := some .close })
    ∧ (p.state = .rampDown → c.state = .rampDown →
      t.order? o.id = some held ∧ t.cannon? p.cannon = some (aged c) ∧ t.node? c.config.node = some n)
    ∧ (p.state = .aiming → c.state = .aiming → o.origin = .host → o.cancelPending = false → o.plan = none →
      o.delivered + 50 ≤ o.dose → o.dose ≤ 65535 → s.permits.list = [] → (∀ x ∈ s.dispatch.orders, x.origin = .host) →
      (∀ e ∈ s.piles, e.2.life = .live) → c.header ≠ none →
      t.order? o.id = some { held with
        state := .waiting, pass := none, lastEnd := some .abandoned, lapseRef := t.clock.minute }
      ∧ (c.aimPhase = some .slewing → t.cannon? p.cannon = some { aged c with
        state := .idle, aimPhase := none, header := none, bound := none, slew := none, blankingOn := false
        aimWaiting := false })
      ∧ (c.aimPhase = some .opening → t.cannon? p.cannon = some { aged c with
        state := .rampDown, aimPhase := none, bound := none, slew := none, blankingOn := false, aimWaiting := false
        closeWait := some (c.closeWait.getD (c.config.rampTime + 5)) })
      ∧ t.node? c.config.node = some { n with slot := some .close })

/-- The orders after a selection that brought nothing about but the holds: the whole dispatcher is told where no pass runs, and
what becomes of a running one (R56, R82, R84). -/
def holdReachesOrders (s t : State) : Prop :=
  (∀ before after : Bool, before = (s.wind.cutOut || s.wind.frost) → after = (t.wind.cutOut || t.wind.frost) →
    (s.dispatch.orders.map fun o => o.id).Nodup → s.dispatch.orders.length ≤ 32 →
    (∀ o ∈ s.dispatch.orders, o.state = .ended ∨ o.pass = none) → t.dispatch = { s.dispatch with
      orders := ordersUnderHold before after s.dispatch.orders
      due := s.dispatch.due + heldOccasions before after s.dispatch.orders })
  ∧ holdReachesPasses s t fun c => c

/-! ## Litres metered while a cannon holds a slot on a header (R124, R132) -/

/-- The litres of a reply that ends no pass: on the FRESH header they count to used today and spent is evaluated, WATER raised
where it becomes set; on the REUSE header nothing is counted. -/
def litresCounted (h : Header) (litres : Nat) (s t : State) : Prop :=
  t.water.usedToday = (if h = .fresh then min 4294967295 (s.water.usedToday + litres) else s.water.usedToday)
  ∧ t.water.spent = (if h = .fresh then decide (t.freshAvailable < 50) else s.water.spent)
  ∧ t.notices.flags.water = (s.notices.flags.water || (t.water.spent && !s.water.spent))

/-- The litres of a reply at which the pass of an order ends: they are counted first, with the order as `fed` has it, and spent
is evaluated once more when the reservation has left the committed volume. WATER is raised where spent becomes set at either
evaluation, and by a spill. -/
def litresCountedAtEnd (h : Header) (litres id : Nat) (fed : Order → Order) (spilled : Bool) (s t : State) : Prop :=
  t.water.usedToday = (if h = .fresh then min 4294967295 (s.water.usedToday + litres) else s.water.usedToday)
  ∧ t.water.spent = decide (t.freshAvailable < 50)
  ∧ ∀ (drawn : State) (spent : Bool), drawn = { s with
        dispatch := { s.dispatch with orders := s.dispatch.orders.map fun x => if x.id = id then fed x else x }
        water := { s.water with usedToday := t.water.usedToday } } →
      spent = (if h = .fresh then decide (drawn.freshAvailable < 50) else s.water.spent) →
      t.notices.flags.water
        = (s.notices.flags.water || (spent && !s.water.spent) || (t.water.spent && !spent) || spilled)

/-! ## Permits whose limit is reached (R147, R150, R152) -/

/-- A permit that has waited or worked as long as it may: a prewet wait, a max hold of its kind, in minutes. -/
def limitReached (now wait : Nat) (hold : PermitKind → Nat) (x : Permit) : Prop :=
  (x.state = .pendingWet ∧ x.entered + wait ≤ now) ∨ (x.state = .granted ∧ x.entered + hold x.kind ≤ now)

/-- A yard in which the permits due end each on its own: no pass runs for a prewet order that loses its permits, no order and
no waiting permit stands on the pile of a permit that lapses, and no pile is about to retire. -/
def expiriesApart (due : Permit → Bool) (s : State) : Prop :=
  s.permits.list.length ≤ 16 ∧ (s.permits.list.map fun y => y.machine).Nodup
  ∧ (s.dispatch.orders.map fun o => o.id).Nodup ∧ s.dispatch.orders.length ≤ 32 ∧ Table.wf s.piles = true
  ∧ (s.piles.map fun e => e.2.tag).Nodup
  ∧ (∀ y ∈ s.permits.list, ∀ slot p, s.pileAt? y.tag = some (slot, p) → p.life = .live ∧ p.retirePending = false)
  ∧ (∀ y ∈ s.permits.list, due y = true → y.state = .pendingWet → ∀ o ∈ s.dispatch.orders, y.prewetOrder = some o.id →
      o.state ≠ .active ∧ ∀ slot p, s.pileAt? o.tag = some (slot, p) → p.life = .live)
  ∧ ∀ y ∈ s.permits.list, due y = true → y.state = .granted →
      (∃ slot p g, s.pileAt? y.tag = some (slot, p) ∧ Table.get s.grades p.grade = some g ∧ g.fdef ≤ 100)
      ∧ (∀ o ∈ s.dispatch.orders, o.tag ≠ y.tag) ∧ ∀ z ∈ s.permits.list, z.tag = y.tag → z.state ≠ .pendingWet

/-- The permits due have ended, in the order given: one that waited is refused, and the order it alone waited for is
cancelled; one that was granted lapses, its pile blended by the grade's fdef and Mcore and marked estimated. -/
def permitsRunOut (now : Nat) (due : Permit → Bool) (ending : List Permit) (s t : State) : Prop :=
  ∀ (g : Pile → Grade) (blended : Pile → Pile)
    (expire : Table Pile × Table OutcomeEntry × Notices → Permit → Table Pile × Table OutcomeEntry × Notices)
    (orphan : Order → Bool) (all : Table Pile × Table OutcomeEntry × Notices),
    (∀ p e, g { p with m := e, estimated := true } = g p) →
    (∀ e ∈ s.piles, (∃ y ∈ ending, y.state = .granted ∧ y.tag = e.2.tag) →
      Table.get s.grades e.2.grade = some (g e.2)) →
    (∀ p, blended p = { p with
      m := (p.m * (100 - (g p).fdef) + min p.mcore (g p).msat * (g p).fdef + 50) / 100, estimated := true }) →
    (∀ acc y, y.state = .pendingWet → expire acc y = (acc.1,
      Table.set acc.2.1 y.machine ⟨.refusedTooDry, now, y.tag, y.id, none⟩, acc.2.2.hand .permit y.machine)) →
    (∀ acc y slot p, y.state = .granted → acc.1.find? (fun e => e.2.tag == y.tag) = some (slot, p) → expire acc y =
      (acc.1.map (fun e => if e.2.tag = y.tag then (e.1, blended e.2) else e),
        Table.set acc.2.1 y.machine ⟨.lapsed, now, y.tag, y.id, some (blended p).m⟩,
        (if p.estimated then acc.2.2 else acc.2.2.hand .pile slot).hand .permit y.machine)) →
    (∀ o, orphan o = true ↔ o.state ≠ .ended ∧ (∃ y ∈ ending, y.state = .pendingWet ∧ y.prewetOrder = some o.id)
      ∧ ∀ y ∈ s.permits.list, y.state = .pendingWet → y.prewetOrder = some o.id → due y = true) →
    all = ending.foldl expire (s.piles, s.permits.outcomes, s.notices) →
    t.piles = all.1 ∧ t.permits.list = (s.permits.list.filter fun y => !due y) ∧ t.permits.outcomes = all.2.1
    ∧ t.dispatch.orders = (s.dispatch.orders.map fun o => if orphan o then { o with
        state := .ended, outcome := some .cancelled, endedMinute := some now, endedEvent := s.events + 1
        starved := false } else o)
    ∧ t.notices = { all.2.2 with orders := t.notices.orders, flags := t.notices.flags }
    ∧ (∀ i, i ∈ t.notices.orders ↔ i ∈ s.notices.orders ∨ ∃ o ∈ s.dispatch.orders, orphan o = true ∧ o.id = i)
    ∧ ((∀ o ∈ s.dispatch.orders, orphan o = false) →
        t.notices = { all.2.2 with flags := { all.2.2.flags with water := t.notices.flags.water } })

/-! ## A prewet order's acceptance (R36, R80, R81) -/

/-- A PREWET order of a pile accepted: the record it starts with, its dose sized by the pile's shortfall of moisture and the
wind it has now, its id carried by no order kept, and the entry freed when all 32 are taken. -/
def prewetPlaced (s t : State) (p : Pile) (g : Grade) (o : Order) : Prop :=
  ∃ (kept : List Order) (landed litres : Nat),
    landed = ((max g.mwork (min g.msat (g.mt + g.margin)) - p.m) * p.area + g.gk - 1) / g.gk
    ∧ litres = max 50 ((landed * 256 + (256 - min 192 (p.lastWp / 4)) - 1) / (256 - min 192 (p.lastWp / 4)))
    ∧ (s.dispatch.orders.length < 32 → kept = s.dispatch.orders)
    ∧ (s.dispatch.orders.length = 32 → ∃ (i : Nat) (x : Order), s.dispatch.orders[i]? = some x ∧ x.state = .ended
        ∧ (∀ y ∈ s.dispatch.orders, y.state = .ended → x.endedEvent ≤ y.endedEvent)
        ∧ (∀ (j : Nat) (y : Order), j < i → s.dispatch.orders[j]? = some y → y.state = .ended → x.endedEvent < y.endedEvent)
        ∧ kept = s.dispatch.orders.filter fun y => y.id != x.id)
    ∧ (∀ x ∈ kept, x.id ≠ o.id) ∧ 1 ≤ o.id ∧ o.id ≤ 65535
    ∧ ((∀ x ∈ kept, x.id ≠ s.dispatch.nextId) → o.id = s.dispatch.nextId)
    ∧ o = ⟨o.id, p.tag, .prewet, 3, min litres s.dispatch.maxDose, 0, .reuseThenFresh, none, none, .waiting,
        ⟨false, t.wind.cutOut || t.wind.frost,
          s.permits.list.any fun y => decide (y.tag = p.tag ∧ y.state ≠ .pendingWet)⟩,
        false, decide (s.dispatch.maxDose < litres), false, t.clock.minute, t.clock.minute, 0, none, none, none, none, 0⟩
    ∧ t.dispatch = { s.dispatch with orders := kept ++ [o], nextId := o.id % 65535 + 1, due := t.dispatch.due }

/-! ## Order of the tables and sets (spec/00, section 7; R179) -/

/-- Every table stands in ascending key order with no key twice. -/
def State.tablesAscend (s : State) : Bool :=
  Table.wf s.piles && Table.wf s.grades && Table.wf s.wind.masts && Table.wf s.cannons && Table.wf s.permits.outcomes
    && Table.wf s.loop.nodes

/-- The four change sets stand in ascending key order with no key twice (R179). -/
def Notices.ascend (n : Notices) : Bool :=
  ascending n.piles && ascending n.orders && ascending n.cannons && ascending n.permits

/-! ## Clock and model (R22, R176, R177) -/

/-- The clock and the model's settings are in range. -/
def State.clockAndModelInRange (s : State) : Bool :=
  decide (s.clock.minute < Config.two32) && decide (s.clock.seconds ≤ 59) && within 1 60 s.clock.stepLeft
    && decide (s.model.lead ≤ 240) && decide (1 ≤ s.model.b1) && decide (s.model.b1 < s.model.b2)
    && decide (s.model.b2 < s.model.b3) && decide (s.model.b3 ≤ 255)

/-! ## Piles and grades (R2, R3, R6) -/

/-- A grade's constants are in the ranges of R6. -/
def Grade.inRange (g : Grade) : Bool :=
  within 1 255 g.kg && within 1 255 g.gk && decide (g.mt ≤ g.msat) && decide (g.mwork ≤ g.msat)
    && within 1 Config.maxMoisture g.msat && decide (g.margin ≤ 1000) && within 1 255 g.dg && decide (g.fdef ≤ 100)

/-- A pile's fields are in the ranges of R2, its M no higher than the Msat of its loaded grade, and its band the one its
risk selects (R10, R29, R42). -/
def State.pileInRange (s : State) (p : Pile) : Bool :=
  within 1 65535 p.tag && within 1 65535 p.area && decide (p.residue < Config.two16)
    && decide (p.mcore ≤ Config.maxMoisture) && decide (p.lastWp ≤ Config.maxWind)
    && decide (p.lastWgp ≤ Config.maxWind) && decide (p.risk ≤ 255) && (p.band == bandOf s.model p.risk)
    && (s.gradeOf? p).any fun g => decide (p.m ≤ g.msat)

/-- The pile table and the grade table are sound: slots and numbers in range, records in range, no tag on two piles. -/
def State.pilesSound (s : State) : Bool :=
  Table.wf s.piles && (s.piles.all fun e => decide (e.1 < Config.pileSlots) && s.pileInRange e.2)
    && (s.grades.all fun e => decide (e.1 < Config.grades) && e.2.inRange)
    && decide ((s.piles.map fun e => e.2.tag).Nodup)

/-! ## Weather (R44, R50, R60, R61) -/

/-- A value, when there is one, is at most some bound. -/
def atMost (x : Option Nat) (n : Nat) : Bool := x.all fun v => decide (v ≤ n)

/-- A temperature is in the range of the units table. -/
def tempInRange (t : Int) : Bool := withinInt (-40) 60 t

/-- A mast's fields are in the ranges of R44, and it is FRESH exactly while its ring holds a sample. -/
def Mast.sound (m : Mast) : Bool :=
  decide (m.ring.length ≤ 4) && (m.ring.all fun v => decide (v ≤ Config.maxWind)) && (m.fresh == !m.ring.isEmpty)
    && atMost m.inst Config.maxWind && atMost m.octant 7 && atMost m.pendingOctant 7 && decide (m.gustCount ≤ 1)
    && atMost m.direction 359 && atMost m.rh 100 && atMost m.rain 999 && m.temp.all tempInRange
    && atMost m.age 65535

/-- The effective weather is in the ranges of R50. -/
def Weather.inRange (w : Weather) : Bool :=
  decide (w.speed ≤ Config.maxWind) && decide (w.gustSpeed ≤ Config.maxWind) && decide (w.octant ≤ 8)
    && decide (w.rh ≤ 100) && decide (w.rain ≤ 999) && tempInRange w.temp

/-- A held slot's fields are in the ranges of R61, after the clamping of R62. -/
def Slot.inRange (x : Slot) : Bool :=
  within 10 360 x.length && decide (x.stop ≤ Config.two32) && decide (x.wind ≤ Config.maxWind)
    && decide (x.gust ≤ Config.maxWind) && decide (x.octant ≤ 8) && decide (x.rh ≤ 100) && decide (x.rain ≤ 999)
    && tempInRange x.temp

/-- Slots follow one another: none starts before the one ahead of it has stopped, so no two overlap (R60). -/
def slotsFollow : List Slot → Bool
  | [] => true
  | [_] => true
  | x :: y :: t => decide (x.stop ≤ y.start) && slotsFollow (y :: t)

/-- The forecast table is sound (R60, R61). -/
def Forecast.sound (f : Forecast) : Bool :=
  decide (f.slots.length ≤ Config.forecastSlots) && f.slots.all Slot.inRange && slotsFollow f.slots
    && f.codes.length == 4 && f.latest.length == 5

/-- The wind monitor and the forecast table are sound. -/
def State.weatherSound (s : State) : Bool :=
  (s.wind.masts.all fun e => decide (e.1 < Config.masts) && e.2.sound) && s.wind.weather.inRange
    && decide (s.wind.lastOctant ≤ 7) && s.forecast.sound

/-! ## Orders (R74, R75) -/

/-- An order's own fields are sound: an ENDED order has its outcome and minute and is not starved (R75, R77, R88). -/
def Order.sound (o : Order) : Bool :=
  within 1 65535 o.id && decide (o.priority ≤ 3) && decide (o.passes ≤ 255) && decide (o.delivered < Config.two32)
    && (o.isOpen || (o.outcome.isSome && o.endedMinute.isSome && !o.starved))

/-- The order table is sound: at most 32 orders, no id twice, and the next id in range (R74). -/
def Dispatcher.sound (d : Dispatcher) : Bool :=
  decide (d.orders.length ≤ Config.orders) && d.orders.all Order.sound && decide ((d.orders.map Order.id).Nodup)
    && within 1 65535 d.nextId

/-! ## Cannons (R99, R100, R105 to R119) -/

/-- The fields of a cannon that go with its state: the aim phase, the timers, the bound pass and the header slot. -/
def Cannon.sound (c : Cannon) : Bool :=
  (c.aimPhase.isSome == (c.state == .aiming))
    && (c.slew.isNone || c.state == .aiming)
    && (!c.aimWaiting || c.aimPhase == some .slewing)
    && (!c.blankingOn || c.state == .aiming || c.state == .spraying)
    && (c.closeWait.isNone || c.state == .rampDown || c.state == .tripped || c.state == .locked)
    && (c.retry.isNone || (c.state == .tripped && c.closeWait.isNone && c.bound.isNone && c.header.isNone))
    && (c.bound.isNone || !(c.state == .idle || c.state == .lost || c.state == .resetting))
    && (c.header.isNone || !(c.state == .idle || c.state == .lost))

/-- The cannon table is sound: numbers in range, every record sound, and no header held by more cannons than it has
slots (R99, R122, R123). -/
def State.cannonsSound (s : State) : Bool :=
  Table.wf s.cannons && (s.cannons.all fun e => decide (e.1 < Config.cannons) && e.2.sound)
    && decide ((s.holders .reuse).length ≤ Config.reuseSlots) && decide ((s.holders .fresh).length ≤ Config.freshSlots)

/-! ## Water (R122, R135, R138) -/

/-- The pond holds no more than its capacity, and the transfer record's timers go with its state. -/
def Water.sound (w : Water) : Bool :=
  decide (w.pond.volume ≤ w.pond.capacity) && decide (w.pond.spill < Config.two32)
    && decide (w.usedToday < Config.two32)
    && (w.transfer.startWait.isNone || w.transfer.state == .starting)
    && (!w.transfer.runWaiting || w.transfer.state == .starting)
    && (w.transfer.holdOff.isNone || w.transfer.state == .stopped)
    && (!w.transfer.pendingHoldOff || w.transfer.state == .stopping)
    && (w.pond.node.isSome || w.transfer.state == .stopped)

/-! ## Permits (R143 to R145, R20) -/

/-- A permit's own fields are sound: only a PENDING-WET permit names a prewet order (R144, R148). -/
def Permit.sound (p : Permit) : Bool :=
  within 1 255 p.id && within 1 63 p.machine && (p.state == .pendingWet || p.prewetOrder.isNone)

/-- The permits on a pile go together: at most one STACKER or RECLAIMER, and at most two DOZERs (R145). -/
def compatible (ps : List Permit) : Bool :=
  decide ((ps.filter fun p => p.kind.cuts).length ≤ 1) && decide ((ps.filter fun p => p.kind == .dozer).length ≤ 2)

/-- The permit table is sound: at most 16 permits, no id and no machine twice, and compatible on every pile. -/
def Permits.sound (x : Permits) : Bool :=
  decide (x.list.length ≤ Config.permits) && x.list.all Permit.sound && decide ((x.list.map Permit.id).Nodup)
    && decide ((x.list.map Permit.machine).Nodup)
    && (x.list.all fun p => compatible (x.list.filter fun q => q.tag == p.tag)) && within 1 255 x.nextId

/-- Every permit names a LIVE pile, and no tag stands on two piles (R3, R20). -/
def State.permitsOnLive (s : State) : Bool :=
  Table.wf s.piles && decide ((s.piles.map fun e => e.2.tag).Nodup)
    && s.permits.list.all fun p => s.liveTag p.tag

/-! ## Cannons, orders and permits together (R100, R151) -/

/-- The pass bound to each cannon is the current pass of an ACTIVE order, made on that cannon and not ended (R87, R105). -/
def State.passesBound (s : State) : Bool :=
  s.cannons.all fun e => e.2.bound.all fun id => (s.order? id).any fun o =>
    o.state == .active && o.pass.any fun p => p.cannon == e.1 && p.state != .closed

/-- While a pile has a CLEARING or GRANTED permit, every open order on it has ZONE in its suspension set; and while it has a
GRANTED one, no pass on it is AIMING, SPRAYING or in RAMP-DOWN (R151). -/
def State.zonesHeld (s : State) : Bool :=
  s.permits.list.all fun x => x.state == .pendingWet || s.dispatch.orders.all fun o =>
    o.tag != x.tag || ((!o.isOpen || o.suspension.zone) && (x.state == .clearing || !o.passRuns))

/-! ## The yard loop (R158 to R167) -/

/-- A node entry is sound: the countdown is there exactly while the node is lost (R158). -/
def Node.sound (n : Node) : Bool :=
  decide (n.misses ≤ 2) && (n.lost == n.countdown.isSome) && (n.countdown.all fun k => within 1 8 k)
    && decide (n.extraDelay ≤ 15) && decide (n.totalMisses ≤ 65535)

/-- An address stands in the node list. -/
def Loop.lists (l : Loop) (a : Nat) : Bool := (Table.get l.nodes a).isSome

/-- Where the round stands names nodes of the list only. -/
def Loop.phaseListed (l : Loop) : Bool :=
  match l.phase with
  | .noRound => true
  | .between todo => todo.all l.lists
  | .exchange a _ todo => l.lists a && todo.all l.lists
  | .calling => true

/-- The loop master is sound: RUNNING exactly while its list holds a node (R159), at rest while IDLE, and its call winner
and its round name listed nodes. -/
def Loop.sound (l : Loop) : Bool :=
  Table.wf l.nodes && (l.nodes.all fun e => e.2.sound) && (l.running == !l.nodes.isEmpty)
    && (l.running || (l.phase == .noRound && l.timer == .stopped && l.winner.isNone))
    && (!l.running || l.timer != .stopped) && l.winner.all l.lists && l.phaseListed

/-- The address at which an owner has its node, when it is loaded. -/
def State.addressOf (s : State) : Owner → Option Nat
  | .cannon n => (s.cannon? n).map fun c => c.config.node
  | .mast n => (Table.get s.wind.masts n).map fun m => m.node
  | .tank => s.water.tank.map fun t => t.config.node
  | .pond => s.water.pond.node

/-- What stands in a node's slot is a command of its kind; a mast's or a gauge's slot is empty (R162). -/
def Node.slotFits (n : Node) : Bool :=
  match n.owner, n.slot with
  | _, none => true
  | .cannon _, some (.aim _ _ _) => true
  | .cannon _, some (.openValve _) => true
  | .cannon _, some .close => true
  | .pond, some .run => true
  | .pond, some .stop => true
  | _, some _ => false

/-- The node list holds one node for each loaded cannon, mast, tank gauge and transfer station, at its address and with
that owner, and no other node; and every slot fits its node's kind (R158, R159, R162). -/
def State.nodesOwned (s : State) : Prop :=
  (∀ a o, (s.node? a).map (fun n => n.owner) = some o ↔ s.addressOf o = some a)
    ∧ ∀ a n, s.node? a = some n → n.slotFits = true

end Sys2Proof.Machine

namespace Sys2Proof

/-! ## Which commands write which settings, and which are answered -/

/-- Commands that can do what any command can: the two whole-part resets, and a transaction that may carry a frame. -/
def Instr.sweeping : Instr → Bool
  | .powerOnReset _ => true
  | .resetYard _ => true
  | .badFrame _ _ _ => true
  | _ => false

/-- Commands and events that move the yard clock or take an expiry it has handed on (R176 to R178). -/
def Instr.movesClock : Instr → Bool
  | .setClock _ _ => true
  | .yardMinuteChange => true
  | .secondsCountRise => true
  | .modelStep => true
  | .slotRetirement => true
  | _ => false

/-- Commands that write the forecast table (R62 to R73). -/
def Instr.writesForecast : Instr → Bool
  | .postForecast _ _ => true
  | .slotRetirement => true
  | .setYardCodes _ _ _ _ => true
  | .clearForecasts => true
  | _ => false

/-- Commands and events that write the mast records (R45 to R49, R57). -/
def Instr.writesMasts : Instr → Bool
  | .loadMast _ _ _ => true
  | .mastStaleExpiry _ => true
  | .setWindLimits _ => true
  | .validReply _ => true
  | .callAnswer _ => true
  | .yardMinuteChange => true
  | .secondsCountRise => true
  | _ => false

/-- Commands that write the moisture model's own record (R22). -/
def Instr.writesModel : Instr → Bool
  | .setLead _ => true
  | .setBands _ _ _ => true
  | .modelStep => true
  | _ => false

/-- The code under which an addressed host command is answered; an event, a broadcast, FETCH-REPLY and RESET-YARD make no
reply (R173 to R175, R186). -/
def Instr.replyCode : Instr → Option Nat
  | .powerOnReset _ | .badFrame _ _ _ | .fetchReply _ | .resetYard _ => none
  | .modelStep | .mastStaleExpiry _ | .slotRetirement | .arbitration | .orderLapse _ | .slewTimeout _
  | .blankingTimerExpiry _ | .closeWaitExpiry _ | .retryDelayEnd _ | .tripCountDecay _ | .gaugeStaleExpiry
  | .dayRollover | .startWaitExpiry | .holdOffEnd | .prewetWaitExpiry _ | .maxHoldLapse _ | .roundStart
  | .roundOverrun | .message | .validReply _ | .miss | .call | .callAnswer _ | .callSlotTimeout | .yardMinuteChange
  | .secondsCountRise => none
  | .readIdent => some 0x02
  | .readNotices => some 0x03
  | .readChanges _ => some 0x04
  | .setMask _ => some 0x05
  | .setClock broadcast _ => if broadcast then none else some 0x06
  | .readClock => some 0x07
  | .loadGrade _ _ => some 0x10
  | .openPile _ => some 0x11
  | .amendPile _ => some 0x12
  | .readPile _ _ => some 0x13
  | .rankPiles _ => some 0x14
  | .setMoisture _ _ => some 0x15
  | .reportDisturbance _ _ _ => some 0x16
  | .retirePile _ => some 0x17
  | .setLead _ => some 0x20
  | .setBands _ _ _ => some 0x21
  | .readModel => some 0x22
  | .loadMast _ _ _ => some 0x28
  | .setWindLimits _ => some 0x29
  | .readWind => some 0x2A
  | .postForecast broadcast _ => if broadcast then none else some 0x30
  | .setYardCodes _ _ _ _ => some 0x31
  | .readForecast _ _ => some 0x32
  | .clearForecasts => some 0x33
  | .placeOrder _ => some 0x40
  | .suspendOrder _ => some 0x41
  | .resumeOrder _ => some 0x42
  | .cancelOrder _ => some 0x43
  | .volley broadcast _ => if broadcast then none else some 0x44
  | .readOrder _ _ => some 0x45
  | .setDispatch _ _ _ => some 0x46
  | .readDispatch => some 0x47
  | .loadCannon _ _ _ => some 0x50
  | .readCannon _ => some 0x51
  | .resetCannon _ => some 0x52
  | .loadBasinTank _ _ => some 0x58
  | .loadBasinPond _ => some 0x58
  | .setAllowance _ => some 0x59
  | .reportInflow _ => some 0x5A
  | .setPond _ _ => some 0x5B
  | .readWater => some 0x5C
  | .requestPermit _ _ _ => some 0x60
  | .releasePermit _ => some 0x61
  | .setPermitLimits _ _ _ _ => some 0x62
  | .readPermit _ _ => some 0x63
  | .setLoop _ => some 0x68
  | .readLoop _ => some 0x69

end Sys2Proof
end

