-- ==== Sys2Proof/Certificates/Slice0/Obligations.lean ====
section
/-! DEFINITION. The statements for the provers, group by group: the queue and the port, the clock, then block by block the
result and the frame of every command, and last the invariants and the rules over all commands. `t = { s with port := t.port }`
says that t differs from s in its port alone; an equation `exec c s = .next …` gives the whole next state. -/

open Sys2Proof Sys2Proof.Machine

/-! ## The queue -/

/-- A step carries out the command at the front of the queue, on the state with the queue's rest. -/
def Obligations.StepRunsFrontCommand : Prop :=
  ∀ (c : Instr) (rest : List Instr) (s : State), step { s with pending := c :: rest } = exec c { s with pending := rest }

/-! ## The port, the notices and the resets -/

/-- Both whole-part resets leave every block in its reset state. The queue, the pins' level as an operand, and the expiries
of the step timer still to be acted on, are the model's choice (log entries 6, 11 and 12). -/
def Obligations.ResetsRestoreEveryBlock : Prop :=
  ∀ (pins : BitVec 4) (s : State), ∃ t, exec (.powerOnReset pins) s = .next t ∧ exec (.resetYard pins) s = .next t
    ∧ t.port = ⟨pins.toNat, none, []⟩ ∧ t.clock.minute = 0 ∧ t.clock.seconds = 0 ∧ t.clock.stepLeft = 60
    ∧ t.clock.modelDue = ⟨0, false⟩ ∧ t.clock.retireDue = ⟨0, false⟩
    ∧ t.notices.piles = [] ∧ t.notices.orders = [] ∧ t.notices.cannons = [] ∧ t.notices.permits = []
    ∧ t.notices.flags = ⟨false, false, false, false, false, false⟩
    ∧ t.notices.mask = ⟨false, false, false, false, false, false⟩ ∧ t.attn = false
    ∧ t.piles = [] ∧ t.grades = [] ∧ t.model = ⟨30, 32, 96, 192, none, 0, 0⟩
    ∧ t.wind.masts = [] ∧ t.wind.weather = ⟨0, 0, 0, 100, 0, 10, .unset⟩ ∧ t.wind.established = false
    ∧ t.wind.lastOctant = 0 ∧ t.wind.cutOut = false ∧ t.wind.frost = false ∧ t.wind.limits = ⟨150, 20, 200, 170, 2, 4⟩
    ∧ t.forecast = ⟨[], [0, 0, 0, 0], [none, none, none, none, none]⟩
    ∧ t.dispatch.orders = [] ∧ t.dispatch.nextId = 1 ∧ t.dispatch.lapseTime = 120 ∧ t.dispatch.maxDose = 20000
    ∧ t.dispatch.freshFloor = 2 ∧ t.cannons = []
    ∧ t.water.tank = none ∧ t.water.allowance = 0 ∧ t.water.usedToday = 0 ∧ t.water.spent = true
    ∧ t.water.pond = ⟨0, 0, 0, 0, 0, none⟩ ∧ t.water.transfer = ⟨.stopped, none, none, none, none, false, false⟩
    ∧ t.permits = ⟨[], 1, [], 45, ⟨240, 240, 240⟩⟩
    ∧ t.loop.nodes = [] ∧ t.loop.running = false ∧ t.loop.period = 500 ∧ t.loop.roundCount = 0 ∧ t.loop.overruns = 0
    ∧ t.loop.winner = none ∧ t.pending = s.pending

/-- Transactions that R172 has the port ignore change nothing, and an addressed bad frame is answered BAD-FRAME and
changes nothing else: one whose length field, byte count or CRC is wrong; one whose code is not in the catalogue; one
whose payload has a length that no layout of its command admits. A bad frame of a code that may be broadcast is ignored
when it is broadcast. A LOAD-BASIN whose basin byte is not listed is answered BAD-ARGUMENT, and an addressed
FETCH-REPLY is judged on its first four bytes alone, the others being those clocked. That a BAD-FRAME reply names the
code byte as received, the basin's status, and two readings behind the lengths listed, the mask as one byte and a lone
yes or no item as a byte, are the model's choices (log entries 36, 15, 37 and 13). -/
def Obligations.BadFramesAnsweredOrIgnored : Prop :=
  (∀ (pins : BitVec 4) (bytes : List Byte) (s : State), s.port.address ≤ 15 →
    exec (.badFrame pins true bytes) s = .next s
    ∧ (bytes.length < 4 → exec (.badFrame pins false bytes) s = .next s)
    ∧ ((u8 bytes 0).toNat ≠ s.port.address → u8 bytes 0 ≠ 0xFF → exec (.badFrame pins false bytes) s = .next s)
    ∧ ((60 < (u8 bytes 2).toNat ∨ bytes.length ≠ (u8 bytes 2).toNat + 4
          ∨ u8 bytes ((u8 bytes 2).toNat + 3) ≠ crc8 (bytes.take ((u8 bytes 2).toNat + 3))) →
        4 ≤ bytes.length →
          (u8 bytes 0 = 0xFF → exec (.badFrame pins false bytes) s = .next s)
          ∧ ((u8 bytes 0).toNat = s.port.address →
              ¬ (u8 bytes 1 = 0x01 ∧ u8 bytes 2 = 0 ∧ u8 bytes 3 = crc8 (bytes.take 3)) →
              exec (.badFrame pins false bytes) s = .next { s with port := s.replied .badFrame (u8 bytes 1).toNat [] })))
  ∧ (∀ (pins : BitVec 4) (code : Byte) (payload : List Byte) (fixed : List (Nat × Nat)) (badLength : Prop) (s : State),
    s.port.address ≤ 15 → payload.length ≤ 60 →
    fixed = [(0x02, 0), (0x03, 0), (0x04, 1), (0x05, 1), (0x06, 4), (0x07, 0), (0x0F, 0), (0x10, 13), (0x11, 18),
      (0x12, 17), (0x13, 3), (0x14, 1), (0x15, 4), (0x16, 6), (0x17, 2), (0x20, 2), (0x21, 3), (0x22, 0), (0x28, 4),
      (0x29, 10), (0x2A, 0), (0x30, 18), (0x31, 4), (0x33, 0), (0x41, 2), (0x42, 2), (0x43, 2), (0x44, 1), (0x45, 3),
      (0x46, 5), (0x47, 0), (0x51, 1), (0x52, 1), (0x59, 4), (0x5A, 4), (0x5B, 5), (0x5C, 0), (0x60, 4), (0x61, 9),
      (0x62, 7), (0x63, 2), (0x68, 2), (0x69, 2)] →
    (badLength ↔ (∃ n, (code.toNat, n) ∈ fixed ∧ payload.length ≠ n)
      ∨ (code = 0x01 ∧ payload ≠ [])
      ∨ (code = 0x32 ∧ ((payload.length ≠ 5 ∧ payload.length ≠ 2) ∨ (u8 payload 0 = 0 ∧ payload.length ≠ 5)
          ∨ (u8 payload 0 = 1 ∧ payload.length ≠ 2)))
      ∨ (code = 0x40 ∧ ∀ k, k ≤ 8 → payload.length ≠ 7 + 6 * k)
      ∨ (code = 0x50 ∧ payload.length ≠ if u8 payload 2 = 0 then 3 else 17 + 6 * (u8 payload 8).toNat)
      ∨ (code = 0x58 ∧ ((payload.length ≠ 2 ∧ payload.length ≠ 13 ∧ payload.length ≠ 19)
          ∨ (u8 payload 0 = 0 ∧ payload.length ≠ if u8 payload 1 = 0 then 2 else 13)
          ∨ (u8 payload 0 = 1 ∧ payload.length ≠ 19)))) →
    ((badLength ∨ (code.toNat ∉ fixed.map (fun e => e.1) ∧ code.toNat ∉ [0x01, 0x32, 0x40, 0x50, 0x58])) →
      exec (.badFrame pins false (closeFrame ([BitVec.ofNat 8 s.port.address, code, BitVec.ofNat 8 payload.length]
        ++ payload))) s = .next { s with port := s.replied .badFrame code.toNat [] })
    ∧ (badLength → code = 0x06 ∨ code = 0x30 ∨ code = 0x44 →
      exec (.badFrame pins false (closeFrame ([0xFF, code, BitVec.ofNat 8 payload.length] ++ payload))) s = .next s)
    ∧ (code = 0x58 → 1 < (u8 payload 0).toNat → payload.length = 2 ∨ payload.length = 13 ∨ payload.length = 19 →
      exec (.badFrame pins false (closeFrame ([BitVec.ofNat 8 s.port.address, code, BitVec.ofNat 8 payload.length]
        ++ payload))) s = .next { s with port := s.replied .badArgument 0x58 [] })
    ∧ ∀ clocked : List Byte,
      exec (.badFrame pins false (closeFrame [BitVec.ofNat 8 s.port.address, 0x01, 0] ++ clocked)) s
        = exec (.fetchReply clocked.length) s)

/-- A good frame, given as its bytes, has its command carried out: addressed to the part, or broadcast with one of the
three codes that may be broadcast; any other broadcast is ignored. That the row BAD_FRAME carries out the command of a
frame that turns out good is the model's choice (log entry 15). -/
def Obligations.GoodFramesCarryOutTheirCommand : Prop :=
  ∀ (pins : BitVec 4) (code : Byte) (payload : List Byte) (i : Instr) (s : State),
    s.port.address ≤ 15 → payload.length ≤ 60 →
    (decodePayload false pins code.toNat payload = .command i →
      exec (.badFrame pins false (closeFrame ([BitVec.ofNat 8 s.port.address, code, BitVec.ofNat 8 payload.length]
        ++ payload))) s = exec i s)
    ∧ (decodePayload true pins code.toNat payload = .command i → code = 0x06 ∨ code = 0x30 ∨ code = 0x44 →
      exec (.badFrame pins false (closeFrame ([0xFF, code, BitVec.ofNat 8 payload.length] ++ payload))) s = exec i s)
    ∧ (code ≠ 0x06 → code ≠ 0x30 → code ≠ 0x44 →
      exec (.badFrame pins false (closeFrame ([0xFF, code, BitVec.ofNat 8 payload.length] ++ payload))) s = .next s)

/-- A few frames, written out byte by byte from R187 to R189, and the commands they carry; the CRC's check value. -/
def Obligations.SampleFramesDecode : Prop :=
  crc8 [0x31, 0x32, 0x33, 0x34, 0x35, 0x36, 0x37, 0x38, 0x39] = 0xF4
    ∧ decodePayload false 0 0x20 [0x01, 0x2C] = .command (.setLead 300)
    ∧ decodePayload false 0 0x15 [0x05, 0x1F, 0x03, 0x20] = .command (.setMoisture 1311 800)
    ∧ decodePayload false 0 0x60 [21, 2, 0x05, 0xF0] = .command (.requestPermit 21 2 1520)
    ∧ decodePayload false 0 0x40 [0x04, 0xB7, 3, 1, 0, 0, 0x85, 0xFF, 0x01, 0x41, 0x2C, 0x01, 0xF4]
        = .command (.placeOrder ⟨1207, 3, 1, 0, some 5, [⟨0xFF, 20, 300, 500⟩]⟩)
    ∧ decodePayload false 0 0x61 [12, 0xFF, 0xFF, 0xFC, 0x18, 30, 0x03, 0x03, 0x84]
        = .command (.releasePermit ⟨12, 0xFFFFFC18, 30, some 900, true⟩)
    ∧ decodePayload true 0 0x44 [5] = .command (.volley true 5)

/-- FETCH-REPLY drives the pending reply's frame, or that of NO-REPLY, and then 0xFF; the reply is cleared when the whole
frame was clocked, and nothing else changes. -/
def Obligations.FetchReplyDrivesAndClears : Prop :=
  ∀ (n : Nat) (s : State), ∃ t, exec (.fetchReply n) s = .next t
    ∧ t = { s with port := { s.port with sdo := t.port.sdo, reply := t.port.reply } }
    ∧ (∀ r, s.port.reply = some r →
        t.port.sdo = (closeFrame ([BitVec.ofNat 8 s.port.address, BitVec.ofNat 8 r.status.code, BitVec.ofNat 8 r.code,
          if r.overrun then 1 else 0, BitVec.ofNat 8 r.payload.length] ++ r.payload) ++ List.replicate n 0xFF).take n
        ∧ (r.payload.length + 6 ≤ n → t.port.reply = none) ∧ (n < r.payload.length + 6 → t.port.reply = some r))
    ∧ (s.port.reply = none →
        t.port.sdo = (closeFrame [BitVec.ofNat 8 s.port.address, 0x12, 0x01, 0, 0] ++ List.replicate n 0xFF).take n
        ∧ t.port.reply = none)

/-- READ-IDENT answers the part's identity and capacities and changes nothing else. -/
def Obligations.ReadIdentAnswersTheIdentity : Prop :=
  ∀ s : State, exec .readIdent s = .next { s with port := s.replied .ok 0x02 [
    0x50, 0x46, 0x64, 0x24, 3, BitVec.ofNat 8 s.port.address, 64, 16, 48, 32, 24, 16, 2, 28, 60] }

/-- READ-NOTICES answers the flags, the mask and the four counts, clears the six flags, and releases the attention
line; the sets are not touched. READ-CHANGES takes up to 16 of the lowest keys out of one set, with what the permit
table adds to a machine id, and leaves the flags, the mask and the other sets; a category without a change set is
answered BAD-ARGUMENT. The bytes are the model's reading: the more flag is a byte of its own (log entry 13), each machine
id has a flag byte (log entry 14), the six flags and the mask are a byte each (log entry 37). -/
def Obligations.NoticesAndChangesAreRead : Prop :=
  ∀ (category : Byte) (s : State),
    (∃ t, exec .readNotices s = .next t
      ∧ t = { s with port := t.port, notices := { s.notices with flags := ⟨false, false, false, false, false, false⟩ } }
      ∧ t.attn = false
      ∧ t.port = s.replied .ok 0x03 (s.notices.flags.bytes ++ s.notices.mask.bytes ++ be8 s.notices.piles.length
          ++ be16 s.notices.orders.length ++ be8 s.notices.cannons.length ++ be8 s.notices.permits.length))
    ∧ (3 < category.toNat → exec (.readChanges category) s = .next { s with port := s.replied .badArgument 0x04 [] })
    ∧ ∀ c : ChangeSet, ChangeSet.ofCode category.toNat = some c → ∃ t, exec (.readChanges category) s = .next t
      ∧ t = { s with port := t.port, notices := s.notices.withKeys c ((s.notices.keys c).drop 16) }
      ∧ t.notices.keys c = (s.notices.keys c).drop 16 ∧ t.notices.flags = s.notices.flags
      ∧ t.notices.mask = s.notices.mask ∧ (∀ d, d ≠ c → t.notices.keys d = s.notices.keys d)
      ∧ ∀ told : Nat → List Byte,
        (∀ k, told k = match c with
          | .pile => be8 k
          | .order => be16 k
          | .cannon => be8 k
          | .permit => be8 ((if (s.permit? k).isSome then 1 else 0) + if (Table.get s.permits.outcomes k).isSome then 2 else 0)
            ++ be8 k
            ++ be8 (match s.permit? k with
              | none => 0
              | some x => match x.state with | .pendingWet => 0 | .clearing => 1 | .granted => 2)
            ++ be8 (match Table.get s.permits.outcomes k with
              | none => 0
              | some e => match e.outcome with
                | .grantedEnd => 0 | .released => 1 | .lapsed => 2 | .refusedTooDry => 3 | .refusedRetired => 4)) →
        t.port = s.replied .ok 0x04 (be8 ((s.notices.keys c).take 16).length
          ++ (((s.notices.keys c).take 16).map told).flatten
          ++ [if 16 < (s.notices.keys c).length then 1 else 0])

/-- SET-MASK writes the mask and answers it with the flags; the attention line is asserted exactly while a flag is set
whose category the mask now held leaves unmasked. That the six bits stand in one byte, PILE bit 0 to WATER bit 5, in the
command and in the reply, is the model's choice (log entry 37). -/
def Obligations.SetMaskMovesTheLine : Prop :=
  ∀ (bits : Byte) (s : State), ∃ t, exec (.setMask bits) s = .next t
    ∧ t = { s with port := t.port, notices := { s.notices with mask := t.notices.mask } }
    ∧ t.notices.mask = ⟨bits.getLsbD 0, bits.getLsbD 1, bits.getLsbD 2, bits.getLsbD 3, bits.getLsbD 4, bits.getLsbD 5⟩
    ∧ t.port = s.replied .ok 0x05 (t.notices.mask.bytes ++ s.notices.flags.bytes)
    ∧ (t.attn = true ↔
        (s.notices.flags.pile = true ∧ bits.getLsbD 0 = false) ∨ (s.notices.flags.order = true ∧ bits.getLsbD 1 = false)
        ∨ (s.notices.flags.cannon = true ∧ bits.getLsbD 2 = false)
        ∨ (s.notices.flags.permit = true ∧ bits.getLsbD 3 = false)
        ∨ (s.notices.flags.wind = true ∧ bits.getLsbD 4 = false)
        ∨ (s.notices.flags.water = true ∧ bits.getLsbD 5 = false))

/-- A key handed to a change set joins it, one already held leaves it as it was; the category's flag is set when the set
was empty; nothing else changes. -/
def Obligations.HandedKeyJoinsItsSet : Prop :=
  ∀ (n : Notices) (c : ChangeSet) (k : Nat),
    (∀ j, j ∈ (n.hand c k).keys c ↔ j = k ∨ j ∈ n.keys c)
    ∧ (ascending (n.keys c) = true → k ∈ n.keys c → (n.hand c k).keys c = n.keys c)
    ∧ (∀ d, d ≠ c → (n.hand c k).keys d = n.keys d) ∧ (n.hand c k).mask = n.mask
    ∧ (n.hand c k).flags =
        match c with
        | .pile => { n.flags with pile := n.flags.pile || n.piles.isEmpty }
        | .order => { n.flags with order := n.flags.order || n.orders.isEmpty }
        | .cannon => { n.flags with cannon := n.flags.cannon || n.cannons.isEmpty }
        | .permit => { n.flags with permit := n.flags.permit || n.permits.isEmpty }

/-! ## The clock -/

/-- READ-CLOCK, READ-MODEL and READ-DISPATCH answer what stands and change nothing. -/
def Obligations.PlainReadsAnswerWhatStands : Prop :=
  ∀ s : State,
    exec .readClock s = .next { s with port := s.replied .ok 0x07 (be32 s.clock.minute ++ be8 s.clock.seconds
      ++ be32 (s.clock.minute / 1440) ++ be8 s.clock.stepLeft) }
    ∧ exec .readModel s = .next { s with port := s.replied .ok 0x22 ([if s.model.lastStep.isSome then 1 else 0]
        ++ be8 s.model.lead ++ be8 s.model.b1 ++ be8 s.model.b2 ++ be8 s.model.b3 ++ be32 (s.model.lastStep.getD 0)
        ++ be8 s.model.stepped ++ be8 s.model.shortfall) }
    ∧ exec .readDispatch s = .next { s with port := s.replied .ok 0x47 (be16 s.dispatch.lapseTime
        ++ be16 s.dispatch.maxDose ++ be8 s.dispatch.freshFloor ++ be16 s.dispatch.nextId
        ++ be8 (s.dispatch.orders.countP fun o => o.state == .volleyHeld)
        ++ be8 (s.dispatch.orders.countP fun o => o.state == .waiting)
        ++ be8 (s.dispatch.orders.countP fun o => o.state == .active)
        ++ be8 (s.dispatch.orders.countP fun o => o.state == .ended)
        ++ be8 (s.dispatch.orders.countP fun o => o.state != .ended && o.starved)
        ++ be8 (s.dispatch.orders.countP fun o => o.pass.isSome)) }

/-- A second within the minute: the seconds count rises, the ages rise and the timers fall by one second, and nothing
else changes; at an expiry of the step timer both blocks it is handed to have one more to act on, but for one acted on
ahead. The whole-second ages and timers, and the expiries kept until their rows act on them, are the model's choice
(log entries 3 and 6). -/
def Obligations.SecondPasses : Prop :=
  ∀ s : State, s.clock.seconds < 59 → ∃ t, exec .secondsCountRise s = .next t
    ∧ t = { s with clock := t.clock, wind := t.wind, cannons := t.cannons, water := t.water }
    ∧ t.clock.minute = s.clock.minute ∧ t.clock.seconds = s.clock.seconds + 1
    ∧ (2 ≤ s.clock.stepLeft → s.clock.stepLeft ≤ 60 → t.clock.stepLeft = s.clock.stepLeft - 1)
    ∧ (s.clock.stepLeft = 1 → t.clock.stepLeft = 60)
    ∧ (2 ≤ s.clock.stepLeft → s.clock.stepLeft ≤ 60 →
        t.clock.modelDue = s.clock.modelDue ∧ t.clock.retireDue = s.clock.retireDue)
    ∧ (s.clock.stepLeft = 1 →
        t.clock.modelDue = ⟨s.clock.modelDue.due + (if s.clock.modelDue.ahead then 0 else 1), false⟩
        ∧ t.clock.retireDue = ⟨s.clock.retireDue.due + (if s.clock.retireDue.ahead then 0 else 1), false⟩)
    ∧ t.wind = { s.wind with masts := s.wind.masts.map fun e =>
        (e.1, { e.2 with age := e.2.age.map fun a => min 65535 (a + 1) }) }
    ∧ t.cannons = s.cannons.map (fun e => (e.1, { e.2 with
        slew := e.2.slew.map (· - 1), closeWait := e.2.closeWait.map (· - 1), retry := e.2.retry.map (· - 1) }))
    ∧ t.water = { s.water with
        tank := s.water.tank.map fun k => { k with age := k.age.map fun a => min 65535 (a + 1) }
        transfer := { s.water.transfer with
          startWait := s.water.transfer.startWait.map (· - 1), holdOff := s.water.transfer.holdOff.map (· - 1) } }

/-- SET-CLOCK to the minute that stands zeroes the seconds count and hands on no change. A change of the yard minute, by
SET-CLOCK, by the sixtieth second or as its own event: the clock after it, what no block touches at it, and SET-CLOCK's
reply; the rise of the minute is its last second, passed as any other, and then the change SET-CLOCK makes. In a yard
without orders and permits the weather is selected for the new minute, the trip counts decay and the day rolls over. In
every yard the weather is selected, the holds and WIND follow it, and what a selection takes is written out: of FRESH
masts the one of the larger average, mast 0 of equals, with the other's gust and the lower temperature (OBSERVED);
without one the slot that covers the minute (FORECAST); else the values held, the octant made definite (HELD), or those
of reset (NONE). In a yard without permits HOLD joins or leaves the orders, the orders that have waited past the lapse
time end LAPSED, and HOLD's coming reaches the running passes. A PREWET order that lapses takes with it the permits that
wait on it. A permit that waits without a PREWET order asks again: it shares the one its pile has open, stays as it is
while 32 orders are open, and otherwise one is placed. The permits' limits reached at the change stand at
PermitLimitsExpire. That the blocks act in this order within one row, one event (the lapses before an arbitration the
change occasions) is the model's choice: log entries 3, 5, 38, 48; occasions, events and the entry freed are counted as
in log entries 4 and 18, the rollover goes by the counted day (log entry 19), the reply's day byte is log entry 13, and
that the last second of a minute passes for the timers before the minute changes is log entry 44. -/
def Obligations.MinuteChanges : Prop :=
  (∀ s : State,
    (∀ (broadcast : Bool) (minute : Long), minute.toNat = s.clock.minute →
      exec (.setClock broadcast minute) s = .next { s with
        clock := { s.clock with seconds := 0 }
        port := if broadcast then s.port
          else s.replied .ok 0x06 (be32 s.clock.minute ++ be32 s.clock.minute ++ [0]) })
    ∧ (∀ (broadcast : Bool) (minute : Long), minute.toNat ≠ s.clock.minute →
      ∃ t, exec (.setClock broadcast minute) s = .next t
        ∧ t.clock = { s.clock with minute := minute.toNat, seconds := 0 }
        ∧ t.grades = s.grades ∧ t.model = s.model ∧ t.forecast = s.forecast ∧ t.wind.masts = s.wind.masts
        ∧ t.wind.limits = s.wind.limits ∧ t.water.tank = s.water.tank ∧ t.water.allowance = s.water.allowance
        ∧ t.loop.phase = s.loop.phase ∧ t.pending = s.pending
        ∧ t.port = if broadcast then s.port else s.replied .ok 0x06 (be32 s.clock.minute ++ be32 minute.toNat
            ++ [if s.clock.minute / 1440 = minute.toNat / 1440 then 0 else 1]))
    ∧ ∃ t, exec .yardMinuteChange s = .next t ∧ (s.clock.seconds = 59 → exec .secondsCountRise s = .next t)
        ∧ t.clock.minute = (s.clock.minute + 1) % 4294967296 ∧ t.clock.seconds = 0
        ∧ t.port = s.port ∧ t.grades = s.grades ∧ t.model = s.model ∧ t.forecast = s.forecast
        ∧ t.wind.limits = s.wind.limits ∧ t.water.allowance = s.water.allowance ∧ t.loop.phase = s.loop.phase
        ∧ t.pending = s.pending)
  ∧ (∀ (minute : Long) (s : State), minute.toNat ≠ s.clock.minute → s.dispatch.orders = [] → s.permits.list = [] →
    ∃ t, exec (.setClock true minute) s = .next t
      ∧ t = { s with
          clock := t.clock, wind := t.wind, notices := t.notices, dispatch := t.dispatch, cannons := t.cannons
          water := t.water, events := t.events }
      ∧ t.wind.weather = State.weatherNow { s with clock := { s.clock with minute := minute.toNat } }
      ∧ (∀ n c, s.cannon? n = some c → ∃ d, t.cannon? n = some d ∧ d = { c with tripCount := d.tripCount }
          ∧ (d.tripCount = if c.state ≠ .locked ∧ (c.lastTrip.any fun m => decide (30 ≤ minute.toNat - m)) = true then 0
              else c.tripCount))
      ∧ t.water = { s.water with
          usedToday := if minute.toNat / 1440 = s.water.countedDay then s.water.usedToday else 0
          countedDay := minute.toNat / 1440, spent := t.water.spent }
      ∧ (minute.toNat / 1440 ≠ s.water.countedDay → t.water.spent = decide (t.freshAvailable < 50))
      ∧ t.dispatch.orders = []
      ∧ t.notices.piles = s.notices.piles ∧ t.notices.orders = s.notices.orders ∧ t.notices.cannons = s.notices.cannons
      ∧ t.notices.permits = s.notices.permits)
  -- the selection made at a change of the minute, whatever orders and permits there are
  ∧ (∀ (minute : Long) (s : State), minute.toNat ≠ s.clock.minute → ∃ t, exec (.setClock true minute) s = .next t
      ∧ t.wind.weather = State.weatherNow { s with clock := { s.clock with minute := minute.toNat } }
      ∧ t.wind.established = (s.wind.established || t.wind.weather.source == .observed || t.wind.weather.source == .forecast)
      ∧ t.wind.lastOctant = (if t.wind.weather.octant < 8 then t.wind.weather.octant else s.wind.lastOctant)
      ∧ holdsFollow s t false
      ∧ (s.permits.list = [] → ∀ aged : Cannon → Cannon, (∀ c, aged c = { c with
          tripCount := if c.state ≠ .locked ∧ (c.lastTrip.any fun m => decide (30 ≤ minute.toNat - m)) = true then 0
            else c.tripCount }) → holdReachesPasses s t aged))
  -- the rise of the minute: its last second passes as any other, and the change is that of SET-CLOCK
  ∧ (∀ s u : State, s.clock.seconds = 59 → s.clock.minute < 4294967296 →
      exec .secondsCountRise { s with clock := { s.clock with seconds := 0 } } = .next u →
      exec .yardMinuteChange s = exec (.setClock true (BitVec.ofNat 32 (s.clock.minute + 1))) u)
  -- orders that lapse, and HOLD's coming and leaving, in a yard without permits
  ∧ (∀ (minute : Long) (late : Order → Bool) (s : State), minute.toNat ≠ s.clock.minute → s.permits.list = [] →
      (∀ e ∈ s.piles, e.2.life = .live) → (s.dispatch.orders.map fun o => o.id).Nodup → s.dispatch.orders.length ≤ 32 →
      (∀ o ∈ s.dispatch.orders, o.origin ≠ .prewet ∧ (o.state = .ended ∨ o.pass = none)) →
      (∀ o, late o = true ↔ (o.state = .volleyHeld ∨ o.state = .waiting) ∧ o.lapseRef + s.dispatch.lapseTime < minute.toNat) →
      ∃ t, exec (.setClock true minute) s = .next t
        ∧ t = { s with
            clock := t.clock, wind := t.wind, notices := t.notices, dispatch := t.dispatch, cannons := t.cannons
            water := t.water, events := s.events + 1 }
        ∧ ∀ before after, before = (s.wind.cutOut || s.wind.frost) → after = (t.wind.cutOut || t.wind.frost) →
          t.dispatch = { s.dispatch with
            orders := (ordersUnderHold before after s.dispatch.orders).map fun o => if late o then { o with
              state := .ended, outcome := some .lapsed, endedMinute := some minute.toNat, endedEvent := s.events + 1
              starved := false } else o
            due := s.dispatch.due + heldOccasions before after s.dispatch.orders
              + if minute.toNat / 1440 = s.water.countedDay then 0 else 1 }
          ∧ (∀ i, i ∈ t.notices.orders ↔ i ∈ s.notices.orders ∨ ∃ o ∈ s.dispatch.orders, late o = true ∧ o.id = i)
          ∧ t.notices.piles = s.notices.piles ∧ t.notices.cannons = s.notices.cannons
          ∧ t.notices.permits = s.notices.permits)
  -- a PREWET order that lapses, with the permits that wait on it; the weather finds the values it had
  ∧ (∀ (minute : Long) (o : Order) (s : State), minute.toNat ≠ s.clock.minute → s.dispatch.orders = [o] →
      State.weatherNow { s with clock := { s.clock with minute := minute.toNat } } = s.wind.weather →
      o.origin = .prewet → (o.state = .volleyHeld ∨ o.state = .waiting) → o.lapseRef + s.dispatch.lapseTime < minute.toNat →
      (∀ e ∈ s.piles, e.2.life = .live ∧ e.2.retirePending = false) → s.permits.list.length ≤ 16 →
      (s.permits.list.map fun x => x.machine).Nodup →
      (∀ x ∈ s.permits.list, x.state = .pendingWet ∧ x.prewetOrder = some o.id) →
      ∃ t, exec (.setClock true minute) s = .next t
        ∧ t = { s with
            clock := t.clock, wind := t.wind, notices := t.notices, cannons := t.cannons, water := t.water
            events := s.events + 1
            dispatch := { s.dispatch with
              orders := [{ o with
                state := .ended, outcome := some .lapsed, endedMinute := some minute.toNat, endedEvent := s.events + 1
                starved := false }]
              due := s.dispatch.due + if minute.toNat / 1440 = s.water.countedDay then 0 else 1 }
            permits := { s.permits with
              list := [], outcomes := s.permits.list.foldl (fun acc x => Table.set acc x.machine
                ⟨.refusedTooDry, minute.toNat, x.tag, x.id, none⟩) s.permits.outcomes } }
        ∧ t.notices.orders = insertKey s.notices.orders o.id
        ∧ ∀ i, i ∈ t.notices.permits ↔ i ∈ s.notices.permits ∨ ∃ x ∈ s.permits.list, x.machine = i)
  -- permits that wait without a PREWET order ask again
  ∧ (∀ (minute : Long) (slot : Nat) (p : Pile) (g : Grade) (asking : Permit → Bool) (s : State),
      minute.toNat ≠ s.clock.minute →
      State.weatherNow { s with clock := { s.clock with minute := minute.toNat } } = s.wind.weather →
      (∀ o ∈ s.dispatch.orders, (o.state = .volleyHeld ∨ o.state = .waiting) →
        minute.toNat ≤ o.lapseRef + s.dispatch.lapseTime) →
      (s.permits.list.map fun x => x.machine).Nodup → s.permits.list.length ≤ 16 → s.dispatch.orders.length ≤ 32 →
      (∀ x ∈ s.permits.list, (x.state = .pendingWet → minute.toNat < x.entered + s.permits.prewetWait)
        ∧ (x.state = .granted → minute.toNat < x.entered + match x.kind with
          | .stacker => s.permits.maxHold.stacker | .reclaimer => s.permits.maxHold.reclaimer
          | .dozer => s.permits.maxHold.dozer)) →
      s.pileAt? p.tag = some (slot, p) → Table.get s.grades p.grade = some g →
      (∀ x, asking x = true ↔ x.state = .pendingWet ∧ x.prewetOrder = none) →
      (∀ x ∈ s.permits.list, asking x = true → x.tag = p.tag) → (∃ x ∈ s.permits.list, asking x = true) →
      50 ≤ s.dispatch.maxDose → 1 ≤ s.dispatch.nextId → s.dispatch.nextId ≤ 65535 →
      ∃ t, exec (.setClock true minute) s = .next t ∧ ∀ (rolled : Nat) (given : Nat → Permits),
        rolled = (if minute.toNat / 1440 = s.water.countedDay then 0 else 1) →
        (∀ id, given id = { s.permits with
          list := s.permits.list.map fun x => if asking x then { x with prewetOrder := some id } else x }) →
        t = { s with
          clock := t.clock, wind := t.wind, notices := t.notices, cannons := t.cannons, water := t.water
          events := s.events + 1, permits := t.permits, dispatch := t.dispatch }
        ∧ t.notices.permits = s.notices.permits ∧ t.notices.orders = s.notices.orders
        ∧ (∀ o, s.dispatch.orders.find? (fun y => y.tag == p.tag && y.state != .ended && y.origin == .prewet) = some o →
            t.permits = given o.id ∧ t.dispatch = { s.dispatch with due := s.dispatch.due + rolled })
        ∧ ((∀ y ∈ s.dispatch.orders, y.tag = p.tag → y.origin = .prewet → y.state = .ended) →
            (32 ≤ (s.dispatch.orders.countP fun y => y.state != .ended) →
              t.permits = s.permits ∧ t.dispatch = { s.dispatch with due := s.dispatch.due + rolled })
            ∧ ((s.dispatch.orders.countP fun y => y.state != .ended) < 32 → ∃ o, prewetPlaced s t p g o
              ∧ t.permits = given o.id ∧ t.dispatch.due = s.dispatch.due + rolled + 1)))
  -- what a selection takes
  ∧ ∀ (s : State) (average : Mast → Nat) (definite : Nat) (gusty : Bool) (covering : List Slot),
    (∀ m, average m = m.ring.sum / m.ring.length) →
    definite = (if s.wind.weather.octant < 8 then s.wind.weather.octant else s.wind.lastOctant) →
    (gusty = true ↔ ∃ k y, Table.get s.wind.masts k = some y ∧ y.fresh = true ∧ y.gust = true) →
    covering = s.forecast.slots.filter (fun f => decide (f.start ≤ s.clock.minute ∧ s.clock.minute < f.start + f.length)) →
    Table.wf s.wind.masts = true → s.clock.minute < 4294967296 →
    (∀ n x h r, Table.get s.wind.masts n = some x → x.fresh = true → x.rh = some h → x.rain = some r → x.temp ≠ none →
      (∀ k y, Table.get s.wind.masts k = some y → y.fresh = true → k ≠ n →
        average y < average x ∨ (average y = average x ∧ n < k)) →
      ∃ temp : Int, s.weatherNow = ⟨average x, if gusty then max (average x) (x.ring.foldl max 0) else average x,
          x.octant.getD definite, h, r, temp, .observed⟩
        ∧ (∃ k y, Table.get s.wind.masts k = some y ∧ y.fresh = true ∧ y.temp = some temp)
        ∧ ∀ k y v, Table.get s.wind.masts k = some y → y.fresh = true → y.temp = some v → temp ≤ v)
    ∧ ((∀ k y, Table.get s.wind.masts k = some y → y.fresh = false) →
        (∀ f, covering = [f] →
          s.weatherNow = ⟨f.wind, max f.wind f.gust, f.octant, f.rh, f.rain, f.temp, .forecast⟩)
        ∧ (covering = [] → s.wind.established = true →
          s.weatherNow = { s.wind.weather with octant := definite, source := .held })
        ∧ (covering = [] → s.wind.established = false → s.weatherNow = ⟨0, 0, 0, 100, 0, 10, .unset⟩))

/-! ## Piles and grades -/

/-- LOAD-GRADE: refused with BAD-ARGUMENT, changing nothing else, exactly when a field is out of range or the record is
not consistent; otherwise the entry is written and every pile of the grade is clamped to its Msat, whatever permits
wait; where none waits on moisture nothing else changes. -/
def Obligations.LoadGradeWritesAndClamps : Prop :=
  ∀ (number : Byte) (a : GradeArgs) (s : State),
    ((15 < number.toNat ∨ a.msat.toNat = 0 ∨ 4000 < a.msat.toNat ∨ a.kg = 0 ∨ a.gk = 0 ∨ a.dg = 0
        ∨ a.msat.toNat < a.mt.toNat ∨ a.msat.toNat < a.mwork.toNat ∨ 1000 < a.margin.toNat ∨ 100 < a.fdef.toNat) →
      exec (.loadGrade number a) s = .next { s with port := s.replied .badArgument 0x10 [] })
    ∧ (number.toNat ≤ 15 → 1 ≤ a.msat.toNat → a.msat.toNat ≤ 4000 → a.kg ≠ 0 → a.gk ≠ 0 → a.dg ≠ 0 →
        a.mt.toNat ≤ a.msat.toNat → a.mwork.toNat ≤ a.msat.toNat → a.margin.toNat ≤ 1000 → a.fdef.toNat ≤ 100 →
        ∃ t, exec (.loadGrade number a) s = .next t
          ∧ Table.get t.grades number.toNat = some ⟨a.kg.toNat, a.gk.toNat, a.mt.toNat, a.mwork.toNat, a.msat.toNat,
              a.margin.toNat, a.dg.toNat, a.fdef.toNat⟩
          ∧ (∀ n, n ≠ number.toNat → Table.get t.grades n = Table.get s.grades n)
          ∧ t.port = s.replied .ok 0x10 [] ∧ t.clock = s.clock ∧ t.model = s.model ∧ t.forecast = s.forecast
          ∧ t.water.tank = s.water.tank ∧ t.loop.phase = s.loop.phase ∧ t.pending = s.pending
          ∧ (∀ k q, Table.get t.piles k = some q → ∃ p, Table.get s.piles k = some p ∧ q = { p with
              m := if p.grade = number.toNat then min p.m a.msat.toNat else p.m
              life := q.life, retirePending := q.retirePending })
          ∧ ((∀ e ∈ s.piles, e.2.life = .live ∧ e.2.retirePending = false) → t.piles = s.piles.map fun e =>
              if e.2.grade = number.toNat then (e.1, { e.2 with m := min e.2.m a.msat.toNat }) else e)
          ∧ ((∀ p ∈ s.permits.list, p.state ≠ .pendingWet) →
              t = { s with
                port := t.port, grades := t.grades, events := t.events
                piles := s.piles.map fun e =>
                  if e.2.grade = number.toNat then (e.1, { e.2 with m := min e.2.m a.msat.toNat }) else e }))

/-- OPEN-PILE: its four refusals in their order, none of which changes anything else, and what a pile holds that is placed
in the lowest FREE slot. -/
def Obligations.OpenPilePlacesTheRecord : Prop :=
  ∀ (a : OpenPileArgs) (s : State),
    ((a.tag = 0 ∨ 15 < a.grade.toNat ∨ a.area = 0 ∨ 4000 < a.mcore.toNat) →
      exec (.openPile a) s = .next { s with port := s.replied .badArgument 0x11 [] })
    ∧ (a.tag ≠ 0 → a.grade.toNat ≤ 15 → a.area ≠ 0 → a.mcore.toNat ≤ 4000 →
        ((s.pileAt? a.tag.toNat).isSome = true →
          exec (.openPile a) s = .next { s with port := s.replied .duplicate 0x11 [] })
        ∧ (s.pileAt? a.tag.toNat = none →
            (Table.get s.grades a.grade.toNat = none →
              exec (.openPile a) s = .next { s with port := s.replied .unknownGrade 0x11 [] })
            ∧ ∀ g, Table.get s.grades a.grade.toNat = some g →
                ((∀ k, k < 64 → (Table.get s.piles k).isSome = true) →
                  exec (.openPile a) s = .next { s with port := s.replied .full 0x11 [] })
                ∧ ∀ slot, slot < 64 → Table.get s.piles slot = none →
                    (∀ k, k < slot → (Table.get s.piles k).isSome = true) →
                    ∃ t, exec (.openPile a) s = .next t
                      ∧ t = { s with port := t.port, piles := t.piles }
                      ∧ t.port = s.replied .ok 0x11 [BitVec.ofNat 8 slot]
                      ∧ Table.get t.piles slot = some ⟨a.tag.toNat, .live, a.grade.toNat, a.area.toNat, a.profile,
                          min a.moisture.toNat g.msat, 0, a.mcore.toNat, 0, 0, 0, bandOf s.model 0, a.auto, false, false,
                          false, none⟩
                      ∧ ∀ k, k ≠ slot → Table.get t.piles k = Table.get s.piles k))

/-- AMEND-PILE: its refusals in their order; every present field written and every absent field left; and where a new
grade is named, M clamped to that grade's Msat, whatever permits wait; where none waits on moisture nothing else
changes. -/
def Obligations.AmendPileWritesPresentFields : Prop :=
  ∀ (a : AmendPileArgs) (s : State),
    (s.pileAt? a.tag.toNat = none → exec (.amendPile a) s = .next { s with port := s.replied .unknown 0x12 [] })
    ∧ ∀ slot p, s.pileAt? a.tag.toNat = some (slot, p) →
      (((∃ n, a.grade = some n ∧ 15 < n.toNat) ∨ a.area = some 0 ∨ (∃ x, a.mcore = some x ∧ 4000 < x.toNat)) →
        exec (.amendPile a) s = .next { s with port := s.replied .badArgument 0x12 [] })
      ∧ ((∀ n, a.grade = some n → n.toNat ≤ 15) → a.area ≠ some 0 → (∀ x, a.mcore = some x → x.toNat ≤ 4000) →
          (∀ n, a.grade = some n → Table.get s.grades n.toNat = none →
            exec (.amendPile a) s = .next { s with port := s.replied .unknownGrade 0x12 [] })
          ∧ ((a.grade = none ∨ ∃ n, a.grade = some n ∧ n.toNat = p.grade ∧ (Table.get s.grades n.toNat).isSome = true) →
              exec (.amendPile a) s = .next { s with
                port := s.replied .ok 0x12 []
                piles := Table.update s.piles slot fun q => { q with
                  area := (a.area.map fun x => x.toNat).getD q.area, profile := a.profile.getD q.profile
                  mcore := (a.mcore.map fun x => x.toNat).getD q.mcore, auto := a.auto.getD q.auto } })
          ∧ ∀ (n : Byte) (g : Grade) (amended : Pile → Pile),
              a.grade = some n → Table.get s.grades n.toNat = some g → n.toNat ≠ p.grade →
              (∀ q, amended q = { q with
                area := (a.area.map fun x => x.toNat).getD q.area, profile := a.profile.getD q.profile
                mcore := (a.mcore.map fun x => x.toNat).getD q.mcore, auto := a.auto.getD q.auto
                grade := n.toNat, m := min q.m g.msat }) →
              ∃ t, exec (.amendPile a) s = .next t ∧ t.port = s.replied .ok 0x12 []
                ∧ (∀ k q, Table.get t.piles k = some q → ∃ r, Table.get s.piles k = some r
                    ∧ q = { (if k = slot then amended r else r) with life := q.life, retirePending := q.retirePending })
                ∧ ((∀ e ∈ s.piles, e.2.life = .live ∧ e.2.retirePending = false) →
                    t.piles = Table.update s.piles slot amended)
                ∧ ((∀ x ∈ s.permits.list, x.state ≠ .pendingWet) → t = { s with
                    port := t.port, piles := Table.update s.piles slot amended, events := t.events }))

/-- READ-PILE, by tag and by slot: its refusals, a FREE slot's two bytes, and the 34 bytes of a pile's record with each
field at its offset. Reading changes nothing. RANK-PILES: a byte that names no band is refused; otherwise the LIVE
piles of the band or a higher one are counted and the first sixteen told, the riskier before the others and the
lower slot first among equals. Nothing changes. The count byte after RANK-PILES' number is log entry 14. -/
def Obligations.PilesAreReadAndRanked : Prop :=
  (∀ (value : Half) (s : State),
    (s.pileAt? value.toNat = none → exec (.readPile 0 value) s = .next { s with port := s.replied .unknown 0x13 [] })
    ∧ (63 < value.toNat → exec (.readPile 1 value) s = .next { s with port := s.replied .badArgument 0x13 [] })
    ∧ (∀ selector : Byte, 1 < selector.toNat →
        exec (.readPile selector value) s = .next { s with port := s.replied .badArgument 0x13 [] })
    ∧ (value.toNat ≤ 63 → Table.get s.piles value.toNat = none →
        exec (.readPile 1 value) s = .next { s with port := s.replied .ok 0x13 [BitVec.ofNat 8 value.toNat, 0] })
    ∧ ∀ slot p, slot ≤ 63 →
        ((s.pileAt? value.toNat = some (slot, p) → ∃ b : List Byte, b.length = 34
          ∧ exec (.readPile 0 value) s = .next { s with port := s.replied .ok 0x13 b }
          ∧ (u8 b 0).toNat = slot ∧ (u8 b 1).toNat = (if p.life = .live then 1 else 2)
          ∧ (p.tag < 65536 → (u16 b 2).toNat = p.tag) ∧ (p.grade < 256 → (u8 b 4).toNat = p.grade)
          ∧ (p.area < 65536 → (u16 b 5).toNat = p.area) ∧ profileAt b 7 = p.profile
          ∧ (p.m < 65536 → (u16 b 15).toNat = p.m) ∧ (p.residue < 65536 → (u16 b 17).toNat = p.residue)
          ∧ (p.mcore < 65536 → (u16 b 19).toNat = p.mcore) ∧ (p.lastWp < 65536 → (u16 b 21).toNat = p.lastWp)
          ∧ (p.lastWgp < 65536 → (u16 b 23).toNat = p.lastWgp) ∧ (p.risk < 256 → (u8 b 25).toNat = p.risk)
          ∧ (u8 b 26).toNat = p.band.code ∧ (u8 b 27).getLsbD 0 = p.auto ∧ (u8 b 27).getLsbD 1 = p.estimated
          ∧ (u8 b 27).getLsbD 2 = p.degraded ∧ (u8 b 27).getLsbD 3 = p.retirePending
          ∧ (u8 b 27).getLsbD 4 = p.lastWetted.isSome
          ∧ (∀ m, p.lastWetted = some m → m < 4294967296 → (u32 b 28).toNat = m)
          ∧ ((s.openOn p.tag).length < 256 → (u8 b 32).toNat = (s.openOn p.tag).length)
          ∧ ((s.permitsOn p.tag).length < 256 → (u8 b 33).toNat = (s.permitsOn p.tag).length))
        ∧ (value.toNat = slot → Table.get s.piles slot = some p → ∀ tag : Half, s.pileAt? tag.toNat = some (slot, p) →
            exec (.readPile 1 value) s = exec (.readPile 0 tag) s)))
  ∧ (∀ (band : Byte) (s : State),
    (3 < band.toNat → exec (.rankPiles band) s = .next { s with port := s.replied .badArgument 0x14 [] })
    ∧ ∀ b, Band.ofCode band.toNat = some b → ∃ chosen : List (Nat × Pile),
        exec (.rankPiles band) s = .next { s with port := s.replied .ok 0x14 (be8 chosen.length
          ++ (be8 (chosen.take 16).length
            ++ ((chosen.take 16).map fun e => be16 e.2.tag ++ be8 e.2.risk).flatten)) }
        ∧ chosen.Perm (s.piles.filter fun e => decide (e.2.life = .live ∧ b.code ≤ e.2.band.code))
        ∧ (Table.wf s.piles = true →
            chosen.Pairwise fun x y => y.2.risk < x.2.risk ∨ (x.2.risk = y.2.risk ∧ x.1 < y.1)))

/-- SET-MOISTURE: an unknown tag is refused; otherwise the pile's M becomes the least of the value, 4000 and its grade's
Msat, its residue 0 and its estimated flag clear, and the reply carries M, whatever permits wait. Where none waits on
moisture nothing else changes. -/
def Obligations.SetMoistureWritesTheRecord : Prop :=
  ∀ (tag value : Half) (s : State),
    (s.pileAt? tag.toNat = none → exec (.setMoisture tag value) s = .next { s with port := s.replied .unknown 0x15 [] })
    ∧ ∀ slot p g, s.pileAt? tag.toNat = some (slot, p) → Table.get s.grades p.grade = some g →
        ∃ t, exec (.setMoisture tag value) s = .next t
          ∧ t.port = s.replied .ok 0x15 (be16 (min value.toNat (min 4000 g.msat)))
          ∧ t.clock = s.clock ∧ t.grades = s.grades ∧ t.model = s.model ∧ t.forecast = s.forecast
          ∧ t.loop.phase = s.loop.phase ∧ t.pending = s.pending
          ∧ (∀ k q, Table.get t.piles k = some q → ∃ r, Table.get s.piles k = some r
              ∧ q = { (if k = slot then { r with
                  m := min value.toNat (min 4000 g.msat), residue := 0, estimated := false } else r) with
                life := q.life, retirePending := q.retirePending })
          ∧ ((∀ e ∈ s.piles, e.2.life = .live ∧ e.2.retirePending = false) →
              t.piles = Table.update s.piles slot fun q => { q with
                m := min value.toNat (min 4000 g.msat), residue := 0, estimated := false })
          ∧ ((∀ x ∈ s.permits.list, x.state ≠ .pendingWet) → t = { s with
              port := t.port, events := t.events
              piles := Table.update s.piles slot fun q => { q with
                m := min value.toNat (min 4000 g.msat), residue := 0, estimated := false } })

/-- A telling that finds a LIVE pile at its working moisture grants every permit that waits on it, when no order is on
the pile and no cannon that covers it has a close wait running without a pass: SET-MOISTURE up to Mwork moves them
through CLEARING to GRANTED, and hands each machine id to the PERMIT change set. -/
def Obligations.WorkingMoistureGrantsWaitingPermits : Prop :=
  ∀ (tag value : Half) (slot : Nat) (p : Pile) (g : Grade) (s : State),
    s.pileAt? tag.toNat = some (slot, p) → Table.get s.grades p.grade = some g → p.life = .live → Table.wf s.piles = true →
    g.mwork ≤ min value.toNat (min 4000 g.msat) → (∀ o ∈ s.dispatch.orders, o.tag ≠ tag.toNat) →
    (∀ e ∈ s.cannons, (∃ v ∈ e.2.config.coverage, v.tag = tag.toNat) → e.2.bound = none → e.2.closeWait = none) →
    (∃ x ∈ s.permits.list, x.tag = tag.toNat ∧ x.state = .pendingWet) →
    ∃ t, exec (.setMoisture tag value) s = .next t
      ∧ t = { s with
          port := s.replied .ok 0x15 (be16 (min value.toNat (min 4000 g.msat))), piles := t.piles
          notices := { s.notices with permits := t.notices.permits, flags := t.notices.flags }
          permits := { s.permits with list := t.permits.list }, events := t.events }
      ∧ t.permits.list = s.permits.list.map (fun x =>
          if x.tag = tag.toNat ∧ x.state = .pendingWet then
            { x with state := .granted, entered := s.clock.minute, prewetOrder := none }
          else if x.tag = tag.toNat ∧ x.state = .clearing then { x with state := .granted, entered := s.clock.minute }
          else x)
      ∧ (∀ k, k ∈ t.notices.permits ↔
          k ∈ s.notices.permits ∨ ∃ x ∈ s.permits.list, x.machine = k ∧ x.tag = tag.toNat ∧ x.state ≠ .granted)

/-- REPORT-DISTURBANCE: an unknown tag is refused; otherwise M takes the blend of the old surface and the new, rounded to
the nearest, with f clamped to 100 and Mf, or Mcore, clamped to Msat, whatever permits wait; the reply carries it; where
none waits on moisture nothing else changes. -/
def Obligations.DisturbanceBlendsTheSurface : Prop :=
  ∀ (tag : Half) (f : Byte) (mf : Option Half) (s : State),
    (s.pileAt? tag.toNat = none →
      exec (.reportDisturbance tag f mf) s = .next { s with port := s.replied .unknown 0x16 [] })
    ∧ ∀ slot p g, s.pileAt? tag.toNat = some (slot, p) → Table.get s.grades p.grade = some g → Table.wf s.piles = true →
        ∃ t m, exec (.reportDisturbance tag f mf) s = .next t
          ∧ m = (p.m * (100 - min f.toNat 100)
              + min ((mf.map fun x => x.toNat).getD p.mcore) g.msat * min f.toNat 100 + 50) / 100
          ∧ t.port = s.replied .ok 0x16 (be16 m)
          ∧ (∀ k q, Table.get t.piles k = some q → ∃ r, Table.get s.piles k = some r
              ∧ q = { r with
                m := if k = slot then m else r.m, life := q.life, retirePending := q.retirePending })
          ∧ ((∀ e ∈ s.piles, e.2.life = .live ∧ e.2.retirePending = false) →
              t.piles = Table.update s.piles slot fun q => { q with m := m })
          ∧ ((∀ x ∈ s.permits.list, x.state ≠ .pendingWet) → t = { s with
              port := t.port, events := t.events, piles := Table.update s.piles slot fun q => { q with m := m } })

/-- RETIRE-PILE: its refusals; a pile without permits and open orders leaves its slot at once, its slot handed to the
PILE change set; one with open orders that wait or are held, however many, enters RETIRING, has each of them end
CANCELLED with its id handed to the ORDER change set, and then leaves its slot too. Where one of them has a spraying pass
or one that ramps down, that one stays ACTIVE, cancel pending, with its pass ramping down; the others end, and the pile
stays RETIRING and is handed to no change set. A pass still slewing is abandoned, its order ends and the slot is freed.
The number of the event in which an order ended is the model's own (log entry 18). -/
def Obligations.RetirePileFreesTheSlot : Prop :=
  ∀ (tag : Half) (s : State),
    (s.pileAt? tag.toNat = none → exec (.retirePile tag) s = .next { s with port := s.replied .unknown 0x17 [] })
    ∧ ∀ slot p, s.pileAt? tag.toNat = some (slot, p) →
        (p.life = .retiring → exec (.retirePile tag) s = .next { s with port := s.replied .retiring 0x17 [] })
        ∧ (p.life = .live → (∃ x ∈ s.permits.list, x.tag = tag.toNat) →
            exec (.retirePile tag) s = .next { s with port := s.replied .inUse 0x17 [] })
        ∧ (p.life = .live → (∀ x ∈ s.permits.list, x.tag ≠ tag.toNat) → Table.wf s.piles = true →
            (s.piles.map fun e => e.2.tag).Nodup →
            ((∀ o ∈ s.dispatch.orders, o.tag = tag.toNat → o.state = .ended) →
              ∃ t, exec (.retirePile tag) s = .next t
                ∧ t = { s with
                    port := s.replied .ok 0x17 [0, 0, 0], piles := Table.erase s.piles slot
                    notices := s.notices.hand .pile slot, events := t.events }
                ∧ t.pileAt? tag.toNat = none)
            ∧ ∀ o, (s.dispatch.orders.filter fun o => o.tag == tag.toNat && o.isOpen) = [o] →
                (s.dispatch.orders.map fun o => o.id).Nodup → o.state = .waiting → o.origin = .host →
                ∃ t, exec (.retirePile tag) s = .next t
                  ∧ t.port = s.replied .ok 0x17 [1, 0, 0] ∧ t.piles = Table.erase s.piles slot
                  ∧ t.notices = (s.notices.hand .order o.id).hand .pile slot
                  ∧ t.order? o.id = some { o with
                      state := .ended, outcome := some .cancelled, endedMinute := some s.clock.minute
                      endedEvent := t.events, starved := false }
                  ∧ t = { s with
                      port := t.port, piles := t.piles, notices := t.notices, events := t.events
                      dispatch := { s.dispatch with orders := t.dispatch.orders } })
        ∧ (p.life = .live → (∀ x ∈ s.permits.list, x.tag ≠ tag.toNat) → Table.wf s.piles = true →
            (s.piles.map fun e => e.2.tag).Nodup → (s.dispatch.orders.map fun o => o.id).Nodup →
            s.dispatch.orders.length ≤ 32 →
            ∀ here : List Order, here = s.dispatch.orders.filter (fun o => decide (o.tag = tag.toNat ∧ o.state ≠ .ended)) →
            (∀ o ∈ here, ∀ x ∈ s.permits.list, x.prewetOrder ≠ some o.id) →
            ((∀ o ∈ here, o.state = .waiting ∨ o.state = .volleyHeld) →
              ∃ t, exec (.retirePile tag) s = .next t
                ∧ t.port = s.replied .ok 0x17 (be8 here.length ++ [0, 0])
                ∧ t = { s with
                    port := t.port, piles := Table.erase s.piles slot, notices := t.notices, events := t.events
                    dispatch := { s.dispatch with orders := s.dispatch.orders.map fun o =>
                      if o.tag = tag.toNat ∧ o.state ≠ .ended then { o with
                        state := .ended, outcome := some .cancelled, endedMinute := some s.clock.minute
                        endedEvent := t.events, starved := false } else o } }
                ∧ (∀ k, k ∈ t.notices.orders ↔ k ∈ s.notices.orders ∨ ∃ o ∈ here, o.id = k)
                ∧ t.notices = { s.notices.hand .pile slot with
                    orders := t.notices.orders
                    flags := { s.notices.flags with
                      pile := s.notices.flags.pile || s.notices.piles.isEmpty
                      order := s.notices.flags.order || (s.notices.orders.isEmpty && !here.isEmpty) } })
            ∧ (∀ (o : Order) (q : Pass) (c : Cannon) (n : Node), o ∈ here → o.state = .active → o.pass = some q →
                o.cancelPending = false →
                (∀ x ∈ here, x.id ≠ o.id → x.state = .waiting ∨ x.state = .volleyHeld) →
                s.cannon? q.cannon = some c → c.bound = some o.id → s.node? c.config.node = some n →
                (((q.state = .spraying ∧ c.state = .spraying) ∨ (q.state = .rampDown ∧ c.state = .rampDown)) →
                  ∃ t, exec (.retirePile tag) s = .next t
                    ∧ t.port = s.replied .ok 0x17 (be8 here.length ++ [1, 2])
                    ∧ t = { s with
                        port := t.port, piles := Table.update s.piles slot fun x => { x with life := .retiring }
                        notices := t.notices, events := t.events, cannons := t.cannons
                        loop := { s.loop with nodes := t.loop.nodes }
                        dispatch := { s.dispatch with orders := s.dispatch.orders.map fun x =>
                          if x.id = o.id then { x with cancelPending := true, pass := some { q with state := .rampDown } }
                          else if x.tag = tag.toNat ∧ x.state ≠ .ended then { x with
                            state := .ended, outcome := some .cancelled, endedMinute := some s.clock.minute
                            endedEvent := t.events, starved := false } else x } }
                    ∧ t.cannon? q.cannon = some (if c.state = .rampDown then c else { c with
                        state := .rampDown, closeWait := some (c.closeWait.getD (c.config.rampTime + 5))
                        blankingOn := false })
                    ∧ (∀ k, k ≠ q.cannon → t.cannon? k = s.cannon? k)
                    ∧ t.node? c.config.node = some (if c.state = .rampDown then n else { n with slot := some .close })
                    ∧ (∀ k, k ≠ c.config.node → t.node? k = s.node? k)
                    ∧ (∀ k, k ∈ t.notices.orders ↔ k ∈ s.notices.orders ∨ ∃ x ∈ here, x.id = k ∧ x.id ≠ o.id)
                    ∧ t.notices = { s.notices with
                        orders := t.notices.orders
                        flags := { s.notices.flags with
                          order := s.notices.flags.order || (s.notices.orders.isEmpty && decide (1 < here.length)) } })
                ∧ (q.state = .aiming → c.state = .aiming → c.aimPhase = some .slewing → o.plan = none →
                    o.delivered ≤ 4294967295 → (∀ x ∈ here, x.origin ≠ .prewet) →
                    ∃ t, exec (.retirePile tag) s = .next t
                      ∧ t.port = s.replied .ok 0x17 (be8 here.length ++ [0, 0]) ∧ t.piles = Table.erase s.piles slot
                      ∧ t.order? o.id = some { o with
                          state := .ended, cancelPending := true, pass := none, lastEnd := some .abandoned
                          starved := false, outcome := some .cancelled, endedMinute := some s.clock.minute
                          endedEvent := t.events }
                      ∧ (∀ x ∈ here, x.id ≠ o.id → t.order? x.id = some { x with
                          state := .ended, outcome := some .cancelled, endedMinute := some s.clock.minute
                          endedEvent := t.events, starved := false })
                      ∧ t.cannon? q.cannon = some { c with
                          state := .idle, aimPhase := none, header := none, bound := none, slew := none
                          blankingOn := false, aimWaiting := false }
                      ∧ t.node? c.config.node = some { n with slot := some .close }
                      ∧ (∀ k, k ∈ t.notices.orders ↔ k ∈ s.notices.orders ∨ ∃ x ∈ here, x.id = k)
                      ∧ slot ∈ t.notices.piles)))

/-! ## The moisture model -/

/-- SET-LEAD writes Lead, clamped to 240. SET-BANDS is refused unless the three limits ascend within 1 to 255; when
taken it selects every pile's band again from its stored risk, hands the slot of each pile whose band changes to the
PILE change set, and answers their number. Neither changes anything else. -/
def Obligations.LeadAndBandsAreSet : Prop :=
  ∀ s : State,
    (∀ value : Half, exec (.setLead value) s = .next { s with
      model := { s.model with lead := min value.toNat 240 }
      port := s.replied .ok 0x20 [BitVec.ofNat 8 (min value.toNat 240)] })
    ∧ ∀ b1 b2 b3 : Byte,
        (¬ (1 ≤ b1.toNat ∧ b1.toNat < b2.toNat ∧ b2.toNat < b3.toNat) →
          exec (.setBands b1 b2 b3) s = .next { s with port := s.replied .badArgument 0x21 [] })
        ∧ (1 ≤ b1.toNat → b1.toNat < b2.toNat → b2.toNat < b3.toNat → ∃ (t : State) (band : Nat → Band),
            exec (.setBands b1 b2 b3) s = .next t
            ∧ (∀ r, band r = if r < b1.toNat then .calm else if r < b2.toNat then .watch
                else if r < b3.toNat then .act else .severe)
            ∧ t = { s with
                port := t.port, notices := { s.notices with piles := t.notices.piles, flags := t.notices.flags }
                model := { s.model with b1 := b1.toNat, b2 := b2.toNat, b3 := b3.toNat }
                piles := s.piles.map fun e => (e.1, { e.2 with band := band e.2.risk }) }
            ∧ (∀ k, k ∈ t.notices.piles ↔
                k ∈ s.notices.piles ∨ ∃ p, (k, p) ∈ s.piles ∧ band p.risk ≠ p.band)
            ∧ t.port = s.replied .ok 0x21 (be8 (s.piles.countP fun e => band e.2.risk != e.2.band)))

/-- A model step is taken for an expiry of the step timer, handed over or falling in the coming second, and for none other
(how expiries are kept is the model's choice: log entry 6). The arithmetic of a model step, stages 1 to 5 and 8, on every
pile of a yard where no pile is on auto, no order is held and no permit waits; then the record of the step. Nothing else
changes but the PILE change set, which takes the slot of each pile whose band changes or whose degraded flag becomes
set. -/
def Obligations.ModelStepArithmetic : Prop :=
  (∀ s : State, s.clock.modelDue.due = 0 → (s.clock.stepLeft ≠ 1 ∨ s.clock.modelDue.ahead = true) →
    exec .modelStep s = .next s)
  ∧ ∀ (s : State) (x : Expiries),
    (x = if 0 < s.clock.modelDue.due then { s.clock.modelDue with due := s.clock.modelDue.due - 1 } else ⟨0, true⟩) →
    (0 < s.clock.modelDue.due ∨ (s.clock.stepLeft = 1 ∧ s.clock.modelDue.ahead = false)) →
    Table.wf s.piles = true → (∀ e ∈ s.piles, e.2.auto = false) → s.dispatch.orders = [] →
    (∀ x ∈ s.permits.list, x.state ≠ .pendingWet) →
    (∀ e ∈ s.piles, (Table.get s.grades e.2.grade).isSome = true) →
    ∃ t, exec .modelStep s = .next t
      ∧ t = { s with
          clock := { s.clock with modelDue := x }
          piles := t.piles, notices := { s.notices with piles := t.notices.piles, flags := t.notices.flags }
          model := { s.model with lastStep := some s.clock.minute, stepped := s.piles.length, shortfall := 0 }
          events := t.events }
      ∧ (∀ slot, Table.get s.piles slot = none → Table.get t.piles slot = none)
      ∧ (∀ slot p g, Table.get s.piles slot = some p → Table.get s.grades p.grade = some g →
          ∃ (q : Pile) (x m1 n : Nat), Table.get t.piles slot = some q
          ∧ q = { p with
              lastWp := q.lastWp, lastWgp := q.lastWgp, m := q.m, residue := q.residue, risk := q.risk, band := q.band
              degraded := q.degraded }
          ∧ (∀ i, s.wind.weather.octant = i → i < 8 → ((profileBytes p.profile)[i]?).map (fun b => b.toNat) = some x)
          ∧ (8 ≤ s.wind.weather.octant →
              (∃ b ∈ profileBytes p.profile, b.toNat = x) ∧ ∀ b ∈ profileBytes p.profile, b.toNat ≤ x)
          ∧ q.lastWp = min 600 (s.wind.weather.speed * x / 128)
          ∧ q.lastWgp = min 600 (s.wind.weather.gustSpeed * x / 128)
          ∧ m1 = min g.msat (p.m + s.wind.weather.rain * g.gk / 256)
          ∧ n = g.kg * (q.lastWp + 20) * (100 - s.wind.weather.rh) + p.residue
          ∧ (m1 < n / 65536 → q.m = 0 ∧ q.residue = 0)
          ∧ (n / 65536 ≤ m1 → q.m = m1 - n / 65536 ∧ q.residue = n % 65536)
          ∧ q.risk = min 255 ((if q.m < g.mt then g.mt - q.m else 0) * q.lastWgp / (g.dg * 64))
          ∧ q.band = (if q.risk < s.model.b1 then .calm else if q.risk < s.model.b2 then .watch
              else if q.risk < s.model.b3 then .act else .severe)
          ∧ (q.degraded = true ↔ s.wind.weather.source = .held ∨ s.wind.weather.source = .unset)
          ∧ (slot ∈ t.notices.piles ↔
              slot ∈ s.notices.piles ∨ q.band ≠ p.band ∨ (q.degraded = true ∧ p.degraded = false)))

/-- Stage 7 of a model step on a yard of one LIVE pile on auto without orders and permits, HOLD inactive: the band, or a
failed look-ahead under the slot that covers now + Lead, asks for an order; its dose is sized on the pile as stages 1 to 5
leave it; a dose below 50 litres, or no shortfall of moisture, asks for none. Stage 7 on a yard of one LIVE pile with one
open auto order and no permits: an AUTO-RISK order that waits and never had a pass is withdrawn in CALM and WATCH; in ACT
and SEVERE an AUTO-LOOKAHEAD order becomes AUTO-RISK at the band's priority, and an AUTO-RISK order of a lower priority is
raised to it; a priority is never lowered. On a pile with auto on or off: an AUTO-LOOKAHEAD order that waits and never had
a pass is withdrawn when the look-ahead PASSED, and is kept when it FAILED or was not evaluated; an order that runs or has
had a pass is kept; one withdrawn may be followed at once by another that band or look-ahead asks for; nothing is placed
while HOLD is active, nor while 32 orders are open, which counts in the shortfall. The steps are those taken for an expiry
(log entry 6); occasions of an arbitration and the events of endings are counted as the model counts them (log entries 4
and 18). -/
def Obligations.ModelStepKeepsAutoOrders : Prop :=
  (∀ (s : State) (slot : Nat) (p q : Pile) (g : Grade),
    (0 < s.clock.modelDue.due ∨ (s.clock.stepLeft = 1 ∧ s.clock.modelDue.ahead = false)) →
    s.piles = [(slot, p)] → Table.get s.grades p.grade = some g → p.life = .live → p.auto = true →
    s.dispatch.orders = [] → s.permits.list = [] → s.wind.cutOut = false → s.wind.frost = false →
    q = stages1to5 s.model s.wind.weather g p → 50 ≤ s.dispatch.maxDose →
    ∃ (t : State) (failed : Bool) (target landed litres : Nat), exec .modelStep s = .next t
      ∧ (failed = true ↔ ∃ (f : Slot) (wpf : Nat), s.model.lead ≠ 0 ∧ s.forecast.lookup (s.clock.minute + s.model.lead) = some f
          ∧ wpf = min 600 (f.wind * exposure p.profile f.octant / 128)
          ∧ max 0 (min (g.msat : Int) ((q.m : Int) + (((f.rain * g.gk / 256 : Nat) : Int)
              - ((g.kg * (wpf + 20) * (100 - f.rh) / 65536 : Nat) : Int)) * (s.model.lead : Int))) < (g.mt : Int))
      ∧ target = min g.msat (g.mt + g.margin)
      ∧ landed = ((target - q.m) * p.area + g.gk - 1) / g.gk
      ∧ litres = (landed * 256 + (256 - min 192 (q.lastWp / 4)) - 1) / (256 - min 192 (q.lastWp / 4))
      ∧ ((target ≤ q.m ∨ litres < 50 ∨ ((q.band = .calm ∨ q.band = .watch) ∧ failed = false)) → t.dispatch = s.dispatch)
      ∧ (q.m < target → 50 ≤ litres → (q.band = .act ∨ q.band = .severe ∨ failed = true) → ∃ o, t.dispatch = { s.dispatch with
            orders := [o], nextId := s.dispatch.nextId % 65535 + 1, due := s.dispatch.due + 1 }
          ∧ o.id = s.dispatch.nextId ∧ o.tag = p.tag ∧ o.state = .waiting ∧ o.dose = min litres s.dispatch.maxDose
          ∧ o.clamped = decide (s.dispatch.maxDose < litres) ∧ o.delivered = 0 ∧ o.policy = .reuseThenFresh
          ∧ o.plan = none ∧ o.volley = none ∧ o.suspension = ⟨false, false, false⟩ ∧ o.pass = none
          ∧ o.accepted = s.clock.minute ∧ o.lapseRef = s.clock.minute
          ∧ (q.band = .severe → o.origin = .autoRisk ∧ o.priority = 2)
          ∧ (q.band = .act → o.origin = .autoRisk ∧ o.priority = 1)
          ∧ (q.band = .calm ∨ q.band = .watch → o.origin = .autoLookahead ∧ o.priority = 0))
      ∧ t.water = s.water ∧ t.cannons = s.cannons ∧ t.permits = s.permits ∧ t.forecast = s.forecast)
  ∧ (∀ (s : State) (slot : Nat) (p q : Pile) (g : Grade) (o : Order),
    (0 < s.clock.modelDue.due ∨ (s.clock.stepLeft = 1 ∧ s.clock.modelDue.ahead = false)) →
    s.piles = [(slot, p)] → Table.get s.grades p.grade = some g → p.life = .live → p.auto = false →
    s.dispatch.orders = [o] → o.tag = p.tag → s.permits.list = [] → q = stages1to5 s.model s.wind.weather g p →
    (o.origin = .autoRisk → o.state = .waiting → o.passes = 0 → q.band = .calm ∨ q.band = .watch →
      ∃ t, exec .modelStep s = .next t
        ∧ t.dispatch = { s.dispatch with orders := [{ o with
            state := .ended, outcome := some .withdrawn, endedMinute := some s.clock.minute, endedEvent := t.events
            starved := false }] }
        ∧ o.id ∈ t.notices.orders)
    ∧ (∀ k, (q.band = .act ∧ k = 1) ∨ (q.band = .severe ∧ k = 2) → o.state ≠ .ended →
        o.origin = .autoLookahead ∨ (o.origin = .autoRisk ∧ o.priority < k) →
        ∃ t, exec .modelStep s = .next t
          ∧ t.dispatch = { s.dispatch with
              orders := [{ o with origin := .autoRisk, priority := k }]
              due := s.dispatch.due + if o.state = .waiting ∧ o.priority < k then 1 else 0 })
    ∧ (∀ k, (q.band = .act ∧ k = 1) ∨ (q.band = .severe ∧ k = 2) → o.state ≠ .ended → o.origin = .autoRisk →
        k ≤ o.priority → ∃ t, exec .modelStep s = .next t ∧ t.dispatch = s.dispatch))
  ∧ (∀ (s : State) (slot target landed litres : Nat) (p q : Pile) (g : Grade) (projected : Slot → Int) (passed failed hold : Prop)
      (ended : Nat → Order → Order),
    (0 < s.clock.modelDue.due ∨ (s.clock.stepLeft = 1 ∧ s.clock.modelDue.ahead = false)) →
    s.piles = [(slot, p)] → Table.get s.grades p.grade = some g → p.life = .live → s.permits.list = [] →
    q = stages1to5 s.model s.wind.weather g p → 50 ≤ s.dispatch.maxDose →
    (∀ f, projected f = max 0 (min (g.msat : Int) ((q.m : Int) + (((f.rain * g.gk / 256 : Nat) : Int)
      - ((g.kg * (min 600 (f.wind * exposure p.profile f.octant / 128) + 20) * (100 - f.rh) / 65536 : Nat) : Int))
        * (s.model.lead : Int)))) →
    (passed ↔ p.auto = true ∧ s.model.lead ≠ 0
      ∧ ∃ f, s.forecast.lookup (s.clock.minute + s.model.lead) = some f ∧ (g.mt : Int) ≤ projected f) →
    (failed ↔ p.auto = true ∧ s.model.lead ≠ 0
      ∧ ∃ f, s.forecast.lookup (s.clock.minute + s.model.lead) = some f ∧ projected f < (g.mt : Int)) →
    (hold ↔ s.wind.cutOut = true ∨ s.wind.frost = true) →
    target = min g.msat (g.mt + g.margin) → landed = ((target - q.m) * p.area + g.gk - 1) / g.gk →
    litres = (landed * 256 + (256 - min 192 (q.lastWp / 4)) - 1) / (256 - min 192 (q.lastWp / 4)) →
    (∀ k o, ended k o = { o with
      state := .ended, outcome := some .withdrawn, endedMinute := some s.clock.minute, endedEvent := k, starved := false }) →
    -- an open auto order: withdrawn, kept, raised, or withdrawn and followed by another
    (∀ o, s.dispatch.orders = [o] → o.tag = p.tag → o.state ≠ .ended → (o.origin = .autoRisk ∨ o.origin = .autoLookahead) →
      1 ≤ s.dispatch.nextId → s.dispatch.nextId ≤ 65535 →
      ∀ gone asks : Prop, (gone ↔ o.state = .waiting ∧ o.passes = 0
        ∧ ((o.origin = .autoRisk ∧ (q.band = .calm ∨ q.band = .watch)) ∨ (o.origin = .autoLookahead ∧ passed))) →
      (asks ↔ (q.band = .act ∨ q.band = .severe ∨ failed) ∧ p.auto = true ∧ ¬ hold ∧ q.m < target ∧ 50 ≤ litres) →
      ∃ t, exec .modelStep s = .next t
        ∧ (¬ gone → q.band = .calm ∨ q.band = .watch → t.dispatch = s.dispatch)
        ∧ (∀ k, ¬ gone → (q.band = .act ∧ k = 1) ∨ (q.band = .severe ∧ k = 2) → t.dispatch = { s.dispatch with
            orders := [if o.origin = .autoLookahead ∨ o.priority < k then { o with origin := .autoRisk, priority := k } else o]
            due := s.dispatch.due + if o.state = .waiting ∧ o.priority < k then 1 else 0 })
        ∧ (gone → o.id ∈ t.notices.orders)
        ∧ (gone → ¬ asks → t.dispatch = { s.dispatch with orders := [ended t.events o] })
        ∧ (gone → asks → ∃ x : Order, t.dispatch = { s.dispatch with
              orders := [ended t.events o, x], nextId := x.id % 65535 + 1, due := s.dispatch.due + 1 }
            ∧ x.id ≠ o.id ∧ (s.dispatch.nextId ≠ o.id → x.id = s.dispatch.nextId) ∧ x.tag = p.tag ∧ x.state = .waiting
            ∧ x.dose = min litres s.dispatch.maxDose ∧ x.passes = 0
            ∧ (q.band = .severe → x.origin = .autoRisk ∧ x.priority = 2)
            ∧ (q.band = .act → x.origin = .autoRisk ∧ x.priority = 1)
            ∧ (q.band = .calm ∨ q.band = .watch → x.origin = .autoLookahead ∧ x.priority = 0)))
    -- no open auto order: nothing is placed while HOLD is active, nor while 32 orders are open
    ∧ ((∀ o ∈ s.dispatch.orders, o.tag = p.tag → o.state ≠ .ended → o.origin ≠ .autoRisk ∧ o.origin ≠ .autoLookahead) →
        (hold → ∃ t, exec .modelStep s = .next t ∧ t.dispatch = s.dispatch ∧ t.model.shortfall = 0)
        ∧ (¬ hold → p.auto = true → (q.band = .act ∨ q.band = .severe ∨ failed) → q.m < target → 50 ≤ litres →
            32 ≤ (s.dispatch.orders.countP fun o => o.state != .ended) →
            ∃ t, exec .modelStep s = .next t ∧ t.dispatch = s.dispatch ∧ t.model.shortfall = 1)))

/-! ## The wind monitor -/

/-- LOAD-MAST: its refusals, the loading of a mast at a free address with its node added to the loop, a new stale limit
at the same address with the samples kept, or with the mast stale at once where the limit is already reached, the move
to a new address with the samples discarded, and unloading. The mast's stale expiry discards its samples, keeps the rest
and has the weather selected again; it does nothing while the mast is not FRESH or its sample age is below the limit
(log entry 1). What a selection takes is said at MinuteChanges; the holds, WIND and the orders under HOLD follow every
selection, a running pass too (occasions: log entry 4). The count of events is the model's own (log entry 18). -/
def Obligations.MastsLoadAndGoStale : Prop :=
  ∀ (mast node : Byte) (stale : Half) (limit : Nat) (s : State), limit = (if stale = 0 then 120 else stale.toNat) →
    ((1 < mast.toNat ∨ 31 < node.toNat ∨ (stale ≠ 0 ∧ (stale.toNat < 10 ∨ 600 < stale.toNat))) →
      exec (.loadMast mast node stale) s = .next { s with port := s.replied .badArgument 0x28 [] })
    ∧ (mast.toNat ≤ 1 → node.toNat ≤ 31 → (stale = 0 ∨ (10 ≤ stale.toNat ∧ stale.toNat ≤ 600)) →
        (node ≠ 0 → (∃ n, s.node? node.toNat = some n ∧ n.owner ≠ .mast mast.toNat) →
          exec (.loadMast mast node stale) s = .next { s with port := s.replied .duplicate 0x28 [] })
        ∧ (node ≠ 0 → s.node? node.toNat = none → Table.get s.wind.masts mast.toNat = none →
            ∃ t, exec (.loadMast mast node stale) s = .next t
              ∧ t = { s with
                  port := s.replied .ok 0x28 [], wind := { s.wind with masts := t.wind.masts }, loop := t.loop
                  events := t.events }
              ∧ Table.get t.wind.masts mast.toNat
                  = some ⟨node.toNat, limit, false, [], none, none, none, false, 0, none, none, none, none, none⟩
              ∧ (∀ k, k ≠ mast.toNat → Table.get t.wind.masts k = Table.get s.wind.masts k)
              ∧ t.node? node.toNat = some ⟨.mast mast.toNat, 0, none, 0, false, none, 0⟩
              ∧ (s.loop.nodes = [] → s.loop.running = false → t.loop.running = true
                  ∧ t.loop.roundCount = (s.loop.roundCount + 1) % 4294967296
                  ∧ t.loop.timer = .running s.loop.period)
              ∧ (s.loop.running = true → t.loop = { s.loop with nodes := t.loop.nodes }))
        ∧ (node = 0 → Table.get s.wind.masts mast.toNat = none →
            exec (.loadMast mast node stale) s = .next { s with
              port := s.replied .ok 0x28 [], events := s.events + 1 })
        ∧ ∀ m, Table.get s.wind.masts mast.toNat = some m →
            (node.toNat = m.node → node ≠ 0 → (m.fresh = false ∨ m.age.getD 0 < limit) →
              (∀ n, s.node? node.toNat = some n → n.owner = .mast mast.toNat) →
              exec (.loadMast mast node stale) s = .next { s with
                port := s.replied .ok 0x28 [], events := s.events + 1
                wind := { s.wind with masts := Table.update s.wind.masts mast.toNat fun m => { m with stale := limit } } })
            ∧ (node.toNat = m.node → node ≠ 0 → m.fresh = true → limit ≤ m.age.getD 0 →
              (∀ n, s.node? node.toNat = some n → n.owner = .mast mast.toNat) →
              ∃ t, exec (.loadMast mast node stale) s = .next t ∧ t.port = s.replied .ok 0x28 []
                ∧ Table.get t.wind.masts mast.toNat = some { m with
                    stale := limit, fresh := false, ring := [], octant := none, pendingOctant := none, gust := false
                    gustCount := 0 }
                ∧ (∀ k, k ≠ mast.toNat → Table.get t.wind.masts k = Table.get s.wind.masts k)
                ∧ t.wind.weather = State.weatherNow { s with wind := { s.wind with masts := t.wind.masts } }
                ∧ holdsFollow s t false ∧ holdReachesOrders s t
                ∧ t.clock = s.clock ∧ t.forecast = s.forecast ∧ t.grades = s.grades)
            ∧ (node ≠ 0 → node.toNat ≠ m.node → s.node? node.toNat = none →
              (∀ x, s.node? m.node = some x → x.owner = .mast mast.toNat) →
              ∃ t, exec (.loadMast mast node stale) s = .next t ∧ t.port = s.replied .ok 0x28 []
                ∧ Table.get t.wind.masts mast.toNat
                    = some ⟨node.toNat, limit, false, [], none, none, none, false, 0, none, none, none, none, none⟩
                ∧ (∀ k, k ≠ mast.toNat → Table.get t.wind.masts k = Table.get s.wind.masts k)
                ∧ t.node? m.node = none
                ∧ (t.node? node.toNat).map (fun x => (x.owner, x.extraDelay, x.misses, x.lost, x.totalMisses))
                    = some (.mast mast.toNat, 0, 0, false, 0)
                ∧ (m.inst ≠ none →
                    t.wind.weather = State.weatherNow { s with wind := { s.wind with masts := t.wind.masts } })
                ∧ (m.inst = none → t.wind.weather = s.wind.weather) ∧ holdsFollow s t false ∧ holdReachesOrders s t
                ∧ t.clock = s.clock ∧ t.forecast = s.forecast ∧ t.grades = s.grades)
            ∧ (node = 0 → (∀ x, s.node? m.node = some x → x.owner = .mast mast.toNat) →
                ∃ t, exec (.loadMast mast node stale) s = .next t
                ∧ Table.get t.wind.masts mast.toNat = none ∧ t.node? m.node = none
                ∧ (m.inst ≠ none →
                    t.wind.weather = State.weatherNow { s with wind := { s.wind with masts := t.wind.masts } })
                ∧ (m.inst = none → t.wind.weather = s.wind.weather) ∧ holdsFollow s t false ∧ holdReachesOrders s t
                ∧ t.port = s.replied .ok 0x28 [] ∧ t.forecast = s.forecast ∧ t.grades = s.grades))
    ∧ (∀ m, Table.get s.wind.masts mast.toNat = some m → m.fresh = true → m.stale ≤ m.age.getD 0 →
        ∃ t, exec (.mastStaleExpiry mast) s = .next t
          ∧ Table.get t.wind.masts mast.toNat = some { m with
              fresh := false, ring := [], octant := none, pendingOctant := none, gust := false, gustCount := 0 }
          ∧ (∀ k, k ≠ mast.toNat → Table.get t.wind.masts k = Table.get s.wind.masts k)
          ∧ t.wind.weather = State.weatherNow { s with wind := { s.wind with masts := t.wind.masts } }
          ∧ holdsFollow s t false ∧ holdReachesOrders s t
          ∧ t.port = s.port ∧ t.clock = s.clock ∧ t.forecast = s.forecast ∧ t.loop.phase = s.loop.phase)
    ∧ ((∀ m, Table.get s.wind.masts mast.toNat = some m → m.fresh = false ∨ m.age.getD 0 < m.stale) →
        exec (.mastStaleExpiry mast) s = .next { s with events := s.events + 1 })

/-- SET-WIND-LIMITS: refused out of range; taken, it writes the six limits, zeroes the gust counts and evaluates both
holds against the effective weather. When HOLD becomes active, every open order takes HOLD, a spraying pass ramped down
and an aiming one abandoned; when it becomes inactive, HOLD leaves every open order and one arbitration follows if that
frees a waiting one (occasions are counted: log entry 4); when it stays, no order changes. The reply's two hold bytes,
ON 1 and OFF 0, are the model's reading (log entries 13 and 30). -/
def Obligations.WindLimitsMoveTheHolds : Prop :=
  ∀ (a : WindLimitArgs) (s : State),
    ((a.gust.toNat = 0 ∨ 600 < a.gust.toNat ∨ a.gust.toNat ≤ a.hysteresis.toNat ∨ a.cutOut.toNat = 0
        ∨ 600 < a.cutOut.toNat ∨ a.cutOut.toNat ≤ a.release.toNat ∨ a.frost.toInt < -40 ∨ 59 < a.frost.toInt
        ∨ a.frostRelease.toInt ≤ a.frost.toInt ∨ 60 < a.frostRelease.toInt) →
      exec (.setWindLimits a) s = .next { s with port := s.replied .badArgument 0x29 [] })
    ∧ (1 ≤ a.gust.toNat → a.gust.toNat ≤ 600 → a.hysteresis.toNat < a.gust.toNat → 1 ≤ a.cutOut.toNat →
        a.cutOut.toNat ≤ 600 → a.release.toNat < a.cutOut.toNat → -40 ≤ a.frost.toInt → a.frost.toInt ≤ 59 →
        a.frost.toInt < a.frostRelease.toInt → a.frostRelease.toInt ≤ 60 →
        ∃ t, exec (.setWindLimits a) s = .next t
          ∧ t.wind = { s.wind with
              limits := ⟨a.gust.toNat, a.hysteresis.toNat, a.cutOut.toNat, a.release.toNat, a.frost.toInt,
                a.frostRelease.toInt⟩
              masts := s.wind.masts.map fun e => (e.1, { e.2 with gustCount := 0 })
              cutOut := t.wind.cutOut, frost := t.wind.frost }
          ∧ (t.wind.cutOut = true ↔ if s.wind.cutOut = true then a.release.toNat < s.wind.weather.speed
              else a.cutOut.toNat ≤ s.wind.weather.speed)
          ∧ (t.wind.frost = true ↔ if s.wind.frost = true then s.wind.weather.temp < a.frostRelease.toInt
              else s.wind.weather.temp ≤ a.frost.toInt)
          ∧ t.port = s.replied .ok 0x29 [if t.wind.cutOut then 1 else 0, if t.wind.frost then 1 else 0]
          ∧ t.notices.flags.wind = (s.notices.flags.wind
              || t.wind.cutOut != s.wind.cutOut || t.wind.frost != s.wind.frost)
          ∧ holdReachesOrders s t
          ∧ ((∀ o ∈ s.dispatch.orders, o.state = .ended ∨ o.pass = none) →
              t = { s with
                port := t.port, wind := t.wind, events := t.events
                notices := { s.notices with flags := { s.notices.flags with wind := t.notices.flags.wind } }
                dispatch := { s.dispatch with orders := t.dispatch.orders, due := t.dispatch.due } }))

/-- A mast's reply, to a poll or to the probe of a lost mast, is one sample: clamped, its speed joins the ring of four,
the accepted octant moves only on two samples that agree, the gust state only on two in a row, and the mast is FRESH
with age 0. In a yard of that mast alone and no orders the effective weather is then its average, gust-aware speed and
latest values, source OBSERVED. In every yard the weather is selected anew (MinuteChanges says what a selection takes):
where it changes, the drift cut-out and the frost hold follow their thresholds, WIND is raised by a change of source or
of a hold and by a gust turning ON, and HOLD joins or leaves the orders, with a spraying pass ramped down and an aiming
one abandoned. Occasions are counted as in log entry 4. -/
def Obligations.MastSampleIsTaken : Prop :=
  ∀ (a n : Nat) (sent : Sent) (rest : List Nat) (node : Node) (m : Mast) (speed direction rain : Half) (rh temp : Byte) (s : State),
    a ≤ 31 → s.loop.phase = .exchange a sent rest → s.node? a = some node → node.owner = .mast n →
    Table.get s.wind.masts n = some m →
    ∃ (t : State) (k : Mast),
      exec (.validReply ((NodeReply.mast speed.toNat direction.toNat rh.toNat rain.toNat temp.toInt).bytes a)) s = .next t
      ∧ Table.get t.wind.masts n = some k
      ∧ k = { m with
          fresh := true, inst := some (min speed.toNat 600), rh := some (min rh.toNat 100)
          rain := some (min rain.toNat 999), temp := some (max (-40) (min temp.toInt 60)), age := some 0
          direction := if direction.toNat < 360 then some direction.toNat else none
          ring := k.ring, octant := k.octant, pendingOctant := k.pendingOctant, gust := k.gust, gustCount := k.gustCount }
      ∧ (m.ring.length < 4 → k.ring = m.ring ++ [min speed.toNat 600])
      ∧ (∀ x y, m.ring = x :: y → m.ring.length = 4 → k.ring = y ++ [min speed.toNat 600])
      ∧ (360 ≤ direction.toNat → k.octant = m.octant ∧ k.pendingOctant = none)
      ∧ (direction.toNat < 360 → ∀ o, o = ((direction.toNat + 22) / 45) % 8 →
          ((m.octant = none ∨ m.octant = some o ∨ m.pendingOctant = some o) → k.octant = some o ∧ k.pendingOctant = none)
          ∧ (m.octant ≠ none → m.octant ≠ some o → m.pendingOctant ≠ some o →
              k.octant = m.octant ∧ k.pendingOctant = some o))
      ∧ (∀ toward : Prop, (toward ↔ if m.gust = true then
            min speed.toNat 600 ≤ s.wind.limits.gust - s.wind.limits.hysteresis
            else s.wind.limits.gust ≤ min speed.toNat 600) →
          (¬ toward → k.gust = m.gust ∧ k.gustCount = 0)
          ∧ (toward → m.gustCount = 0 → k.gust = m.gust ∧ k.gustCount = 1)
          ∧ (toward → m.gustCount = 1 → k.gust = !m.gust ∧ k.gustCount = 0))
      ∧ t.loop.phase = .between rest
      ∧ (t.node? a).map (fun x => (x.owner, x.misses, x.lost, x.countdown)) = some (.mast n, 0, false, none)
      ∧ t.wind.weather = State.weatherNow { s with wind := { s.wind with masts := t.wind.masts } }
      ∧ holdsFollow s t (k.gust && !m.gust) ∧ holdReachesOrders s t
      ∧ (s.wind.masts = [(n, m)] → s.dispatch.orders = [] →
          t.wind.weather.source = .observed ∧ t.wind.weather.speed = k.ring.sum / k.ring.length
          ∧ t.wind.weather.gustSpeed = (if k.gust then max (k.ring.sum / k.ring.length) (k.ring.foldl max 0)
              else k.ring.sum / k.ring.length)
          ∧ t.wind.weather.rh = min rh.toNat 100 ∧ t.wind.weather.rain = min rain.toNat 999
          ∧ t.wind.weather.temp = max (-40) (min temp.toInt 60)
          ∧ (∀ o, k.octant = some o → t.wind.weather.octant = o) ∧ t.wind.established = true)

/-! ## The forecast table -/

/-- POST-FORECAST, addressed: its refusals in their order, FULL only where no slot held has ended; and the slot inserted
in the place of those it overlaps, when room is found without retiring any, or else by retiring every slot that has
ended. Its issue becomes the latest of code 0, or of every position whose own code is its code, and of no other; the
effective weather is selected from the table so left (MinuteChanges says what a selection takes), and the holds, WIND
and the orders under HOLD follow it (occasions: log entry 4). The broadcast form acts alike and makes no reply. The
count of events is the model's own (log entry 18). -/
def Obligations.PostForecastInsertsOrRefuses : Prop :=
  ∀ (a : ForecastArgs) (x : Slot) (s : State), x = slotOf a →
    x = ⟨a.code.toNat, a.issue.toNat, a.start.toNat, max 10 (min a.length.toNat 360), min a.wind.toNat 600,
      min a.gust.toNat 600, a.octant.toNat, min a.rh.toNat 100, min a.rain.toNat 999, max (-40) (min a.temp.toInt 60)⟩
    ∧ ((8 < x.octant ∨ 4294967296 < x.start + x.length) →
        exec (.postForecast false a) s = .next { s with port := s.replied .badArgument 0x30 [] }
        ∧ exec (.postForecast true a) s = .next s)
    ∧ (x.octant ≤ 8 → x.start + x.length ≤ 4294967296 →
        (x.code ≠ 0 → x.code ∉ s.forecast.codes →
          exec (.postForecast false a) s = .next { s with port := s.replied .notMine 0x30 [] }
          ∧ exec (.postForecast true a) s = .next s)
        ∧ ((x.code = 0 ∨ x.code ∈ s.forecast.codes) →
            (x.start + x.length ≤ s.clock.minute →
              exec (.postForecast false a) s = .next { s with port := s.replied .stale 0x30 [0, 0, 0] }
              ∧ exec (.postForecast true a) s = .next s)
            ∧ (s.clock.minute < x.start + x.length →
                (∀ y, s.forecast.slots.find? (fun y => decide (x.start < y.start + y.length
                    ∧ y.start < x.start + x.length ∧ s.clock.minute < y.start + y.length ∧ x.issue ≠ y.issue
                    ∧ ¬ (1 ≤ (x.issue + 65536 - y.issue % 65536) % 65536
                      ∧ (x.issue + 65536 - y.issue % 65536) % 65536 ≤ 32767))) = some y →
                  exec (.postForecast false a) s = .next { s with
                    port := s.replied .stale 0x30 ([1] ++ be16 y.issue) }
                  ∧ exec (.postForecast true a) s = .next s)
                ∧ ((∀ y ∈ s.forecast.slots, x.start < y.start + y.length → y.start < x.start + x.length →
                      s.clock.minute < y.start + y.length → x.issue = y.issue
                      ∨ (1 ≤ (x.issue + 65536 - y.issue % 65536) % 65536
                        ∧ (x.issue + 65536 - y.issue % 65536) % 65536 ≤ 32767)) →
                    ∀ kept : List Slot, kept = s.forecast.slots.filter (fun y =>
                      !decide (x.start < y.start + y.length ∧ y.start < x.start + x.length)) →
                    (48 ≤ kept.length → (∀ y ∈ s.forecast.slots, s.clock.minute < y.start + y.length) →
                      exec (.postForecast false a) s = .next { s with
                        port := s.replied .full 0x30 [], events := s.events + 1 }
                      ∧ exec (.postForecast true a) s = .next { s with events := s.events + 1 })
                    ∧ (kept.length < 48 → ∃ t, exec (.postForecast false a) s = .next t
                      ∧ t.forecast.slots.Perm (x :: kept) ∧ t.forecast.codes = s.forecast.codes
                      ∧ (kept.Pairwise (fun y z => y.start ≤ z.start) →
                          t.forecast.slots.Pairwise fun y z => y.start ≤ z.start)
                      ∧ (x.code = 0 → s.forecast.latest.length = 5 → s.forecast.codes.length = 4 →
                          t.forecast.latest = some x.issue :: s.forecast.latest.drop 1)
                      ∧ (x.code ≠ 0 → s.forecast.latest.length = 5 → s.forecast.codes.length = 4 →
                          t.forecast.latest.length = 5 ∧ t.forecast.latest[0]? = s.forecast.latest[0]?
                          ∧ ∀ i, i < 4 → t.forecast.latest[i + 1]? =
                            if s.forecast.codes[i]? = some x.code then some (some x.issue) else s.forecast.latest[i + 1]?)
                      ∧ t.port = s.replied .ok 0x30 (be8 (kept.countP fun y => decide (y.start < x.start))
                          ++ be8 (s.forecast.slots.length - kept.length) ++ [0] ++ be8 (kept.length + 1))
                      ∧ t.clock = s.clock ∧ t.grades = s.grades ∧ t.wind.masts = s.wind.masts
                      ∧ t.wind.weather = State.weatherNow { s with forecast := t.forecast }
                      ∧ holdsFollow s t false ∧ holdReachesOrders s t
                      ∧ ∃ u, exec (.postForecast true a) s = .next u ∧ u = { t with port := s.port })
                    ∧ ∀ live left : List Slot,
                      live = s.forecast.slots.filter (fun y => decide (s.clock.minute < y.start + y.length)) →
                      left = kept.filter (fun y => decide (s.clock.minute < y.start + y.length)) →
                      48 ≤ kept.length → left.length < 48 → ∃ t, exec (.postForecast false a) s = .next t
                        ∧ t.forecast.slots.Perm (x :: left) ∧ t.forecast.codes = s.forecast.codes
                        ∧ (left.Pairwise (fun y z => y.start ≤ z.start) →
                            t.forecast.slots.Pairwise fun y z => y.start ≤ z.start)
                        ∧ (s.forecast.latest.length = 5 → s.forecast.codes.length = 4 →
                            t.forecast.latest.length = 5
                            ∧ t.forecast.latest[0]? = (if x.code = 0 then some (some x.issue) else s.forecast.latest[0]?)
                            ∧ ∀ i, i < 4 → t.forecast.latest[i + 1]? =
                              if x.code ≠ 0 ∧ s.forecast.codes[i]? = some x.code then some (some x.issue)
                              else s.forecast.latest[i + 1]?)
                        ∧ t.port = s.replied .ok 0x30 (be8 (left.countP fun y => decide (y.start < x.start))
                            ++ be8 (live.length - left.length) ++ be8 (s.forecast.slots.length - live.length)
                            ++ be8 (left.length + 1))
                        ∧ t.clock = s.clock ∧ t.grades = s.grades ∧ t.wind.masts = s.wind.masts
                        ∧ t.wind.weather = State.weatherNow { s with forecast := t.forecast }
                        ∧ holdsFollow s t false ∧ holdReachesOrders s t
                        ∧ ∃ u, exec (.postForecast true a) s = .next u ∧ u = { t with port := s.port }))))

/-- SLOT_RETIREMENT, for an expiry of the step timer and for none other (log entry 6), drops exactly the slots that have
ended; CLEAR-FORECASTS drops all of them and the latest issues; SET-YARD-CODES writes the four codes and makes absent
the latest issue of each position whose code changes. After slots have been retired or cleared the effective weather is
selected from the table so left (MinuteChanges says what a selection takes). The holds, WIND and the orders under HOLD
follow that selection (occasions: log entry 4). -/
def Obligations.ForecastsRetireClearAndRecode : Prop :=
  ∀ s : State,
    (s.clock.retireDue.due = 0 → (s.clock.stepLeft ≠ 1 ∨ s.clock.retireDue.ahead = true) →
      exec .slotRetirement s = .next s)
    ∧ ((0 < s.clock.retireDue.due ∨ (s.clock.stepLeft = 1 ∧ s.clock.retireDue.ahead = false)) →
      ∃ t, exec .slotRetirement s = .next t
      ∧ t.forecast = { s.forecast with
          slots := s.forecast.slots.filter fun y => decide (s.clock.minute < y.start + y.length) }
      ∧ t.clock = { s.clock with retireDue := if 0 < s.clock.retireDue.due then
          { s.clock.retireDue with due := s.clock.retireDue.due - 1 } else ⟨0, true⟩ }
      ∧ ((∀ y ∈ s.forecast.slots, s.clock.minute < y.start + y.length) → t = { s with clock := t.clock })
      ∧ ((∃ y ∈ s.forecast.slots, y.start + y.length ≤ s.clock.minute) →
          t.wind.weather = State.weatherNow { s with forecast := t.forecast })
      ∧ holdsFollow s t false ∧ holdReachesOrders s t
      ∧ t.port = s.port ∧ t.grades = s.grades ∧ t.model = s.model ∧ t.wind.masts = s.wind.masts)
    ∧ (∃ t, exec .clearForecasts s = .next t
      ∧ t.forecast = ⟨[], s.forecast.codes, [none, none, none, none, none]⟩
      ∧ t.wind.weather = State.weatherNow { s with forecast := t.forecast }
      ∧ holdsFollow s t false ∧ holdReachesOrders s t
      ∧ t.port = s.replied .ok 0x33 (be8 s.forecast.slots.length) ∧ t.clock = s.clock ∧ t.grades = s.grades
      ∧ t.model = s.model ∧ t.wind.masts = s.wind.masts)
    ∧ ∀ (c1 c2 c3 c4 : Byte) (d1 d2 d3 d4 : Nat) (l0 l1 l2 l3 l4 : Option Nat),
        s.forecast.codes = [d1, d2, d3, d4] → s.forecast.latest = [l0, l1, l2, l3, l4] →
        exec (.setYardCodes c1 c2 c3 c4) s = .next { s with
          port := s.replied .ok 0x31 []
          forecast := { s.forecast with
            codes := [c1.toNat, c2.toNat, c3.toNat, c4.toNat]
            latest := [l0, if d1 = c1.toNat then l1 else none, if d2 = c2.toNat then l2 else none,
              if d3 = c3.toNat then l3 else none, if d4 = c4.toNat then l4 else none] } }

/-! ## The order dispatcher -/

/-- PLACE-ORDER's four refusals in their order, none of which changes anything else. -/
def Obligations.PlaceOrderRefusals : Prop :=
  ∀ (a : PlaceOrderArgs) (bad fails : Prop) (share : PlanEntryArgs → Nat) (s : State),
    (bad ↔ a.tag = 0 ∨ 3 < a.priority.toNat ∨ 2 < a.policy.toNat
      ∨ (∃ v, a.volley = some v ∧ (v.toNat = 0 ∨ 15 < v.toNat))
      ∨ (∃ e ∈ a.plan, (e.cannon ≠ 0xFF ∧ 23 < e.cannon.toNat) ∨ 359 < e.arcStart.toNat ∨ 359 < e.arcEnd.toNat
          ∨ e.share.toNat = 0)
      ∨ (a.plan = [] ∧ a.dose.toNat = 0)) →
    (∀ e c, e.cannon ≠ 0xFF → s.cannon? e.cannon.toNat = some c →
      share e = max c.config.minDose (min e.share.toNat c.config.maxDose)) →
    (∀ e, e.cannon = 0xFF ∨ s.cannon? e.cannon.toNat = none → share e = e.share.toNat) →
    (fails ↔ (∃ e ∈ a.plan, e.cannon ≠ 0xFF ∧ ∀ c v, s.cannon? e.cannon.toNat = some c →
          c.config.coverage.find? (fun v => v.tag == a.tag.toNat) = some v →
          ¬ ((e.arcStart.toNat + 360 - v.arcStart % 360) % 360 ≤ (e.arcEnd.toNat + 360 - v.arcStart % 360) % 360
            ∧ (e.arcEnd.toNat + 360 - v.arcStart % 360) % 360 ≤ (v.arcEnd + 360 - v.arcStart % 360) % 360))
      ∨ (a.plan ≠ [] ∧ s.dispatch.maxDose < (a.plan.map share).sum)) →
    (bad → exec (.placeOrder a) s = .next { s with port := s.replied .badArgument 0x40 [] })
    ∧ (¬ bad →
        ((∀ slot p, s.pileAt? a.tag.toNat = some (slot, p) → p.life = .retiring) →
          exec (.placeOrder a) s = .next { s with port := s.replied .unknown 0x40 [] })
        ∧ ∀ slot p, s.pileAt? a.tag.toNat = some (slot, p) → p.life = .live →
            (fails → exec (.placeOrder a) s = .next { s with port := s.replied .badPlan 0x40 [] })
            ∧ (¬ fails → 32 ≤ (s.dispatch.orders.countP fun o => o.state != .ended) →
                exec (.placeOrder a) s = .next { s with port := s.replied .full 0x40 [] }))

/-- PLACE-ORDER, its checks passed: the record the order starts with, its id, the entry freed to make room, and the reply;
an order with nothing left to deliver ends DONE at once, another enters VOLLEY-HELD or WAITING. Which ENDED order ended
first is told by the model's numbering of events (log entry 18), occasions are counted (log entry 4), and in the reply the
clamped flag is a byte of its own (log entry 13), the suspension set the byte READ-ORDER has for it (log entry 43). -/
def Obligations.PlaceOrderAccepts : Prop :=
  ∀ (a : PlaceOrderArgs) (s : State), placeOrderArgsOk a = true → s.liveTag a.tag.toNat = true → s.planOk a = true →
    s.dispatch.orders.length ≤ 32 → (s.dispatch.orders.countP fun o => o.state != .ended) < 32 →
    1 ≤ s.dispatch.nextId → s.dispatch.nextId ≤ 65535 →
    ∃ (t : State) (o : Order) (kept : List Order) (freed : Option Nat), exec (.placeOrder a) s = .next t
      ∧ t = { s with
          port := t.port, events := s.events + 1, notices := t.notices
          dispatch := { s.dispatch with orders := kept ++ [o], nextId := o.id % 65535 + 1, due := t.dispatch.due } }
      ∧ (s.dispatch.orders.length < 32 → kept = s.dispatch.orders ∧ freed = none)
      ∧ (s.dispatch.orders.length = 32 → ∃ (i : Nat) (x : Order), s.dispatch.orders[i]? = some x ∧ x.state = .ended ∧ freed = some x.id
          ∧ (∀ y ∈ s.dispatch.orders, y.state = .ended → x.endedEvent ≤ y.endedEvent)
          ∧ (∀ (j : Nat) (y : Order), j < i → s.dispatch.orders[j]? = some y → y.state = .ended → x.endedEvent < y.endedEvent)
          ∧ kept = s.dispatch.orders.filter fun y => y.id != x.id)
      ∧ (∀ x ∈ kept, x.id ≠ o.id) ∧ 1 ≤ o.id ∧ o.id ≤ 65535
      ∧ ((∀ x ∈ kept, x.id ≠ s.dispatch.nextId) → o.id = s.dispatch.nextId)
      ∧ o.tag = a.tag.toNat ∧ o.origin = .host ∧ o.priority = a.priority.toNat ∧ o.policy.code = a.policy.toNat
      ∧ o.volley = a.volley.map (fun v => v.toNat) ∧ o.delivered = 0 ∧ o.starved = false ∧ o.cancelPending = false
      ∧ o.accepted = s.clock.minute ∧ o.lapseRef = s.clock.minute ∧ o.passes = 0 ∧ o.lastEnd = none ∧ o.pass = none
      ∧ o.suspension = ⟨false, s.wind.cutOut || s.wind.frost,
          s.permits.list.any fun x => decide (x.tag = a.tag.toNat ∧ x.state ≠ .pendingWet)⟩
      ∧ (a.plan = [] → o.plan = none ∧ o.dose = min a.dose.toNat s.dispatch.maxDose
          ∧ o.clamped = decide (s.dispatch.maxDose < a.dose.toNat))
      ∧ (a.plan ≠ [] → o.clamped = false ∧ ∃ p, o.plan = some p ∧ o.dose = (p.entries.map fun e => e.share).sum
          ∧ p.entries.length = a.plan.length ∧ p.current ≤ p.entries.length
          ∧ (∀ (i : Nat) (e : PlanEntryArgs) (x : PlanEntry), a.plan[i]? = some e → p.entries[i]? = some x →
              x.arcStart = e.arcStart.toNat ∧ x.arcEnd = e.arcEnd.toNat ∧ x.remaining = x.share
              ∧ (e.cannon = 0xFF → x.cannon = none ∧ x.share = e.share.toNat)
              ∧ (e.cannon ≠ 0xFF → x.cannon = some e.cannon.toNat
                ∧ ∀ c, s.cannon? e.cannon.toNat = some c →
                    x.share = max c.config.minDose (min e.share.toNat c.config.maxDose)))
          ∧ (∀ (i : Nat) (x : PlanEntry), i < p.current → p.entries[i]? = some x → x.remaining < 50)
          ∧ ∀ x : PlanEntry, p.entries[p.current]? = some x → 50 ≤ x.remaining)
      ∧ ∀ finished : Prop, (finished ↔ (a.plan = [] ∧ o.dose < 50) ∨ (a.plan ≠ [] ∧
            ∀ e ∈ a.plan, e.share.toNat < 50 ∧ e.cannon = 0xFF ∨ ∃ c, e.cannon ≠ 0xFF ∧
              s.cannon? e.cannon.toNat = some c ∧ max c.config.minDose (min e.share.toNat c.config.maxDose) < 50)) →
          (finished → o.state = .ended ∧ o.outcome = some .done ∧ o.endedMinute = some s.clock.minute
            ∧ t.notices = s.notices.hand .order o.id ∧ t.dispatch.due = s.dispatch.due)
          ∧ (¬ finished → o.state = (if a.volley = none then .waiting else .volleyHeld) ∧ o.outcome = none
            ∧ t.notices = s.notices ∧ t.dispatch.due = s.dispatch.due + if a.volley = none then 1 else 0)
          ∧ t.port = s.replied .ok 0x40 ([if freed = none then 0 else 1] ++ be16 o.id ++ be8 o.state.code ++ be16 o.dose
              ++ [if o.clamped then 1 else 0] ++ o.suspension.bytes ++ be16 (freed.getD 0))

/-- SUSPEND-ORDER and RESUME-ORDER: the refusals; on an order without a pass HOST joins or leaves the set and no more,
but for starved, and for the arbitration that the emptying of a waiting order's set occasions. CANCEL-ORDER: the
refusals; a held or waiting host order ends CANCELLED at once and its id is handed to the ORDER change set; a
cancellation already pending changes nothing. Occasions and events are counted as the model counts them (log entries
4 and 18); CANCEL-ORDER's reply has no item but the state and the delivered volume (log entry 33); a suspension set is
told as one byte (log entry 43). A PREWET order that is cancelled so, or that lapses, takes with it the permits that wait
on it: each ends REFUSED-TOO-DRY. -/
def Obligations.WaitingOrdersSuspendResumeCancel : Prop :=
  (∀ (id : Half) (s : State),
    (s.order? id.toNat = none → exec (.suspendOrder id) s = .next { s with port := s.replied .unknown 0x41 [] }
      ∧ exec (.resumeOrder id) s = .next { s with port := s.replied .unknown 0x42 [] })
    ∧ ∀ o, s.order? id.toNat = some o →
      (o.state = .ended → exec (.suspendOrder id) s = .next { s with port := s.replied .notOpen 0x41 [] }
        ∧ exec (.resumeOrder id) s = .next { s with port := s.replied .notOpen 0x42 [] })
      ∧ (o.state ≠ .ended → o.suspension.host = true →
          exec (.suspendOrder id) s = .next { s with port := s.replied .already 0x41 [] })
      ∧ (o.state ≠ .ended → o.suspension.host = false →
          exec (.resumeOrder id) s = .next { s with port := s.replied .notSuspended 0x42 [] })
      ∧ (o.state ≠ .ended → o.suspension.host = false → o.pass = none → (s.dispatch.orders.map fun x => x.id).Nodup →
          exec (.suspendOrder id) s = .next { s with
            port := s.replied .ok 0x41 ([0] ++ be8 o.state.code ++ Suspension.bytes { o.suspension with host := true } ++ [0])
            events := s.events + 1
            dispatch := { s.dispatch with orders := s.dispatch.orders.map fun x => if x.id = id.toNat then { x with
              suspension := { x.suspension with host := true }
              starved := if x.state = .waiting then false else x.starved } else x } })
      ∧ (o.state ≠ .ended → o.suspension.host = true → (s.dispatch.orders.map fun x => x.id).Nodup →
          ∃ t, exec (.resumeOrder id) s = .next t
            ∧ t = { s with port := t.port, dispatch := { s.dispatch with orders := t.dispatch.orders, due := t.dispatch.due } }
            ∧ t.dispatch.orders = s.dispatch.orders.map (fun x => if x.id = id.toNat then
                { x with suspension := { x.suspension with host := false } } else x)
            ∧ t.dispatch.due = s.dispatch.due + (if o.state = .waiting ∧ o.suspension.hold = false
                ∧ o.suspension.zone = false then 1 else 0)
            ∧ t.port = s.replied .ok 0x42 ([if o.pass = none then 0 else 1] ++ be8 o.state.code
                ++ Suspension.bytes { o.suspension with host := false }
                ++ be8 ((o.pass.map fun p => p.state.code).getD 0))))
  ∧ (∀ (id : Half) (s : State),
    (s.order? id.toNat = none → exec (.cancelOrder id) s = .next { s with port := s.replied .unknown 0x43 [] })
    ∧ ∀ o, s.order? id.toNat = some o →
      (o.state = .ended → exec (.cancelOrder id) s = .next { s with port := s.replied .notOpen 0x43 [] })
      ∧ (o.state = .active → o.cancelPending = true → exec (.cancelOrder id) s = .next { s with
          port := s.replied .ok 0x43 ([2] ++ be32 o.delivered), events := s.events + 1 })
      ∧ ((o.state = .waiting ∨ o.state = .volleyHeld) → o.origin = .host →
          (∀ slot p, s.pileAt? o.tag = some (slot, p) → p.life = .live) →
          exec (.cancelOrder id) s = .next { s with
            port := s.replied .ok 0x43 ([3] ++ be32 o.delivered), events := s.events + 1
            notices := s.notices.hand .order id.toNat
            dispatch := { s.dispatch with orders := s.dispatch.orders.map fun x => if x.id = id.toNat then { x with
              state := .ended, outcome := some .cancelled, endedMinute := some s.clock.minute
              endedEvent := s.events + 1, starved := false } else x } }))
  ∧ (∀ (id : Half) (o : Order) (gone : List Permit) (s : State),
    s.order? id.toNat = some o → (o.state = .waiting ∨ o.state = .volleyHeld) → o.origin = .prewet →
    (∀ slot p, s.pileAt? o.tag = some (slot, p) → p.life = .live) →
    gone = s.permits.list.filter (fun x => decide (x.state = .pendingWet ∧ x.prewetOrder = some id.toNat)) →
    s.permits.list.length ≤ 16 → (s.permits.list.map fun x => x.machine).Nodup →
    (∀ x ∈ gone, ∀ slot p, s.pileAt? x.tag = some (slot, p) → p.life = .live ∧ p.retirePending = false) →
    ∀ (cmd : Instr) (why : OrderOutcome),
      (cmd = .cancelOrder id ∧ why = .cancelled)
        ∨ (cmd = .orderLapse id ∧ why = .lapsed ∧ o.lapseRef + s.dispatch.lapseTime < s.clock.minute) →
      ∃ t, exec cmd s = .next t
        ∧ t = { s with
            port := if why = .cancelled then s.replied .ok 0x43 ([3] ++ be32 o.delivered) else s.port
            events := s.events + 1, notices := t.notices
            dispatch := { s.dispatch with orders := s.dispatch.orders.map fun x => if x.id = id.toNat then { x with
              state := .ended, outcome := some why, endedMinute := some s.clock.minute
              endedEvent := s.events + 1, starved := false } else x }
            permits := { s.permits with
              list := s.permits.list.filter fun x => decide (¬ (x.state = .pendingWet ∧ x.prewetOrder = some id.toNat))
              outcomes := gone.foldl (fun acc x => Table.set acc x.machine
                ⟨.refusedTooDry, s.clock.minute, x.tag, x.id, none⟩) s.permits.outcomes } }
        ∧ t.notices.orders = insertKey s.notices.orders id.toNat
        ∧ (∀ i, i ∈ t.notices.permits ↔ i ∈ s.notices.permits ∨ ∃ x ∈ gone, x.machine = i)
        ∧ t.notices.piles = s.notices.piles ∧ t.notices.cannons = s.notices.cannons)

/-- A reason, or a cancellation, that reaches a spraying pass sends CLOSE and starts the ramp-down, pass and cannon
together; one that reaches a pass ramping down leaves it as it was. The order stays ACTIVE. A reason, or a cancellation,
that reaches a pass in AIMING abandons it within the command, with CLOSE sent: in aim phase SLEWING the cannon goes to
IDLE with its slot released, an AIM still waiting for its slot included; in OPENING it enters RAMP-DOWN without a pass,
keeps its slot and starts the close wait. The order goes back to WAITING, or ends CANCELLED. Events are numbered as the
model numbers them (log entry 18); CANCEL-ORDER's reply is that of log entry 33, and the suspension set's byte that of 43.
-/
def Obligations.RunningPassesSuspendAndCancel : Prop :=
  (∀ (id : Half) (o : Order) (p : Pass) (c : Cannon) (n : Node) (s : State),
    s.order? id.toNat = some o → o.state = .active → o.cancelPending = false → o.pass = some p →
    s.cannon? p.cannon = some c → c.bound = some id.toNat → s.node? c.config.node = some n →
    ((p.state = .spraying ∧ c.state = .spraying) ∨ (p.state = .rampDown ∧ c.state = .rampDown)) →
    ∀ (q : Pass) (d : Cannon) (m : Node),
      q = { p with state := .rampDown } →
      d = (if c.state = .rampDown then c else { c with
        state := .rampDown, closeWait := some (c.closeWait.getD (c.config.rampTime + 5)), blankingOn := false }) →
      m = (if c.state = .rampDown then n else { n with slot := some .close }) →
      ∀ cmd : Instr, (cmd = .cancelOrder id ∨ (cmd = .suspendOrder id ∧ o.suspension.host = false)) →
        ∃ t, exec cmd s = .next t
          ∧ t.order? id.toNat = some { o with
              pass := some q, cancelPending := decide (cmd = .cancelOrder id)
              suspension := { o.suspension with host := o.suspension.host || decide (cmd = .suspendOrder id) } }
          ∧ (∀ k, k ≠ id.toNat → t.order? k = s.order? k)
          ∧ t.cannon? p.cannon = some d ∧ (∀ k, k ≠ p.cannon → t.cannon? k = s.cannon? k)
          ∧ t.node? c.config.node = some m ∧ (∀ k, k ≠ c.config.node → t.node? k = s.node? k)
          ∧ t = { s with
              port := t.port, cannons := t.cannons, events := s.events + 1
              dispatch := { s.dispatch with orders := t.dispatch.orders }, loop := { s.loop with nodes := t.loop.nodes } }
          ∧ (cmd = .cancelOrder id → t.port = s.replied .ok 0x43 ([2] ++ be32 o.delivered))
          ∧ (cmd = .suspendOrder id → t.port = s.replied .ok 0x41 ([1, 2]
              ++ Suspension.bytes { o.suspension with host := true } ++ [2])))
  ∧ (∀ (id : Half) (o : Order) (p : Pass) (c : Cannon) (n : Node) (h : Header) (s : State),
    s.order? id.toNat = some o → o.state = .active → o.cancelPending = false → o.pass = some p → p.state = .aiming →
    o.origin = .host → o.plan = none → o.delivered + 50 ≤ o.dose → o.dose ≤ 65535 → s.permits.list = [] →
    (∀ x ∈ s.dispatch.orders, x.origin = .host) → (∀ e ∈ s.piles, e.2.life = .live) →
    s.cannon? p.cannon = some c → c.bound = some id.toNat → c.state = .aiming →
    c.header = some h → s.node? c.config.node = some n → ∀ d : Cannon,
    (c.aimPhase = some .slewing ∧ d = { c with
        state := .idle, aimPhase := none, header := none, bound := none, slew := none, blankingOn := false
        aimWaiting := false })
      ∨ (c.aimPhase = some .opening ∧ d = { c with
        state := .rampDown, aimPhase := none, bound := none, slew := none, blankingOn := false, aimWaiting := false
        closeWait := some (c.closeWait.getD (c.config.rampTime + 5)) }) →
    ∀ cmd : Instr, (cmd = .cancelOrder id ∨ (cmd = .suspendOrder id ∧ o.suspension.host = false)) →
      ∃ t, exec cmd s = .next t
        ∧ t.cannon? p.cannon = some d ∧ (∀ k, k ≠ p.cannon → t.cannon? k = s.cannon? k)
        ∧ t.node? c.config.node = some { n with slot := some .close } ∧ t.piles = s.piles
        ∧ (∀ k, k ≠ id.toNat → t.order? k = s.order? k)
        ∧ (cmd = .suspendOrder id →
            t.order? id.toNat = some { o with
              state := .waiting, suspension := { o.suspension with host := true }, pass := none
              lastEnd := some .abandoned, lapseRef := s.clock.minute }
            ∧ t.port = s.replied .ok 0x41 ([0, 1] ++ Suspension.bytes { o.suspension with host := true } ++ [0]))
        ∧ (cmd = .cancelOrder id →
            t.order? id.toNat = some { o with
              state := .ended, cancelPending := true, pass := none, lastEnd := some .abandoned, starved := false
              outcome := some .cancelled, endedMinute := some s.clock.minute, endedEvent := s.events + 1 }
            ∧ t.notices.orders = insertKey s.notices.orders id.toNat
            ∧ t.port = s.replied .ok 0x43 ([3] ++ be32 o.delivered)))

/-- VOLLEY moves to WAITING every held order of its code, or every held order at code 0, and no other; an addressed one is
answered with their number and a broadcast one is not; one arbitration follows when any moved (occasions are counted: log
entry 4). That a code above 15 is taken, answered OK and moves nothing is the model's reading (log entry 17). -/
def Obligations.VolleyReleasesHeldOrders : Prop :=
  ∀ (broadcast : Bool) (code : Byte) (heard : Order → Bool) (s : State),
    (∀ o, heard o = true ↔ o.state = .volleyHeld ∧ (code.toNat = 0 ∨ o.volley = some code.toNat)) →
    ∃ t, exec (.volley broadcast code) s = .next t
      ∧ t = { s with port := t.port, dispatch := { s.dispatch with orders := t.dispatch.orders, due := t.dispatch.due } }
      ∧ t.dispatch.orders = s.dispatch.orders.map (fun o =>
          if heard o then { o with state := .waiting, volley := none } else o)
      ∧ t.dispatch.due = s.dispatch.due + (if s.dispatch.orders.any heard then 1 else 0)
      ∧ t.port = if broadcast then s.port else s.replied .ok 0x44 (be8 (s.dispatch.orders.countP heard))

/-- An order lapses when the yard minute exceeds its lapse reference by more than the lapse time, a clock moved back
counting as 0. ORDER_LAPSE ends such an order and leaves any other; SET-DISPATCH is refused out of range, and when
taken writes the three settings, ends every order that lapses under the new time, answers their number and occasions an
arbitration. The yards stated are those of host and auto orders on LIVE piles (the lapse of a PREWET order stands at
WaitingOrdersSuspendResumeCancel). That SET-DISPATCH evaluates every order
even where the lapse time stays as it was is log entry 28; events and occasions are counted as in log entries 18 and 4.
-/
def Obligations.LapsesAndDispatchSettings : Prop :=
  ∀ (late : Nat → Order → Bool) (s : State),
    (∀ k o, late k o = true ↔ (o.state = .volleyHeld ∨ o.state = .waiting) ∧ o.lapseRef + k < s.clock.minute) →
    (∀ o ∈ s.dispatch.orders, o.origin ≠ .prewet ∧ o.endedEvent ≤ s.events) → (∀ e ∈ s.piles, e.2.life = .live) →
    (∀ id : Half, (∀ o, s.order? id.toNat = some o → late s.dispatch.lapseTime o = false) →
      exec (.orderLapse id) s = .next { s with events := s.events + 1 })
    ∧ (∀ (id : Half) (o : Order), s.order? id.toNat = some o → late s.dispatch.lapseTime o = true →
        exec (.orderLapse id) s = .next { s with
          events := s.events + 1, notices := s.notices.hand .order id.toNat
          dispatch := { s.dispatch with orders := s.dispatch.orders.map fun x => if x.id = id.toNat then { x with
            state := .ended, outcome := some .lapsed, endedMinute := some s.clock.minute
            endedEvent := s.events + 1, starved := false } else x } })
    ∧ ∀ (lapse maxDose : Half) (floor : Byte),
        ((lapse.toNat < 10 ∨ 1440 < lapse.toNat ∨ maxDose.toNat < 100 ∨ 4 < floor.toNat) →
          exec (.setDispatch lapse maxDose floor) s = .next { s with port := s.replied .badArgument 0x46 [] })
        ∧ (10 ≤ lapse.toNat → lapse.toNat ≤ 1440 → 100 ≤ maxDose.toNat → floor.toNat ≤ 4 →
            (s.dispatch.orders.map fun o => o.id).Nodup → s.dispatch.orders.length ≤ 32 →
            ∃ t, exec (.setDispatch lapse maxDose floor) s = .next t
              ∧ t = { s with
                  port := t.port, events := s.events + 1
                  notices := { s.notices with orders := t.notices.orders, flags := t.notices.flags }
                  dispatch := { s.dispatch with
                    lapseTime := lapse.toNat, maxDose := maxDose.toNat, freshFloor := floor.toNat
                    orders := t.dispatch.orders, due := s.dispatch.due + 1 } }
              ∧ t.dispatch.orders = s.dispatch.orders.map (fun o => if late lapse.toNat o then { o with
                  state := .ended, outcome := some .lapsed, endedMinute := some s.clock.minute
                  endedEvent := s.events + 1, starved := false } else o)
              ∧ (∀ k, k ∈ t.notices.orders ↔
                  k ∈ s.notices.orders ∨ ∃ o ∈ s.dispatch.orders, late lapse.toNat o = true ∧ o.id = k)
              ∧ t.port = s.replied .ok 0x46 (be16 lapse.toNat ++ be16 maxDose.toNat ++ be8 floor.toNat
                  ++ be8 (s.dispatch.orders.countP (late lapse.toNat))))

/-- An arbitration with one eligible order: the cannon and header it takes, the pass bound to it, AIM sent when the node's
slot is empty, and waiting otherwise. A planned order goes by its current entry: the cannon it names, or any whose
coverage entry for the pile holds its arc; the remaining litres, clamped to the cannon's pass doses; its arc in the AIM.
The order is starved when cannons are offered and no header serves. Nothing else changes but the occasion counted down;
the counting of occasions is the model's choice (log entry 4). Of two waiting orders without plans that one cannon alone
covers, an arbitration gives the cannon to the one of higher priority, and at equal priorities to the one accepted
earlier; the other keeps waiting. -/
def Obligations.ArbitrationBindsByRank : Prop :=
  (∀ s : State,
    (s.dispatch.due = 0 → exec .arbitration s = .next s)
    ∧ (∀ k, s.dispatch.due = k + 1 → (∀ o ∈ s.dispatch.orders, o.state = .waiting → o.suspension ≠ ⟨false, false, false⟩) →
        exec .arbitration s = .next { s with dispatch := { s.dispatch with due := k } })
    ∧ ∀ (k : Nat) (o : Order) (entry : Option PlanEntry) (dose : Cannon → Nat) (serves : Header → Cannon → Prop)
        (offered : Nat → Cannon → Prop),
        s.dispatch.due = k + 1 →
        (s.dispatch.orders.filter fun x => x.state == .waiting && x.suspension == ⟨false, false, false⟩) = [o] →
        s.order? o.id = some o → o.priority ≤ 3 → Table.wf s.cannons = true →
        (o.plan = none ∧ entry = none) ∨ (∃ p e, o.plan = some p ∧ p.entries[p.current]? = some e ∧ entry = some e) →
        (∀ c, dose c = max c.config.minDose (min (match entry with
          | none => o.dose - o.delivered
          | some e => e.remaining) c.config.maxDose)) →
        (∀ n c, offered n c ↔ s.cannon? n = some c ∧ c.state = .idle ∧ match entry.map (fun e => (e, e.cannon)) with
          | none => ∃ v ∈ c.config.coverage, v.tag = o.tag
          | some (_, some i) => i = n
          | some (e, none) => ∃ v, c.config.coverage.find? (fun v => v.tag == o.tag) = some v
            ∧ (e.arcStart + 360 - v.arcStart % 360) % 360 ≤ (e.arcEnd + 360 - v.arcStart % 360) % 360
            ∧ (e.arcEnd + 360 - v.arcStart % 360) % 360 ≤ (v.arcEnd + 360 - v.arcStart % 360) % 360) →
        (∀ h c, serves h c ↔ c.header = none
          ∧ ((h = .reuse ∧ c.config.supply ≠ .fresh ∧ (s.holders .reuse).length < 4 ∧ dose c ≤ s.reuseAvailable
              ∧ ∃ w, s.water.tank = some w ∧ w.fresh = true ∧ w.nearEmpty = false ∧ w.qualityHold = false)
            ∨ (h = .fresh ∧ c.config.supply ≠ .reuse ∧ (s.holders .fresh).length < 2 ∧ dose c ≤ s.freshAvailable))) →
        ((∀ n c, ¬ offered n c) → exec .arbitration s = .next { s with dispatch := { s.dispatch with due := k } })
        ∧ ((∃ n c, offered n c) →
            (∀ n c h, offered n c → ¬ (serves h c ∧ (h = .reuse → o.policy ≠ .freshOnly)
              ∧ (h = .fresh → o.policy = .freshOnly
                ∨ (o.policy = .reuseThenFresh ∧ s.dispatch.freshFloor ≤ o.priority)))) →
            o.starved = false → exec .arbitration s = .next { s with
              notices := s.notices.hand .order o.id
              dispatch := { s.dispatch with
                due := k, orders := s.dispatch.orders.map fun x => if x.id = o.id then { x with starved := true } else x } })
        ∧ ∀ n c h, offered n c → serves h c → (h = .reuse → o.policy ≠ .freshOnly) →
            (h = .fresh → o.policy = .freshOnly ∨ (o.policy = .reuseThenFresh ∧ s.dispatch.freshFloor ≤ o.priority
              ∧ ∀ m d, offered m d → ¬ serves .reuse d)) →
            (∀ m d, m < n → offered m d → ¬ serves h d) →
            ∃ t, exec .arbitration s = .next t
              ∧ t.order? o.id = some { o with
                  state := .active, starved := false, passes := min 255 (o.passes + 1)
                  pass := some ⟨n, h, dose c, dose c, none, 0, .aiming⟩ }
              ∧ (∀ i, i ≠ o.id → t.order? i = s.order? i) ∧ (∀ i, i ≠ n → t.cannon? i = s.cannon? i)
              ∧ (s.slot? c.config.node = none → t.cannon? n = some { c with
                    state := .aiming, aimPhase := some .slewing, bound := some o.id, header := some h
                    slew := some c.config.slewTimeout, aimWaiting := false }
                  ∧ ∀ x, s.node? c.config.node = some x →
                      (∀ v, entry = none → c.config.coverage.find? (fun v => v.tag == o.tag) = some v →
                        t.node? c.config.node = some { x with
                          slot := some (.aim v.arcStart v.arcEnd c.config.sweepRate) })
                      ∧ ∀ e, entry = some e → t.node? c.config.node = some { x with
                          slot := some (.aim e.arcStart e.arcEnd c.config.sweepRate) })
              ∧ (s.slot? c.config.node ≠ none → t.loop = s.loop ∧ t.cannon? n = some { c with
                    state := .aiming, aimPhase := some .slewing, bound := some o.id, header := some h
                    aimWaiting := true })
              ∧ t.water = { s.water with spent := decide (t.freshAvailable < 50) }
              ∧ t = { s with
                  water := t.water, cannons := t.cannons
                  notices := { s.notices with flags := { s.notices.flags with
                    water := s.notices.flags.water || (t.water.spent && !s.water.spent) } }
                  dispatch := { s.dispatch with due := k, orders := t.dispatch.orders }
                  loop := { s.loop with nodes := t.loop.nodes } })
  ∧ (∀ (s : State) (x y w l : Order) (n : Nat) (c : Cannon) (h : Header),
    s.dispatch.orders = [x, y] → x.id ≠ y.id → x.tag = y.tag → x.plan = none → y.plan = none →
    (∀ o ∈ s.dispatch.orders, o.state = .waiting ∧ o.pass = none ∧ o.suspension = ⟨false, false, false⟩ ∧ o.priority ≤ 3) →
    s.cannons = [(n, c)] → c.state = .idle → (∃ v ∈ c.config.coverage, v.tag = x.tag) →
    (w, l) = (if x.priority < y.priority then (y, x) else (x, y)) →
    s.offer w = some (h, n, c) → s.dispatch.due ≠ 0 →
    ∃ t, exec .arbitration s = .next t
      ∧ (∃ p, p.cannon = n ∧ p.header = h ∧ p.state = .aiming ∧ t.order? w.id = some { w with
          state := .active, starved := false, passes := min 255 (w.passes + 1), pass := some p })
      ∧ t.order? l.id = some l ∧ (t.cannon? n).map (fun d => d.bound) = some (some w.id))

/-- READ-ORDER: the refusals, and the 51 bytes and 8 more for each plan entry of an order's record, each field at its
offset. The litres metered so far are the order's and the pass's delivered during a pass, and 0 without one (the zeros
are the model's reading: log entry 31). Reading changes nothing, but that reading an ENDED order by id frees its entry.
-/
def Obligations.ReadOrderAnswersTheRecord : Prop :=
  ∀ (value : Half) (s : State),
    (s.order? value.toNat = none → exec (.readOrder 0 value) s = .next { s with port := s.replied .unknown 0x45 [] })
    ∧ (31 < value.toNat → exec (.readOrder 1 value) s = .next { s with port := s.replied .badArgument 0x45 [] })
    ∧ (value.toNat ≤ 31 → s.dispatch.orders.length ≤ value.toNat →
        exec (.readOrder 1 value) s = .next { s with port := s.replied .unknown 0x45 [] })
    ∧ (∀ selector : Byte, 1 < selector.toNat →
        exec (.readOrder selector value) s = .next { s with port := s.replied .badArgument 0x45 [] })
    ∧ ∀ o : Order, ∃ b : List Byte,
        (s.order? value.toNat = some o → o.state ≠ .ended →
          exec (.readOrder 0 value) s = .next { s with port := s.replied .ok 0x45 b })
        ∧ (s.order? value.toNat = some o → o.state = .ended →
            exec (.readOrder 0 value) s = .next { s with
              port := s.replied .ok 0x45 b
              dispatch := { s.dispatch with orders := s.dispatch.orders.filter fun x => x.id != value.toNat } })
        ∧ (value.toNat ≤ 31 → s.dispatch.orders[value.toNat]? = some o →
            exec (.readOrder 1 value) s = .next { s with port := s.replied .ok 0x45 b })
        ∧ b.length = 51 + 8 * ((o.plan.map fun p => p.entries.length).getD 0)
        ∧ (o.id < 65536 → (u16 b 0).toNat = o.id) ∧ (o.tag < 65536 → (u16 b 2).toNat = o.tag)
        ∧ (u8 b 4).toNat = o.origin.code ∧ (o.priority < 256 → (u8 b 5).toNat = o.priority)
        ∧ (o.dose < 65536 → (u16 b 6).toNat = o.dose ∧ (u16 b 12).toNat = o.dose - o.delivered)
        ∧ (o.delivered < 4294967296 → (u32 b 8).toNat = o.delivered)
        ∧ (u8 b 14).toNat = o.policy.code ∧ (u8 b 15).toNat = o.state.code
        ∧ (u8 b 16).getLsbD 0 = o.suspension.host ∧ (u8 b 16).getLsbD 1 = o.suspension.hold
        ∧ (u8 b 16).getLsbD 2 = o.suspension.zone
        ∧ (u8 b 17).getLsbD 0 = o.starved ∧ (u8 b 17).getLsbD 1 = o.clamped ∧ (u8 b 17).getLsbD 2 = o.cancelPending
        ∧ (u8 b 17).getLsbD 3 = o.volley.isSome ∧ (u8 b 17).getLsbD 4 = o.lastEnd.isSome
        ∧ (u8 b 17).getLsbD 5 = o.pass.isSome ∧ (u8 b 17).getLsbD 6 = decide (o.state = .ended)
        ∧ (u8 b 17).getLsbD 7 = ((o.pass.map fun p => p.meterStart.isSome).getD false)
        ∧ (∀ v, o.volley = some v → v < 256 → (u8 b 18).toNat = v)
        ∧ (o.accepted < 4294967296 → (u32 b 19).toNat = o.accepted)
        ∧ (o.lapseRef < 4294967296 → (u32 b 23).toNat = o.lapseRef) ∧ (o.passes < 256 → (u8 b 27).toNat = o.passes)
        ∧ (∀ k, o.lastEnd = some k → (u8 b 28).toNat = k.code) ∧ (∀ x, o.outcome = some x → (u8 b 29).toNat = x.code)
        ∧ (∀ m, o.endedMinute = some m → m < 4294967296 → (u32 b 30).toNat = m)
        ∧ (∀ p, o.pass = some p → (p.cannon < 256 → (u8 b 34).toNat = p.cannon) ∧ (u8 b 35).toNat = p.header.code
          ∧ (p.dose < 65536 → (u16 b 36).toNat = p.dose) ∧ (p.reservation < 65536 → (u16 b 38).toNat = p.reservation)
          ∧ (∀ m, p.meterStart = some m → m < 65536 → (u16 b 40).toNat = m)
          ∧ (p.delivered < 65536 → (u16 b 42).toNat = p.delivered) ∧ (u8 b 44).toNat = p.state.code)
        ∧ (∀ p, o.pass = some p → o.delivered + p.delivered < 4294967296 → (u32 b 45).toNat = o.delivered + p.delivered)
        ∧ (o.pass = none → (u32 b 45).toNat = 0)
        ∧ ∀ p, o.plan = some p → (p.current < 256 → (u8 b 49).toNat = p.current)
          ∧ (p.entries.length < 256 → (u8 b 50).toNat = p.entries.length)
          ∧ ∀ (i : Nat) (e : PlanEntry), p.entries[i]? = some e → e.arcStart < 360 → e.arcEnd < 360 →
              e.share < 65536 → e.remaining < 65536 →
              (∀ n, e.cannon = some n → n < 256 → (u8 b (51 + 8 * i)).toNat = n)
              ∧ (e.cannon = none → u8 b (51 + 8 * i) = 0xFF)
              ∧ (u8 b (52 + 8 * i)).toNat * 16 + (u8 b (53 + 8 * i)).toNat / 16 = e.arcStart
              ∧ (u8 b (53 + 8 * i)).toNat % 16 * 256 + (u8 b (54 + 8 * i)).toNat = e.arcEnd
              ∧ (u16 b (55 + 8 * i)).toNat = e.share ∧ (u16 b (57 + 8 * i)).toNat = e.remaining

/-! ## The cannon controller -/

/-- LOAD-CANNON: the refusals in their order, and the four ways in which it is taken. Occasions are counted as in log entry
4. -/
def Obligations.LoadCannonLoadsAndUnloads : Prop :=
  ∀ (number node : Byte) (a : CannonArgs) (bad busy : Prop) (minDose rampAllowance slew blanking extra : Nat) (s : State),
    minDose = (match a.minDose with | some x => x.toNat | none => 200) →
    rampAllowance = (match a.rampAllowance with | some x => x.toNat | none => 0) →
    slew = (match a.slewTimeout with | some x => x.toNat | none => 20) →
    blanking = (match a.blanking with | some x => x.toNat | none => 1000) →
    extra = (match a.extraDelay with | some x => x.toNat | none => 0) →
    (bad ↔ 2 < a.supply.toNat ∨ minDose < 50 ∨ a.maxDose.toNat < minDose ∨ a.rampTime.toNat < 2 ∨ 30 < a.rampTime.toNat
      ∨ 5000 < rampAllowance ∨ a.sweepRate.toNat = 0 ∨ 60 < a.sweepRate.toNat ∨ slew < 5 ∨ 60 < slew ∨ 5000 < blanking
      ∨ 15 < extra ∨ a.coverage = [] ∨ 6 < a.coverage.length
      ∨ (∃ v ∈ a.coverage, v.tag = 0 ∨ 359 < v.arcStart.toNat ∨ 359 < v.arcEnd.toNat)
      ∨ ¬ (a.coverage.map fun v => v.tag).Nodup) →
    (busy ↔ ∃ c, s.cannon? number.toNat = some c ∧ c.state ≠ .idle
      ∧ (node = 0 → c.state ≠ .lost ∧ (c.state = .locked → c.header ≠ none))) →
    ((23 < number.toNat ∨ 31 < node.toNat ∨ (node ≠ 0 ∧ bad)) →
      exec (.loadCannon number node a) s = .next { s with port := s.replied .badArgument 0x50 [] })
    ∧ (number.toNat ≤ 23 → node.toNat ≤ 31 → ¬ (node ≠ 0 ∧ bad) →
        (busy → exec (.loadCannon number node a) s = .next { s with port := s.replied .cannonBusy 0x50 [] })
        ∧ (¬ busy → node = 0 →
            (s.cannon? number.toNat = none →
              exec (.loadCannon number node a) s = .next { s with port := s.replied .ok 0x50 [] })
            ∧ ∀ c, s.cannon? number.toNat = some c → ∃ t, exec (.loadCannon number node a) s = .next t
                ∧ t = { s with port := s.replied .ok 0x50 [], cannons := t.cannons, notices := t.notices, loop := t.loop }
                ∧ t.cannon? number.toNat = none ∧ (∀ k, k ≠ number.toNat → t.cannon? k = s.cannon? k)
                ∧ t.node? c.config.node = none ∧ (∀ k, k ≠ c.config.node → t.node? k = s.node? k)
                ∧ t.notices = (if c.state = .idle then s.notices else s.notices.hand .cannon number.toNat))
        ∧ (¬ busy → node ≠ 0 →
            ((∃ x, s.node? node.toNat = some x ∧ x.owner ≠ .cannon number.toNat) →
              exec (.loadCannon number node a) s = .next { s with port := s.replied .duplicate 0x50 [] })
            ∧ ∀ k : CannonConfig, k.supply.code = a.supply.toNat →
                k = ⟨node.toNat, k.supply, minDose, a.maxDose.toNat, a.rampTime.toNat, rampAllowance, a.sweepRate.toNat,
                  slew, blanking, extra, a.coverage.map fun v => ⟨v.tag.toNat, v.arcStart.toNat, v.arcEnd.toNat⟩⟩ →
                (∀ c, s.cannon? number.toNat = some c → c.config.node = node.toNat →
                  (∀ x, s.node? node.toNat = some x → x.owner = .cannon number.toNat) →
                  exec (.loadCannon number node a) s = .next { s with
                    port := s.replied .ok 0x50 []
                    cannons := Table.update s.cannons number.toNat fun c => { c with config := k }
                    loop := { s.loop with nodes := Table.update s.loop.nodes node.toNat fun x => { x with extraDelay := extra } }
                    dispatch := { s.dispatch with due := s.dispatch.due + 1 } })
                ∧ (s.node? node.toNat = none → (∀ c, s.cannon? number.toNat = some c → c.config.node ≠ node.toNat) →
                    ∃ t, exec (.loadCannon number node a) s = .next t
                      ∧ t = { s with
                          port := s.replied .ok 0x50 [], cannons := t.cannons, loop := t.loop
                          dispatch := { s.dispatch with due := s.dispatch.due + 1 } }
                      ∧ t.cannon? number.toNat = some ⟨k, .idle, none, 0, none, none, none, none, none, 0, none, none,
                          none, false, false⟩
                      ∧ (∀ i, i ≠ number.toNat → t.cannon? i = s.cannon? i)
                      ∧ (t.node? node.toNat).map (fun x => (x.owner, x.extraDelay, x.slot, x.misses, x.lost))
                          = some (.cannon number.toNat, extra, none, 0, false)
                      ∧ ∀ c, s.cannon? number.toNat = some c → t.node? c.config.node = none)))

/-- The retry delay's end puts a TRIPPED cannon back in service; a trip count returns to 0 thirty minutes after the last
trip but in LOCKED; the row of a timer that does not run, or has time left, changes nothing (log entry 1). RESET-CANNON:
its two refusals; on a cannon without a pass bound, in a yard without permits and prewet orders, the cannon enters
RESETTING with its timers stopped, its header slot kept and CLOSE sent; the reply carries the state before. Occasions
and events are counted as the model counts them (log entries 4 and 18). -/
def Obligations.CannonsReturnToService : Prop :=
  (∀ (number : Byte) (s : State),
    (∀ c, s.cannon? number.toNat = some c → c.state = .tripped → c.retry = some 0 →
      ∃ t, exec (.retryDelayEnd number) s = .next t
        ∧ t = { s with
            cannons := t.cannons, notices := s.notices.hand .cannon number.toNat
            dispatch := { s.dispatch with due := s.dispatch.due + 1 } }
        ∧ t.cannon? number.toNat = some { c with state := .idle, aimPhase := none, retry := none }
        ∧ ∀ n, n ≠ number.toNat → t.cannon? n = s.cannon? n)
    ∧ ((∀ c, s.cannon? number.toNat = some c → c.state ≠ .tripped ∨ c.retry ≠ some 0) →
        exec (.retryDelayEnd number) s = .next s)
    ∧ (∃ t, exec (.tripCountDecay number) s = .next t ∧ t = { s with cannons := t.cannons }
        ∧ (∀ n, n ≠ number.toNat → t.cannon? n = s.cannon? n)
        ∧ (s.cannon? number.toNat = none → t.cannon? number.toNat = none)
        ∧ ∀ c, s.cannon? number.toNat = some c →
            (∀ m, c.lastTrip = some m → c.state ≠ .locked → m + 30 ≤ s.clock.minute →
              t.cannon? number.toNat = some { c with tripCount := 0 })
            ∧ ((c.lastTrip = none ∨ c.state = .locked ∨ ∃ m, c.lastTrip = some m ∧ s.clock.minute < m + 30) →
                t.cannon? number.toNat = some c))
    ∧ ((∀ c, s.cannon? number.toNat = some c → c.state ≠ .aiming ∨ c.slew ≠ some 0) →
        exec (.slewTimeout number) s = .next { s with events := s.events + 1 })
    ∧ ((∀ c, s.cannon? number.toNat = some c → c.blankingOn = false) →
        exec (.blankingTimerExpiry number) s = .next { s with events := s.events + 1 })
    ∧ ((∀ c, s.cannon? number.toNat = some c → c.closeWait ≠ some 0) →
        exec (.closeWaitExpiry number) s = .next { s with events := s.events + 1 }))
  ∧ (∀ (number : Byte) (s : State),
    (23 < number.toNat → exec (.resetCannon number) s = .next { s with port := s.replied .badArgument 0x52 [] })
    ∧ (number.toNat ≤ 23 → s.cannon? number.toNat = none →
        exec (.resetCannon number) s = .next { s with port := s.replied .unknown 0x52 [] })
    ∧ ∀ (c : Cannon) (n : Node), number.toNat ≤ 23 → s.cannon? number.toNat = some c →
        s.node? c.config.node = some n → c.bound = none → s.permits.list = [] →
        (∀ x ∈ s.dispatch.orders, x.origin = .host) →
        ∃ t, exec (.resetCannon number) s = .next t
          ∧ t = { s with
              port := s.replied .ok 0x52 ([0] ++ be8 c.state.code ++ [0, 0]), cannons := t.cannons
              notices := if c.state = .tripped ∨ c.state = .locked ∨ c.state = .lost then
                s.notices.hand .cannon number.toNat else s.notices
              loop := { s.loop with nodes := t.loop.nodes }, events := s.events + 1 }
          ∧ t.cannon? number.toNat = some { c with
              state := .resetting, slew := none, blankingOn := false, aimWaiting := false, closeWait := none
              retry := none, aimPhase := none }
          ∧ (∀ k, k ≠ number.toNat → t.cannon? k = s.cannon? k)
          ∧ t.node? c.config.node = some { n with slot := some .close }
          ∧ ∀ k, k ≠ c.config.node → t.node? k = s.node? k)

/-- A trip: the count rises, CLOSE is sent, the close wait starts, and the cannon enters TRIPPED, or LOCKED at the
third. From SPRAYING, by the blanking timer, the pass ramps down and stays bound. From AIMING, by either timer, the
pass ends at once with nothing delivered and its own kind, the header slot is kept, and the host order goes back to
WAITING while a cannon remains for it, or ends FAILED when none does. The close wait's expiry locks the cannon with
its header slot kept. A pass that ends VALVE-STUCK by it, LOST by its node's third miss or RESET by RESET-CANNON is
credited with what it has metered, the pile gains that moisture and the runoff goes to the pond; the order of a yard
with that cannon alone ends FAILED, and the permits that wait on it, when it is a PREWET order, end REFUSED-TOO-DRY; but
after a RESET it goes back to WAITING and they wait on. A timer's row acts where its time has run
out (log entry 1); a cannon already LOCKED is handed on like any other (log entry 26); events are numbered as in log
entry 18. -/
def Obligations.CannonTimersTripAndLock : Prop :=
  (∀ (number : Byte) (c d : Cannon) (o : Order) (p : Pass) (n : Node) (s : State),
    s.cannon? number.toNat = some c → c.bound = some o.id → s.order? o.id = some o → o.pass = some p →
    s.node? c.config.node = some n → o.state = .active →
    d = { c with
      tripCount := c.tripCount + 1, lastTrip := some s.clock.minute
      closeWait := some (c.closeWait.getD (c.config.rampTime + 5))
      state := if c.tripCount + 1 < 3 then .tripped else .locked
      aimPhase := none, slew := none, blankingOn := false } →
    (c.state = .spraying → c.blankingOn = true → ∃ t, exec (.blankingTimerExpiry number) s = .next t
      ∧ t = { s with
          cannons := t.cannons, notices := s.notices.hand .cannon number.toNat, events := s.events + 1
          dispatch := { s.dispatch with orders := t.dispatch.orders }, loop := { s.loop with nodes := t.loop.nodes } }
      ∧ t.cannon? number.toNat = some d ∧ (∀ k, k ≠ number.toNat → t.cannon? k = s.cannon? k)
      ∧ t.order? o.id = some { o with pass := some { p with state := .rampDown } }
      ∧ (∀ k, k ≠ o.id → t.order? k = s.order? k) ∧ t.node? c.config.node = some { n with slot := some .close })
    ∧ (c.state = .aiming → o.plan = none → o.cancelPending = false → o.delivered + 50 ≤ o.dose → o.dose ≤ 65535 →
        s.permits.list = [] → (∀ x ∈ s.dispatch.orders, x.origin = .host) → (∀ e ∈ s.piles, e.2.life = .live) →
        (∃ v ∈ c.config.coverage, v.tag = o.tag) → s.cannons = [(number.toNat, c)] →
        ∀ (cmd : Instr) (kind : PassKind),
          (cmd = .slewTimeout number ∧ kind = .aimTimeout ∧ c.slew = some 0)
            ∨ (cmd = .blankingTimerExpiry number ∧ kind = .trip ∧ c.blankingOn = true) →
          ∃ t, exec cmd s = .next t
            ∧ t.cannons = [(number.toNat, { d with bound := none, aimWaiting := false })]
            ∧ t.node? c.config.node = some { n with slot := some .close }
            ∧ number.toNat ∈ t.notices.cannons ∧ t.piles = s.piles ∧ (∀ k, k ≠ o.id → t.order? k = s.order? k)
            ∧ (c.tripCount + 1 < 3 → t.order? o.id = some { o with
                state := .waiting, pass := none, lastEnd := some kind, lapseRef := s.clock.minute })
            ∧ (3 ≤ c.tripCount + 1 → t.order? o.id = some { o with
                  state := .ended, pass := none, lastEnd := some kind, starved := false, outcome := some .failed
                  endedMinute := some s.clock.minute, endedEvent := s.events + 1 }
                ∧ o.id ∈ t.notices.orders)))
  ∧ (∀ (number : Byte) (c : Cannon) (s : State),
    s.cannon? number.toNat = some c → c.closeWait = some 0 → c.bound = none → s.permits.list = [] →
    (∀ x ∈ s.dispatch.orders, x.origin = .host) →
    ∃ t, exec (.closeWaitExpiry number) s = .next t
      ∧ t = { s with
          cannons := t.cannons, notices := s.notices.hand .cannon number.toNat, events := s.events + 1 }
      ∧ t.cannon? number.toNat = some { c with
          state := .locked, closeWait := none, slew := none, blankingOn := false, aimWaiting := false }
      ∧ ∀ n, n ≠ number.toNat → t.cannon? n = s.cannon? n)
  ∧ (∀ (number : Byte) (c d : Cannon) (n m : Node) (o : Order) (p : Pass) (slot landed gained runoff : Nat) (pile : Pile)
      (g : Grade) (cmd : Instr) (kind : PassKind) (s : State),
    number.toNat ≤ 23 → s.cannons = [(number.toNat, c)] → s.node? c.config.node = some n → c.bound = some o.id →
    s.order? o.id = some o → o.state = .active → o.pass = some p → o.plan = none → o.cancelPending = false →
    o.delivered + p.delivered + 50 ≤ o.dose → o.dose ≤ 65535 → (∃ v ∈ c.config.coverage, v.tag = o.tag) →
    s.piles = [(slot, pile)] → pile.tag = o.tag →
    pile.life = .live → Table.get s.grades pile.grade = some g → s.water.pond.node = none →
    s.water.transfer.state = .stopped → s.water.pond.volume ≤ s.water.pond.capacity →
    (s.permits.list = [] ∧ ∀ x ∈ s.dispatch.orders, x.origin = .host)
      ∨ (s.permits.list ≠ [] ∧ s.permits.list.length ≤ 16 ∧ (s.permits.list.map fun x => x.machine).Nodup
        ∧ s.dispatch.orders = [o] ∧ o.origin = .prewet ∧ pile.retirePending = false ∧ min g.msat gained < g.mwork
        ∧ ∀ x ∈ s.permits.list, x.tag = o.tag ∧ x.state = .pendingWet ∧ x.prewetOrder = some o.id) →
    landed = p.delivered * (256 - min 192 (pile.lastWp / 4)) / 256 → gained = pile.m + landed * g.gk / pile.area →
    runoff = (gained - g.msat) * pile.area / g.gk →
    (cmd = .closeWaitExpiry number ∧ kind = .valveStuck ∧ c.closeWait = some 0 ∧ m = n
        ∧ d = { c with
            state := .locked, bound := none, closeWait := none, slew := none, blankingOn := false, aimWaiting := false })
      ∨ (cmd = .miss ∧ kind = .lost ∧ n.owner = .cannon number.toNat ∧ n.lost = false ∧ n.misses = 2
        ∧ (∃ sent rest, s.loop.phase = .exchange c.config.node sent rest)
        ∧ (c.state = .aiming ∨ c.state = .spraying ∨ c.state = .rampDown ∨ c.state = .tripped)
        ∧ m = { n with
            totalMisses := min 65535 (n.totalMisses + 1), misses := 0, lost := true, countdown := some 8
            slot := match n.slot with
              | some .close => some .close | some .stop => some LoopCommand.stop | _ => none }
        ∧ d = { c with
            state := .lost, bound := none, closeWait := none, slew := none, blankingOn := false, aimWaiting := false
            retry := none, aimPhase := none, header := none })
      ∨ (cmd = .resetCannon number ∧ kind = .reset ∧ m = { n with slot := some .close }
        ∧ d = { c with
            state := .resetting, bound := none, closeWait := none, slew := none, blankingOn := false
            aimWaiting := false, retry := none, aimPhase := none }) →
    ∃ t, exec cmd s = .next t ∧ t.cannons = [(number.toNat, d)] ∧ t.node? c.config.node = some m
      ∧ (∀ i, i ≠ c.config.node → t.node? i = s.node? i)
      ∧ t.notices.cannons = (if kind = .reset ∧ c.state ≠ .tripped ∧ c.state ≠ .locked ∧ c.state ≠ .lost then
          s.notices.cannons else insertKey s.notices.cannons number.toNat)
      ∧ t.piles = [(slot, if p.delivered = 0 then pile else { pile with
          m := min g.msat gained, lastWetted := some s.clock.minute })]
      ∧ t.water.pond = { s.water.pond with
          volume := if p.delivered = 0 ∨ gained ≤ g.msat then s.water.pond.volume
            else min (s.water.pond.volume + runoff) s.water.pond.capacity
          spill := t.water.pond.spill }
      ∧ (∀ i, i ≠ o.id → t.order? i = s.order? i)
      ∧ (kind ≠ .reset → o.id ∈ t.notices.orders ∧ t.order? o.id = some { o with
          state := .ended, pass := none, lastEnd := some kind, delivered := o.delivered + p.delivered
          starved := false, outcome := some .failed, endedMinute := some s.clock.minute, endedEvent := s.events + 1 })
      ∧ (kind = .reset → t.order? o.id = some { o with
          state := .waiting, pass := none, lastEnd := some kind, delivered := o.delivered + p.delivered
          lapseRef := s.clock.minute } ∧ t.permits = s.permits ∧ t.notices.permits = s.notices.permits)
      ∧ (kind ≠ .reset → t.permits = { s.permits with
            list := [], outcomes := s.permits.list.foldl (fun acc x => Table.set acc x.machine
              ⟨.refusedTooDry, s.clock.minute, x.tag, x.id, none⟩) s.permits.outcomes }
          ∧ ∀ i, i ∈ t.notices.permits ↔ i ∈ s.notices.permits ∨ ∃ x ∈ s.permits.list, x.machine = i)
      ∧ t.port = if kind = .reset then s.replied .ok 0x52 ([1] ++ be8 c.state.code ++ be16 p.delivered) else s.port)

/-- A cannon node's valid reply moves its pass: SETTLED after the AIM has left the slot sends OPEN; OPEN opens the pass
at the meter that stood before, its litres being the pass's first; in SPRAYING the litres are added, and at the pass
dose less the ramp allowance CLOSE is sent and the ramp-down begins. In AIMING and SPRAYING an overload starts the
blanking timer or leaves it running, and a reply without one stops it; with a blanking time of 0 an overload trips the
cannon at once: from SPRAYING the pass ramps down, from AIMING it ends TRIP with nothing delivered, and the host order
of a yard with that cannon alone waits again or ends FAILED. A reply that empties the slot of a CLOSE for which an AIM
has waited places the AIM and starts the slew timer. An overload is taken after the valve report of its reply (log entry
8); events are counted as in log entry 18. All this on either header: on FRESH the litres, a pass's or stray, count to
used today and spent is evaluated, once more where the trip ends the pass. -/
def Obligations.RepliesMoveThePass : Prop :=
  (∀ (a k : Nat) (rest : List Nat) (n : Node) (c : Cannon) (o : Order) (p : Pass) (r : NodeReport) (meter : Half)
    (last litres : Nat) (h : Header) (s : State),
    a ≤ 31 → s.loop.phase = .exchange a .poll rest → s.node? a = some n → n.owner = .cannon k → n.lost = false →
    s.cannon? k = some c → c.config.node = a → c.bound = some o.id → s.order? o.id = some o → o.pass = some p →
    c.header = some h → c.meterLast = some last → last < 65536 → litres = (meter.toNat + 65536 - last) % 65536 →
    (r.overload = false ∨ c.config.blanking ≠ 0) → c.aimWaiting = false →
    (c.state = .aiming ∨ (c.state = .spraying ∧ r.valve ≠ .closed)) →
    ∃ t, exec (.validReply ((NodeReply.cannon r meter.toNat).bytes a)) s = .next t
      ∧ t = { s with
          cannons := t.cannons, events := s.events + 1, dispatch := { s.dispatch with orders := t.dispatch.orders }
          notices := { s.notices with flags := { s.notices.flags with water := t.notices.flags.water } }
          water := { s.water with usedToday := t.water.usedToday, spent := t.water.spent }
          loop := { s.loop with nodes := t.loop.nodes, phase := .between rest } }
      ∧ litresCounted h litres s t
      ∧ (∀ i, i ≠ k → t.cannon? i = s.cannon? i) ∧ (∀ i, i ≠ o.id → t.order? i = s.order? i)
      ∧ (∀ i, i ≠ a → t.node? i = s.node? i)
      ∧ (c.state = .aiming → c.aimPhase = some .slewing → p.meterStart = none → n.slot = none →
          t.order? o.id = some o
          ∧ t.cannon? k = some { c with
              report := some r, meterLast := some meter.toNat, stray := min 4294967295 (c.stray + litres)
              blankingOn := r.overload, aimPhase := if r.settled then some .opening else some .slewing }
          ∧ t.node? a = some { n with
              misses := 0, countdown := none, slot := if r.settled then some (.openValve p.header) else none })
      ∧ (c.state = .aiming → c.aimPhase = some .opening → r.valve = .opened → p.delivered = 0 →
          c.config.rampAllowance + litres < p.dose → n.slot = none →
          t.order? o.id = some { o with pass := some { p with
            meterStart := some last, state := .spraying, delivered := litres } }
          ∧ t.cannon? k = some { c with
              report := some r, meterLast := some meter.toNat, state := .spraying, aimPhase := none, slew := none
              blankingOn := r.overload }
          ∧ t.node? a = some { n with misses := 0, countdown := none })
      ∧ (c.state = .spraying → p.meterStart ≠ none → ∀ d, d = min 65535 (p.delivered + litres) →
          (d < p.dose - c.config.rampAllowance →
            t.order? o.id = some { o with pass := some { p with delivered := d } }
            ∧ t.cannon? k = some { c with report := some r, meterLast := some meter.toNat, blankingOn := r.overload }
            ∧ t.node? a = some { n with misses := 0, countdown := none })
          ∧ (p.dose - c.config.rampAllowance ≤ d →
              t.order? o.id = some { o with pass := some { p with delivered := d, state := .rampDown } }
              ∧ t.cannon? k = some { c with
                  report := some r, meterLast := some meter.toNat, blankingOn := false, state := .rampDown
                  closeWait := some (c.closeWait.getD (c.config.rampTime + 5)) }
              ∧ t.node? a = some { n with misses := 0, countdown := none, slot := some .close })))
  -- a blanking time of 0
  ∧ (∀ (a k : Nat) (rest : List Nat) (n : Node) (c tripped : Cannon) (o : Order) (p : Pass) (r : NodeReport) (meter : Half)
    (last litres : Nat) (h : Header) (s : State),
    a ≤ 31 → s.loop.phase = .exchange a .poll rest → s.node? a = some n → n.owner = .cannon k → n.lost = false →
    s.cannon? k = some c → c.config.node = a → c.bound = some o.id → s.order? o.id = some o → o.pass = some p →
    c.header = some h → c.meterLast = some last → last < 65536 → litres = (meter.toNat + 65536 - last) % 65536 →
    r.overload = true → c.config.blanking = 0 →
    tripped = { c with
      report := some r, meterLast := some meter.toNat, tripCount := c.tripCount + 1, lastTrip := some s.clock.minute
      closeWait := some (c.closeWait.getD (c.config.rampTime + 5))
      state := if c.tripCount + 1 < 3 then .tripped else .locked
      aimPhase := none, slew := none, blankingOn := false } →
    (∀ d, c.state = .spraying → r.valve ≠ .closed → p.meterStart ≠ none → d = min 65535 (p.delivered + litres) →
      d < p.dose - c.config.rampAllowance →
      ∃ t, exec (.validReply ((NodeReply.cannon r meter.toNat).bytes a)) s = .next t
        ∧ t = { s with
            cannons := t.cannons, events := s.events + 1, dispatch := { s.dispatch with orders := t.dispatch.orders }
            notices := { s.notices.hand .cannon k with
              flags := { (s.notices.hand .cannon k).flags with water := t.notices.flags.water } }
            water := { s.water with usedToday := t.water.usedToday, spent := t.water.spent }
            loop := { s.loop with nodes := t.loop.nodes, phase := .between rest } }
        ∧ litresCounted h litres s t
        ∧ t.cannon? k = some tripped ∧ (∀ i, i ≠ k → t.cannon? i = s.cannon? i)
        ∧ t.order? o.id = some { o with pass := some { p with delivered := d, state := .rampDown } }
        ∧ (∀ i, i ≠ o.id → t.order? i = s.order? i)
        ∧ t.node? a = some { n with misses := 0, countdown := none, slot := some .close }
        ∧ ∀ i, i ≠ a → t.node? i = s.node? i)
    ∧ (c.state = .aiming → (c.aimPhase = some .slewing ∨ (c.aimPhase = some .opening ∧ r.valve ≠ .opened)) →
      p.meterStart = none → o.plan = none → o.cancelPending = false → o.delivered + 50 ≤ o.dose → o.dose ≤ 65535 →
      s.permits.list = [] → (∀ x ∈ s.dispatch.orders, x.origin = .host) → (∀ e ∈ s.piles, e.2.life = .live) →
      (∃ v ∈ c.config.coverage, v.tag = o.tag) → s.cannons = [(k, c)] →
      ∃ t, exec (.validReply ((NodeReply.cannon r meter.toNat).bytes a)) s = .next t
        ∧ t.cannons = [(k, { tripped with
            bound := none, aimWaiting := false, stray := min 4294967295 (c.stray + litres) })]
        ∧ t.node? a = some { n with misses := 0, countdown := none, slot := some .close }
        ∧ litresCountedAtEnd h litres o.id (fun x => x) false s t
        ∧ k ∈ t.notices.cannons ∧ t.piles = s.piles ∧ (∀ i, i ≠ o.id → t.order? i = s.order? i)
        ∧ (c.tripCount + 1 < 3 → t.order? o.id = some { o with
            state := .waiting, pass := none, lastEnd := some .trip, lapseRef := s.clock.minute })
        ∧ (3 ≤ c.tripCount + 1 → t.order? o.id = some { o with
              state := .ended, pass := none, lastEnd := some .trip, starved := false, outcome := some .failed
              endedMinute := some s.clock.minute, endedEvent := s.events + 1 }
            ∧ o.id ∈ t.notices.orders)))
  -- an AIM that has waited for its slot
  ∧ ∀ (a k x y : Nat) (rest : List Nat) (n : Node) (c : Cannon) (o : Order) (p : Pass) (r : NodeReport) (meter : Half)
    (last : Nat) (h : Header) (s : State),
    a ≤ 31 → s.loop.phase = .exchange a (.command .close) rest → s.node? a = some n → n.owner = .cannon k →
    n.lost = false → n.slot = some .close → s.cannon? k = some c → c.config.node = a → c.state = .aiming →
    c.aimPhase = some .slewing → c.aimWaiting = true → c.bound = some o.id → s.order? o.id = some o → o.pass = some p →
    p.meterStart = none → c.header = some h → c.meterLast = some last → last < 65536 →
    (r.overload = false ∨ c.config.blanking ≠ 0) →
    ((∃ v, o.plan = none ∧ c.config.coverage.find? (fun v => v.tag == o.tag) = some v ∧ x = v.arcStart ∧ y = v.arcEnd)
      ∨ ∃ q e, o.plan = some q ∧ q.entries[q.current]? = some e ∧ x = e.arcStart ∧ y = e.arcEnd) →
    ∃ t, exec (.validReply ((NodeReply.cannon r meter.toNat).bytes a)) s = .next t
      ∧ t = { s with
          cannons := t.cannons, events := s.events + 1, loop := { s.loop with nodes := t.loop.nodes, phase := .between rest }
          notices := { s.notices with flags := { s.notices.flags with water := t.notices.flags.water } }
          water := { s.water with usedToday := t.water.usedToday, spent := t.water.spent }
          dispatch := { s.dispatch with orders := t.dispatch.orders } }
      ∧ litresCounted h ((meter.toNat + 65536 - last) % 65536) s t
      ∧ t.node? a = some { n with misses := 0, countdown := none, slot := some (.aim x y c.config.sweepRate) }
      ∧ (∀ i, i ≠ a → t.node? i = s.node? i)
      ∧ t.cannon? k = some { c with
          report := some r, meterLast := some meter.toNat, blankingOn := r.overload
          stray := min 4294967295 (c.stray + (meter.toNat + 65536 - last) % 65536)
          slew := some c.config.slewTimeout, aimWaiting := false }
      ∧ (∀ i, i ≠ k → t.cannon? i = s.cannon? i) ∧ ∀ i, t.order? i = s.order? i

/-- A CLOSED report in RAMP-DOWN, or unasked in SPRAYING, or after a trip while the close wait runs, settles the pass in
one event: the reply's litres are the pass's last; the cannon goes to IDLE, or after a trip stays TRIPPED and starts its
retry delay of 30 s, or stays LOCKED without one; it releases its header slot; the order is credited, a plan's current
entry with it, which moves on over entries with less than 50 litres; the order goes back to WAITING, ends DONE, or after
a trip FAILED when no cannon remains for it; the pile gains moisture, and what is beyond saturation runs off into the
pond. The yard stated has one LIVE pile and no transfer station, and one of two kinds of orders. With host orders, the
permits that clear on the pile are GRANTED once nothing else on it runs. With one PREWET order and permits that wait on
it: at working moisture they are GRANTED and the order ends DONE; short of it, an order with litres outstanding waits
on, and a complete one ends DONE and another is placed, of the prewet dose, which the permits then name. A cannon
without a pass in RAMP-DOWN, TRIPPED or LOCKED releases its slot likewise, and its litres are stray. All this on either
header: on FRESH the litres count to used today and spent is evaluated with them and again at the pass end; WATER is
raised where it becomes set, and by a spill. In SPRAYING the report is taken ahead of the dose reached (log entry 9) and
of an overload in the same reply (log entry 8); events and occasions are counted as in log entries 18 and 4. -/
def Obligations.ClosedReportSettlesThePass : Prop :=
  (∀ (a k slot : Nat) (rest : List Nat) (n : Node) (c d : Cannon) (kind : PassKind) (o : Order) (p : Pass) (r : NodeReport)
    (meter : Half) (last start vm landed gained excess : Nat) (pile : Pile) (g : Grade) (h : Header) (s : State),
    a ≤ 31 → s.loop.phase = .exchange a .poll rest → s.node? a = some n → n.owner = .cannon k → n.lost = false →
    s.cannon? k = some c → c.config.node = a → c.bound = some o.id → s.order? o.id = some o → o.pass = some p →
    p.meterStart = some start → c.header = some h → c.meterLast = some last → last < 65536 →
    ((c.state = .rampDown ∨ c.state = .spraying) ∧ kind = .closed ∧ d = { c with
        report := some r, meterLast := some meter.toNat, state := .idle, aimPhase := none, closeWait := none
        header := none, bound := none, slew := none, blankingOn := false, aimWaiting := false })
      ∨ ((c.state = .tripped ∨ c.state = .locked) ∧ c.closeWait ≠ none ∧ kind = .trip ∧ d = { c with
        report := some r, meterLast := some meter.toNat, closeWait := none
        header := none, bound := none, slew := none, blankingOn := false, aimWaiting := false
        retry := if c.state = .tripped then some 30 else c.retry }) →
    vm = p.delivered + (meter.toNat + 65536 - last) % 65536 → vm ≤ 65535 → r.valve = .closed → vm ≠ 0 →
    o.cancelPending = false → o.delivered + vm < 4294967296 → s.permits.list.length ≤ 16 →
    s.piles = [(slot, pile)] → pile.tag = o.tag → pile.life = .live →
    Table.get s.grades pile.grade = some g → s.water.pond.node = none → s.water.transfer.state = .stopped →
    s.water.pond.volume ≤ s.water.pond.capacity →
    landed = vm * (256 - min 192 (pile.lastWp / 4)) / 256 → gained = pile.m + landed * g.gk / pile.area →
    excess = (if gained ≤ g.msat then 0
      else s.water.pond.volume + (gained - g.msat) * pile.area / g.gk - s.water.pond.capacity) →
    ((∀ x ∈ s.dispatch.orders, x.origin = .host) ∧ ∀ x ∈ s.permits.list, x.tag = o.tag → x.state ≠ .pendingWet)
      ∨ (kind = .closed ∧ s.dispatch.orders = [o] ∧ o.origin = .prewet ∧ o.state = .active ∧ o.plan = none
        ∧ s.permits.list ≠ []
        ∧ ∀ x ∈ s.permits.list, x.tag = o.tag ∧ x.state = .pendingWet ∧ x.prewetOrder = some o.id) →
    ∃ t, exec (.validReply ((NodeReply.cannon r meter.toNat).bytes a)) s = .next t ∧ t.cannon? k = some d
      ∧ t.piles = [(slot, { pile with m := min g.msat gained, lastWetted := some s.clock.minute })]
      ∧ t.water.pond = { s.water.pond with
          volume := if gained ≤ g.msat then s.water.pond.volume
            else min (s.water.pond.volume + (gained - g.msat) * pile.area / g.gk) s.water.pond.capacity
          spill := min 4294967295 (s.water.pond.spill + excess) }
      ∧ t.water = { s.water with
          pond := t.water.pond, usedToday := t.water.usedToday, spent := t.water.spent }
      ∧ litresCountedAtEnd h ((meter.toNat + 65536 - last) % 65536) o.id (fun x => { x with
          pass := x.pass.map fun q => { q with
            delivered := min 65535 (q.delivered + (meter.toNat + 65536 - last) % 65536) } }) (decide (excess ≠ 0)) s t
      ∧ (∀ i, i ≠ k → t.cannon? i = s.cannon? i) ∧ t.loop.phase = .between rest ∧ s.dispatch.due < t.dispatch.due
      ∧ ∀ (running complete remains : Prop) (plan : Option Plan) (granting : Permit → Permit) (waits done : Order → Order),
        -- the plan as credited: its current entry less what was metered, and past every entry with less than 50 litres
        ((o.plan = none ∧ plan = none ∧ (complete ↔ o.dose < o.delivered + vm + 50))
          ∨ ∃ (q : Plan) (es : List PlanEntry) (j : Nat), o.plan = some q ∧ plan = some ⟨es, j⟩
            ∧ es = q.entries.modify q.current (fun e => { e with remaining := e.remaining - vm })
            ∧ q.current ≤ j ∧ (j ≤ es.length ∨ j = q.current)
            ∧ (∀ i e, q.current ≤ i → i < j → es[i]? = some e → e.remaining < 50)
            ∧ (∀ e, es[j]? = some e → 50 ≤ e.remaining) ∧ (complete ↔ es.length ≤ j)) →
        -- a cannon other than LOCKED and LOST, the faulting one taken as it is now, that could serve the order
        (remains ↔ ∃ i e, (if i = k then some d else s.cannon? i) = some e ∧ e.state ≠ .locked ∧ e.state ≠ .lost
          ∧ match plan with
            | none => ∃ v ∈ e.config.coverage, v.tag = o.tag
            | some q => ∃ x, q.entries[q.current]? = some x ∧ (x.cannon = some i ∨ (x.cannon = none
              ∧ ∃ v, e.config.coverage.find? (fun v => v.tag == o.tag) = some v
                ∧ (x.arcStart + 360 - v.arcStart % 360) % 360 ≤ (x.arcEnd + 360 - v.arcStart % 360) % 360
                ∧ (x.arcEnd + 360 - v.arcStart % 360) % 360 ≤ (v.arcEnd + 360 - v.arcStart % 360) % 360))) →
        (running ↔ (∃ x ∈ s.dispatch.orders, x.id ≠ o.id ∧ x.tag = o.tag ∧ ∃ q, x.pass = some q ∧ q.state ≠ .closed)
          ∨ ∃ e ∈ s.cannons, e.1 ≠ k ∧ (∃ v ∈ e.2.config.coverage, v.tag = o.tag) ∧ e.2.bound = none
            ∧ e.2.closeWait ≠ none) →
        (∀ x, granting x = { x with state := .granted, entered := s.clock.minute, prewetOrder := none }) →
        (∀ x, waits x = { x with
          state := .waiting, pass := none, lastEnd := some kind, delivered := o.delivered + vm, plan := plan
          lapseRef := s.clock.minute }) →
        (∀ x, done x = { x with
          state := .ended, pass := none, lastEnd := some kind, delivered := o.delivered + vm, plan := plan, starved := false
          outcome := some .done, endedMinute := some s.clock.minute, endedEvent := s.events + 1 }) →
        Table.wf s.cannons = true →
        (o.origin = .host →
          (complete → t.order? o.id = some (done o) ∧ o.id ∈ t.notices.orders)
          ∧ (¬ complete → (kind = .closed ∨ remains) → t.order? o.id = some (waits o))
          ∧ (¬ complete → kind = .trip → ¬ remains → t.order? o.id = some { done o with outcome := some .failed }
              ∧ o.id ∈ t.notices.orders)
          ∧ (∀ i, i ≠ o.id → t.order? i = s.order? i)
          ∧ ((s.dispatch.orders.map fun x => x.id).Nodup →
              t.permits = { s.permits with list := t.permits.list }
              ∧ (running → t.permits.list = s.permits.list ∧ t.notices.permits = s.notices.permits)
              ∧ (¬ running → t.permits.list = s.permits.list.map (fun x =>
                    if x.tag = o.tag ∧ x.state = .clearing then { granting x with prewetOrder := x.prewetOrder } else x)
                  ∧ ∀ i, i ∈ t.notices.permits ↔ i ∈ s.notices.permits
                      ∨ ∃ x ∈ s.permits.list, x.tag = o.tag ∧ x.state = .clearing ∧ x.machine = i)))
        ∧ (o.origin = .prewet → ∀ zoned : Suspension, zoned = { o.suspension with zone := true } →
          (g.mwork ≤ min g.msat gained → ¬ running →
            t.permits = { s.permits with list := s.permits.list.map granting }
            ∧ (∀ i, i ∈ t.notices.permits ↔ i ∈ s.notices.permits ∨ ∃ x ∈ s.permits.list, x.machine = i)
            ∧ o.id ∈ t.notices.orders ∧ (complete → t.dispatch.orders = [{ done o with suspension := zoned }])
            ∧ (¬ complete → t.dispatch.orders = [{ done o with suspension := zoned, lapseRef := s.clock.minute }]))
          ∧ (min g.msat gained < g.mwork → ¬ complete →
              t.permits = s.permits ∧ t.notices.permits = s.notices.permits ∧ t.dispatch.orders = [waits o])
          ∧ (min g.msat gained < g.mwork → complete → 50 ≤ s.dispatch.maxDose →
              1 ≤ s.dispatch.nextId → s.dispatch.nextId ≤ 65535 → ∃ (q : Order) (litres : Nat),
                litres = max 50 (litresFor g { pile with m := min g.msat gained }
                  (max g.mwork (min g.msat (g.mt + g.margin))))
                ∧ q = ⟨q.id, o.tag, .prewet, 3, min litres s.dispatch.maxDose, 0, .reuseThenFresh, none, none, .waiting,
                    ⟨false, s.wind.cutOut || s.wind.frost, false⟩, false, decide (s.dispatch.maxDose < litres), false,
                    s.clock.minute, s.clock.minute, 0, none, none, none, none, 0⟩
                ∧ q.id ≠ o.id ∧ 1 ≤ q.id ∧ q.id ≤ 65535 ∧ (s.dispatch.nextId ≠ o.id → q.id = s.dispatch.nextId)
                ∧ t.dispatch.orders = [done o, q] ∧ t.dispatch.nextId = q.id % 65535 + 1 ∧ o.id ∈ t.notices.orders
                ∧ t.permits = { s.permits with list := s.permits.list.map fun x => { x with prewetOrder := some q.id } }
                ∧ t.notices.permits = s.notices.permits)))
  -- a cannon whose slot is kept without a pass
  ∧ ∀ (a k : Nat) (rest : List Nat) (n : Node) (c : Cannon) (r : NodeReport) (meter : Half) (last : Nat)
    (h : Header) (s : State),
    a ≤ 31 → s.loop.phase = .exchange a .poll rest → s.node? a = some n → n.owner = .cannon k → n.lost = false →
    s.cannon? k = some c → c.config.node = a → c.bound = none → c.header = some h → c.meterLast = some last →
    last < 65536 → r.valve = .closed →
    (c.state = .rampDown ∨ ((c.state = .tripped ∨ c.state = .locked) ∧ c.closeWait ≠ none)) →
    (∀ x ∈ s.permits.list, x.state ≠ .clearing) → (∀ x ∈ s.dispatch.orders, x.origin ≠ .prewet) →
    ∃ t, exec (.validReply ((NodeReply.cannon r meter.toNat).bytes a)) s = .next t
      ∧ t = { s with
          cannons := t.cannons, events := s.events + 1, loop := { s.loop with nodes := t.loop.nodes, phase := .between rest }
          notices := { s.notices with flags := { s.notices.flags with water := t.notices.flags.water } }
          water := { s.water with usedToday := t.water.usedToday, spent := t.water.spent }
          dispatch := { s.dispatch with due := s.dispatch.due + if c.state = .rampDown then 2 else 1 } }
      ∧ litresCounted h ((meter.toNat + 65536 - last) % 65536) s t
      ∧ t.cannon? k = some { c with
          report := some r, meterLast := some meter.toNat
          stray := min 4294967295 (c.stray + (meter.toNat + 65536 - last) % 65536)
          state := if c.state = .rampDown then .idle else c.state
          aimPhase := if c.state = .rampDown then none else c.aimPhase
          retry := if c.state = .tripped then some 30 else c.retry
          header := none, closeWait := none, slew := none, blankingOn := false, aimWaiting := false }
      ∧ (∀ i, i ≠ k → t.cannon? i = s.cannon? i)
      ∧ t.node? a = some { n with misses := 0, countdown := none } ∧ ∀ i, i ≠ a → t.node? i = s.node? i

/-! ## The water account -/

/-- LOAD-BASIN TANK: the refusals, a loading, a new configuration at the same address with the level flags evaluated
again, the move to a new address, and unloading. The gauge's stale expiry, which changes nothing while the gauge is not
FRESH or its reading's age is below the limit (log entry 1). A gauge reading: level clamped, the two level flags with
hysteresis, and the quality hold on two readings in a row; it occasions an arbitration (occasions are counted: log
entry 4). -/
def Obligations.TankLoadsReadsAndGoesStale : Prop :=
  ∀ (node : Byte) (a : TankArgs) (bad : Prop) (k : TankConfig) (s : State),
    k = ⟨node.toNat, a.capacity.toNat, a.low.toNat, a.high.toNat, a.hysteresis.toNat, a.turbidityLimit.toNat,
      if a.stale = 0 then 120 else a.stale.toNat⟩ →
    (bad ↔ k.capacity = 0 ∨ k.capacity < k.high ∨ k.high < k.low + 2 * k.hysteresis ∨ k.turbidityLimit = 0
      ∨ k.stale < 10 ∨ 600 < k.stale) →
    ((31 < node.toNat ∨ (node ≠ 0 ∧ bad)) →
      exec (.loadBasinTank node a) s = .next { s with port := s.replied .badArgument 0x58 [] })
    ∧ (node.toNat ≤ 31 → node ≠ 0 → ¬ bad →
        ((∃ x, s.node? node.toNat = some x ∧ x.owner ≠ .tank) →
          exec (.loadBasinTank node a) s = .next { s with port := s.replied .duplicate 0x58 [] })
        ∧ (s.node? node.toNat = none → s.water.tank = none → s.water.transfer.state = .stopped →
            ∃ t, exec (.loadBasinTank node a) s = .next t
              ∧ t = { s with
                  port := s.replied .ok 0x58 [], loop := t.loop
                  water := { s.water with tank := some ⟨k, none, false, false, false, 0, false, none⟩ } }
              ∧ (t.node? node.toNat).map (fun x => (x.owner, x.slot, x.lost)) = some (.tank, none, false))
        ∧ ∀ w, s.water.tank = some w → w.config.node = node.toNat →
            (∀ x, s.node? node.toNat = some x → x.owner = .tank) → ∃ (t : State) (u : Tank) (late : Bool),
            exec (.loadBasinTank node a) s = .next t ∧ t.port = s.replied .ok 0x58 [] ∧ t.water.tank = some u
            ∧ late = (w.fresh && decide (k.stale ≤ w.age.getD 0))
            ∧ u = { w with
                config := k, nearEmpty := u.nearEmpty, nearFull := u.nearFull, fresh := w.fresh && !late
                qualityCount := if late then 0 else w.qualityCount }
            ∧ (w.reading = none → u.nearEmpty = w.nearEmpty ∧ u.nearFull = w.nearFull)
            ∧ (∀ r, w.reading = some r →
                (u.nearEmpty = true ↔ r.level < k.low ∨ (w.nearEmpty = true ∧ r.level < k.low + k.hysteresis))
                ∧ (u.nearFull = true ↔ k.high < r.level ∨ (w.nearFull = true ∧ k.high < r.level + k.hysteresis)))
            ∧ t.clock = s.clock ∧ t.piles = s.piles ∧ t.cannons = s.cannons ∧ t.wind = s.wind)
    ∧ (node.toNat ≤ 31 → node ≠ 0 → ¬ bad → s.node? node.toNat = none →
        ∀ w, s.water.tank = some w → w.config.node ≠ node.toNat → ∃ t, exec (.loadBasinTank node a) s = .next t
          ∧ t = { s with
              port := s.replied .ok 0x58 [], loop := t.loop
              water := { s.water with
                tank := some ⟨k, none, false, false, false, 0, false, none⟩, transfer := t.water.transfer } }
          ∧ t.node? w.config.node = none
          ∧ (t.node? node.toNat).map (fun x => (x.owner, x.extraDelay, x.misses, x.lost)) = some (.tank, 0, 0, false)
          ∧ ((s.water.transfer.state = .stopped ∨ s.water.transfer.state = .stopping) →
              t.water.transfer = s.water.transfer)
          ∧ ((s.water.transfer.state = .starting ∨ s.water.transfer.state = .running) →
              t.water.transfer = { s.water.transfer with
                state := .stopping, lastEnd := some .stopCondition, startWait := none, runWaiting := false }))
    ∧ (node = 0 → s.water.tank = none → s.water.transfer.state = .stopped →
        exec (.loadBasinTank node a) s = .next { s with port := s.replied .ok 0x58 [] })
    ∧ (node = 0 → ∀ w, s.water.tank = some w → ∃ t, exec (.loadBasinTank node a) s = .next t
        ∧ t.water.tank = none ∧ t.node? w.config.node = none ∧ t.port = s.replied .ok 0x58 []
        ∧ t.piles = s.piles ∧ t.cannons = s.cannons ∧ t.dispatch = s.dispatch)
    ∧ ((∀ w, s.water.tank = some w → w.fresh = false ∨ w.age.getD 0 < w.config.stale) → exec .gaugeStaleExpiry s = .next s)
    ∧ (∀ w, s.water.tank = some w → w.fresh = true → w.config.stale ≤ w.age.getD 0 → ∃ t,
        exec .gaugeStaleExpiry s = .next t
        ∧ t = { s with
            notices := { s.notices with flags := { s.notices.flags with water := true } }
            water := { s.water with
              tank := some { w with fresh := false, qualityCount := 0 }, transfer := t.water.transfer }
            loop := { s.loop with nodes := t.loop.nodes } }
        ∧ ((s.water.transfer.state = .stopped ∨ s.water.transfer.state = .stopping) →
            t.water.transfer = s.water.transfer ∧ t.loop = s.loop)
        ∧ ((s.water.transfer.state = .starting ∨ s.water.transfer.state = .running) →
            t.water.transfer = { s.water.transfer with
              state := .stopping, lastEnd := some .stopCondition, startWait := none, runWaiting := false }
            ∧ ∀ i n, s.water.pond.node = some i → s.node? i = some n → t.node? i = some { n with slot := some .stop }))
    ∧ ∀ (i : Nat) (rest : List Nat) (n : Node) (w : Tank) (level : Half) (turbidity : Byte) (alarm : Bool),
        i ≤ 31 → s.loop.phase = .exchange i .poll rest → s.node? i = some n → n.owner = .tank → s.water.tank = some w →
        s.water.pond.node = none → s.water.transfer.state = .stopped →
        ∃ (t : State) (u : Tank) (l : Nat),
          exec (.validReply ((NodeReply.gauge level.toNat turbidity.toNat alarm).bytes i)) s = .next t
          ∧ l = min level.toNat w.config.capacity ∧ t.water = { s.water with tank := some u }
          ∧ u = { w with
              reading := some ⟨l, turbidity.toNat, alarm⟩, fresh := true, age := some 0, nearEmpty := u.nearEmpty
              nearFull := u.nearFull, qualityHold := u.qualityHold, qualityCount := u.qualityCount }
          ∧ (w.nearEmpty = false → (u.nearEmpty = true ↔ l < w.config.low))
          ∧ (w.nearEmpty = true → (u.nearEmpty = false ↔ w.config.low + w.config.hysteresis ≤ l))
          ∧ (w.nearFull = false → (u.nearFull = true ↔ w.config.high < l))
          ∧ (w.nearFull = true → (u.nearFull = false ↔ l + w.config.hysteresis ≤ w.config.high))
          ∧ ((turbidity.toNat ≤ w.config.turbidityLimit ↔ w.qualityHold = false) →
              u.qualityHold = w.qualityHold ∧ u.qualityCount = 0)
          ∧ (¬ (turbidity.toNat ≤ w.config.turbidityLimit ↔ w.qualityHold = false) →
              (w.qualityCount = 0 → u.qualityHold = w.qualityHold ∧ u.qualityCount = 1)
              ∧ (w.qualityCount = 1 → u.qualityHold = !w.qualityHold ∧ u.qualityCount = 0))
          ∧ t.notices = { s.notices with flags := { s.notices.flags with water := s.notices.flags.water
              || (u.nearEmpty && !w.nearEmpty) || (u.nearFull && !w.nearFull) || (u.qualityHold != w.qualityHold) } }
          ∧ s.dispatch.due < t.dispatch.due ∧ t.loop.phase = .between rest

/-- The evaluation of the transfer run, and the commands and timers of the pond that end in it: SET-POND, REPORT-INFLOW,
LOAD-BASIN POND, the start wait's expiry and the hold-off's end; each timer's row changes nothing while the timer does
not run or has time left (log entry 1), and a run in STOPPING counts as in progress when the transfer node changes (log
entry 32). Then the replies of the transfer station in a poll: the litres metered leave the pond, and the pump's report
moves the run from STARTING to RUNNING and to STOPPED; a pump found running while the run is STOPPED has STOP placed,
and one in STOPPING waits for it; one evaluation follows the reply (log entry 10). Litres beyond the pond's volume empty
it, and stop a run that is STARTING or RUNNING POND-EMPTY. The lost station's rejoining is followed by an evaluation,
STOP placed where its pump runs. The station's third miss ends the run NODE-LOST. Events are counted as in log entry 18.
-/
def Obligations.PondCommandsEvaluateTheRun : Prop :=
  (∀ (s : State) (starts stops : Prop),
    (starts ↔ ∃ a k, s.water.pond.node = some a ∧ s.nodeLost a = false ∧ s.water.pond.startMark ≤ s.water.pond.volume
      ∧ s.water.tank = some k ∧ k.fresh = true ∧ k.nearFull = false) →
    (stops ↔ s.water.pond.volume ≤ s.water.pond.stopMark ∨ ∀ k, s.water.tank = some k → k.nearFull = true ∨ k.fresh = false) →
    (s.water.transfer.state = .stopped → s.water.transfer.holdOff = none → starts → ∀ a, s.water.pond.node = some a →
      (s.slot? a = none → s.evalTransfer = { s with
        loop := { s.loop with nodes := Table.update s.loop.nodes a fun n =>
          if n.slot.isNone then { n with slot := some .run } else n }
        water := { s.water with transfer := { s.water.transfer with
          state := .starting, startWait := some 10, runWaiting := false } } })
      ∧ (s.slot? a ≠ none → s.evalTransfer = { s with water := { s.water with transfer := { s.water.transfer with
          state := .starting, startWait := none, runWaiting := true } } }))
    ∧ (((s.water.transfer.state = .stopped ∧ (s.water.transfer.holdOff ≠ none ∨ ¬ starts))
          ∨ s.water.transfer.state = .stopping
          ∨ ((s.water.transfer.state = .starting ∨ s.water.transfer.state = .running) ∧ ¬ stops)) → s.evalTransfer = s)
    ∧ ((s.water.transfer.state = .starting ∨ s.water.transfer.state = .running) → stops →
        ∀ a, s.water.pond.node = some a → s.evalTransfer = { s with
          loop := { s.loop with nodes := Table.update s.loop.nodes a fun n => { n with slot := some .stop } }
          water := { s.water with transfer := { s.water.transfer with
            state := .stopping, lastEnd := some .stopCondition, startWait := none, runWaiting := false } } }))
  ∧ (∀ s : State,
    (∀ (volume : Long) (clear : Bool) (u : State), u = { s with water := { s.water with pond := { s.water.pond with
        volume := min volume.toNat s.water.pond.capacity, spill := if clear then 0 else s.water.pond.spill } } } →
      exec (.setPond volume clear) s = .next { u.evalTransfer with
        port := s.replied .ok 0x5B (be32 u.water.pond.volume ++ be32 u.water.pond.spill) })
    ∧ (∀ litres : Long, litres.toNat = 0 → exec (.reportInflow litres) s = .next { s with
        port := s.replied .ok 0x5A (be32 s.water.pond.volume ++ be32 (s.water.pond.volume - s.water.pond.capacity)
          ++ be32 s.water.pond.spill) })
    ∧ (∀ (litres : Long) (excess : Nat) (u : State), litres.toNat ≠ 0 →
        excess = s.water.pond.volume + litres.toNat - s.water.pond.capacity →
        u = { s with
          notices := { s.notices with flags := { s.notices.flags with
            water := s.notices.flags.water || decide (excess ≠ 0) } }
          water := { s.water with pond := { s.water.pond with
            volume := min (s.water.pond.volume + litres.toNat) s.water.pond.capacity
            spill := min 4294967295 (s.water.pond.spill + excess) } } } →
        exec (.reportInflow litres) s = .next { u.evalTransfer with
          port := s.replied .ok 0x5A (be32 u.water.pond.volume ++ be32 excess ++ be32 u.water.pond.spill) })
    ∧ (∀ (a : PondArgs) (pond : Pond), pond = ⟨a.capacity.toNat, a.startMark.toNat, a.stopMark.toNat,
          min (match a.volume with | some v => v.toNat | none => s.water.pond.volume) a.capacity.toNat,
          s.water.pond.spill, if a.node = 0 then none else some a.node.toNat⟩ →
        ((a.capacity.toNat = 0 ∨ a.startMark.toNat ≤ a.stopMark.toNat ∨ a.capacity.toNat < a.startMark.toNat
            ∨ 31 < a.node.toNat) →
          exec (.loadBasinPond a) s = .next { s with port := s.replied .badArgument 0x58 [] })
        ∧ (a.capacity.toNat ≠ 0 → a.stopMark.toNat < a.startMark.toNat → a.startMark.toNat ≤ a.capacity.toNat →
            a.node.toNat ≤ 31 →
            (a.node ≠ 0 → (∃ n, s.node? a.node.toNat = some n ∧ n.owner ≠ .pond) →
              exec (.loadBasinPond a) s = .next { s with port := s.replied .duplicate 0x58 [] })
            ∧ (pond.node = s.water.pond.node →
                (a.node ≠ 0 → ∀ n, s.node? a.node.toNat = some n → n.owner = .pond) →
                ∀ u, u = State.evalTransfer { s with water := { s.water with pond := pond } } →
                exec (.loadBasinPond a) s = .next { u with port := s.replied .ok 0x58 (be32 pond.volume
                  ++ be32 pond.spill ++ be8 u.water.transfer.state.code) })
            ∧ (pond.node ≠ s.water.pond.node → (a.node ≠ 0 → s.node? a.node.toNat = none) → pond.volume < pond.startMark →
                ∃ t, exec (.loadBasinPond a) s = .next t
                  ∧ t = { s with port := t.port, water := { s.water with pond := pond, transfer := t.water.transfer }, loop := t.loop }
                  ∧ t.water.transfer = ⟨.stopped, none, if s.water.transfer.state = .stopped then s.water.transfer.lastEnd
                      else some .reloaded, none, none, false, false⟩
                  ∧ (∀ i, s.water.pond.node = some i → t.node? i = none)
                  ∧ (a.node ≠ 0 → (t.node? a.node.toNat).map (fun n => (n.owner, n.slot, n.lost)) = some (.pond, none, false))
                  ∧ t.port = s.replied .ok 0x58 (be32 pond.volume ++ be32 pond.spill ++ [0]))))
    ∧ (∀ a : Nat, s.water.transfer.state = .starting → s.water.transfer.startWait = some 0 → s.water.pond.node = some a →
        exec .startWaitExpiry s = .next { s with
          notices := { s.notices with flags := { s.notices.flags with water := true } }
          loop := { s.loop with nodes := Table.update s.loop.nodes a fun n => { n with slot := some .stop } }
          water := { s.water with transfer := { s.water.transfer with
            state := .stopping, lastEnd := some .startFailed, startWait := none, runWaiting := false
            pendingHoldOff := true } } })
    ∧ ((s.water.transfer.state ≠ .starting ∨ s.water.transfer.startWait ≠ some 0) → exec .startWaitExpiry s = .next s)
    ∧ (s.water.transfer.state = .stopped → s.water.transfer.holdOff = some 0 →
        exec .holdOffEnd s = .next (State.evalTransfer { s with water := { s.water with
          transfer := { s.water.transfer with holdOff := none } } }))
    ∧ ((s.water.transfer.state ≠ .stopped ∨ s.water.transfer.holdOff ≠ some 0) → exec .holdOffEnd s = .next s))
  ∧ (∀ (a last litres : Nat) (rest : List Nat) (n : Node) (running : Bool) (meter : Half) (s u : State),
    a ≤ 31 → s.loop.phase = .exchange a .poll rest → s.node? a = some n → n.owner = .pond → n.lost = false →
    s.water.pond.node = some a → s.water.transfer.meterLast = some last → last < 65536 →
    litres = (meter.toNat + 65536 - last) % 65536 →
    (litres ≤ s.water.pond.volume ∨ s.water.transfer.state = .stopped ∨ s.water.transfer.state = .stopping) →
    u = { s with
      events := s.events + 1
      loop := { s.loop with
        phase := .between rest
        nodes := Table.update s.loop.nodes a fun n => { n with misses := 0, lost := false, countdown := none } }
      water := { s.water with
        pond := { s.water.pond with volume := s.water.pond.volume - litres }
        transfer := { s.water.transfer with meterLast := some meter.toNat } } } →
    (s.water.transfer.state = .starting → running = true →
      ∀ v, v = { u with water := { u.water with transfer := { u.water.transfer with
          state := .running, startWait := none, runWaiting := false } } } →
        exec (.validReply ((NodeReply.transfer running meter.toNat).bytes a)) s
          = .next (if litres = 0 then v else v.evalTransfer))
    ∧ (((s.water.transfer.state = .running ∧ running = true) ∨ (s.water.transfer.state = .starting ∧ running = false)
          ∨ (s.water.transfer.state = .stopping ∧ (running = true ∨ n.slot ≠ none))
          ∨ (s.water.transfer.state = .stopped ∧ running = false)) →
        exec (.validReply ((NodeReply.transfer running meter.toNat).bytes a)) s
          = .next (if litres = 0 then u else u.evalTransfer))
    ∧ (s.water.transfer.state = .stopped → running = true →
      ∀ v, v = { u with loop := { u.loop with nodes := Table.update u.loop.nodes a fun n => { n with slot := some .stop } } } →
        exec (.validReply ((NodeReply.transfer running meter.toNat).bytes a)) s
          = .next (if litres = 0 then v else v.evalTransfer))
    ∧ (s.water.transfer.state = .running → running = false →
        exec (.validReply ((NodeReply.transfer running meter.toNat).bytes a)) s = .next { u with
          notices := { u.notices with flags := { u.notices.flags with water := true } }
          water := { u.water with transfer := { u.water.transfer with
            state := .stopped, lastEnd := some .pumpStopped, holdOff := some 60 } } })
    ∧ (s.water.transfer.state = .stopping → running = false → n.slot = none →
        exec (.validReply ((NodeReply.transfer running meter.toNat).bytes a)) s
          = .next (State.evalTransfer { u with water := { u.water with transfer := { u.water.transfer with
              state := .stopped, pendingHoldOff := false
              holdOff := if s.water.transfer.pendingHoldOff then some 60 else s.water.transfer.holdOff } } })))
  ∧ (∀ (a last litres : Nat) (rest : List Nat) (n : Node) (running : Bool) (meter : Half) (s : State),
    a ≤ 31 → s.loop.phase = .exchange a .poll rest → s.node? a = some n → n.owner = .pond →
    s.water.pond.node = some a → s.water.transfer.meterLast = some last → last < 65536 →
    litres = (meter.toNat + 65536 - last) % 65536 → s.water.pond.volume < litres →
    (s.water.transfer.state = .starting ∨ s.water.transfer.state = .running) →
    exec (.validReply ((NodeReply.transfer running meter.toNat).bytes a)) s = .next { s with
      events := s.events + 1
      loop := { s.loop with
        phase := .between rest
        nodes := Table.update s.loop.nodes a fun n => { n with
          misses := 0, lost := false, countdown := none, slot := some .stop } }
      water := { s.water with
        pond := { s.water.pond with volume := 0 }
        transfer := { s.water.transfer with
          meterLast := some meter.toNat, state := .stopping, lastEnd := some .pondEmpty, startWait := none
          runWaiting := false } } })
  -- the lost station rejoins
  ∧ (∀ (a : Nat) (rest : List Nat) (n : Node) (running : Bool) (meter : Half) (s u : State),
    a ≤ 31 → s.loop.phase = .exchange a .probe rest → s.node? a = some n → n.owner = .pond → n.lost = true →
    s.water.pond.node = some a → s.water.transfer.meterLast = none → s.water.transfer.state = .stopped →
    u = { s with
      events := s.events + 1
      loop := { s.loop with
        phase := .between rest
        nodes := Table.update s.loop.nodes a fun n => { n with
          misses := 0, lost := false, countdown := none, slot := if running then some .stop else n.slot } }
      water := { s.water with transfer := { s.water.transfer with meterLast := some meter.toNat } } } →
    exec (.validReply ((NodeReply.transfer running meter.toNat).bytes a)) s = .next u.evalTransfer)
  ∧ ∀ (a : Nat) (sent : Sent) (rest : List Nat) (n : Node) (s : State),
    s.loop.phase = .exchange a sent rest → s.node? a = some n → n.owner = .pond → n.lost = false → n.misses = 2 →
    s.water.pond.node = some a →
    exec .miss s = .next { s with
      events := s.events + 1
      loop := { s.loop with
        phase := .between rest
        nodes := Table.update s.loop.nodes a fun n => { n with
          totalMisses := min 65535 (n.totalMisses + 1), misses := 0, lost := true, countdown := some 8
          slot := match n.slot with
            | some .close => some .close | some .stop => some .stop | _ => none } }
      water := { s.water with transfer := if s.water.transfer.state = .stopped then
          { s.water.transfer with meterLast := none }
        else ⟨.stopped, none, some .nodeLost, none, none, false, false⟩ } }

/-- SET-ALLOWANCE: the allowance written, spent evaluated, one report to the dispatcher, and the reply's four figures
after the command; used today and the running passes stand, and no fresh litre can be reserved beyond what is left.
DAY_ROLLOVER: where the yard day is no longer the one counted, used today becomes 0, spent is evaluated and an
arbitration is occasioned; within the counted day nothing changes (the counted day is the model's own, log entry 19;
occasions and events are counted, log entries 4 and 18). A reply that meters litres on a spraying pass of the FRESH
header adds them to the pass and to used today, and has spent evaluated; the pass goes on, or ramps down at its dose.
-/
def Obligations.FreshAccountIsKept : Prop :=
  (∀ (value : Long) (s : State), ∃ t, exec (.setAllowance value) s = .next t
    ∧ t = { s with
        port := t.port, notices := t.notices, dispatch := { s.dispatch with due := s.dispatch.due + 1 }
        water := { s.water with allowance := value.toNat, spent := t.water.spent } }
    ∧ t.freshAvailable = value.toNat - s.water.usedToday - s.committed .fresh
    ∧ (t.water.spent = true ↔ t.freshAvailable < 50)
    ∧ t.notices = { s.notices with flags := { s.notices.flags with
        water := s.notices.flags.water || (t.water.spent && !s.water.spent) } }
    ∧ t.port = s.replied .ok 0x59 (be32 value.toNat ++ be32 s.water.usedToday ++ be32 (s.committed .fresh)
        ++ be32 t.freshAvailable)
    ∧ (∀ d, t.reserves .fresh d = true ↔ d ≤ t.freshAvailable)
    ∧ (value.toNat ≤ s.water.usedToday → t.freshAvailable = 0))
  ∧ (∀ s : State,
    (s.clock.minute / 1440 = s.water.countedDay → exec .dayRollover s = .next s)
    ∧ (s.clock.minute / 1440 ≠ s.water.countedDay → ∃ t, exec .dayRollover s = .next t
        ∧ t = { s with
            notices := t.notices, dispatch := { s.dispatch with due := s.dispatch.due + 1 }
            water := { s.water with usedToday := 0, countedDay := s.clock.minute / 1440, spent := t.water.spent } }
        ∧ (t.water.spent = true ↔ s.water.allowance - s.committed .fresh < 50)
        ∧ t.notices = { s.notices with flags := { s.notices.flags with
            water := s.notices.flags.water || (t.water.spent && !s.water.spent) } }))
  ∧ (∀ (a k last litres d : Nat) (rest : List Nat) (n : Node) (c : Cannon) (o : Order) (p : Pass) (r : NodeReport)
      (meter : Half) (s : State),
    a ≤ 31 → s.loop.phase = .exchange a .poll rest → s.node? a = some n → n.owner = .cannon k → n.lost = false →
    s.cannon? k = some c → c.config.node = a → c.state = .spraying → c.bound = some o.id → s.order? o.id = some o →
    o.pass = some p → p.meterStart ≠ none → c.header = some .fresh → c.meterLast = some last → last < 65536 →
    litres = (meter.toNat + 65536 - last) % 65536 → r.overload = false → r.valve ≠ .closed →
    d = min 65535 (p.delivered + litres) →
    ∃ t, exec (.validReply ((NodeReply.cannon r meter.toNat).bytes a)) s = .next t
      ∧ t = { s with
          notices := t.notices, cannons := t.cannons, events := s.events + 1
          dispatch := { s.dispatch with orders := t.dispatch.orders }
          loop := { s.loop with nodes := t.loop.nodes, phase := .between rest }
          water := { s.water with
            usedToday := min 4294967295 (s.water.usedToday + litres), spent := decide (t.freshAvailable < 50) } }
      ∧ t.notices = { s.notices with flags := { s.notices.flags with
          water := s.notices.flags.water || (t.water.spent && !s.water.spent) } }
      ∧ t.order? o.id = some { o with pass := some { p with
          delivered := d, state := if d < p.dose - c.config.rampAllowance then p.state else .rampDown } }
      ∧ (∀ i, i ≠ o.id → t.order? i = s.order? i) ∧ (∀ i, i ≠ k → t.cannon? i = s.cannon? i))

/-! ## The permit table -/

/-- REQUEST-PERMIT: the refusals in their order; on a pile at its working moisture where nothing runs the permit is
GRANTED within the command, and ZONE joins every open order on the pile; where a pass sprays on it, ZONE joins them too,
that pass is ramped down and the permit stays CLEARING; on a dry pile it waits: it shares the PREWET order the pile has
open; with 32 orders open it stays PENDING-WET with its prewet order id absent; otherwise a PREWET order of the prewet
dose is placed, in the entry of the order that ended first where all 32 are taken. Occasions and events, and with them
which order ended first, are counted as the model counts them (log entries 4 and 18). -/
def Obligations.RequestPermitGrantsOrPrewets : Prop :=
  ∀ (machine kind : Byte) (tag : Half) (k : PermitKind) (s : State),
    ((machine.toNat = 0 ∨ 63 < machine.toNat ∨ 2 < kind.toNat ∨ tag = 0) →
      exec (.requestPermit machine kind tag) s = .next { s with port := s.replied .badArgument 0x60 [] })
    ∧ (1 ≤ machine.toNat → machine.toNat ≤ 63 → k.code = kind.toNat → tag ≠ 0 →
        (s.pileAt? tag.toNat = none →
          exec (.requestPermit machine kind tag) s = .next { s with port := s.replied .unknown 0x60 [] })
        ∧ ∀ (slot : Nat) (p : Pile) (conflict : Prop), s.pileAt? tag.toNat = some (slot, p) →
            (conflict ↔ if k = .dozer
              then 2 ≤ (s.permits.list.countP fun x => decide (x.tag = tag.toNat ∧ x.kind = .dozer))
              else ∃ x ∈ s.permits.list, x.tag = tag.toNat ∧ x.kind ≠ .dozer) →
            ((p.life = .retiring ∨ p.retirePending = true) →
              exec (.requestPermit machine kind tag) s = .next { s with port := s.replied .retiring 0x60 [] })
            ∧ (p.life = .live → p.retirePending = false →
                ((∃ x ∈ s.permits.list, x.machine = machine.toNat) →
                  exec (.requestPermit machine kind tag) s = .next { s with port := s.replied .machineBusy 0x60 [] })
                ∧ ((∀ x ∈ s.permits.list, x.machine ≠ machine.toNat) →
                    (conflict → exec (.requestPermit machine kind tag) s = .next { s with
                      port := s.replied .conflict 0x60 [] })
                    ∧ (¬ conflict → 16 ≤ s.permits.list.length →
                        exec (.requestPermit machine kind tag) s = .next { s with port := s.replied .full 0x60 [] })
                    ∧ (¬ conflict → s.permits.list.length < 16 → 1 ≤ s.permits.nextId → s.permits.nextId ≤ 255 →
                        ∀ g, Table.get s.grades p.grade = some g → ∃ (t : State) (x : Permit),
                          exec (.requestPermit machine kind tag) s = .next t
                          ∧ (∀ y ∈ s.permits.list, y.id ≠ x.id) ∧ 1 ≤ x.id ∧ x.id ≤ 255
                          ∧ ((∀ y ∈ s.permits.list, y.id ≠ s.permits.nextId) → x.id = s.permits.nextId)
                          ∧ x = ⟨x.id, machine.toNat, k, tag.toNat, x.state, s.clock.minute, s.clock.minute, x.prewetOrder⟩
                          ∧ (g.mwork ≤ p.m → s.dispatch.orders = [] → s.cannons = [] →
                              (∀ y ∈ s.permits.list, y.tag = tag.toNat → y.state ≠ .clearing) →
                              t = { s with
                                port := s.replied .ok 0x60 ([0] ++ be8 x.id ++ [2, 0, 0]), events := s.events + 1
                                permits := { s.permits with list := s.permits.list ++ [x], nextId := x.id % 255 + 1 } }
                              ∧ x.state = .granted ∧ x.prewetOrder = none)
                          ∧ (p.m < g.mwork → x.state = .pendingWet
                            ∧ t = { s with
                                port := t.port, events := s.events + 1, dispatch := t.dispatch
                                permits := { s.permits with list := s.permits.list ++ [x], nextId := x.id % 255 + 1 } }
                            -- the order the pile has open already is shared
                            ∧ (∀ o, s.dispatch.orders.find? (fun y =>
                                  y.tag == tag.toNat && y.state != .ended && y.origin == .prewet) = some o →
                                x.prewetOrder = some o.id ∧ t.dispatch = s.dispatch
                                ∧ t.port = s.replied .ok 0x60 ([1] ++ be8 x.id ++ [0] ++ be16 o.id))
                            ∧ ((∀ y ∈ s.dispatch.orders, y.tag = tag.toNat → y.origin = .prewet → y.state = .ended) →
                                (32 ≤ (s.dispatch.orders.countP fun y => y.state != .ended) →
                                  x.prewetOrder = none ∧ t.dispatch = s.dispatch
                                  ∧ t.port = s.replied .ok 0x60 ([0] ++ be8 x.id ++ [0, 0, 0]))
                                ∧ ((s.dispatch.orders.countP fun y => y.state != .ended) < 32 → s.dispatch.orders.length ≤ 32 →
                                  50 ≤ s.dispatch.maxDose → 1 ≤ s.dispatch.nextId → s.dispatch.nextId ≤ 65535 →
                                  ∃ o, prewetPlaced s t p g o ∧ x.prewetOrder = some o.id
                                    ∧ t.dispatch.due = s.dispatch.due + 1
                                    ∧ t.port = s.replied .ok 0x60 ([1] ++ be8 x.id ++ [0] ++ be16 o.id)))))
                    ∧ (¬ conflict → s.permits.list.length < 16 → 1 ≤ s.permits.nextId → s.permits.nextId ≤ 255 →
                        (∀ y ∈ s.permits.list, y.tag = tag.toNat → y.state ≠ .clearing) →
                        (s.dispatch.orders.map fun o => o.id).Nodup → s.dispatch.orders.length ≤ 32 →
                        ∀ g, Table.get s.grades p.grade = some g → g.mwork ≤ p.m → ∀ zoned : Order → Order,
                          zoned = (fun o => if o.tag = tag.toNat ∧ o.state ≠ .ended ∧ o.suspension.zone = false then { o with
                            suspension := { o.suspension with zone := true }
                            starved := o.starved && decide (o.state ≠ .waiting) } else o) →
                          ∃ x : Permit,
                            x = ⟨x.id, machine.toNat, k, tag.toNat, x.state, s.clock.minute, s.clock.minute, none⟩
                            ∧ (∀ y ∈ s.permits.list, y.id ≠ x.id) ∧ 1 ≤ x.id ∧ x.id ≤ 255
                            ∧ ((∀ o ∈ s.dispatch.orders, o.tag = tag.toNat → o.pass = none) →
                                (∀ e ∈ s.cannons, (∃ v ∈ e.2.config.coverage, v.tag = tag.toNat) → e.2.bound = none →
                                  e.2.closeWait = none) →
                                x.state = .granted ∧ exec (.requestPermit machine kind tag) s = .next { s with
                                  port := s.replied .ok 0x60 ([0] ++ be8 x.id ++ [2, 0, 0]), events := s.events + 1
                                  permits := { s.permits with list := s.permits.list ++ [x], nextId := x.id % 255 + 1 }
                                  dispatch := { s.dispatch with orders := s.dispatch.orders.map zoned } })
                            ∧ ∀ (o : Order) (q : Pass) (c : Cannon) (n : Node), o ∈ s.dispatch.orders → o.tag = tag.toNat →
                                o.state = .active → o.suspension.zone = false → o.pass = some q → q.state = .spraying →
                                (∀ y ∈ s.dispatch.orders, y.tag = tag.toNat → y.id ≠ o.id → y.pass = none) →
                                s.cannon? q.cannon = some c → c.state = .spraying → c.bound = some o.id →
                                s.node? c.config.node = some n →
                                x.state = .clearing ∧ ∃ t, exec (.requestPermit machine kind tag) s = .next t
                                  ∧ t = { s with
                                      port := s.replied .ok 0x60 ([0] ++ be8 x.id ++ [1, 0, 0]), events := s.events + 1
                                      permits := { s.permits with list := s.permits.list ++ [x], nextId := x.id % 255 + 1 }
                                      cannons := t.cannons, loop := { s.loop with nodes := t.loop.nodes }
                                      dispatch := { s.dispatch with
                                        orders := s.dispatch.orders.map fun y =>
                                          if y.id = o.id then { zoned y with pass := some { q with state := .rampDown } }
                                          else zoned y } }
                                  ∧ t.cannon? q.cannon = some { c with
                                      state := .rampDown, closeWait := some (c.closeWait.getD (c.config.rampTime + 5))
                                      blankingOn := false }
                                  ∧ (∀ i, i ≠ q.cannon → t.cannon? i = s.cannon? i)
                                  ∧ t.node? c.config.node = some { n with slot := some .close }
                                  ∧ (∀ i, i ≠ c.config.node → t.node? i = s.node? i)))))

/-- RELEASE-PERMIT: the refusals, with the machine's outcome entry where it holds no permit. The withdrawal of a permit
that waits for working moisture: it cancels the open prewet order it names unless another waiting permit names it too,
an order that waits ending CANCELLED at once and a spraying pass ramping down. The withdrawal of a permit that clears,
and the release of a granted one on a pile not emptied, with the blend: on a LIVE pile where no other permit is CLEARING
or GRANTED, ZONE leaves the pile's open orders, and each waiting order whose set is thereby emptied occasions an
arbitration (counted: log entry 4). The release of a granted one on a pile emptied by it, or by an earlier release that
left the pile retire-pending: the other permits of the pile that wait or clear end REFUSED-RETIRED and the granted ones
are kept; while one stands the pile is LIVE with retire-pending, and otherwise it retires, its open orders are cancelled
and its slot is freed. The code of the pile's state in the release reply, LIVE 0 to FREE 3, and the presence bits of the
outcome entry are the model's choices (log entries 14 and 41); events are counted as in log entry 18. -/
def Obligations.ReleasePermitBlendsAndEnds : Prop :=
  ∀ (a : ReleaseArgs) (s : State),
    ((a.machine.toNat = 0 ∨ 63 < a.machine.toNat) →
      exec (.releasePermit a) s = .next { s with port := s.replied .badArgument 0x61 [] })
    ∧ (1 ≤ a.machine.toNat → a.machine.toNat ≤ 63 →
        ((∀ x ∈ s.permits.list, x.machine ≠ a.machine.toNat) →
          (Table.get s.permits.outcomes a.machine.toNat = none →
            exec (.releasePermit a) s = .next { s with
              port := s.replied .unknown 0x61 [0, 0, 0, 0, 0, 0, 0, 0, 0, 0, 0] })
          ∧ ∀ e, Table.get s.permits.outcomes a.machine.toNat = some e →
              exec (.releasePermit a) s = .next { s with
                port := s.replied .unknown 0x61 ([if e.m = none then 1 else 3] ++ be8 e.outcome.code ++ be32 e.minute
                  ++ be16 e.tag ++ be8 e.permitId ++ be16 (e.m.getD 0)) })
        ∧ ∀ x, s.permit? a.machine.toNat = some x →
            (x.state = .granted → ((x.kind = .stacker ∧ a.tonnage.toInt < 0) ∨ (x.kind = .reclaimer ∧ 0 < a.tonnage.toInt)) →
              exec (.releasePermit a) s = .next { s with port := s.replied .badArgument 0x61 [] })
            ∧ (x.state = .clearing → s.permits.list = [x] → s.dispatch.orders = [] →
                (∀ slot p, s.pileAt? x.tag = some (slot, p) → p.retirePending = false) →
                exec (.releasePermit a) s = .next { s with
                  port := s.replied .ok 0x61 [1], events := s.events + 1
                  permits := { s.permits with
                    list := [], outcomes := Table.set s.permits.outcomes x.machine
                      ⟨.released, s.clock.minute, x.tag, x.id, none⟩ } })
            ∧ (x.state = .pendingWet → (∀ slot p, s.pileAt? x.tag = some (slot, p) → p.life = .live ∧ p.retirePending = false) →
                ∀ (rest : List Permit) (left : Permits), rest = s.permits.list.filter (fun y => y.machine != x.machine) →
                left = { s.permits with
                  list := rest, outcomes := Table.set s.permits.outcomes x.machine
                    ⟨.released, s.clock.minute, x.tag, x.id, none⟩ } →
                ((x.prewetOrder = none ∨ ∃ y ∈ rest, y.state = .pendingWet ∧ y.prewetOrder = x.prewetOrder) →
                  exec (.releasePermit a) s = .next { s with
                    port := s.replied .ok 0x61 [1], events := s.events + 1, permits := left })
                ∧ ∀ o, x.prewetOrder = some o.id → s.order? o.id = some o →
                  (∀ y ∈ rest, y.state = .pendingWet → y.prewetOrder ≠ x.prewetOrder) →
                  (o.state = .ended → exec (.releasePermit a) s = .next { s with
                    port := s.replied .ok 0x61 [1], events := s.events + 1, permits := left })
                  ∧ ((o.state = .waiting ∨ o.state = .volleyHeld) →
                      (∀ slot p, s.pileAt? o.tag = some (slot, p) → p.life = .live) →
                      exec (.releasePermit a) s = .next { s with
                        port := s.replied .ok 0x61 [1], events := s.events + 1, permits := left
                        notices := s.notices.hand .order o.id
                        dispatch := { s.dispatch with orders := s.dispatch.orders.map fun y => if y.id = o.id then { y with
                          state := .ended, outcome := some .cancelled, endedMinute := some s.clock.minute
                          endedEvent := s.events + 1, starved := false } else y } })
                  ∧ ∀ (q : Pass) (c : Cannon) (n : Node), o.state = .active → o.cancelPending = false → o.pass = some q →
                      q.state = .spraying → s.cannon? q.cannon = some c → c.state = .spraying → c.bound = some o.id →
                      s.node? c.config.node = some n →
                      ∃ t, exec (.releasePermit a) s = .next t
                        ∧ t = { s with
                            port := s.replied .ok 0x61 [1], events := s.events + 1, permits := left, cannons := t.cannons
                            loop := { s.loop with nodes := t.loop.nodes }
                            dispatch := { s.dispatch with orders := t.dispatch.orders } }
                        ∧ t.order? o.id = some { o with
                            cancelPending := true, pass := some { q with state := .rampDown } }
                        ∧ (∀ k, k ≠ o.id → t.order? k = s.order? k)
                        ∧ t.cannon? q.cannon = some { c with
                            state := .rampDown, closeWait := some (c.closeWait.getD (c.config.rampTime + 5))
                            blankingOn := false }
                        ∧ (∀ k, k ≠ q.cannon → t.cannon? k = s.cannon? k)
                        ∧ t.node? c.config.node = some { n with slot := some .close }
                        ∧ (∀ k, k ≠ c.config.node → t.node? k = s.node? k))
            ∧ (∀ (rest : List Permit) (slot : Nat) (p : Pile) (g : Grade) (m : Nat) (left : Option Nat → PermitOutcome → Permits)
                (lifted : Dispatcher),
                rest = s.permits.list.filter (fun y => y.machine != x.machine) → s.pileAt? x.tag = some (slot, p) →
                p.life = .live → p.retirePending = false → Table.get s.grades p.grade = some g → Table.wf s.piles = true →
                m = (p.m * (100 - min a.f.toNat 100)
                  + min ((a.mf.map fun v => v.toNat).getD p.mcore) g.msat * min a.f.toNat 100 + 50) / 100 →
                (∀ y ∈ rest, y.tag = x.tag → y.state = .pendingWet → m < g.mwork) →
                (∀ v w, left v w = { s.permits with
                  list := rest, outcomes := Table.set s.permits.outcomes x.machine ⟨w, s.clock.minute, x.tag, x.id, v⟩ }) →
                (s.dispatch.orders.map fun o => o.id).Nodup →
                lifted = (if ∃ y ∈ rest, y.tag = x.tag ∧ y.state ≠ .pendingWet then s.dispatch else { s.dispatch with
                  orders := s.dispatch.orders.map fun o => if o.tag = x.tag ∧ o.state ≠ .ended then { o with
                    suspension := { o.suspension with zone := false } } else o
                  due := s.dispatch.due + s.dispatch.orders.countP fun o => decide (o.tag = x.tag ∧ o.state = .waiting
                    ∧ o.suspension.zone = true ∧ o.suspension.host = false ∧ o.suspension.hold = false) }) →
                (x.state = .clearing → exec (.releasePermit a) s = .next { s with
                  port := s.replied .ok 0x61 [1], events := s.events + 1, permits := left none .released
                  dispatch := lifted })
                ∧ (x.state = .granted → a.emptied = false → (x.kind = .stacker → 0 ≤ a.tonnage.toInt) →
                    (x.kind = .reclaimer → a.tonnage.toInt ≤ 0) → exec (.releasePermit a) s = .next { s with
                      port := s.replied .ok 0x61 ([0] ++ be16 m ++ [0])
                      piles := Table.update s.piles slot fun q => { q with m := m }, events := s.events + 1
                      permits := left (some m) .grantedEnd, dispatch := lifted }))
            ∧ (x.state = .granted → (x.kind = .stacker → 0 ≤ a.tonnage.toInt) →
                (x.kind = .reclaimer → a.tonnage.toInt ≤ 0) →
                ∀ (gone rest : List Permit) (slot : Nat) (p : Pile) (g : Grade) (m : Nat) (closed : Order → Order),
                s.pileAt? x.tag = some (slot, p) → p.life = .live → Table.get s.grades p.grade = some g →
                Table.wf s.piles = true → (s.piles.map fun e => e.2.tag).Nodup → s.permits.list.length ≤ 16 →
                (s.permits.list.map fun y => y.machine).Nodup → (s.dispatch.orders.map fun o => o.id).Nodup →
                s.dispatch.orders.length ≤ 32 →
                gone = s.permits.list.filter (fun y => decide (y.tag = x.tag ∧ y.machine ≠ x.machine ∧ y.state ≠ .granted)) →
                (a.emptied = true ∨ (p.retirePending = true ∧ gone = [])) →
                rest = s.permits.list.filter (fun y => decide (y.machine ≠ x.machine ∧ ¬ (y.tag = x.tag ∧ y.state ≠ .granted))) →
                m = (p.m * (100 - min a.f.toNat 100)
                  + min ((a.mf.map fun v => v.toNat).getD p.mcore) g.msat * min a.f.toNat 100 + 50) / 100 →
                (∀ o ∈ s.dispatch.orders, o.tag = x.tag → o.state ≠ .active) →
                (∀ y ∈ s.permits.list, ∀ o ∈ s.dispatch.orders, y.prewetOrder = some o.id → (o.tag = x.tag ↔ y.tag = x.tag)) →
                closed = (fun o => { o with
                  state := .ended, outcome := some .cancelled, endedMinute := some s.clock.minute
                  endedEvent := s.events + 1, starved := false }) →
                ∃ t, exec (.releasePermit a) s = .next t
                  ∧ t.permits = { s.permits with
                      list := rest
                      outcomes := Table.set (gone.foldl (fun acc y => Table.set acc y.machine
                          ⟨.refusedRetired, s.clock.minute, y.tag, y.id, none⟩) s.permits.outcomes) x.machine
                        ⟨.grantedEnd, s.clock.minute, x.tag, x.id, some m⟩ }
                  ∧ (∀ i, i ∈ t.notices.permits ↔ i ∈ s.notices.permits ∨ ∃ y ∈ gone, y.machine = i)
                  ∧ t = { s with
                      port := t.port, events := s.events + 1, permits := t.permits, piles := t.piles, notices := t.notices
                      dispatch := { s.dispatch with orders := t.dispatch.orders } }
                  ∧ ((∃ y ∈ rest, y.tag = x.tag) → t.port = s.replied .ok 0x61 ([0] ++ be16 m ++ [1])
                      ∧ t.piles = Table.update s.piles slot (fun q => { q with m := m, retirePending := true })
                      ∧ t.dispatch.orders = s.dispatch.orders.map (fun o =>
                        if o.state ≠ .ended ∧ ∃ y ∈ gone, y.state = .pendingWet ∧ y.prewetOrder = some o.id then closed o else o)
                      ∧ t.notices.piles = s.notices.piles)
                  ∧ ((∀ y ∈ rest, y.tag ≠ x.tag) → t.port = s.replied .ok 0x61 ([0] ++ be16 m ++ [3])
                      ∧ t.piles = Table.erase s.piles slot
                      ∧ t.dispatch.orders = s.dispatch.orders.map (fun o =>
                        if o.state ≠ .ended ∧ o.tag = x.tag then closed o else o)
                      ∧ (∀ i, i ∈ t.notices.orders ↔ i ∈ s.notices.orders
                          ∨ ∃ o ∈ s.dispatch.orders, o.state ≠ .ended ∧ o.tag = x.tag ∧ o.id = i)
                      ∧ t.notices.piles = insertKey s.notices.piles slot))
            ∧ (x.state = .granted → (x.kind = .stacker → 0 ≤ a.tonnage.toInt) → (x.kind = .reclaimer → a.tonnage.toInt ≤ 0) →
                s.permits.list = [x] → s.dispatch.orders = [] →
                ∀ slot p g m, s.piles = [(slot, p)] → p.tag = x.tag → p.life = .live → p.retirePending = false →
                  Table.get s.grades p.grade = some g →
                  m = (p.m * (100 - min a.f.toNat 100)
                    + min ((a.mf.map fun v => v.toNat).getD p.mcore) g.msat * min a.f.toNat 100 + 50) / 100 →
                  (a.emptied = false → exec (.releasePermit a) s = .next { s with
                    port := s.replied .ok 0x61 ([0] ++ be16 m ++ [0]), piles := [(slot, { p with m := m })]
                    events := s.events + 1
                    permits := { s.permits with
                      list := [], outcomes := Table.set s.permits.outcomes x.machine
                        ⟨.grantedEnd, s.clock.minute, x.tag, x.id, some m⟩ } })
                  ∧ (a.emptied = true → exec (.releasePermit a) s = .next { s with
                    port := s.replied .ok 0x61 ([0] ++ be16 m ++ [3]), piles := [], events := s.events + 1
                    notices := (s.notices.hand .pile slot).hand .pile slot
                    permits := { s.permits with
                      list := [], outcomes := Table.set s.permits.outcomes x.machine
                        ⟨.grantedEnd, s.clock.minute, x.tag, x.id, some m⟩ } })))

/-- A max hold reached ends the permit LAPSED with a blend by the grade's fdef and Mcore, and marks the pile estimated,
and the last permit of a retire-pending pile takes the pile with it; a prewet wait reached ends it REFUSED-TOO-DRY and
cancels the order that waits for it alone; a limit not reached changes nothing. SET-PERMIT-LIMITS is refused out of
range, and otherwise writes the four limits, ends within the command and in request order the permits that have reached
a new one, none, one or several, and answers their number. At a change of the yard minute the permits that have reached
a limit end so too, the prewet waits before the max holds and both before a permit asks again for a PREWET order (log
entries 5 and 38); the day rollover at that change, which occasions an arbitration and may raise WATER, goes by the
counted day, and occasions are counted (log entries 19 and 4). The yards stated for several: no pass runs for a prewet
order so cancelled, and no order and no waiting permit stands on the pile of a permit that lapses. Events are counted as
in log entry 18. -/
def Obligations.PermitLimitsExpire : Prop :=
  (∀ (number : Byte) (x : Permit) (s : State), s.permit? number.toNat = some x →
    (∀ hold, hold = (match x.kind with
        | .stacker => s.permits.maxHold.stacker | .reclaimer => s.permits.maxHold.reclaimer
        | .dozer => s.permits.maxHold.dozer) →
      ((x.state ≠ .granted ∨ s.clock.minute < x.entered + hold) → 1 ≤ hold →
        exec (.maxHoldLapse number) s = .next { s with events := s.events + 1 })
      ∧ (x.state = .granted → x.entered + hold ≤ s.clock.minute → s.permits.list = [x] → s.dispatch.orders = [] →
          ∀ slot p g m, s.piles = [(slot, p)] → p.tag = x.tag → p.life = .live →
            Table.get s.grades p.grade = some g → g.fdef ≤ 100 →
            m = (p.m * (100 - g.fdef) + min p.mcore g.msat * g.fdef + 50) / 100 →
            ∀ (told : Notices) (left : Permits),
            told = (if p.estimated then s.notices else s.notices.hand .pile slot).hand .permit x.machine →
            left = { s.permits with
              list := [], outcomes := Table.set s.permits.outcomes x.machine
                ⟨.lapsed, s.clock.minute, x.tag, x.id, some m⟩ } →
            (p.retirePending = false → exec (.maxHoldLapse number) s = .next { s with
              piles := [(slot, { p with m := m, estimated := true })], events := s.events + 1, notices := told
              permits := left })
            -- the last permit of a pile that waits to retire takes the pile with it
            ∧ (p.retirePending = true → exec (.maxHoldLapse number) s = .next { s with
              piles := [], events := s.events + 1, notices := (told.hand .pile slot).hand .pile slot, permits := left })))
    ∧ ((x.state ≠ .pendingWet ∨ s.clock.minute < x.entered + s.permits.prewetWait) → 1 ≤ s.permits.prewetWait →
        exec (.prewetWaitExpiry number) s = .next { s with events := s.events + 1 })
    ∧ (∀ o, x.state = .pendingWet → x.entered + s.permits.prewetWait ≤ s.clock.minute → s.permits.list = [x] →
        s.dispatch.orders = [o] → x.prewetOrder = some o.id → o.state = .waiting →
        (∀ slot p, s.pileAt? x.tag = some (slot, p) → p.life = .live ∧ p.retirePending = false) →
        (∀ slot p, s.pileAt? o.tag = some (slot, p) → p.life = .live) →
        exec (.prewetWaitExpiry number) s = .next { s with
          events := s.events + 1, notices := (s.notices.hand .permit x.machine).hand .order o.id
          dispatch := { s.dispatch with orders := [{ o with
            state := .ended, outcome := some .cancelled, endedMinute := some s.clock.minute
            endedEvent := s.events + 1, starved := false }] }
          permits := { s.permits with
            list := [], outcomes := Table.set s.permits.outcomes x.machine
              ⟨.refusedTooDry, s.clock.minute, x.tag, x.id, none⟩ } }))
  ∧ (∀ (prewet : Byte) (stacker reclaimer dozer : Half) (bad : Prop) (written : Permits → Permits) (s : State),
    (∀ z, written z = { z with
      prewetWait := prewet.toNat, maxHold := ⟨stacker.toNat, reclaimer.toNat, dozer.toNat⟩ }) →
    (bad ↔ prewet.toNat < 5 ∨ 240 < prewet.toNat
      ∨ ∃ v, (v = stacker.toNat ∨ v = reclaimer.toNat ∨ v = dozer.toNat) ∧ (v < 10 ∨ 1440 < v)) →
    (bad → exec (.setPermitLimits prewet stacker reclaimer dozer) s = .next { s with
      port := s.replied .badArgument 0x62 [] })
    ∧ (¬ bad → s.permits.list.length ≤ 16 →
        (∀ y ∈ s.permits.list, s.permit? y.machine = some y
          ∧ (y.state = .pendingWet → s.clock.minute < y.entered + prewet.toNat)
          ∧ (y.state = .granted → s.clock.minute < y.entered + match y.kind with
              | .stacker => stacker.toNat | .reclaimer => reclaimer.toNat | .dozer => dozer.toNat)) →
        exec (.setPermitLimits prewet stacker reclaimer dozer) s = .next { s with
          events := s.events + 1
          permits := { s.permits with
            prewetWait := prewet.toNat, maxHold := ⟨stacker.toNat, reclaimer.toNat, dozer.toNat⟩ }
          port := s.replied .ok 0x62 (be8 prewet.toNat ++ be16 stacker.toNat ++ be16 reclaimer.toNat
            ++ be16 dozer.toNat ++ [0]) })
    ∧ (¬ bad → ∀ (x : Permit) (hold : Nat), s.permits.list = [x] →
        (hold = match x.kind with
          | .stacker => stacker.toNat | .reclaimer => reclaimer.toNat | .dozer => dozer.toNat) →
        (∀ slot p g m, x.state = .granted → x.entered + hold ≤ s.clock.minute → s.dispatch.orders = [] →
          s.piles = [(slot, p)] → p.tag = x.tag → p.life = .live → p.retirePending = false →
          Table.get s.grades p.grade = some g → g.fdef ≤ 100 →
          m = (p.m * (100 - g.fdef) + min p.mcore g.msat * g.fdef + 50) / 100 →
          exec (.setPermitLimits prewet stacker reclaimer dozer) s = .next { s with
            piles := [(slot, { p with m := m, estimated := true })], events := s.events + 1
            notices := (if p.estimated then s.notices else s.notices.hand .pile slot).hand .permit x.machine
            permits := { written s.permits with
              list := [], outcomes := Table.set s.permits.outcomes x.machine
                ⟨.lapsed, s.clock.minute, x.tag, x.id, some m⟩ }
            port := s.replied .ok 0x62 (be8 prewet.toNat ++ be16 stacker.toNat ++ be16 reclaimer.toNat
              ++ be16 dozer.toNat ++ [1]) })
        ∧ (∀ o, x.state = .pendingWet → x.entered + prewet.toNat ≤ s.clock.minute → s.dispatch.orders = [o] →
          x.prewetOrder = some o.id → o.state = .waiting →
          (∀ slot p, s.pileAt? x.tag = some (slot, p) → p.life = .live ∧ p.retirePending = false) →
          (∀ slot p, s.pileAt? o.tag = some (slot, p) → p.life = .live) →
          exec (.setPermitLimits prewet stacker reclaimer dozer) s = .next { s with
            events := s.events + 1, notices := (s.notices.hand .permit x.machine).hand .order o.id
            dispatch := { s.dispatch with orders := [{ o with
              state := .ended, outcome := some .cancelled, endedMinute := some s.clock.minute
              endedEvent := s.events + 1, starved := false }] }
            permits := { written s.permits with
              list := [], outcomes := Table.set s.permits.outcomes x.machine
                ⟨.refusedTooDry, s.clock.minute, x.tag, x.id, none⟩ }
            port := s.replied .ok 0x62 (be8 prewet.toNat ++ be16 stacker.toNat ++ be16 reclaimer.toNat
              ++ be16 dozer.toNat ++ [1]) }))
    ∧ (¬ bad → ∀ (hold : PermitKind → Nat) (due : Permit → Bool),
        hold .stacker = stacker.toNat → hold .reclaimer = reclaimer.toNat → hold .dozer = dozer.toNat →
        (∀ y, due y = true ↔ limitReached s.clock.minute prewet.toNat hold y) → expiriesApart due s →
        ∃ t, exec (.setPermitLimits prewet stacker reclaimer dozer) s = .next t
          ∧ permitsRunOut s.clock.minute due (s.permits.list.filter due) s t
          ∧ t.notices.flags.water = s.notices.flags.water
          ∧ t = { s with
              events := s.events + 1, piles := t.piles, notices := t.notices
              dispatch := { s.dispatch with orders := t.dispatch.orders }
              permits := { written s.permits with list := t.permits.list, outcomes := t.permits.outcomes }
              port := s.replied .ok 0x62 (be8 prewet.toNat ++ be16 stacker.toNat ++ be16 reclaimer.toNat
                ++ be16 dozer.toNat ++ be8 (s.permits.list.countP due)) }))
  -- the limits that stand, reached at a change of the minute at which the weather finds the values it had
  ∧ ∀ (minute : Long) (hold : PermitKind → Nat) (due : Permit → Bool) (s : State), minute.toNat ≠ s.clock.minute →
    hold .stacker = s.permits.maxHold.stacker → hold .reclaimer = s.permits.maxHold.reclaimer →
    hold .dozer = s.permits.maxHold.dozer →
    (∀ y, due y = true ↔ limitReached minute.toNat s.permits.prewetWait hold y) → expiriesApart due s →
    1 ≤ s.permits.prewetWait → (∀ k, 1 ≤ hold k) →
    State.weatherNow { s with clock := { s.clock with minute := minute.toNat } } = s.wind.weather →
    (∀ o ∈ s.dispatch.orders, (o.state = .volleyHeld ∨ o.state = .waiting) →
      minute.toNat ≤ o.lapseRef + s.dispatch.lapseTime) →
    (∀ y ∈ s.permits.list, y.state = .pendingWet → y.prewetOrder = none → due y = true) →
    ∃ t, exec (.setClock true minute) s = .next t
      ∧ permitsRunOut minute.toNat due ((s.permits.list.filter fun y => due y && y.state == .pendingWet)
          ++ s.permits.list.filter fun y => due y && y.state == .granted) s t
      ∧ (minute.toNat / 1440 = s.water.countedDay → t.notices.flags.water = s.notices.flags.water)
      ∧ t = { s with
          events := s.events + 1, piles := t.piles, notices := t.notices, clock := t.clock, wind := t.wind
          cannons := t.cannons, water := t.water
          dispatch := { s.dispatch with
            orders := t.dispatch.orders
            due := s.dispatch.due + if minute.toNat / 1440 = s.water.countedDay then 0 else 1 }
          permits := { s.permits with list := t.permits.list, outcomes := t.permits.outcomes } }

/-! ## The yard loop -/

/-- SET-LOOP: the period is refused, and left, below 100, above 2500 or off a multiple of 20; taken, it is written and
answered, and it governs the timer from the next round start on. -/
def Obligations.SetLoopWritesThePeriod : Prop :=
  ∀ (period : Half) (s : State),
    ((period.toNat < 100 ∨ 2500 < period.toNat ∨ period.toNat % 20 ≠ 0) →
      exec (.setLoop period) s = .next { s with port := s.replied .badArgument 0x68 [] })
    ∧ (100 ≤ period.toNat → period.toNat ≤ 2500 → period.toNat % 20 = 0 →
        exec (.setLoop period) s = .next { s with
          port := s.replied .ok 0x68 (be16 period.toNat), loop := { s.loop with period := period.toNat } })
    ∧ (s.loop.running = true → s.loop.phase = .noRound →
        ∃ t, exec .roundStart s = .next t ∧ t.loop.timer = .running s.loop.period ∧ t.loop.period = s.loop.period)
    ∧ (∀ pins : BitVec 4, ∃ t u, exec (.powerOnReset pins) s = .next t ∧ exec (.resetYard pins) s = .next u
        ∧ t.loop.period = 500 ∧ u.loop.period = 500)

/-- The events that move a round on: its start at the timer's expiry, the call winner served first and then, in ascending
address, each node that is not lost or is due a probe; an overrun; a message with what it carries; CALL; the end of the
call slot. An event out of its place changes nothing (log entry 1); a node that is LOST when it is served is sent a
PROBE, the call winner too (log entry 21); the call winner is absent from the round start on (log entry 46); loop.line holds
the bytes last driven on TXD (log entry 16). -/
def Obligations.RoundsMoveOn : Prop :=
  ∀ s : State,
    (s.loop.running = true → s.loop.phase = .noRound → ∃ (t : State) (todo : List Nat), exec .roundStart s = .next t
      ∧ t = { s with loop := { s.loop with
          roundCount := (s.loop.roundCount + 1) % 4294967296, timer := .running s.loop.period, nodes := t.loop.nodes
          winner := none, phase := .between todo } }
      ∧ (s.loop.winner = none → todo = (s.loop.nodes.filter fun e =>
          !e.2.lost || decide (e.2.countdown.getD 0 ≤ 1)).map fun e => e.1)
      ∧ (∀ w, s.loop.winner = some w → todo = w :: (s.loop.nodes.filter fun e =>
          e.1 != w && (!e.2.lost || decide (e.2.countdown.getD 0 ≤ 1))).map fun e => e.1)
      ∧ (∀ a, s.node? a = none → t.node? a = none)
      ∧ ∀ a n, s.node? a = some n → (n.lost = false → t.node? a = some n)
          ∧ (∀ k, n.lost = true → n.countdown = some (k + 1) →
              t.node? a = some { n with countdown := some (if k = 0 then 8 else k) }))
    ∧ ((s.loop.running = false ∨ s.loop.phase ≠ .noRound) → exec .roundStart s = .next s)
    ∧ (∀ p, s.loop.timer = .running p → s.loop.running = true → s.loop.phase ≠ .noRound →
        exec .roundOverrun s = .next { s with loop := { s.loop with
          overruns := min 65535 (s.loop.overruns + 1), timer := .expired } })
    ∧ ((s.loop.phase = .noRound ∨ s.loop.running = false ∨ s.loop.timer = .expired ∨ s.loop.timer = .stopped) →
        exec .roundOverrun s = .next s)
    ∧ (∀ a rest n, s.loop.phase = .between (a :: rest) → s.node? a = some n → ∃ (m : Sent) (b : List Byte),
        exec .message s = .next { s with loop := { s.loop with phase := .exchange a m rest, line := closeFrame b } }
        ∧ (n.lost = true → m = .probe ∧ b = be8 a ++ [0x02, 0])
        ∧ (n.lost = false → n.slot = none → m = .poll ∧ b = be8 a ++ [0x01, 0])
        ∧ (∀ c, n.lost = false → n.slot = some c → m = .command c ∧ b = match c with
            | .aim start stop rate => be8 a ++ [0x10, 5] ++ be16 start ++ be16 stop ++ be8 rate
            | .openValve h => be8 a ++ [0x11, 1, if h = .reuse then 0 else 1]
            | .close => be8 a ++ [0x12, 0]
            | .run => be8 a ++ [0x20, 0]
            | .stop => be8 a ++ [0x21, 0]))
    ∧ ((∀ a rest, s.loop.phase ≠ .between (a :: rest)) → exec .message s = .next s)
    ∧ (s.loop.phase = .between [] → exec .call s = .next { s with loop := { s.loop with
        phase := .calling, line := closeFrame [0, 0x03, 0] } })
    ∧ (s.loop.phase ≠ .between [] → exec .call s = .next s)
    ∧ (∀ p, s.loop.phase = .calling → s.loop.timer = .running p →
        exec .callSlotTimeout s = .next { s with loop := { s.loop with phase := .noRound } })
    ∧ (s.loop.phase = .calling → s.loop.timer = .expired → s.loop.running = true →
        exec .callSlotTimeout s = exec .roundStart { s with loop := { s.loop with phase := .noRound } })
    ∧ (s.loop.phase ≠ .calling → exec .callSlotTimeout s = .next s)

/-- A miss counts, and the third in a row declares the node LOST: its starting command is discarded and a stopping one
kept; a mast's owner does nothing, and an idle cannon goes to LOST. A miss of a lost node moves its total alone. Bytes
that fail a check are a miss (log entry 23). A valid reply ends the exchange: the slot is emptied when it still holds
the command the exchange carried and is kept otherwise; the node's misses go to 0 and a lost node rejoins. The cannon
of the node is idle, and comes back from LOST by way of RESETTING with CLOSE sent. Events and occasions are counted as
in log entries 18 and 4. -/
def Obligations.ExchangesEndInMissOrReply : Prop :=
  (∀ (a : Nat) (sent : Sent) (rest : List Nat) (n : Node) (s : State),
    s.loop.phase = .exchange a sent rest → s.node? a = some n →
    (∀ bytes, parseReply a n.owner.kind bytes = none → exec (.validReply bytes) s = exec .miss s)
    ∧ ∃ t, exec .miss s = .next t ∧ t.loop.phase = .between rest ∧ (∀ i, i ≠ a → n.owner = .tank → t.node? i = s.node? i)
      ∧ (∀ m, m = min 65535 (n.totalMisses + 1) →
          (n.lost = true → t.node? a = some { n with totalMisses := m })
          ∧ (n.lost = false → n.misses < 2 → t.node? a = some { n with totalMisses := m, misses := n.misses + 1 })
          ∧ ((n.lost = true ∨ n.misses < 2) → t = { s with
              events := s.events + 1, loop := { s.loop with phase := .between rest, nodes := t.loop.nodes } })
          ∧ (n.lost = false → n.misses = 2 → ∀ c, c = (match n.slot with
                | some .close => some .close | some .stop => some LoopCommand.stop | _ => none) →
              ((∃ k, n.owner = .mast k) ∨ n.owner = .tank →
                t.node? a = some { n with totalMisses := m, misses := 0, lost := true, countdown := some 8, slot := c }
                ∧ t = { s with
                    events := s.events + 1, loop := { s.loop with phase := .between rest, nodes := t.loop.nodes } })
              ∧ (∀ k d, n.owner = .cannon k → s.cannon? k = some d → d.state = .idle → d.bound = none →
                  d.closeWait = none → d.header = none →
                  t.node? a = some { n with totalMisses := m, misses := 0, lost := true, countdown := some 8, slot := c }
                  ∧ t.cannon? k = some { d with
                      state := .lost, slew := none, blankingOn := false, aimWaiting := false, retry := none
                      aimPhase := none }
                  ∧ (∀ i, i ≠ k → t.cannon? i = s.cannon? i) ∧ t.notices = s.notices.hand .cannon k
                  ∧ t.dispatch = s.dispatch ∧ t.piles = s.piles ∧ t.water = s.water ∧ t.permits = s.permits))))
  ∧ (∀ (a k : Nat) (sent : Sent) (rest : List Nat) (n m : Node) (d : Cannon) (r : NodeReport) (meter : Half) (s : State),
    ((∃ c, sent = .command c ∧ n.slot = some c) → m = { n with misses := 0, lost := false, countdown := none, slot := none }) →
    ((∀ c, sent = .command c → n.slot ≠ some c) → m = { n with misses := 0, lost := false, countdown := none }) →
    a ≤ 31 → s.loop.phase = .exchange a sent rest → s.node? a = some n → n.owner = .cannon k → s.cannon? k = some d →
    d.config.node = a → d.bound = none → d.header = none → d.aimWaiting = false →
    ∃ t, exec (.validReply ((NodeReply.cannon r meter.toNat).bytes a)) s = .next t
      ∧ (d.state = .idle → t = { s with
            cannons := t.cannons, events := s.events + 1
            loop := { s.loop with phase := .between rest, nodes := t.loop.nodes } }
          ∧ t.node? a = some m
          ∧ t.cannon? k = some { d with
              report := some r, meterLast := some meter.toNat
              stray := min 4294967295 (d.stray + meterDelta d.meterLast meter.toNat) })
      ∧ (d.state = .lost → sent = .probe →
          t.node? a = some { n with misses := 0, lost := false, countdown := none, slot := some .close }
          ∧ (t.cannon? k).map (fun x => (x.state, x.bound)) = some (.resetting, none) ∧ k ∈ t.notices.cannons)
      ∧ (d.state = .resetting → r.valve = .closed → m.slot = none →
          (t.cannon? k).map (fun x => (x.state, x.tripCount)) = some (.idle, 0) ∧ t.dispatch.due = s.dispatch.due + 1))

/-- The call slot: an answer that passes the checks is taken without emptying a slot, and its node becomes the call
winner, served first in the next round; an answer that fails them brings no winner. Where the answer gives the node's
owner nothing to send (a mast, the tank, an idle cannon), the node's entry, its slot too, is as it was but for the
misses. Where the round timer has expired the next round starts with it, the winner absent from there on (log entry 46).
An answer out of its place changes nothing (log entry 1), and the count of events is the model's own (log entry 18). -/
def Obligations.CallAnswersChooseAWinner : Prop :=
  ∀ (bytes : List Byte) (s : State),
    (s.loop.phase ≠ .calling → exec (.callAnswer bytes) s = .next { s with events := s.events + 1 })
    ∧ (s.loop.phase = .calling → (∀ n, s.node? (u8 bytes 0).toNat = some n →
          parseReply (u8 bytes 0).toNat n.owner.kind bytes = none) →
        exec (.callAnswer bytes) s = exec .callSlotTimeout { s with events := s.events + 1 })
    ∧ ∀ a n r, s.loop.phase = .calling → a = (u8 bytes 0).toNat → s.node? a = some n →
        parseReply a n.owner.kind bytes = some r → ∃ t, exec (.callAnswer bytes) s = .next t
          ∧ (t.node? a).map (fun x => (x.owner, x.extraDelay, x.misses, x.lost, x.countdown, x.totalMisses))
              = some (n.owner, n.extraDelay, 0, false, none, n.totalMisses)
          ∧ (((∃ k, n.owner = .mast k) ∧ (∀ k d, s.cannon? k = some d → d.config.node ≠ a) ∧ s.water.pond.node ≠ some a)
              ∨ (n.owner = .tank ∧ s.water.pond.node ≠ some a)
              ∨ (∃ k d, n.owner = .cannon k ∧ s.cannon? k = some d ∧ d.state = .idle ∧ d.bound = none ∧ d.header = none
                ∧ d.aimWaiting = false) →
              t.node? a = some { n with misses := 0, lost := false, countdown := none })
          ∧ (∀ k d report meter, n.owner = .cannon k → s.cannon? k = some d → r = .cannon report meter → d.state = .idle →
              d.bound = none → d.header = none → d.aimWaiting = false →
              t.cannon? k = some { d with
                  report := some report, meterLast := some meter
                  stray := min 4294967295 (d.stray + meterDelta d.meterLast meter) }
                ∧ ∀ i, i ≠ k → t.cannon? i = s.cannon? i)
          ∧ (∀ p, s.loop.timer = .running p → t.loop.winner = some a ∧ t.loop.phase = .noRound
              ∧ t.loop.timer = .running p ∧ t.loop.roundCount = s.loop.roundCount)
          ∧ (s.loop.timer = .expired → t.loop.winner = none ∧ t.loop.timer = .running s.loop.period
              ∧ t.loop.roundCount = (s.loop.roundCount + 1) % 4294967296
              ∧ ∃ rest, t.loop.phase = .between (a :: rest) ∧ a ∉ rest)
          ∧ t.port = s.port ∧ t.clock = s.clock ∧ t.grades = s.grades ∧ t.forecast = s.forecast

/-! ## The read-back commands -/

/-- READ-WIND, READ-CANNON, READ-WATER, READ-LOOP, READ-PERMIT and READ-FORECAST: their refusals, and every item each
answers, with its width and at its offset; an optional item that is absent is zeros, and its flag, in the flag bytes in
front of the items, is clear (of READ-WIND's two masts, each has flag bytes of its own). Reading changes nothing. How
the items stand in groups, flags, codes and figures where R187 leaves it is the model's choice or reading (log entries
13, 14, 30, 34, 35, 39 to 43 and 45), and so is it that a minute before now that an ended slot covers finds that slot (log
entry 47). -/
def Obligations.ReadsAnswerTheirItems : Prop :=
  (∀ s : State, ∃ b : List Byte, exec .readWind s = .next { s with port := s.replied .ok 0x2A b } ∧ b.length = 73
    ∧ tells b [(0, 2, s.wind.weather.speed), (2, 2, s.wind.weather.gustSpeed), (4, 1, s.wind.weather.octant),
        (5, 1, s.wind.weather.rh), (6, 2, s.wind.weather.rain), (8, 1, (s.wind.weather.temp % 256).toNat),
        (9, 1, match s.wind.weather.source with | .observed => 0 | .forecast => 1 | .held => 2 | .unset => 3),
        (10, 1, s.wind.cutOut.toNat), (11, 1, s.wind.frost.toNat), (12, 2, s.wind.limits.gust),
        (14, 2, s.wind.limits.hysteresis), (16, 2, s.wind.limits.cutOut), (18, 2, s.wind.limits.release),
        (20, 1, (s.wind.limits.frost % 256).toNat), (21, 1, (s.wind.limits.frostRelease % 256).toNat), (22, 1, 2)]
    ∧ ∀ (n : Nat) (m : Option Mast) (g : List Byte), n < 2 → m = Table.get s.wind.masts n → g = b.drop (23 + 25 * n) →
        fieldAt g 2 1 = m.isSome.toNat
        ∧ tellsOptional g [(0, 3, 1, m.map fun x => x.node), (1, 4, 2, m.map fun x => x.stale),
          (2, 6, 1, m.map fun x => if x.fresh then 0 else 1), (3, 7, 1, m.map fun x => x.ring.length),
          (4, 8, 2, m.bind fun x => if x.ring = [] then none else some (x.ring.sum / x.ring.length)),
          (5, 10, 2, m.bind fun x => if x.ring = [] then none else some (x.ring.foldl max 0)),
          (6, 12, 2, m.bind fun x => x.inst), (7, 14, 1, m.bind fun x => x.octant),
          (8, 15, 1, m.bind fun x => x.pendingOctant), (9, 16, 1, m.map fun x => x.gust.toNat),
          (10, 17, 2, m.bind fun x => x.direction), (11, 19, 1, m.bind fun x => x.rh), (12, 20, 2, m.bind fun x => x.rain),
          (13, 22, 1, m.bind fun x => x.temp.map fun y => (y % 256).toNat), (14, 23, 2, m.bind fun x => x.age)])
  ∧ (∀ (number : Byte) (s : State),
    (23 < number.toNat → exec (.readCannon number) s = .next { s with port := s.replied .badArgument 0x51 [] })
    ∧ ∀ (x : Option Cannon) (k : Option CannonConfig) (p : Option Pass) (n : Option Node) (cover : List Cover) (e : Nat),
      number.toNat ≤ 23 → x = s.cannon? number.toNat → k = x.map (fun c => c.config) →
      p = (x.bind fun c => c.bound.bind fun id => (s.order? id).bind fun o => o.pass) →
      n = (k.bind fun k => s.node? k.node) → cover = (k.map fun k => k.coverage).getD [] → e = 19 + 6 * cover.length →
      ∃ b : List Byte, exec (.readCannon number) s = .next { s with port := s.replied .ok 0x51 b } ∧ b.length = e + 27
        ∧ tellsOptional b [(0, 4, 1, k.map fun k => k.node),
          (1, 5, 1, k.map fun k => match k.supply with | .reuse => 0 | .fresh => 1 | .both => 2),
          (2, 6, 2, k.map fun k => k.minDose), (3, 8, 2, k.map fun k => k.maxDose), (4, 10, 1, k.map fun k => k.rampTime),
          (5, 11, 2, k.map fun k => k.rampAllowance), (6, 13, 1, k.map fun k => k.sweepRate),
          (7, 14, 1, k.map fun k => k.slewTimeout), (8, 15, 2, k.map fun k => k.blanking),
          (9, 17, 1, k.map fun k => k.extraDelay), (10, 18, 1, k.map fun k => k.coverage.length),
          (11, e + 1, 1, x.bind fun c => c.aimPhase.map fun y => match y with | .slewing => 0 | .opening => 1),
          (12, e + 2, 1, x.map fun c => c.tripCount), (13, e + 3, 4, x.bind fun c => c.lastTrip),
          (14, e + 7, 2, x.bind fun c => c.meterLast),
          (15, e + 9, 1, x.bind fun c => c.report.map fun r => (match r.valve with
            | .closed => 0 | .moving => 1 | .opened => 2)
            + 4 * r.settled.toNat + 8 * r.overload.toNat + 16 * r.valveFault.toNat),
          (16, e + 10, 1, x.bind fun c => c.header.map fun h => match h with | .reuse => 0 | .fresh => 1),
          (17, e + 11, 4, x.map fun c => c.stray), (18, e + 15, 1, k.map fun _ => (n.any fun y => y.lost).toNat),
          (19, e + 16, 1, n.bind fun y => y.slot.map fun z => match z with
            | .aim _ _ _ => 0 | .openValve _ => 1 | .close => 2 | .run => 0 | .stop => 1),
          (20, e + 17, 2, x.bind fun c => c.bound),
          (21, e + 19, 1, p.map fun y => match y.header with | .reuse => 0 | .fresh => 1),
          (22, e + 20, 2, p.map fun y => y.dose), (23, e + 22, 2, p.bind fun y => y.meterStart),
          (24, e + 24, 2, p.map fun y => y.delivered),
          (25, e + 26, 1, x.bind fun c => if c.bound = none then none else c.slew.or c.closeWait)]
        ∧ fieldAt b e 1 = (match x.map (fun c => c.state) with
          | none => 0 | some .idle => 1 | some .aiming => 2 | some .spraying => 3 | some .rampDown => 4
          | some .tripped => 5 | some .locked => 6 | some .lost => 7 | some .resetting => 8)
        ∧ ∀ (i : Nat) (v : Cover), cover[i]? = some v →
          tells b [(19 + 6 * i, 2, v.tag), (21 + 6 * i, 2, v.arcStart), (23 + 6 * i, 2, v.arcEnd)])
  ∧ (∀ (s : State) (w : Option Tank) (c : Option TankConfig) (r : Option Reading) (reuse fresh : List Nat)
      (committed : Header → Nat) (k j : Nat),
    w = s.water.tank → c = w.map (fun w => w.config) → r = (w.bind fun w => w.reading) →
    reuse = (s.cannons.filter fun e => e.2.header == some .reuse).map (fun e => e.1) →
    fresh = (s.cannons.filter fun e => e.2.header == some .fresh).map (fun e => e.1) → k = reuse.length → j = fresh.length →
    (∀ h, committed h = (s.dispatch.orders.map fun o => match o.pass with
      | some p => if o.state = .active ∧ p.header = h then p.reservation - p.delivered else 0
      | none => 0).sum) →
    ∃ b : List Byte, exec .readWater s = .next { s with port := s.replied .ok 0x5C b } ∧ b.length = 82 + k + j
      ∧ tellsOptional b [(0, 4, 1, c.map fun c => c.node), (1, 5, 2, c.map fun c => c.capacity),
        (2, 7, 2, c.map fun c => c.low), (3, 9, 2, c.map fun c => c.high), (4, 11, 2, c.map fun c => c.hysteresis),
        (5, 13, 1, c.map fun c => c.turbidityLimit), (6, 14, 2, c.map fun c => c.stale), (7, 16, 2, r.map fun r => r.level),
        (8, 18, 1, r.map fun r => r.turbidity), (9, 19, 1, r.map fun r => r.alarm.toNat),
        (10, 20, 1, w.map fun w => w.nearEmpty.toNat), (11, 21, 1, w.map fun w => w.nearFull.toNat),
        (12, 22, 1, w.map fun w => w.qualityHold.toNat), (13, 23, 1, w.map fun w => w.qualityCount),
        (14, 24, 1, w.map fun w => if w.fresh then 0 else 1), (15, 25, 2, w.bind fun w => w.age),
        (16, 27, 1, c.map fun c => ((s.node? c.node).any fun n => n.lost).toNat),
        (17, 75 + k + j, 1, s.water.pond.node), (18, 77 + k + j, 2, s.water.transfer.meterLast),
        (19, 79 + k + j, 1, s.water.transfer.lastEnd.map fun x => match x with
          | .stopCondition => 0 | .pondEmpty => 1 | .pumpStopped => 2 | .startFailed => 3 | .nodeLost => 4 | .reloaded => 5),
        (20, 80 + k + j, 1, s.water.transfer.startWait.or s.water.transfer.holdOff),
        (21, 81 + k + j, 1, s.water.pond.node.map fun a => ((s.node? a).any fun n => n.lost).toNat)]
      ∧ tells b [(3, 1, w.isSome.toNat), (28, 1, k), (29 + k, 4, committed .reuse),
        (33 + k, 4, (match c, r with | some c, some r => (r.level - c.low) * 100 - committed .reuse | _, _ => 0)),
        (37 + k, 1, j), (38 + k + j, 4, s.water.allowance), (42 + k + j, 4, s.water.usedToday),
        (46 + k + j, 4, committed .fresh),
        (50 + k + j, 4, s.water.allowance - s.water.usedToday - committed .fresh), (54 + k + j, 1, s.water.spent.toNat),
        (55 + k + j, 4, s.water.pond.capacity), (59 + k + j, 4, s.water.pond.startMark),
        (63 + k + j, 4, s.water.pond.stopMark), (67 + k + j, 4, s.water.pond.volume), (71 + k + j, 4, s.water.pond.spill),
        (76 + k + j, 1, match s.water.transfer.state with | .stopped => 0 | .starting => 1 | .running => 2 | .stopping => 3)]
      ∧ (∀ (i n : Nat), reuse[i]? = some n → fieldAt b (29 + i) 1 = n % 256)
      ∧ ∀ (i n : Nat), fresh[i]? = some n → fieldAt b (38 + k + i) 1 = n % 256)
  ∧ (∀ s : State, (∃ b : List Byte,
      exec (.readLoop none) s = .next { s with port := s.replied .ok 0x69 b } ∧ b.length = 12 + 3 * s.loop.nodes.length
      ∧ tellsOptional b [(0, 10, 1, s.loop.winner)]
      ∧ tells b [(1, 1, s.loop.running.toNat), (2, 2, s.loop.period), (4, 4, s.loop.roundCount), (8, 2, s.loop.overruns),
        (11, 1, s.loop.nodes.length)]
      ∧ ∀ (i a : Nat) (n : Node), s.loop.nodes[i]? = some (a, n) →
        tells b [(12 + 3 * i, 1, a), (14 + 3 * i, 1, n.lost.toNat),
          (13 + 3 * i, 1, match n.owner with | .cannon _ => 0 | .mast _ => 1 | .tank => 2 | .pond => 3)])
    ∧ ∀ node : Byte,
      ((node = 0 ∨ 31 < node.toNat) →
        exec (.readLoop (some node)) s = .next { s with port := s.replied .badArgument 0x69 [] })
      ∧ (node ≠ 0 → node.toNat ≤ 31 →
          (s.node? node.toNat = none →
            exec (.readLoop (some node)) s = .next { s with port := s.replied .unknown 0x69 [] })
          ∧ ∀ n, s.node? node.toNat = some n → ∃ b : List Byte,
            exec (.readLoop (some node)) s = .next { s with port := s.replied .ok 0x69 b } ∧ b.length = 12
            ∧ tells b [(1, 1, node.toNat), (5, 1, n.extraDelay), (7, 1, n.misses), (8, 1, n.lost.toNat),
              (10, 2, n.totalMisses), (2, 1, match n.owner with | .cannon _ => 0 | .mast _ => 1 | .tank => 2 | .pond => 3),
              (3, 1, match n.owner with | .cannon _ => 0 | .mast _ => 1 | .tank => 2 | .pond => 2)]
            ∧ tellsOptional b [(0, 4, 1, match n.owner with | .cannon k => some k | .mast k => some k | _ => none),
              (1, 6, 1, n.slot.map fun x => match x with
                | .aim _ _ _ => 0 | .openValve _ => 1 | .close => 2 | .run => 0 | .stop => 1),
              (2, 9, 1, n.countdown)]))
  ∧ (∀ (form key : Byte) (s : State),
    ((1 < form.toNat ∨ (form.toNat = 0 ∧ (key.toNat = 0 ∨ 63 < key.toNat)) ∨ (form.toNat = 1 ∧ 15 < key.toNat)) →
      exec (.readPermit form key) s = .next { s with port := s.replied .badArgument 0x63 [] })
    ∧ (form.toNat = 1 → key.toNat ≤ 15 → s.permits.list[key.toNat]? = none →
        exec (.readPermit form key) s = .next { s with port := s.replied .unknown 0x63 [] })
    ∧ ∀ (x : Option Permit) (e : Option OutcomeEntry) (o : Option Order) (machine : Nat),
      ((form.toNat = 0 ∧ 1 ≤ key.toNat ∧ key.toNat ≤ 63 ∧ machine = key.toNat ∧ x = s.permit? machine)
        ∨ (form.toNat = 1 ∧ key.toNat ≤ 15 ∧ x = s.permits.list[key.toNat]?
          ∧ ∃ y, x = some y ∧ machine = y.machine)) →
      e = Table.get s.permits.outcomes machine → o = (x.bind fun x => x.prewetOrder.bind fun id => s.order? id) →
      ∃ b : List Byte, exec (.readPermit form key) s = .next { s with port := s.replied .ok 0x63 b } ∧ b.length = 43
        ∧ tellsOptional b [(0, 2, 1, x.map fun x => x.id), (1, 3, 1, x.map fun x => x.machine),
          (2, 4, 1, x.map fun x => match x.kind with | .stacker => 0 | .reclaimer => 1 | .dozer => 2),
          (3, 5, 2, x.map fun x => x.tag),
          (4, 7, 1, x.map fun x => match x.state with | .pendingWet => 0 | .clearing => 1 | .granted => 2),
          (5, 8, 4, x.map fun x => x.requested), (6, 12, 4, x.map fun x => x.entered),
          (7, 16, 2, x.bind fun x => x.prewetOrder),
          (8, 18, 1, e.map fun e => match e.outcome with
            | .grantedEnd => 0 | .released => 1 | .lapsed => 2 | .refusedTooDry => 3 | .refusedRetired => 4),
          (8, 19, 4, e.map fun e => e.minute), (8, 23, 2, e.map fun e => e.tag), (8, 25, 1, e.map fun e => e.permitId),
          (9, 26, 2, e.bind fun e => e.m),
          (10, 28, 1, x.bind fun x => if x.state = .pendingWet then
            some (s.permits.prewetWait - (s.clock.minute - x.entered)) else none),
          (11, 29, 1, o.map fun o => match o.state with | .volleyHeld => 0 | .waiting => 1 | .active => 2 | .ended => 3),
          (12, 30, 1, o.map fun o =>
            o.suspension.host.toNat + 2 * o.suspension.hold.toNat + 4 * o.suspension.zone.toNat),
          (13, 31, 1, o.map fun o => o.starved.toNat),
          (14, 32, 1, x.bind fun x => if x.state = .clearing then
            some (s.dispatch.orders.countP fun o => o.tag == x.tag && o.pass.any fun p => p.state != .closed) else none),
          (15, 33, 2, x.bind fun x => if x.state = .granted then
            some ((match x.kind with
              | .stacker => s.permits.maxHold.stacker | .reclaimer => s.permits.maxHold.reclaimer
              | .dozer => s.permits.maxHold.dozer) - (s.clock.minute - x.entered)) else none)]
        ∧ tells b [(35, 1, s.permits.list.length), (36, 1, s.permits.prewetWait), (37, 2, s.permits.maxHold.stacker),
          (39, 2, s.permits.maxHold.reclaimer), (41, 2, s.permits.maxHold.dozer)])
  ∧ ∀ (form : Byte) (key : Long) (s : State),
    ((1 < form.toNat ∨ (form.toNat = 1 ∧ 47 < key.toNat)) →
      exec (.readForecast form key) s = .next { s with port := s.replied .badArgument 0x32 [] })
    ∧ ∀ (c1 c2 c3 c4 : Nat) (l0 l1 l2 l3 l4 : Option Nat),
      s.forecast.codes = [c1, c2, c3, c4] → s.forecast.latest = [l0, l1, l2, l3, l4] →
      (((form.toNat = 0 ∧ ∀ x ∈ s.forecast.slots, ¬ (x.start ≤ key.toNat ∧ key.toNat < x.start + x.length))
          ∨ (form.toNat = 1 ∧ key.toNat ≤ 47 ∧ s.forecast.slots[key.toNat]? = none)) →
        ∃ b : List Byte, exec (.readForecast form key) s = .next { s with port := s.replied .unknown 0x32 b }
          ∧ b.length = 20
          ∧ tells b [(1, 1, s.forecast.slots.length), (2, 1, c1), (3, 1, c2), (4, 1, c3), (5, 1, c4),
            (16, 4, s.clock.minute)]
          ∧ tellsOptional b [(0, 6, 2, l0), (1, 8, 2, l1), (2, 10, 2, l2), (3, 12, 2, l3), (4, 14, 2, l4)])
      ∧ ∀ (i mark : Nat) (x : Slot), s.forecast.slots[i]? = some x →
        ((form.toNat = 0 ∧ x.start ≤ key.toNat ∧ key.toNat < x.start + x.length ∧ mark = i
            ∧ ∀ j y, j < i → s.forecast.slots[j]? = some y → ¬ (y.start ≤ key.toNat ∧ key.toNat < y.start + y.length))
          ∨ (form.toNat = 1 ∧ key.toNat ≤ 47 ∧ i = key.toNat
            ∧ mark = if x.start + x.length ≤ s.clock.minute then 1 else 0)) →
        ∃ b : List Byte, exec (.readForecast form key) s = .next { s with port := s.replied .ok 0x32 b } ∧ b.length = 39
          ∧ tells b [(1, 1, x.code), (2, 2, x.issue), (4, 4, x.start), (8, 2, x.length), (10, 2, x.wind), (12, 2, x.gust),
            (14, 1, x.octant), (15, 1, x.rh), (16, 2, x.rain), (18, 1, (x.temp % 256).toNat), (19, 1, mark),
            (20, 1, s.forecast.slots.length), (21, 1, c1), (22, 1, c2), (23, 1, c3), (24, 1, c4), (35, 4, s.clock.minute)]
          ∧ tellsOptional b [(0, 25, 2, l0), (1, 27, 2, l1), (2, 29, 2, l2), (3, 31, 2, l3), (4, 33, 2, l4)]

/-! ## Invariants and the rules over all commands -/

/-- Every step keeps the order of the tables and of the change sets, the ranges of the clock and the model's settings, and
the pond within its capacity with the transfer run's timers in their states. -/
def Obligations.EveryStepKeepsTheTables : Prop :=
  ∀ s t : State, step s = .next t →
    (s.tablesAscend = true → t.tablesAscend = true)
    ∧ (s.notices.ascend = true → t.notices.ascend = true)
    ∧ (s.clockAndModelInRange = true → t.clockAndModelInRange = true)
    ∧ (s.water.sound = true → t.water.sound = true)

/-- Every step keeps the pile and grade tables sound: fields in range, M within the grade's Msat, the band the one the
stored risk selects, no tag on two piles; and it keeps the mast records, the effective weather and the forecast slots in
range, no two slots overlapping. -/
def Obligations.EveryStepKeepsPilesAndWeather : Prop :=
  ∀ s t : State, step s = .next t →
    (s.pilesSound = true → t.pilesSound = true) ∧ (s.weatherSound = true → t.weatherSound = true)

/-- Every step keeps the order table sound: at most 32 orders, ids in range and none twice, an ENDED order with its
outcome and minute and not starved; and no order ended in an event still to come. Every step keeps the cannon table
sound: aim phase, timers, bound pass and header slot each only in the states that have them, and no more cannons on
a header than it has slots; and it keeps the permits of each pile compatible, no machine and no id twice, and every
permit on a LIVE pile. And where the order and cannon tables are sound, it keeps each bound pass the current pass of an
ACTIVE order made on that cannon, and the rule of the zone: while a pile has a CLEARING or GRANTED permit every open order
on it has ZONE, and while it has a GRANTED one no pass on it is AIMING, SPRAYING or in RAMP-DOWN. The numbering of events is the model's own (log entry 18). -/
def Obligations.EveryStepKeepsOrdersCannonsPermits : Prop :=
  (∀ s t : State, step s = .next t →
    (s.dispatch.sound = true → t.dispatch.sound = true)
    ∧ ((∀ o ∈ s.dispatch.orders, o.endedEvent ≤ s.events) → ∀ o ∈ t.dispatch.orders, o.endedEvent ≤ t.events))
  ∧ (∀ s t : State, step s = .next t →
    (s.cannonsSound = true → t.cannonsSound = true)
    ∧ (s.permits.sound = true → t.permits.sound = true)
    ∧ (s.permitsOnLive = true → t.permitsOnLive = true))
  ∧ (∀ s t : State, step s = .next t →
    s.dispatch.sound = true → s.cannonsSound = true → s.passesBound = true → s.zonesHeld = true →
    t.passesBound = true ∧ t.zonesHeld = true)

/-- Every step keeps the loop master sound; and, where the tables stand in ascending key order, it keeps one node in the list
for each loaded owner and no other, each slot holding a command of its node's kind or none. That the tables ascend is an
invariant of its own (EveryStepKeepsTheTables). -/
def Obligations.EveryStepKeepsTheLoop : Prop :=
  ∀ s t : State, step s = .next t →
    (s.loop.sound = true → t.loop.sound = true) ∧ (s.tablesAscend = true → s.nodesOwned → t.nodesOwned)

/-- The state after reset has every invariant stated here, and every field in its record's range. -/
def Obligations.ResetIsSound : Prop :=
  State.reset.tablesAscend = true ∧ State.reset.notices.ascend = true ∧ State.reset.clockAndModelInRange = true
    ∧ State.reset.water.sound = true ∧ State.reset.pilesSound = true ∧ State.reset.weatherSound = true
    ∧ State.reset.dispatch.sound = true ∧ State.reset.cannonsSound = true ∧ State.reset.permits.sound = true
    ∧ State.reset.permitsOnLive = true ∧ State.reset.passesBound = true ∧ State.reset.zonesHeld = true ∧ State.reset.loop.sound = true ∧ State.reset.nodesOwned

/-- A node's reply, built byte by byte with its CRC, is parsed back to what it reports, for every kind and every value its
fields admit; a reply for another address or another kind is not taken. -/
def Obligations.NodeRepliesParseBack : Prop :=
  ∀ (a b : Nat) (kind : NodeKind) (r : NodeReply), a ≤ 255 → b ≤ 255 →
    (match r with
      | .cannon _ meter => meter < 65536
      | .mast speed direction rh rain temp =>
        speed < 65536 ∧ direction < 65536 ∧ rh < 256 ∧ rain < 65536 ∧ -128 ≤ temp ∧ temp ≤ 127
      | .gauge level turbidity _ => level < 65536 ∧ turbidity < 256
      | .transfer _ meter => meter < 65536) →
    parseReply a r.kind (r.bytes a) = some r
      ∧ (b ≠ a → parseReply b kind (r.bytes a) = none) ∧ (kind ≠ r.kind → parseReply a kind (r.bytes a) = none)

/-- The rule over all commands: every one completes; it leaves the queue, which for the two whole-part resets is the model's
choice (log entry 12); every setting is written by the commands that own it alone; a command that makes a reply makes one
reply of its own code, and any other leaves the port as it was. -/
def Obligations.CommandsKeepWhatTheyDoNotOwn : Prop :=
  ∀ (c : Instr) (s : State), ∃ t, exec c s = .next t ∧ t.pending = s.pending
    ∧ (∀ code, c.replyCode = some code → ∃ status payload, t.port = s.replied status code payload)
    ∧ (c.sweeping = false →
        (c.replyCode = none → (∀ n, c ≠ .fetchReply n) → t.port = s.port)
        ∧ ((∀ n a, c ≠ .loadGrade n a) → t.grades = s.grades)
        ∧ (c.movesClock = false → t.clock = s.clock)
        ∧ (c.writesModel = false → t.model = s.model)
        ∧ (c.writesForecast = false → t.forecast = s.forecast)
        ∧ (c.writesMasts = false → t.wind.masts = s.wind.masts)
        ∧ ((∀ a, c ≠ .setWindLimits a) → t.wind.limits = s.wind.limits)
        ∧ ((∀ b, c ≠ .setMask b) → t.notices.mask = s.notices.mask)
        ∧ ((∀ l d f, c ≠ .setDispatch l d f) → t.dispatch.lapseTime = s.dispatch.lapseTime
            ∧ t.dispatch.maxDose = s.dispatch.maxDose ∧ t.dispatch.freshFloor = s.dispatch.freshFloor)
        ∧ ((∀ v, c ≠ .setAllowance v) → t.water.allowance = s.water.allowance)
        ∧ ((∀ p x y z, c ≠ .setPermitLimits p x y z) →
            t.permits.prewetWait = s.permits.prewetWait ∧ t.permits.maxHold = s.permits.maxHold)
        ∧ ((∀ p, c ≠ .setLoop p) → t.loop.period = s.loop.period))
end

