-- ==== Sys2Proof/Laws/Fields.lean ====
section
/-! SUPPORT. Fields of a payload read at their offsets: past what stands in front of them, in a field's own bytes, and among
the items of a reply (R187). -/

namespace Sys2Proof.Machine

@[simp] theorem be8_length (n : Nat) : (be8 n).length = 1 := rfl
@[simp] theorem be16_length (n : Nat) : (be16 n).length = 2 := rfl
@[simp] theorem be32_length (n : Nat) : (be32 n).length = 4 := rfl
@[simp] theorem be8s_length (n : Int) : (be8s n).length = 1 := rfl
@[simp] theorem flag_length (b : Bool) : (flag b).length = 1 := rfl

/-- A field that lies past some bytes stands at its offset in the rest. -/
theorem fieldAt_append_right (a b : List Byte) (k width : Nat) : fieldAt (a ++ b) (a.length + k) width = fieldAt b k width := by
  simp [fieldAt, List.drop_append, List.drop_eq_nil_of_le]

/-- A field that lies within some bytes is read from them alone. -/
theorem fieldAt_append_left (a b : List Byte) (k width : Nat) (h : k + width ≤ a.length) :
    fieldAt (a ++ b) k width = fieldAt a k width := by
  have hd : (a ++ b).drop k = a.drop k ++ b := List.drop_append_of_le_length (by omega)
  rw [fieldAt, fieldAt, hd, List.take_append_of_le_length (by simp; omega)]

/-- A one-byte field is read back. -/
theorem fieldAt_be8 (n : Nat) (t : List Byte) : fieldAt (be8 n ++ t) 0 1 = n % 256 := by simp [fieldAt, be8]

/-- A two-byte field is read back. -/
theorem fieldAt_be16 (n : Nat) (t : List Byte) : fieldAt (be16 n ++ t) 0 2 = n % 65536 := by
  simp [fieldAt, be16]; omega

/-- A four-byte field is read back. -/
theorem fieldAt_be32 (n : Nat) (t : List Byte) : fieldAt (be32 n ++ t) 0 4 = n % 4294967296 := by
  simp [fieldAt, be32, be16]; omega

/-- A signed one-byte field is read back. -/
theorem fieldAt_be8s (n : Int) (t : List Byte) : fieldAt (be8s n ++ t) 0 1 = (n % 256).toNat := by
  simp [fieldAt, be8s]

/-- A two-valued item is read back. -/
theorem fieldAt_flag (x : Bool) (t : List Byte) : fieldAt (flag x ++ t) 0 1 = x.toNat := by
  cases x <;> simp [fieldAt, flag]

end Sys2Proof.Machine
end

