-- ==== Sys2Proof/Laws/State.lean ====
section
/-! SUPPORT. For each named update of State, one lemma for each field it leaves alone, and one for each piece it writes;
all by rfl, so that no later proof unfolds a record update. -/

namespace Sys2Proof.Machine

variable (s : State)

@[simp] theorem State.openEvent_port : (s.openEvent).port = s.port := rfl
@[simp] theorem State.openEvent_clock : (s.openEvent).clock = s.clock := rfl
@[simp] theorem State.openEvent_notices : (s.openEvent).notices = s.notices := rfl
@[simp] theorem State.openEvent_piles : (s.openEvent).piles = s.piles := rfl
@[simp] theorem State.openEvent_grades : (s.openEvent).grades = s.grades := rfl
@[simp] theorem State.openEvent_model : (s.openEvent).model = s.model := rfl
@[simp] theorem State.openEvent_wind : (s.openEvent).wind = s.wind := rfl
@[simp] theorem State.openEvent_forecast : (s.openEvent).forecast = s.forecast := rfl
@[simp] theorem State.openEvent_dispatch : (s.openEvent).dispatch = s.dispatch := rfl
@[simp] theorem State.openEvent_cannons : (s.openEvent).cannons = s.cannons := rfl
@[simp] theorem State.openEvent_water : (s.openEvent).water = s.water := rfl
@[simp] theorem State.openEvent_permits : (s.openEvent).permits = s.permits := rfl
@[simp] theorem State.openEvent_loop : (s.openEvent).loop = s.loop := rfl
@[simp] theorem State.openEvent_pending : (s.openEvent).pending = s.pending := rfl

@[simp] theorem State.hand_port (c : ChangeSet) (k : Nat) : (s.hand c k).port = s.port := rfl
@[simp] theorem State.hand_clock (c : ChangeSet) (k : Nat) : (s.hand c k).clock = s.clock := rfl
@[simp] theorem State.hand_piles (c : ChangeSet) (k : Nat) : (s.hand c k).piles = s.piles := rfl
@[simp] theorem State.hand_grades (c : ChangeSet) (k : Nat) : (s.hand c k).grades = s.grades := rfl
@[simp] theorem State.hand_model (c : ChangeSet) (k : Nat) : (s.hand c k).model = s.model := rfl
@[simp] theorem State.hand_wind (c : ChangeSet) (k : Nat) : (s.hand c k).wind = s.wind := rfl
@[simp] theorem State.hand_forecast (c : ChangeSet) (k : Nat) : (s.hand c k).forecast = s.forecast := rfl
@[simp] theorem State.hand_dispatch (c : ChangeSet) (k : Nat) : (s.hand c k).dispatch = s.dispatch := rfl
@[simp] theorem State.hand_cannons (c : ChangeSet) (k : Nat) : (s.hand c k).cannons = s.cannons := rfl
@[simp] theorem State.hand_water (c : ChangeSet) (k : Nat) : (s.hand c k).water = s.water := rfl
@[simp] theorem State.hand_permits (c : ChangeSet) (k : Nat) : (s.hand c k).permits = s.permits := rfl
@[simp] theorem State.hand_loop (c : ChangeSet) (k : Nat) : (s.hand c k).loop = s.loop := rfl
@[simp] theorem State.hand_pending (c : ChangeSet) (k : Nat) : (s.hand c k).pending = s.pending := rfl
@[simp] theorem State.hand_events (c : ChangeSet) (k : Nat) : (s.hand c k).events = s.events := rfl

@[simp] theorem State.raiseWind_port : (s.raiseWind).port = s.port := rfl
@[simp] theorem State.raiseWind_clock : (s.raiseWind).clock = s.clock := rfl
@[simp] theorem State.raiseWind_piles : (s.raiseWind).piles = s.piles := rfl
@[simp] theorem State.raiseWind_grades : (s.raiseWind).grades = s.grades := rfl
@[simp] theorem State.raiseWind_model : (s.raiseWind).model = s.model := rfl
@[simp] theorem State.raiseWind_wind : (s.raiseWind).wind = s.wind := rfl
@[simp] theorem State.raiseWind_forecast : (s.raiseWind).forecast = s.forecast := rfl
@[simp] theorem State.raiseWind_dispatch : (s.raiseWind).dispatch = s.dispatch := rfl
@[simp] theorem State.raiseWind_cannons : (s.raiseWind).cannons = s.cannons := rfl
@[simp] theorem State.raiseWind_water : (s.raiseWind).water = s.water := rfl
@[simp] theorem State.raiseWind_permits : (s.raiseWind).permits = s.permits := rfl
@[simp] theorem State.raiseWind_loop : (s.raiseWind).loop = s.loop := rfl
@[simp] theorem State.raiseWind_pending : (s.raiseWind).pending = s.pending := rfl
@[simp] theorem State.raiseWind_events : (s.raiseWind).events = s.events := rfl

@[simp] theorem State.raiseWater_port : (s.raiseWater).port = s.port := rfl
@[simp] theorem State.raiseWater_clock : (s.raiseWater).clock = s.clock := rfl
@[simp] theorem State.raiseWater_piles : (s.raiseWater).piles = s.piles := rfl
@[simp] theorem State.raiseWater_grades : (s.raiseWater).grades = s.grades := rfl
@[simp] theorem State.raiseWater_model : (s.raiseWater).model = s.model := rfl
@[simp] theorem State.raiseWater_wind : (s.raiseWater).wind = s.wind := rfl
@[simp] theorem State.raiseWater_forecast : (s.raiseWater).forecast = s.forecast := rfl
@[simp] theorem State.raiseWater_dispatch : (s.raiseWater).dispatch = s.dispatch := rfl
@[simp] theorem State.raiseWater_cannons : (s.raiseWater).cannons = s.cannons := rfl
@[simp] theorem State.raiseWater_water : (s.raiseWater).water = s.water := rfl
@[simp] theorem State.raiseWater_permits : (s.raiseWater).permits = s.permits := rfl
@[simp] theorem State.raiseWater_loop : (s.raiseWater).loop = s.loop := rfl
@[simp] theorem State.raiseWater_pending : (s.raiseWater).pending = s.pending := rfl
@[simp] theorem State.raiseWater_events : (s.raiseWater).events = s.events := rfl

@[simp] theorem State.answer_clock (code : Nat) (x : Status) (p : List Byte) : (s.answer code x p).clock = s.clock := rfl
@[simp] theorem State.answer_notices (code : Nat) (x : Status) (p : List Byte) : (s.answer code x p).notices = s.notices := rfl
@[simp] theorem State.answer_piles (code : Nat) (x : Status) (p : List Byte) : (s.answer code x p).piles = s.piles := rfl
@[simp] theorem State.answer_grades (code : Nat) (x : Status) (p : List Byte) : (s.answer code x p).grades = s.grades := rfl
@[simp] theorem State.answer_model (code : Nat) (x : Status) (p : List Byte) : (s.answer code x p).model = s.model := rfl
@[simp] theorem State.answer_wind (code : Nat) (x : Status) (p : List Byte) : (s.answer code x p).wind = s.wind := rfl
@[simp] theorem State.answer_forecast (code : Nat) (x : Status) (p : List Byte) : (s.answer code x p).forecast = s.forecast := rfl
@[simp] theorem State.answer_dispatch (code : Nat) (x : Status) (p : List Byte) : (s.answer code x p).dispatch = s.dispatch := rfl
@[simp] theorem State.answer_cannons (code : Nat) (x : Status) (p : List Byte) : (s.answer code x p).cannons = s.cannons := rfl
@[simp] theorem State.answer_water (code : Nat) (x : Status) (p : List Byte) : (s.answer code x p).water = s.water := rfl
@[simp] theorem State.answer_permits (code : Nat) (x : Status) (p : List Byte) : (s.answer code x p).permits = s.permits := rfl
@[simp] theorem State.answer_loop (code : Nat) (x : Status) (p : List Byte) : (s.answer code x p).loop = s.loop := rfl
@[simp] theorem State.answer_pending (code : Nat) (x : Status) (p : List Byte) : (s.answer code x p).pending = s.pending := rfl
@[simp] theorem State.answer_events (code : Nat) (x : Status) (p : List Byte) : (s.answer code x p).events = s.events := rfl

@[simp] theorem State.mapPile_port (slot : Nat) (f : Pile → Pile) : (s.mapPile slot f).port = s.port := rfl
@[simp] theorem State.mapPile_clock (slot : Nat) (f : Pile → Pile) : (s.mapPile slot f).clock = s.clock := rfl
@[simp] theorem State.mapPile_notices (slot : Nat) (f : Pile → Pile) : (s.mapPile slot f).notices = s.notices := rfl
@[simp] theorem State.mapPile_grades (slot : Nat) (f : Pile → Pile) : (s.mapPile slot f).grades = s.grades := rfl
@[simp] theorem State.mapPile_model (slot : Nat) (f : Pile → Pile) : (s.mapPile slot f).model = s.model := rfl
@[simp] theorem State.mapPile_wind (slot : Nat) (f : Pile → Pile) : (s.mapPile slot f).wind = s.wind := rfl
@[simp] theorem State.mapPile_forecast (slot : Nat) (f : Pile → Pile) : (s.mapPile slot f).forecast = s.forecast := rfl
@[simp] theorem State.mapPile_dispatch (slot : Nat) (f : Pile → Pile) : (s.mapPile slot f).dispatch = s.dispatch := rfl
@[simp] theorem State.mapPile_cannons (slot : Nat) (f : Pile → Pile) : (s.mapPile slot f).cannons = s.cannons := rfl
@[simp] theorem State.mapPile_water (slot : Nat) (f : Pile → Pile) : (s.mapPile slot f).water = s.water := rfl
@[simp] theorem State.mapPile_permits (slot : Nat) (f : Pile → Pile) : (s.mapPile slot f).permits = s.permits := rfl
@[simp] theorem State.mapPile_loop (slot : Nat) (f : Pile → Pile) : (s.mapPile slot f).loop = s.loop := rfl
@[simp] theorem State.mapPile_pending (slot : Nat) (f : Pile → Pile) : (s.mapPile slot f).pending = s.pending := rfl
@[simp] theorem State.mapPile_events (slot : Nat) (f : Pile → Pile) : (s.mapPile slot f).events = s.events := rfl

@[simp] theorem State.mapOrder_port (id : Nat) (f : Order → Order) : (s.mapOrder id f).port = s.port := rfl
@[simp] theorem State.mapOrder_clock (id : Nat) (f : Order → Order) : (s.mapOrder id f).clock = s.clock := rfl
@[simp] theorem State.mapOrder_notices (id : Nat) (f : Order → Order) : (s.mapOrder id f).notices = s.notices := rfl
@[simp] theorem State.mapOrder_piles (id : Nat) (f : Order → Order) : (s.mapOrder id f).piles = s.piles := rfl
@[simp] theorem State.mapOrder_grades (id : Nat) (f : Order → Order) : (s.mapOrder id f).grades = s.grades := rfl
@[simp] theorem State.mapOrder_model (id : Nat) (f : Order → Order) : (s.mapOrder id f).model = s.model := rfl
@[simp] theorem State.mapOrder_wind (id : Nat) (f : Order → Order) : (s.mapOrder id f).wind = s.wind := rfl
@[simp] theorem State.mapOrder_forecast (id : Nat) (f : Order → Order) : (s.mapOrder id f).forecast = s.forecast := rfl
@[simp] theorem State.mapOrder_cannons (id : Nat) (f : Order → Order) : (s.mapOrder id f).cannons = s.cannons := rfl
@[simp] theorem State.mapOrder_water (id : Nat) (f : Order → Order) : (s.mapOrder id f).water = s.water := rfl
@[simp] theorem State.mapOrder_permits (id : Nat) (f : Order → Order) : (s.mapOrder id f).permits = s.permits := rfl
@[simp] theorem State.mapOrder_loop (id : Nat) (f : Order → Order) : (s.mapOrder id f).loop = s.loop := rfl
@[simp] theorem State.mapOrder_pending (id : Nat) (f : Order → Order) : (s.mapOrder id f).pending = s.pending := rfl
@[simp] theorem State.mapOrder_events (id : Nat) (f : Order → Order) : (s.mapOrder id f).events = s.events := rfl

@[simp] theorem State.freeOrder_port (id : Nat) : (s.freeOrder id).port = s.port := rfl
@[simp] theorem State.freeOrder_clock (id : Nat) : (s.freeOrder id).clock = s.clock := rfl
@[simp] theorem State.freeOrder_notices (id : Nat) : (s.freeOrder id).notices = s.notices := rfl
@[simp] theorem State.freeOrder_piles (id : Nat) : (s.freeOrder id).piles = s.piles := rfl
@[simp] theorem State.freeOrder_grades (id : Nat) : (s.freeOrder id).grades = s.grades := rfl
@[simp] theorem State.freeOrder_model (id : Nat) : (s.freeOrder id).model = s.model := rfl
@[simp] theorem State.freeOrder_wind (id : Nat) : (s.freeOrder id).wind = s.wind := rfl
@[simp] theorem State.freeOrder_forecast (id : Nat) : (s.freeOrder id).forecast = s.forecast := rfl
@[simp] theorem State.freeOrder_cannons (id : Nat) : (s.freeOrder id).cannons = s.cannons := rfl
@[simp] theorem State.freeOrder_water (id : Nat) : (s.freeOrder id).water = s.water := rfl
@[simp] theorem State.freeOrder_permits (id : Nat) : (s.freeOrder id).permits = s.permits := rfl
@[simp] theorem State.freeOrder_loop (id : Nat) : (s.freeOrder id).loop = s.loop := rfl
@[simp] theorem State.freeOrder_pending (id : Nat) : (s.freeOrder id).pending = s.pending := rfl
@[simp] theorem State.freeOrder_events (id : Nat) : (s.freeOrder id).events = s.events := rfl

@[simp] theorem State.occasion_port : (s.occasion).port = s.port := rfl
@[simp] theorem State.occasion_clock : (s.occasion).clock = s.clock := rfl
@[simp] theorem State.occasion_notices : (s.occasion).notices = s.notices := rfl
@[simp] theorem State.occasion_piles : (s.occasion).piles = s.piles := rfl
@[simp] theorem State.occasion_grades : (s.occasion).grades = s.grades := rfl
@[simp] theorem State.occasion_model : (s.occasion).model = s.model := rfl
@[simp] theorem State.occasion_wind : (s.occasion).wind = s.wind := rfl
@[simp] theorem State.occasion_forecast : (s.occasion).forecast = s.forecast := rfl
@[simp] theorem State.occasion_cannons : (s.occasion).cannons = s.cannons := rfl
@[simp] theorem State.occasion_water : (s.occasion).water = s.water := rfl
@[simp] theorem State.occasion_permits : (s.occasion).permits = s.permits := rfl
@[simp] theorem State.occasion_loop : (s.occasion).loop = s.loop := rfl
@[simp] theorem State.occasion_pending : (s.occasion).pending = s.pending := rfl
@[simp] theorem State.occasion_events : (s.occasion).events = s.events := rfl

@[simp] theorem State.report_port (k : Nat) : (s.report k).port = s.port := rfl
@[simp] theorem State.report_clock (k : Nat) : (s.report k).clock = s.clock := rfl
@[simp] theorem State.report_notices (k : Nat) : (s.report k).notices = s.notices := rfl
@[simp] theorem State.report_piles (k : Nat) : (s.report k).piles = s.piles := rfl
@[simp] theorem State.report_grades (k : Nat) : (s.report k).grades = s.grades := rfl
@[simp] theorem State.report_model (k : Nat) : (s.report k).model = s.model := rfl
@[simp] theorem State.report_wind (k : Nat) : (s.report k).wind = s.wind := rfl
@[simp] theorem State.report_forecast (k : Nat) : (s.report k).forecast = s.forecast := rfl
@[simp] theorem State.report_cannons (k : Nat) : (s.report k).cannons = s.cannons := rfl
@[simp] theorem State.report_water (k : Nat) : (s.report k).water = s.water := rfl
@[simp] theorem State.report_permits (k : Nat) : (s.report k).permits = s.permits := rfl
@[simp] theorem State.report_loop (k : Nat) : (s.report k).loop = s.loop := rfl
@[simp] theorem State.report_pending (k : Nat) : (s.report k).pending = s.pending := rfl
@[simp] theorem State.report_events (k : Nat) : (s.report k).events = s.events := rfl

@[simp] theorem State.mapCannon_port (n : Nat) (f : Cannon → Cannon) : (s.mapCannon n f).port = s.port := rfl
@[simp] theorem State.mapCannon_clock (n : Nat) (f : Cannon → Cannon) : (s.mapCannon n f).clock = s.clock := rfl
@[simp] theorem State.mapCannon_notices (n : Nat) (f : Cannon → Cannon) : (s.mapCannon n f).notices = s.notices := rfl
@[simp] theorem State.mapCannon_piles (n : Nat) (f : Cannon → Cannon) : (s.mapCannon n f).piles = s.piles := rfl
@[simp] theorem State.mapCannon_grades (n : Nat) (f : Cannon → Cannon) : (s.mapCannon n f).grades = s.grades := rfl
@[simp] theorem State.mapCannon_model (n : Nat) (f : Cannon → Cannon) : (s.mapCannon n f).model = s.model := rfl
@[simp] theorem State.mapCannon_wind (n : Nat) (f : Cannon → Cannon) : (s.mapCannon n f).wind = s.wind := rfl
@[simp] theorem State.mapCannon_forecast (n : Nat) (f : Cannon → Cannon) : (s.mapCannon n f).forecast = s.forecast := rfl
@[simp] theorem State.mapCannon_dispatch (n : Nat) (f : Cannon → Cannon) : (s.mapCannon n f).dispatch = s.dispatch := rfl
@[simp] theorem State.mapCannon_water (n : Nat) (f : Cannon → Cannon) : (s.mapCannon n f).water = s.water := rfl
@[simp] theorem State.mapCannon_permits (n : Nat) (f : Cannon → Cannon) : (s.mapCannon n f).permits = s.permits := rfl
@[simp] theorem State.mapCannon_loop (n : Nat) (f : Cannon → Cannon) : (s.mapCannon n f).loop = s.loop := rfl
@[simp] theorem State.mapCannon_pending (n : Nat) (f : Cannon → Cannon) : (s.mapCannon n f).pending = s.pending := rfl
@[simp] theorem State.mapCannon_events (n : Nat) (f : Cannon → Cannon) : (s.mapCannon n f).events = s.events := rfl

@[simp] theorem State.withCannon_port (n : Nat) (c : Cannon) : (s.withCannon n c).port = s.port := rfl
@[simp] theorem State.withCannon_clock (n : Nat) (c : Cannon) : (s.withCannon n c).clock = s.clock := rfl
@[simp] theorem State.withCannon_notices (n : Nat) (c : Cannon) : (s.withCannon n c).notices = s.notices := rfl
@[simp] theorem State.withCannon_piles (n : Nat) (c : Cannon) : (s.withCannon n c).piles = s.piles := rfl
@[simp] theorem State.withCannon_grades (n : Nat) (c : Cannon) : (s.withCannon n c).grades = s.grades := rfl
@[simp] theorem State.withCannon_model (n : Nat) (c : Cannon) : (s.withCannon n c).model = s.model := rfl
@[simp] theorem State.withCannon_wind (n : Nat) (c : Cannon) : (s.withCannon n c).wind = s.wind := rfl
@[simp] theorem State.withCannon_forecast (n : Nat) (c : Cannon) : (s.withCannon n c).forecast = s.forecast := rfl
@[simp] theorem State.withCannon_dispatch (n : Nat) (c : Cannon) : (s.withCannon n c).dispatch = s.dispatch := rfl
@[simp] theorem State.withCannon_water (n : Nat) (c : Cannon) : (s.withCannon n c).water = s.water := rfl
@[simp] theorem State.withCannon_permits (n : Nat) (c : Cannon) : (s.withCannon n c).permits = s.permits := rfl
@[simp] theorem State.withCannon_loop (n : Nat) (c : Cannon) : (s.withCannon n c).loop = s.loop := rfl
@[simp] theorem State.withCannon_pending (n : Nat) (c : Cannon) : (s.withCannon n c).pending = s.pending := rfl
@[simp] theorem State.withCannon_events (n : Nat) (c : Cannon) : (s.withCannon n c).events = s.events := rfl

@[simp] theorem State.mapPermits_port (c : Permit → Bool) (f : Permit → Permit) : (s.mapPermits c f).port = s.port := rfl
@[simp] theorem State.mapPermits_clock (c : Permit → Bool) (f : Permit → Permit) : (s.mapPermits c f).clock = s.clock := rfl
@[simp] theorem State.mapPermits_notices (c : Permit → Bool) (f : Permit → Permit) : (s.mapPermits c f).notices = s.notices := rfl
@[simp] theorem State.mapPermits_piles (c : Permit → Bool) (f : Permit → Permit) : (s.mapPermits c f).piles = s.piles := rfl
@[simp] theorem State.mapPermits_grades (c : Permit → Bool) (f : Permit → Permit) : (s.mapPermits c f).grades = s.grades := rfl
@[simp] theorem State.mapPermits_model (c : Permit → Bool) (f : Permit → Permit) : (s.mapPermits c f).model = s.model := rfl
@[simp] theorem State.mapPermits_wind (c : Permit → Bool) (f : Permit → Permit) : (s.mapPermits c f).wind = s.wind := rfl
@[simp] theorem State.mapPermits_forecast (c : Permit → Bool) (f : Permit → Permit) : (s.mapPermits c f).forecast = s.forecast := rfl
@[simp] theorem State.mapPermits_dispatch (c : Permit → Bool) (f : Permit → Permit) : (s.mapPermits c f).dispatch = s.dispatch := rfl
@[simp] theorem State.mapPermits_cannons (c : Permit → Bool) (f : Permit → Permit) : (s.mapPermits c f).cannons = s.cannons := rfl
@[simp] theorem State.mapPermits_water (c : Permit → Bool) (f : Permit → Permit) : (s.mapPermits c f).water = s.water := rfl
@[simp] theorem State.mapPermits_loop (c : Permit → Bool) (f : Permit → Permit) : (s.mapPermits c f).loop = s.loop := rfl
@[simp] theorem State.mapPermits_pending (c : Permit → Bool) (f : Permit → Permit) : (s.mapPermits c f).pending = s.pending := rfl
@[simp] theorem State.mapPermits_events (c : Permit → Bool) (f : Permit → Permit) : (s.mapPermits c f).events = s.events := rfl

@[simp] theorem State.mapNode_port (a : Nat) (f : Node → Node) : (s.mapNode a f).port = s.port := rfl
@[simp] theorem State.mapNode_clock (a : Nat) (f : Node → Node) : (s.mapNode a f).clock = s.clock := rfl
@[simp] theorem State.mapNode_notices (a : Nat) (f : Node → Node) : (s.mapNode a f).notices = s.notices := rfl
@[simp] theorem State.mapNode_piles (a : Nat) (f : Node → Node) : (s.mapNode a f).piles = s.piles := rfl
@[simp] theorem State.mapNode_grades (a : Nat) (f : Node → Node) : (s.mapNode a f).grades = s.grades := rfl
@[simp] theorem State.mapNode_model (a : Nat) (f : Node → Node) : (s.mapNode a f).model = s.model := rfl
@[simp] theorem State.mapNode_wind (a : Nat) (f : Node → Node) : (s.mapNode a f).wind = s.wind := rfl
@[simp] theorem State.mapNode_forecast (a : Nat) (f : Node → Node) : (s.mapNode a f).forecast = s.forecast := rfl
@[simp] theorem State.mapNode_dispatch (a : Nat) (f : Node → Node) : (s.mapNode a f).dispatch = s.dispatch := rfl
@[simp] theorem State.mapNode_cannons (a : Nat) (f : Node → Node) : (s.mapNode a f).cannons = s.cannons := rfl
@[simp] theorem State.mapNode_water (a : Nat) (f : Node → Node) : (s.mapNode a f).water = s.water := rfl
@[simp] theorem State.mapNode_permits (a : Nat) (f : Node → Node) : (s.mapNode a f).permits = s.permits := rfl
@[simp] theorem State.mapNode_pending (a : Nat) (f : Node → Node) : (s.mapNode a f).pending = s.pending := rfl
@[simp] theorem State.mapNode_events (a : Nat) (f : Node → Node) : (s.mapNode a f).events = s.events := rfl

@[simp] theorem State.placeStop_port (a : Nat) (c : LoopCommand) : (s.placeStop a c).port = s.port := rfl
@[simp] theorem State.placeStop_clock (a : Nat) (c : LoopCommand) : (s.placeStop a c).clock = s.clock := rfl
@[simp] theorem State.placeStop_notices (a : Nat) (c : LoopCommand) : (s.placeStop a c).notices = s.notices := rfl
@[simp] theorem State.placeStop_piles (a : Nat) (c : LoopCommand) : (s.placeStop a c).piles = s.piles := rfl
@[simp] theorem State.placeStop_grades (a : Nat) (c : LoopCommand) : (s.placeStop a c).grades = s.grades := rfl
@[simp] theorem State.placeStop_model (a : Nat) (c : LoopCommand) : (s.placeStop a c).model = s.model := rfl
@[simp] theorem State.placeStop_wind (a : Nat) (c : LoopCommand) : (s.placeStop a c).wind = s.wind := rfl
@[simp] theorem State.placeStop_forecast (a : Nat) (c : LoopCommand) : (s.placeStop a c).forecast = s.forecast := rfl
@[simp] theorem State.placeStop_dispatch (a : Nat) (c : LoopCommand) : (s.placeStop a c).dispatch = s.dispatch := rfl
@[simp] theorem State.placeStop_cannons (a : Nat) (c : LoopCommand) : (s.placeStop a c).cannons = s.cannons := rfl
@[simp] theorem State.placeStop_water (a : Nat) (c : LoopCommand) : (s.placeStop a c).water = s.water := rfl
@[simp] theorem State.placeStop_permits (a : Nat) (c : LoopCommand) : (s.placeStop a c).permits = s.permits := rfl
@[simp] theorem State.placeStop_pending (a : Nat) (c : LoopCommand) : (s.placeStop a c).pending = s.pending := rfl
@[simp] theorem State.placeStop_events (a : Nat) (c : LoopCommand) : (s.placeStop a c).events = s.events := rfl

@[simp] theorem State.placeStart_port (a : Nat) (c : LoopCommand) : (s.placeStart a c).port = s.port := rfl
@[simp] theorem State.placeStart_clock (a : Nat) (c : LoopCommand) : (s.placeStart a c).clock = s.clock := rfl
@[simp] theorem State.placeStart_notices (a : Nat) (c : LoopCommand) : (s.placeStart a c).notices = s.notices := rfl
@[simp] theorem State.placeStart_piles (a : Nat) (c : LoopCommand) : (s.placeStart a c).piles = s.piles := rfl
@[simp] theorem State.placeStart_grades (a : Nat) (c : LoopCommand) : (s.placeStart a c).grades = s.grades := rfl
@[simp] theorem State.placeStart_model (a : Nat) (c : LoopCommand) : (s.placeStart a c).model = s.model := rfl
@[simp] theorem State.placeStart_wind (a : Nat) (c : LoopCommand) : (s.placeStart a c).wind = s.wind := rfl
@[simp] theorem State.placeStart_forecast (a : Nat) (c : LoopCommand) : (s.placeStart a c).forecast = s.forecast := rfl
@[simp] theorem State.placeStart_dispatch (a : Nat) (c : LoopCommand) : (s.placeStart a c).dispatch = s.dispatch := rfl
@[simp] theorem State.placeStart_cannons (a : Nat) (c : LoopCommand) : (s.placeStart a c).cannons = s.cannons := rfl
@[simp] theorem State.placeStart_water (a : Nat) (c : LoopCommand) : (s.placeStart a c).water = s.water := rfl
@[simp] theorem State.placeStart_permits (a : Nat) (c : LoopCommand) : (s.placeStart a c).permits = s.permits := rfl
@[simp] theorem State.placeStart_pending (a : Nat) (c : LoopCommand) : (s.placeStart a c).pending = s.pending := rfl
@[simp] theorem State.placeStart_events (a : Nat) (c : LoopCommand) : (s.placeStart a c).events = s.events := rfl

@[simp] theorem State.withPhase_port (p : Phase) : (s.withPhase p).port = s.port := rfl
@[simp] theorem State.withPhase_clock (p : Phase) : (s.withPhase p).clock = s.clock := rfl
@[simp] theorem State.withPhase_notices (p : Phase) : (s.withPhase p).notices = s.notices := rfl
@[simp] theorem State.withPhase_piles (p : Phase) : (s.withPhase p).piles = s.piles := rfl
@[simp] theorem State.withPhase_grades (p : Phase) : (s.withPhase p).grades = s.grades := rfl
@[simp] theorem State.withPhase_model (p : Phase) : (s.withPhase p).model = s.model := rfl
@[simp] theorem State.withPhase_wind (p : Phase) : (s.withPhase p).wind = s.wind := rfl
@[simp] theorem State.withPhase_forecast (p : Phase) : (s.withPhase p).forecast = s.forecast := rfl
@[simp] theorem State.withPhase_dispatch (p : Phase) : (s.withPhase p).dispatch = s.dispatch := rfl
@[simp] theorem State.withPhase_cannons (p : Phase) : (s.withPhase p).cannons = s.cannons := rfl
@[simp] theorem State.withPhase_water (p : Phase) : (s.withPhase p).water = s.water := rfl
@[simp] theorem State.withPhase_permits (p : Phase) : (s.withPhase p).permits = s.permits := rfl
@[simp] theorem State.withPhase_pending (p : Phase) : (s.withPhase p).pending = s.pending := rfl
@[simp] theorem State.withPhase_events (p : Phase) : (s.withPhase p).events = s.events := rfl

@[simp] theorem State.endRound_port : (s.endRound).port = s.port := rfl
@[simp] theorem State.endRound_clock : (s.endRound).clock = s.clock := rfl
@[simp] theorem State.endRound_notices : (s.endRound).notices = s.notices := rfl
@[simp] theorem State.endRound_piles : (s.endRound).piles = s.piles := rfl
@[simp] theorem State.endRound_grades : (s.endRound).grades = s.grades := rfl
@[simp] theorem State.endRound_model : (s.endRound).model = s.model := rfl
@[simp] theorem State.endRound_wind : (s.endRound).wind = s.wind := rfl
@[simp] theorem State.endRound_forecast : (s.endRound).forecast = s.forecast := rfl
@[simp] theorem State.endRound_dispatch : (s.endRound).dispatch = s.dispatch := rfl
@[simp] theorem State.endRound_cannons : (s.endRound).cannons = s.cannons := rfl
@[simp] theorem State.endRound_water : (s.endRound).water = s.water := rfl
@[simp] theorem State.endRound_permits : (s.endRound).permits = s.permits := rfl
@[simp] theorem State.endRound_pending : (s.endRound).pending = s.pending := rfl
@[simp] theorem State.endRound_events : (s.endRound).events = s.events := rfl

@[simp] theorem State.mapMast_port (n : Nat) (f : Mast → Mast) : (s.mapMast n f).port = s.port := rfl
@[simp] theorem State.mapMast_clock (n : Nat) (f : Mast → Mast) : (s.mapMast n f).clock = s.clock := rfl
@[simp] theorem State.mapMast_notices (n : Nat) (f : Mast → Mast) : (s.mapMast n f).notices = s.notices := rfl
@[simp] theorem State.mapMast_piles (n : Nat) (f : Mast → Mast) : (s.mapMast n f).piles = s.piles := rfl
@[simp] theorem State.mapMast_grades (n : Nat) (f : Mast → Mast) : (s.mapMast n f).grades = s.grades := rfl
@[simp] theorem State.mapMast_model (n : Nat) (f : Mast → Mast) : (s.mapMast n f).model = s.model := rfl
@[simp] theorem State.mapMast_forecast (n : Nat) (f : Mast → Mast) : (s.mapMast n f).forecast = s.forecast := rfl
@[simp] theorem State.mapMast_dispatch (n : Nat) (f : Mast → Mast) : (s.mapMast n f).dispatch = s.dispatch := rfl
@[simp] theorem State.mapMast_cannons (n : Nat) (f : Mast → Mast) : (s.mapMast n f).cannons = s.cannons := rfl
@[simp] theorem State.mapMast_water (n : Nat) (f : Mast → Mast) : (s.mapMast n f).water = s.water := rfl
@[simp] theorem State.mapMast_permits (n : Nat) (f : Mast → Mast) : (s.mapMast n f).permits = s.permits := rfl
@[simp] theorem State.mapMast_loop (n : Nat) (f : Mast → Mast) : (s.mapMast n f).loop = s.loop := rfl
@[simp] theorem State.mapMast_pending (n : Nat) (f : Mast → Mast) : (s.mapMast n f).pending = s.pending := rfl
@[simp] theorem State.mapMast_events (n : Nat) (f : Mast → Mast) : (s.mapMast n f).events = s.events := rfl

@[simp] theorem State.withMasts_port (t : Table Mast) : (s.withMasts t).port = s.port := rfl
@[simp] theorem State.withMasts_clock (t : Table Mast) : (s.withMasts t).clock = s.clock := rfl
@[simp] theorem State.withMasts_notices (t : Table Mast) : (s.withMasts t).notices = s.notices := rfl
@[simp] theorem State.withMasts_piles (t : Table Mast) : (s.withMasts t).piles = s.piles := rfl
@[simp] theorem State.withMasts_grades (t : Table Mast) : (s.withMasts t).grades = s.grades := rfl
@[simp] theorem State.withMasts_model (t : Table Mast) : (s.withMasts t).model = s.model := rfl
@[simp] theorem State.withMasts_forecast (t : Table Mast) : (s.withMasts t).forecast = s.forecast := rfl
@[simp] theorem State.withMasts_dispatch (t : Table Mast) : (s.withMasts t).dispatch = s.dispatch := rfl
@[simp] theorem State.withMasts_cannons (t : Table Mast) : (s.withMasts t).cannons = s.cannons := rfl
@[simp] theorem State.withMasts_water (t : Table Mast) : (s.withMasts t).water = s.water := rfl
@[simp] theorem State.withMasts_permits (t : Table Mast) : (s.withMasts t).permits = s.permits := rfl
@[simp] theorem State.withMasts_loop (t : Table Mast) : (s.withMasts t).loop = s.loop := rfl
@[simp] theorem State.withMasts_pending (t : Table Mast) : (s.withMasts t).pending = s.pending := rfl
@[simp] theorem State.withMasts_events (t : Table Mast) : (s.withMasts t).events = s.events := rfl

@[simp] theorem State.mapTransfer_port (f : Transfer → Transfer) : (s.mapTransfer f).port = s.port := rfl
@[simp] theorem State.mapTransfer_clock (f : Transfer → Transfer) : (s.mapTransfer f).clock = s.clock := rfl
@[simp] theorem State.mapTransfer_notices (f : Transfer → Transfer) : (s.mapTransfer f).notices = s.notices := rfl
@[simp] theorem State.mapTransfer_piles (f : Transfer → Transfer) : (s.mapTransfer f).piles = s.piles := rfl
@[simp] theorem State.mapTransfer_grades (f : Transfer → Transfer) : (s.mapTransfer f).grades = s.grades := rfl
@[simp] theorem State.mapTransfer_model (f : Transfer → Transfer) : (s.mapTransfer f).model = s.model := rfl
@[simp] theorem State.mapTransfer_wind (f : Transfer → Transfer) : (s.mapTransfer f).wind = s.wind := rfl
@[simp] theorem State.mapTransfer_forecast (f : Transfer → Transfer) : (s.mapTransfer f).forecast = s.forecast := rfl
@[simp] theorem State.mapTransfer_dispatch (f : Transfer → Transfer) : (s.mapTransfer f).dispatch = s.dispatch := rfl
@[simp] theorem State.mapTransfer_cannons (f : Transfer → Transfer) : (s.mapTransfer f).cannons = s.cannons := rfl
@[simp] theorem State.mapTransfer_permits (f : Transfer → Transfer) : (s.mapTransfer f).permits = s.permits := rfl
@[simp] theorem State.mapTransfer_loop (f : Transfer → Transfer) : (s.mapTransfer f).loop = s.loop := rfl
@[simp] theorem State.mapTransfer_pending (f : Transfer → Transfer) : (s.mapTransfer f).pending = s.pending := rfl
@[simp] theorem State.mapTransfer_events (f : Transfer → Transfer) : (s.mapTransfer f).events = s.events := rfl

@[simp] theorem State.mapPond_port (f : Pond → Pond) : (s.mapPond f).port = s.port := rfl
@[simp] theorem State.mapPond_clock (f : Pond → Pond) : (s.mapPond f).clock = s.clock := rfl
@[simp] theorem State.mapPond_notices (f : Pond → Pond) : (s.mapPond f).notices = s.notices := rfl
@[simp] theorem State.mapPond_piles (f : Pond → Pond) : (s.mapPond f).piles = s.piles := rfl
@[simp] theorem State.mapPond_grades (f : Pond → Pond) : (s.mapPond f).grades = s.grades := rfl
@[simp] theorem State.mapPond_model (f : Pond → Pond) : (s.mapPond f).model = s.model := rfl
@[simp] theorem State.mapPond_wind (f : Pond → Pond) : (s.mapPond f).wind = s.wind := rfl
@[simp] theorem State.mapPond_forecast (f : Pond → Pond) : (s.mapPond f).forecast = s.forecast := rfl
@[simp] theorem State.mapPond_dispatch (f : Pond → Pond) : (s.mapPond f).dispatch = s.dispatch := rfl
@[simp] theorem State.mapPond_cannons (f : Pond → Pond) : (s.mapPond f).cannons = s.cannons := rfl
@[simp] theorem State.mapPond_permits (f : Pond → Pond) : (s.mapPond f).permits = s.permits := rfl
@[simp] theorem State.mapPond_loop (f : Pond → Pond) : (s.mapPond f).loop = s.loop := rfl
@[simp] theorem State.mapPond_pending (f : Pond → Pond) : (s.mapPond f).pending = s.pending := rfl
@[simp] theorem State.mapPond_events (f : Pond → Pond) : (s.mapPond f).events = s.events := rfl

@[simp] theorem State.withTank_port (t : Tank) : (s.withTank t).port = s.port := rfl
@[simp] theorem State.withTank_clock (t : Tank) : (s.withTank t).clock = s.clock := rfl
@[simp] theorem State.withTank_notices (t : Tank) : (s.withTank t).notices = s.notices := rfl
@[simp] theorem State.withTank_piles (t : Tank) : (s.withTank t).piles = s.piles := rfl
@[simp] theorem State.withTank_grades (t : Tank) : (s.withTank t).grades = s.grades := rfl
@[simp] theorem State.withTank_model (t : Tank) : (s.withTank t).model = s.model := rfl
@[simp] theorem State.withTank_wind (t : Tank) : (s.withTank t).wind = s.wind := rfl
@[simp] theorem State.withTank_forecast (t : Tank) : (s.withTank t).forecast = s.forecast := rfl
@[simp] theorem State.withTank_dispatch (t : Tank) : (s.withTank t).dispatch = s.dispatch := rfl
@[simp] theorem State.withTank_cannons (t : Tank) : (s.withTank t).cannons = s.cannons := rfl
@[simp] theorem State.withTank_permits (t : Tank) : (s.withTank t).permits = s.permits := rfl
@[simp] theorem State.withTank_loop (t : Tank) : (s.withTank t).loop = s.loop := rfl
@[simp] theorem State.withTank_pending (t : Tank) : (s.withTank t).pending = s.pending := rfl
@[simp] theorem State.withTank_events (t : Tank) : (s.withTank t).events = s.events := rfl

@[simp] theorem State.noTank_port : (s.noTank).port = s.port := rfl
@[simp] theorem State.noTank_clock : (s.noTank).clock = s.clock := rfl
@[simp] theorem State.noTank_notices : (s.noTank).notices = s.notices := rfl
@[simp] theorem State.noTank_piles : (s.noTank).piles = s.piles := rfl
@[simp] theorem State.noTank_grades : (s.noTank).grades = s.grades := rfl
@[simp] theorem State.noTank_model : (s.noTank).model = s.model := rfl
@[simp] theorem State.noTank_wind : (s.noTank).wind = s.wind := rfl
@[simp] theorem State.noTank_forecast : (s.noTank).forecast = s.forecast := rfl
@[simp] theorem State.noTank_dispatch : (s.noTank).dispatch = s.dispatch := rfl
@[simp] theorem State.noTank_cannons : (s.noTank).cannons = s.cannons := rfl
@[simp] theorem State.noTank_permits : (s.noTank).permits = s.permits := rfl
@[simp] theorem State.noTank_loop : (s.noTank).loop = s.loop := rfl
@[simp] theorem State.noTank_pending : (s.noTank).pending = s.pending := rfl
@[simp] theorem State.noTank_events : (s.noTank).events = s.events := rfl

@[simp] theorem State.withMinute_port (m k : Nat) : (s.withMinute m k).port = s.port := rfl
@[simp] theorem State.withMinute_notices (m k : Nat) : (s.withMinute m k).notices = s.notices := rfl
@[simp] theorem State.withMinute_piles (m k : Nat) : (s.withMinute m k).piles = s.piles := rfl
@[simp] theorem State.withMinute_grades (m k : Nat) : (s.withMinute m k).grades = s.grades := rfl
@[simp] theorem State.withMinute_model (m k : Nat) : (s.withMinute m k).model = s.model := rfl
@[simp] theorem State.withMinute_wind (m k : Nat) : (s.withMinute m k).wind = s.wind := rfl
@[simp] theorem State.withMinute_forecast (m k : Nat) : (s.withMinute m k).forecast = s.forecast := rfl
@[simp] theorem State.withMinute_dispatch (m k : Nat) : (s.withMinute m k).dispatch = s.dispatch := rfl
@[simp] theorem State.withMinute_cannons (m k : Nat) : (s.withMinute m k).cannons = s.cannons := rfl
@[simp] theorem State.withMinute_water (m k : Nat) : (s.withMinute m k).water = s.water := rfl
@[simp] theorem State.withMinute_permits (m k : Nat) : (s.withMinute m k).permits = s.permits := rfl
@[simp] theorem State.withMinute_loop (m k : Nat) : (s.withMinute m k).loop = s.loop := rfl
@[simp] theorem State.withMinute_pending (m k : Nat) : (s.withMinute m k).pending = s.pending := rfl
@[simp] theorem State.withMinute_events (m k : Nat) : (s.withMinute m k).events = s.events := rfl

@[simp] theorem State.elapse_port (k : Nat) : (s.elapse k).port = s.port := rfl
@[simp] theorem State.elapse_clock (k : Nat) : (s.elapse k).clock = s.clock.after k := rfl
@[simp] theorem Clock.after_minute (c : Clock) (k : Nat) : (c.after k).minute = c.minute := rfl
@[simp] theorem Clock.after_seconds (c : Clock) (k : Nat) : (c.after k).seconds = c.seconds := rfl
@[simp] theorem Clock.after_stepLeft (c : Clock) (k : Nat) : (c.after k).stepLeft = stepLeftAfter k c.stepLeft := rfl
@[simp] theorem Clock.after_modelDue (c : Clock) (k : Nat) :
    (c.after k).modelDue = c.modelDue.handed (expiriesWithin k c.stepLeft) := rfl
@[simp] theorem Clock.after_retireDue (c : Clock) (k : Nat) :
    (c.after k).retireDue = c.retireDue.handed (expiriesWithin k c.stepLeft) := rfl
@[simp] theorem State.elapse_notices (k : Nat) : (s.elapse k).notices = s.notices := rfl
@[simp] theorem State.elapse_piles (k : Nat) : (s.elapse k).piles = s.piles := rfl
@[simp] theorem State.elapse_grades (k : Nat) : (s.elapse k).grades = s.grades := rfl
@[simp] theorem State.elapse_model (k : Nat) : (s.elapse k).model = s.model := rfl
@[simp] theorem State.elapse_forecast (k : Nat) : (s.elapse k).forecast = s.forecast := rfl
@[simp] theorem State.elapse_dispatch (k : Nat) : (s.elapse k).dispatch = s.dispatch := rfl
@[simp] theorem State.elapse_permits (k : Nat) : (s.elapse k).permits = s.permits := rfl
@[simp] theorem State.elapse_loop (k : Nat) : (s.elapse k).loop = s.loop := rfl
@[simp] theorem State.elapse_pending (k : Nat) : (s.elapse k).pending = s.pending := rfl
@[simp] theorem State.elapse_events (k : Nat) : (s.elapse k).events = s.events := rfl

/-! ## What each update writes -/

@[simp] theorem State.openEvent_events : s.openEvent.events = s.events + 1 := rfl
@[simp] theorem State.hand_notices (c : ChangeSet) (k : Nat) : (s.hand c k).notices = s.notices.hand c k := rfl
@[simp] theorem State.raiseWind_notices :
    s.raiseWind.notices = { s.notices with flags := { s.notices.flags with wind := true } } := rfl
@[simp] theorem State.raiseWater_notices :
    s.raiseWater.notices = { s.notices with flags := { s.notices.flags with water := true } } := rfl
@[simp] theorem State.answer_address (code : Nat) (x : Status) (p : List Byte) :
    (s.answer code x p).port.address = s.port.address := rfl
@[simp] theorem State.answer_sdo (code : Nat) (x : Status) (p : List Byte) :
    (s.answer code x p).port.sdo = s.port.sdo := rfl
@[simp] theorem State.answer_reply (code : Nat) (x : Status) (p : List Byte) :
    (s.answer code x p).port.reply = some ⟨x, code, s.port.reply.isSome, p⟩ := rfl
@[simp] theorem State.mapPile_piles (slot : Nat) (f : Pile → Pile) :
    (s.mapPile slot f).piles = Table.update s.piles slot f := rfl
@[simp] theorem State.mapCannon_cannons (n : Nat) (f : Cannon → Cannon) :
    (s.mapCannon n f).cannons = Table.update s.cannons n f := rfl
@[simp] theorem State.withCannon_cannons (n : Nat) (c : Cannon) :
    (s.withCannon n c).cannons = Table.set s.cannons n c := rfl
@[simp] theorem State.mapOrder_orders (id : Nat) (f : Order → Order) :
    (s.mapOrder id f).dispatch.orders = s.dispatch.orders.map fun o => if o.id = id then f o else o := rfl
@[simp] theorem State.mapOrder_nextId (id : Nat) (f : Order → Order) :
    (s.mapOrder id f).dispatch.nextId = s.dispatch.nextId := rfl
@[simp] theorem State.mapOrder_due (id : Nat) (f : Order → Order) :
    (s.mapOrder id f).dispatch.due = s.dispatch.due := rfl
@[simp] theorem State.mapOrder_lapseTime (id : Nat) (f : Order → Order) :
    (s.mapOrder id f).dispatch.lapseTime = s.dispatch.lapseTime := rfl
@[simp] theorem State.mapOrder_maxDose (id : Nat) (f : Order → Order) :
    (s.mapOrder id f).dispatch.maxDose = s.dispatch.maxDose := rfl
@[simp] theorem State.mapOrder_freshFloor (id : Nat) (f : Order → Order) :
    (s.mapOrder id f).dispatch.freshFloor = s.dispatch.freshFloor := rfl
@[simp] theorem State.freeOrder_orders (id : Nat) :
    (s.freeOrder id).dispatch.orders = s.dispatch.orders.filter fun o => o.id != id := rfl
@[simp] theorem State.occasion_orders : s.occasion.dispatch.orders = s.dispatch.orders := rfl
@[simp] theorem State.occasion_nextId : s.occasion.dispatch.nextId = s.dispatch.nextId := rfl
@[simp] theorem State.occasion_due : s.occasion.dispatch.due = s.dispatch.due + 1 := rfl
@[simp] theorem State.occasion_lapseTime : s.occasion.dispatch.lapseTime = s.dispatch.lapseTime := rfl
@[simp] theorem State.occasion_maxDose : s.occasion.dispatch.maxDose = s.dispatch.maxDose := rfl
@[simp] theorem State.occasion_freshFloor : s.occasion.dispatch.freshFloor = s.dispatch.freshFloor := rfl
@[simp] theorem State.report_orders (k : Nat) : (s.report k).dispatch.orders = s.dispatch.orders := rfl
@[simp] theorem State.report_due (k : Nat) : (s.report k).dispatch.due = s.dispatch.due + k := rfl
@[simp] theorem State.mapPermits_list (c : Permit → Bool) (f : Permit → Permit) :
    (s.mapPermits c f).permits.list = s.permits.list.map fun p => if c p then f p else p := rfl
@[simp] theorem State.mapPermits_nextId (c : Permit → Bool) (f : Permit → Permit) :
    (s.mapPermits c f).permits.nextId = s.permits.nextId := rfl
@[simp] theorem State.mapPermits_outcomes (c : Permit → Bool) (f : Permit → Permit) :
    (s.mapPermits c f).permits.outcomes = s.permits.outcomes := rfl
@[simp] theorem State.mapPermits_prewetWait (c : Permit → Bool) (f : Permit → Permit) :
    (s.mapPermits c f).permits.prewetWait = s.permits.prewetWait := rfl
@[simp] theorem State.mapPermits_maxHold (c : Permit → Bool) (f : Permit → Permit) :
    (s.mapPermits c f).permits.maxHold = s.permits.maxHold := rfl
@[simp] theorem State.mapNode_nodes (a : Nat) (f : Node → Node) :
    (s.mapNode a f).loop.nodes = Table.update s.loop.nodes a f := rfl
@[simp] theorem State.mapNode_phase (a : Nat) (f : Node → Node) : (s.mapNode a f).loop.phase = s.loop.phase := rfl
@[simp] theorem State.withPhase_phase (p : Phase) : (s.withPhase p).loop.phase = p := rfl
@[simp] theorem State.withPhase_nodes (p : Phase) : (s.withPhase p).loop.nodes = s.loop.nodes := rfl
@[simp] theorem State.mapMast_masts (n : Nat) (f : Mast → Mast) :
    (s.mapMast n f).wind.masts = Table.update s.wind.masts n f := rfl
@[simp] theorem State.mapTransfer_transfer (f : Transfer → Transfer) :
    (s.mapTransfer f).water.transfer = f s.water.transfer := rfl
@[simp] theorem State.mapTransfer_pond (f : Transfer → Transfer) : (s.mapTransfer f).water.pond = s.water.pond := rfl
@[simp] theorem State.mapTransfer_tank (f : Transfer → Transfer) : (s.mapTransfer f).water.tank = s.water.tank := rfl
@[simp] theorem State.mapPond_pond (f : Pond → Pond) : (s.mapPond f).water.pond = f s.water.pond := rfl
@[simp] theorem State.mapPond_transfer (f : Pond → Pond) : (s.mapPond f).water.transfer = s.water.transfer := rfl
@[simp] theorem State.mapPond_tank (f : Pond → Pond) : (s.mapPond f).water.tank = s.water.tank := rfl
@[simp] theorem State.withTank_tank (t : Tank) : (s.withTank t).water.tank = some t := rfl
@[simp] theorem State.withTank_pond (t : Tank) : (s.withTank t).water.pond = s.water.pond := rfl
@[simp] theorem State.withTank_transfer (t : Tank) : (s.withTank t).water.transfer = s.water.transfer := rfl
@[simp] theorem State.withMinute_clock (m k : Nat) : (s.withMinute m k).clock = { s.clock with minute := m, seconds := k } := rfl

end Sys2Proof.Machine
end

