-- ==== Sys2Proof/Laws/Tables.lean ====
section
/-! SUPPORT. The laws of the sparse tables and of the ascending key sets: read after write, and that every operation on
them keeps the ascending order. -/

namespace Sys2Proof.Machine

variable {α : Type}

/-! ## Reading -/

@[simp] theorem Table.get_nil (k : Nat) : Table.get ([] : Table α) k = none := rfl

theorem Table.get_cons (e : Nat × α) (t : Table α) (k : Nat) :
    Table.get (e :: t) k = if e.1 = k then some e.2 else Table.get t k := rfl

/-- A read after a write to the same key gives the entry written. -/
@[simp] theorem Table.get_set_self (t : Table α) (k : Nat) (v : α) : Table.get (Table.set t k v) k = some v := by
  induction t with
  | nil => simp [Table.set, Table.get]
  | cons e t ih =>
    obtain ⟨k', v'⟩ := e
    simp only [Table.set]
    split
    · simp [Table.get]
    · split
      · simp [Table.get]
      · simp [Table.get, *]

/-- A write leaves every other key alone. -/
theorem Table.get_set_of_ne (t : Table α) {j k : Nat} (v : α) (h : j ≠ k) :
    Table.get (Table.set t k v) j = Table.get t j := by
  induction t with
  | nil => simp [Table.set, Table.get, h.symm]
  | cons e t ih =>
    obtain ⟨k', v'⟩ := e
    simp only [Table.set]
    split
    · simp [Table.get, h.symm]
    · split
      · subst_vars; simp [Table.get, h.symm]
      · simp [Table.get, ih]

/-- A change in place is read back at its key. -/
theorem Table.get_update_self (t : Table α) (k : Nat) (f : α → α) :
    Table.get (Table.update t k f) k = (Table.get t k).map f := by
  induction t with
  | nil => rfl
  | cons e t ih =>
    obtain ⟨k', v'⟩ := e
    by_cases h : k' = k
    · simp [Table.update, Table.get, h]
    · simpa [Table.update, Table.get, h] using ih

/-- A change in place leaves every other key alone. -/
theorem Table.get_update_of_ne (t : Table α) {j k : Nat} (f : α → α) (h : j ≠ k) :
    Table.get (Table.update t k f) j = Table.get t j := by
  induction t with
  | nil => rfl
  | cons e t ih =>
    obtain ⟨k', v'⟩ := e
    by_cases hk : k' = k
    · subst hk; simpa [Table.update, Table.get, h.symm] using ih
    · by_cases hj : k' = j
      · subst hj; simp [Table.update, Table.get, hk]
      · simpa [Table.update, Table.get, hk, hj] using ih

/-- An erased key is free. -/
@[simp] theorem Table.get_erase_self (t : Table α) (k : Nat) : Table.get (Table.erase t k) k = none := by
  induction t with
  | nil => rfl
  | cons e t ih =>
    obtain ⟨k', v'⟩ := e
    by_cases h : k' = k
    · simpa [Table.erase, h] using ih
    · simpa [Table.erase, h, Table.get] using ih

/-- An erasure leaves every other key alone. -/
theorem Table.get_erase_of_ne (t : Table α) {j k : Nat} (h : j ≠ k) :
    Table.get (Table.erase t k) j = Table.get t j := by
  induction t with
  | nil => rfl
  | cons e t ih =>
    obtain ⟨k', v'⟩ := e
    by_cases hk : k' = k
    · subst hk; simpa [Table.erase, Table.get, h.symm] using ih
    · by_cases hj : k' = j
      · subst hj; simp [Table.erase, Table.get, hk]
      · simpa [Table.erase, Table.get, hk, hj] using ih

/-! ## The ascending order -/

theorem ascending_iff_pairwise (l : List Nat) : ascending l = true ↔ l.Pairwise (· < ·) := by
  induction l with
  | nil => simp [ascending]
  | cons a l ih =>
    cases l with
    | nil => simp [ascending]
    | cons b l =>
      rw [ascending, Bool.and_eq_true, decide_eq_true_eq, ih]
      refine ⟨fun ⟨hab, h⟩ => List.pairwise_cons.2 ⟨fun c hc => ?_, h⟩, fun h =>
        ⟨(List.pairwise_cons.1 h).1 b (by simp), (List.pairwise_cons.1 h).2⟩⟩
      rcases List.mem_cons.1 hc with rfl | hc
      · exact hab
      · exact hab.trans ((List.pairwise_cons.1 h).1 c hc)

theorem Table.wf_iff_pairwise (t : Table α) : Table.wf t = true ↔ t.Pairwise fun a b => a.1 < b.1 := by
  rw [Table.wf, ascending_iff_pairwise, Table.keys, List.pairwise_map]

/-- An update keeps the keys. -/
@[simp] theorem Table.keys_update (t : Table α) (k : Nat) (f : α → α) :
    Table.keys (Table.update t k f) = Table.keys t := by
  simp only [Table.keys, Table.update, List.map_map]
  exact List.map_congr_left fun e _ => by dsimp only [Function.comp]; split <;> rfl

/-- A change of every entry keeps the keys. -/
@[simp] theorem Table.keys_map (t : Table α) {β : Type} (f : Nat × α → β) :
    Table.keys (t.map fun e => (e.1, f e)) = Table.keys t := by
  simp [Table.keys, Function.comp_def]

theorem Table.wf_update (t : Table α) (k : Nat) (f : α → α) (h : Table.wf t = true) :
    Table.wf (Table.update t k f) = true := by
  rwa [Table.wf, Table.keys_update]

theorem Table.wf_map (t : Table α) {β : Type} (f : Nat × α → β) (h : Table.wf t = true) :
    Table.wf (t.map fun e => (e.1, f e)) = true := by
  rwa [Table.wf, Table.keys_map]

theorem Table.wf_filter (t : Table α) (p : Nat × α → Bool) (h : Table.wf t = true) :
    Table.wf (t.filter p) = true := by
  rw [Table.wf_iff_pairwise] at h ⊢
  exact h.filter p

theorem Table.wf_erase (t : Table α) (k : Nat) (h : Table.wf t = true) : Table.wf (Table.erase t k) = true :=
  Table.wf_filter t _ h

/-- An entry of a written table is the new one or an old one. -/
theorem Table.mem_set {t : Table α} {k : Nat} {v : α} {e : Nat × α} (h : e ∈ Table.set t k v) :
    e = (k, v) ∨ e ∈ t := by
  induction t with
  | nil => exact .inl (by simpa [Table.set] using h)
  | cons d t ih =>
    obtain ⟨k', v'⟩ := d
    simp only [Table.set] at h
    split at h
    · simpa using h
    · split at h
      · rcases List.mem_cons.1 h with rfl | h
        · exact .inl rfl
        · exact .inr (List.mem_cons_of_mem _ h)
      · rcases List.mem_cons.1 h with rfl | h
        · exact .inr (by simp)
        · exact (ih h).imp id (List.mem_cons_of_mem _)

theorem Table.wf_set (t : Table α) (k : Nat) (v : α) (h : Table.wf t = true) : Table.wf (Table.set t k v) = true := by
  rw [Table.wf_iff_pairwise] at h ⊢
  induction t with
  | nil => simp [Table.set]
  | cons d t ih =>
    obtain ⟨k', v'⟩ := d
    obtain ⟨h1, h2⟩ := List.pairwise_cons.1 h
    simp only [Table.set]
    split
    · rename_i hk
      refine List.pairwise_cons.2 ⟨fun e he => ?_, h⟩
      rcases List.mem_cons.1 he with rfl | he
      · exact hk
      · exact hk.trans (h1 e he)
    · split
      · rename_i hk; subst hk; exact List.pairwise_cons.2 ⟨h1, h2⟩
      · refine List.pairwise_cons.2 ⟨fun e he => ?_, ih h2⟩
        rcases Table.mem_set he with rfl | he
        · dsimp only; omega
        · exact h1 e he

theorem mem_insertKey {l : List Nat} {k x : Nat} (h : x ∈ insertKey l k) : x = k ∨ x ∈ l := by
  induction l with
  | nil => exact .inl (by simpa [insertKey] using h)
  | cons a l ih =>
    simp only [insertKey] at h
    split at h
    · simpa using h
    · split at h
      · exact .inr h
      · rcases List.mem_cons.1 h with rfl | h
        · exact .inr (by simp)
        · exact (ih h).imp id (List.mem_cons_of_mem _)

/-- A key handed to an ascending set leaves it ascending (R179). -/
theorem ascending_insertKey (l : List Nat) (k : Nat) (h : ascending l = true) : ascending (insertKey l k) = true := by
  rw [ascending_iff_pairwise] at h ⊢
  induction l with
  | nil => simp [insertKey]
  | cons a l ih =>
    obtain ⟨h1, h2⟩ := List.pairwise_cons.1 h
    simp only [insertKey]
    split
    · rename_i hk
      refine List.pairwise_cons.2 ⟨fun e he => ?_, h⟩
      rcases List.mem_cons.1 he with rfl | he
      · exact hk
      · exact hk.trans (h1 e he)
    · split
      · exact h
      · refine List.pairwise_cons.2 ⟨fun e he => ?_, ih h2⟩
        rcases mem_insertKey he with rfl | he
        · omega
        · exact h1 e he

theorem ascending_drop (l : List Nat) (n : Nat) (h : ascending l = true) : ascending (l.drop n) = true := by
  rw [ascending_iff_pairwise] at h ⊢
  exact h.sublist (List.drop_sublist n l)

/-- In a table whose keys ascend, an entry listed is the one read at its key. -/
theorem Table.get_of_mem {t : Table α} (h : Table.wf t = true) {e : Nat × α} (he : e ∈ t) :
    Table.get t e.1 = some e.2 := by
  rw [Table.wf_iff_pairwise] at h
  induction t with
  | nil => simp at he
  | cons d t ih =>
    obtain ⟨h1, h2⟩ := List.pairwise_cons.1 h
    rcases List.mem_cons.1 he with rfl | he
    · simp [Table.get]
    · have := h1 e he
      simp [Table.get, Nat.ne_of_lt this, ih h2 he]

/-- An entry read at a key is listed. -/
theorem Table.mem_of_get {t : Table α} {k : Nat} {v : α} (h : Table.get t k = some v) : (k, v) ∈ t := by
  induction t with
  | nil => simp at h
  | cons d t ih =>
    obtain ⟨k', v'⟩ := d
    simp only [Table.get] at h
    split at h
    · subst_vars; simp at h; simp [h]
    · exact List.mem_cons_of_mem _ (ih h)

end Sys2Proof.Machine
end

