-- ==== Sys2Proof/Laws/Operations.lean ====
section
/-! SUPPORT. What each shared operation can do, said once: the cases of its answer, or what is read back after it. -/

namespace Sys2Proof.Machine

/-! ## Entries read back after a change in place -/

/-- A cannon changed in its entry is read back changed, and any other as it was. -/
theorem cannon_mapCannon (s : State) (n k : Nat) (f : Cannon → Cannon) :
    (s.mapCannon n f).cannon? k = if k = n then (s.cannon? k).map f else s.cannon? k := by
  by_cases h : k = n
  · subst h; simp [State.cannon?, State.mapCannon, Table.get_update_self]
  · simp [State.cannon?, State.mapCannon, h, Table.get_update_of_ne _ _ h]

/-- A node changed in its entry is read back changed, and any other as it was. -/
theorem node_mapNode (s : State) (a k : Nat) (f : Node → Node) :
    (s.mapNode a f).node? k = if k = a then (s.node? k).map f else s.node? k := by
  by_cases h : k = a
  · subst h; simp [State.node?, State.mapNode, Table.get_update_self]
  · simp [State.node?, State.mapNode, h, Table.get_update_of_ne _ _ h]

/-- A stopping command takes the place of whatever was pending (R162). -/
theorem slot_placeStop (s : State) (a k : Nat) (c : LoopCommand) :
    (s.placeStop a c).slot? k = if k = a then (s.node? k).map fun _ => c else s.slot? k := by
  by_cases h : k = a
  · subst h; simp [State.slot?, State.placeStop, node_mapNode]; cases s.node? k <;> rfl
  · simp [State.slot?, State.placeStop, node_mapNode, h]

/-- A starting command is placed in an empty slot only (R162). -/
theorem slot_placeStart (s : State) (a k : Nat) (c : LoopCommand) :
    (s.placeStart a c).slot? k = if k = a ∧ s.slot? k = none then (s.node? k).map fun _ => c else s.slot? k := by
  by_cases h : k = a
  · subst h
    simp only [State.slot?, State.placeStart, node_mapNode, true_and, if_true]
    cases hn : s.node? k with
    | none => simp
    | some n => cases hs : n.slot <;> simp [hs]
  · simp [State.slot?, State.placeStart, node_mapNode, h]

/-! ## The clock's expiries and the stale limits -/

/-- What a block's row finds of the step timer's expiries: one handed to it, that of the coming second, or none (R177). -/
theorem taken_cases (x : Expiries) (left : Nat) :
    (0 < x.due ∧ x.taken? left = some { x with due := x.due - 1 })
      ∨ (x.due = 0 ∧ left = 1 ∧ x.ahead = false ∧ x.taken? left = some ⟨0, true⟩)
      ∨ (x.due = 0 ∧ (left ≠ 1 ∨ x.ahead = true) ∧ x.taken? left = none) := by
  unfold Expiries.taken?
  by_cases h : 0 < x.due
  · exact .inl ⟨h, by simp [h]⟩
  · by_cases h2 : left = 1 ∧ x.ahead = false
    · exact .inr (.inl ⟨by omega, h2.1, h2.2, by simp [h, h2]⟩)
    · refine .inr (.inr ⟨by omega, ?_, by simp [h, h2]⟩)
      by_cases h3 : left = 1
      · exact .inr (by simpa [h3] using h2)
      · exact .inl h3

/-- A model step is taken for an expiry, or nothing happens (R23, R177). -/
theorem modelStep_cases (s : State) :
    (∃ x, s.clock.modelDue.taken? s.clock.stepLeft = some x
        ∧ s.modelStep = { s with clock := { s.clock with modelDue := x } }.takeStep)
      ∨ (s.clock.modelDue.taken? s.clock.stepLeft = none ∧ s.modelStep = s) := by
  unfold State.modelStep
  split
  · rename_i x h; exact .inl ⟨x, h, rfl⟩
  · rename_i h; exact .inr ⟨h, rfl⟩

/-- The ended slots are retired for an expiry, or nothing happens (R69, R177). -/
theorem slotRetirement_cases (s : State) :
    (∃ x, s.clock.retireDue.taken? s.clock.stepLeft = some x
        ∧ s.slotRetirement = { s with clock := { s.clock with retireDue := x } }.retireSlots)
      ∨ (s.clock.retireDue.taken? s.clock.stepLeft = none ∧ s.slotRetirement = s) := by
  unfold State.slotRetirement
  split
  · rename_i x h; exact .inl ⟨x, h, rfl⟩
  · rename_i h; exact .inr ⟨h, rfl⟩

/-- A mast goes stale when its sample age has reached the limit, or nothing happens (R49). -/
theorem staleMast_cases (s : State) (n : Nat) :
    (∃ m, Table.get s.wind.masts n = some m ∧ m.fresh = true ∧ m.stale ≤ m.age.getD 0
        ∧ s.staleMast n = (s.mapMast n Mast.staled, [.selectWeather]))
      ∨ ((∀ m, Table.get s.wind.masts n = some m → m.fresh = false ∨ m.age.getD 0 < m.stale) ∧ s.staleMast n = (s, [])) := by
  unfold State.staleMast
  split
  · rename_i h; exact .inr ⟨fun m hm => by simp [h] at hm, rfl⟩
  · rename_i m h
    by_cases ho : m.overdue = true
    · refine .inl ⟨m, h, ?_, ?_, by simp [ho]⟩ <;> simp [Mast.overdue] at ho <;> simp [ho]
    · refine .inr ⟨fun k hk => ?_, by simp [ho]⟩
      rw [h] at hk; cases hk
      cases hf : m.fresh <;> simp [Mast.overdue, hf] at ho ⊢; exact ho

/-- The gauge goes stale when the age of its reading has reached the limit, or nothing happens (R129). -/
theorem staleGauge_cases (s : State) :
    (∃ t, s.water.tank = some t ∧ t.fresh = true ∧ t.config.stale ≤ t.age.getD 0
        ∧ s.staleGauge = (s.withTank { t with fresh := false, qualityCount := 0 }).raiseWater.evalTransfer)
      ∨ ((∀ t, s.water.tank = some t → t.fresh = false ∨ t.age.getD 0 < t.config.stale) ∧ s.staleGauge = s) := by
  unfold State.staleGauge
  split
  · rename_i h; exact .inr ⟨fun t ht => by simp [h] at ht, rfl⟩
  · rename_i t h
    by_cases ho : t.overdue = true
    · refine .inl ⟨t, h, ?_, ?_, by simp [ho]⟩ <;> simp [Tank.overdue] at ho <;> simp [ho]
    · refine .inr ⟨fun k hk => ?_, by simp [ho]⟩
      rw [h] at hk; cases hk
      cases hf : t.fresh <;> simp [Tank.overdue, hf] at ho ⊢; exact ho

/-- A mast is chosen whenever one is FRESH, and the chosen one is among them (R51). -/
theorem chosenMast_cases (l : List Mast) :
    (l = [] ∧ chosenMast l = none) ∨ ∃ m ∈ l, chosenMast l = some m
      ∧ ∀ y ∈ l, y.average.getD 0 ≤ m.average.getD 0 := by
  induction l with
  | nil => exact .inl ⟨rfl, rfl⟩
  | cons a t ih =>
    right
    obtain ⟨rfl, h⟩ | ⟨m, hm, h, hle⟩ := ih
    · exact ⟨a, by simp, by simp [chosenMast], by simp⟩
    · by_cases hlt : a.average.getD 0 < m.average.getD 0
      · exact ⟨m, by simp [hm], by simp [chosenMast, h, hlt], by simpa using ⟨hlt.le, hle⟩⟩
      · refine ⟨a, by simp, by simp [chosenMast, h, hlt], ?_⟩
        simp only [List.mem_cons, forall_eq_or_imp, le_refl, true_and]
        exact fun y hy => (hle y hy).trans (not_lt.mp hlt)

/-- What a selection takes: the chosen FRESH mast, else the slot that covers now, else what was held or the values of
reset (R50 to R53). -/
theorem weatherNow_cases (s : State) :
    (∃ m ∈ s.wind.freshMasts, chosenMast s.wind.freshMasts = some m
        ∧ s.weatherNow = s.wind.observed s.wind.freshMasts m)
      ∨ (s.wind.freshMasts = [] ∧ ∃ x, s.forecast.lookup s.now = some x ∧ s.weatherNow = forecastWeather x)
      ∨ (s.wind.freshMasts = [] ∧ s.forecast.lookup s.now = none
        ∧ s.weatherNow = if s.wind.established then s.wind.heldWeather else Weather.initial) := by
  unfold State.weatherNow
  obtain ⟨h, hc⟩ | ⟨m, hm, hc, -⟩ := chosenMast_cases s.wind.freshMasts
  · cases hl : s.forecast.lookup s.now <;> simp [h, chosenMast]
  · exact .inl ⟨m, hm, hc, by simp [hc]⟩

/-- A selection writes the weather it finds and raises WIND at a change of source; the holds are evaluated where it has changed a
value (R50, R54, R55). -/
theorem selectWeather_cases (s : State) :
    (s.weatherNow = s.wind.weather ∧ s.selectWeather = ({ s with wind := s.wind.withWeather s.weatherNow }, []))
      ∨ (s.weatherNow ≠ s.wind.weather ∧ s.weatherNow.source = s.wind.weather.source
        ∧ s.selectWeather = ({ s with wind := s.wind.withWeather s.weatherNow }, [.evalHolds]))
      ∨ (s.weatherNow.source ≠ s.wind.weather.source
        ∧ s.selectWeather = (State.raiseWind { s with wind := s.wind.withWeather s.weatherNow }, [.evalHolds])) := by
  by_cases hw : s.weatherNow = s.wind.weather
  · left; exact ⟨hw, by simp [State.selectWeather, hw]⟩
  · by_cases hs : s.weatherNow.source = s.wind.weather.source
    · right; left; exact ⟨hw, hs, by simp [State.selectWeather, hw, hs]⟩
    · right; right; exact ⟨hs, by simp [State.selectWeather, hw, hs]⟩

/-- An evaluation writes both holds, raises WIND where one has changed, and has HOLD join every open order, leave every one, or
neither (R54 to R56). -/
theorem evalHolds_cases (s : State) : ∃ u : State,
    (∃ cut fr, cut = cutOutNext s.wind.limits s.wind.weather.speed s.wind.cutOut
      ∧ fr = frostNext s.wind.limits s.wind.weather.temp s.wind.frost
      ∧ u = (if cut = s.wind.cutOut ∧ fr = s.wind.frost then { s with wind := { s.wind with cutOut := cut, frost := fr } }
        else State.raiseWind { s with wind := { s.wind with cutOut := cut, frost := fr } }))
    ∧ ((u.wind.hold = s.wind.hold ∧ s.evalHolds = (u, []))
      ∨ (s.wind.hold = false ∧ u.wind.hold = true
        ∧ s.evalHolds = (u, (u.dispatch.orders.filter Order.isOpen).map fun o => .addReason o.id .hold))
      ∨ (s.wind.hold = true ∧ u.wind.hold = false ∧ s.evalHolds = (u.dropHold, []))) := by
  refine ⟨_, ⟨_, _, rfl, rfl, rfl⟩, ?_⟩
  generalize hc : cutOutNext s.wind.limits s.wind.weather.speed s.wind.cutOut = cut
  generalize hf : frostNext s.wind.limits s.wind.weather.temp s.wind.frost = fr
  simp only [State.evalHolds, hc, hf, Wind.hold]
  cases cut <;> cases fr <;> cases hx : s.wind.cutOut <;> cases hy : s.wind.frost <;> simp [State.raiseWind]

/-! ## The account -/

/-- The evaluation of spent, in full (R132). -/
theorem evalSpent_eq (s : State) :
    s.evalSpent = { s with
      water := { s.water with spent := decide (s.freshAvailable < Config.trickle) }
      notices := { s.notices with flags := { s.notices.flags with
        water := s.notices.flags.water || (decide (s.freshAvailable < Config.trickle) && !s.water.spent) } } } := by
  simp only [State.evalSpent]
  by_cases h : s.freshAvailable < Config.trickle <;> cases hs : s.water.spent <;> simp [h, State.raiseWater]

/-- The release of a cannon's header slot: it empties the slot and occasions an arbitration, or finds none (R123). -/
theorem releaseHeader_cases (s : State) (n : Nat) :
    (∃ c, s.cannon? n = some c ∧ c.header.isSome = true
        ∧ s.releaseHeader n = (s.mapCannon n fun c => { c with header := none }).occasion)
      ∨ ((∀ c, s.cannon? n = some c → c.header = none) ∧ s.releaseHeader n = s) := by
  unfold State.releaseHeader
  split
  · rename_i c hc
    by_cases h : c.header.isSome = true
    · exact .inl ⟨c, hc, h, by simp [h]⟩
    · refine .inr ⟨fun d hd => ?_, by simp [h]⟩
      rw [hc] at hd; cases hd; simpa using h
  · rename_i hc; exact .inr ⟨fun d hd => by simp [hc] at hd, rfl⟩

/-- The evaluation of the transfer run: a start, a stop, or nothing (R138). -/
theorem evalTransfer_cases (s : State) :
    (s.water.transfer.state = .stopped ∧ s.water.transfer.holdOff = none ∧ s.startConditions = true
        ∧ s.evalTransfer = s.startRun)
      ∨ ((s.water.transfer.state = .starting ∨ s.water.transfer.state = .running) ∧ s.stopConditions = true
        ∧ s.evalTransfer = s.stopRun .stopCondition)
      ∨ s.evalTransfer = s := by
  unfold State.evalTransfer
  cases h : s.water.transfer.state <;> simp only []
  · by_cases h2 : s.water.transfer.holdOff.isNone && s.startConditions
    · simp only [h2, if_true]; simp at h2; simp [h2]
    · simp [h2]
  · by_cases h2 : s.stopConditions <;> simp [h2]
  · by_cases h2 : s.stopConditions <;> simp [h2]
  · simp

/-- The pump's report moves the run, stops a pump found running while the run is STOPPED, or changes nothing (R139). -/
theorem pumpReport_cases (s : State) (running : Bool) :
    (s.water.transfer.state = .starting ∧ running = true ∧ s.pumpReport running
        = s.mapTransfer fun t => { t with state := .running, startWait := none, runWaiting := false })
      ∨ (s.water.transfer.state = .running ∧ running = false ∧ s.pumpReport running
        = (s.mapTransfer fun t => { t with
            state := .stopped, lastEnd := some .pumpStopped, holdOff := some Config.holdOff }).raiseWater)
      ∨ (s.water.transfer.state = .stopping ∧ running = false ∧ s.transferSlotEmpty = true ∧ s.pumpReport running
        = s.mapTransfer fun t => { t with
            state := .stopped, holdOff := if t.pendingHoldOff then some Config.holdOff else t.holdOff
            pendingHoldOff := false })
      ∨ (s.water.transfer.state = .stopped ∧ running = true ∧ s.pumpReport running = s.placeStopRun)
      ∨ s.pumpReport running = s := by
  unfold State.pumpReport
  cases s.water.transfer.state <;> cases running <;> simp
  cases s.transferSlotEmpty <;> simp

/-! ## The controller -/

/-- What a reason or a cancellation makes of a cannon's pass, by the cannon's state (R111). -/
theorem closeDown_cases (s : State) (n : Nat) :
    (s.closeDown n = (s, []) ∧ ∀ c, s.cannon? n = some c → c.state ≠ .aiming ∧ c.state ≠ .spraying)
      ∨ ∃ c, s.cannon? n = some c
        ∧ ((c.state = .spraying ∧ s.closeDown n = (s.rampDown n, []))
          ∨ (c.state = .aiming ∧ c.aimPhase = some .opening
            ∧ s.closeDown n = (((s.placeClose n).mapCannon n Cannon.unbound).mapCannon n fun c =>
                { c with state := .rampDown, aimPhase := none, closeWait := c.closeWaitStart },
              c.passEndTasks .abandoned 0))
          ∨ (c.state = .aiming ∧ c.aimPhase ≠ some .opening
            ∧ s.closeDown n = ((((s.placeClose n).mapCannon n Cannon.unbound).releaseHeader n).toIdle n,
              c.passEndTasks .abandoned 0))) := by
  unfold State.closeDown
  split
  · rename_i h; exact .inl ⟨rfl, fun c hc => by simp [h] at hc⟩
  · rename_i c hc
    cases hs : c.state <;> simp only []
    case aiming =>
      right; refine ⟨c, hc, ?_⟩
      by_cases hp : c.aimPhase = some .opening <;> simp [hs, hp]
    case spraying => right; exact ⟨c, hc, .inl (by simp [hs])⟩
    all_goals (left; refine ⟨by simp, fun d hd => ?_⟩; rw [hc] at hd; cases hd; simp [hs])

/-- The placing of an AIM: at once with the slew timer started, or once the slot empties (R106). -/
theorem placeAim_cases (s : State) (n : Nat) (c : Cannon) (o : Order) :
    (s.slot? c.config.node = none ∧ s.placeAim n c o =
        (s.placeStart c.config.node (.aim (o.aimArc c).1 (o.aimArc c).2 c.config.sweepRate)).mapCannon n fun c =>
          { c with slew := some c.config.slewTimeout, aimWaiting := false })
      ∨ (s.slot? c.config.node ≠ none ∧ s.placeAim n c o = s.mapCannon n fun c => { c with aimWaiting := true }) := by
  unfold State.placeAim
  cases h : s.slot? c.config.node <;> simp

/-- A slot that empties places the AIM that has waited for it, or changes nothing (R106). -/
theorem cannonSlotEmptied_cases (s : State) (n : Nat) :
    (∃ c o p, s.cannon? n = some c ∧ c.aimWaiting = true ∧ s.boundPass? c = some (o, p)
        ∧ s.cannonSlotEmptied n = s.placeAim n c o)
      ∨ ((∀ c, s.cannon? n = some c → c.aimWaiting = false ∨ s.boundPass? c = none) ∧ s.cannonSlotEmptied n = s) := by
  unfold State.cannonSlotEmptied
  cases hc : s.cannon? n with
  | none => simp
  | some c =>
    cases hw : c.aimWaiting with
    | false => simp [hw]
    | true =>
      cases hb : s.boundPass? c with
      | none => simp [hw, hb]
      | some x => exact .inl ⟨c, x.1, x.2, rfl, hw, hb, by simp [hw, hb]⟩

/-- What a reply's overload makes of the blanking timer, or of the cannon at a blanking time of 0 (R114). -/
theorem actOnOverload_cases (s : State) (n : Nat) (r : NodeReport) :
    (∃ c, s.cannon? n = some c ∧ (c.state = .aiming ∨ c.state = .spraying)
        ∧ ((r.overload = true ∧ c.config.blanking = 0 ∧ s.actOnOverload n r = s.trip n .trip)
          ∨ ((r.overload = false ∨ c.config.blanking ≠ 0)
            ∧ s.actOnOverload n r = (s.mapCannon n fun c => { c with blankingOn := r.overload }, []))))
      ∨ ((∀ c, s.cannon? n = some c → c.state ≠ .aiming ∧ c.state ≠ .spraying) ∧ s.actOnOverload n r = (s, [])) := by
  unfold State.actOnOverload
  cases hc : s.cannon? n with
  | none => simp
  | some c =>
    by_cases hs : c.state = .aiming ∨ c.state = .spraying
    · left; refine ⟨c, rfl, hs, ?_⟩
      cases ho : r.overload <;> by_cases hb : c.config.blanking = 0 <;> simp [hs, hb]
    · right; refine ⟨fun d hd => ?_, by simp [hs]⟩
      cases hd; simpa using hs

/-! ## The dispatcher -/

/-- One order in its turn at an arbitration: bound, newly starved, or left (R85 to R88). -/
theorem consider_cases (s : State) (o : Order) :
    (∃ h n c, s.offer o = some (h, n, c) ∧ s.consider o = s.bindPass o h n c)
      ∨ (s.offer o = none ∧ s.offered o ≠ [] ∧ o.starved = false
        ∧ s.consider o = (s.mapOrder o.id fun o => { o with starved := true }).hand .order o.id)
      ∨ (s.offer o = none ∧ (s.offered o = [] ∨ o.starved = true) ∧ s.consider o = s) := by
  unfold State.consider
  split
  · rename_i h n c ho; exact .inl ⟨h, n, c, ho, rfl⟩
  · rename_i ho
    by_cases h : (s.offered o).isEmpty || o.starved
    · exact .inr (.inr ⟨ho, by simpa using h, by simp [h]⟩)
    · refine .inr (.inl ⟨ho, ?_, ?_, by simp [h]⟩) <;> simp_all

/-- A reason that reaches an open order without it joins its set, and closes its pass down; otherwise nothing happens (R82). -/
theorem addReason_cases (s : State) (id : Nat) (r : Reason) :
    (((s.order? id = none) ∨ ∃ o, s.order? id = some o ∧ (o.isOpen = false ∨ o.suspension.has r = true))
        ∧ s.addReason id r = (s, []))
      ∨ ∃ o, s.order? id = some o ∧ o.isOpen = true ∧ o.suspension.has r = false
        ∧ s.addReason id r = (s.mapOrder id fun o => o.withReason r).closePass o := by
  unfold State.addReason
  cases h : s.order? id with
  | none => simp
  | some o => by_cases hc : o.isOpen = false ∨ o.suspension.has r = true
              · exact .inl ⟨.inr ⟨o, rfl, hc⟩, by simp [hc]⟩
              · exact .inr ⟨o, rfl, by simp_all, by simp_all, by simp [hc]⟩

/-! ## Permits that ask for a prewet order (R81, R146, R148) -/

/-- A request for a prewet order finds no permit that asks, the order its pile has open, no pile or grade or no free entry, or
has one placed. -/
theorem askPrewet_cases (s : State) (tag : Nat) (only : Option Nat) :
    ((∀ x ∈ s.permits.list, x.asksOn tag only = false) ∧ s.askPrewet tag only = (s, []))
      ∨ (∃ o, s.openPrewet? tag = some o ∧ s.askPrewet tag only
          = (s.mapPermits (fun x => x.asksOn tag only) fun x => { x with prewetOrder := some o.id }, []))
      ∨ (s.openPrewet? tag = none ∧ (s.ordersFull = true ∨ ∀ slot p, s.pileAt? tag = some (slot, p) → s.gradeOf? p = none)
        ∧ s.askPrewet tag only = (s, []))
      ∨ ∃ slot p g a, s.openPrewet? tag = none ∧ s.ordersFull = false ∧ s.pileAt? tag = some (slot, p) ∧ s.gradeOf? p = some g
        ∧ a = s.accept (s.prewetRequest p g) ∧ s.askPrewet tag only
          = (a.1.mapPermits (fun x => x.asksOn tag only) fun x => { x with prewetOrder := some a.2.1 }, a.2.2.2) := by
  unfold State.askPrewet
  by_cases h : (s.permits.list.any fun x => x.asksOn tag only) = false
  · left; exact ⟨by simpa using h, by simp only [h, ↓reduceIte]⟩
  · right
    rw [if_neg h]
    cases ho : s.openPrewet? tag with
    | some o => exact .inl ⟨o, rfl, rfl⟩
    | none =>
      right
      cases hp : s.pileAt? tag with
      | none => exact .inl ⟨rfl, .inr (by simp), rfl⟩
      | some e =>
        obtain ⟨slot, p⟩ := e
        cases hg : s.gradeOf? p with
        | none => exact .inl ⟨rfl, .inr (by rintro _ _ ⟨⟩; exact hg), by simp [hg]⟩
        | some g =>
          cases hf : s.ordersFull with
          | true => exact .inl ⟨rfl, .inl rfl, by simp [hg]⟩
          | false => exact .inr ⟨slot, p, g, _, rfl, rfl, rfl, hg, rfl, by simp [hg]⟩

/-! ## Zone (R82, R151) -/

/-- A pass is closed down, or the order has none that still runs and nothing happens. -/
theorem closePass_cases (s : State) (o : Order) :
    ((o.pass = none ∨ ∃ p, o.pass = some p ∧ p.state = .closed) ∧ s.closePass o = (s, []))
      ∨ ∃ p, o.pass = some p ∧ p.state ≠ .closed ∧ s.closePass o = s.closeDown p.cannon := by
  cases h : o.pass with
  | none => exact .inl ⟨.inl rfl, by simp [State.closePass, h]⟩
  | some p =>
    by_cases hc : p.state = .closed
    · exact .inl ⟨.inr ⟨p, rfl, hc⟩, by simp [State.closePass, h, hc]⟩
    · exact .inr ⟨p, rfl, hc, by simp [State.closePass, h, hc]⟩

/-- After a permit has entered CLEARING every open order on the pile has ZONE; no order has lost or gained its place, its
pile, its state or its pass. -/
theorem enterClearing_orders (s : State) (tag : Nat) :
    (s.enterClearing tag).1.dispatch.orders
        = s.dispatch.orders.map (fun o => if o.zoneJoins tag then o.withReason .zone else o)
      ∧ ∀ o ∈ (s.enterClearing tag).1.dispatch.orders, o.tag = tag → o.isOpen = true → o.suspension.zone = true := by
  refine ⟨rfl, fun o ho ht hopen => ?_⟩
  obtain ⟨x, -, rfl⟩ := List.mem_map.mp ho
  by_cases hz : x.zoneJoins tag = true
  · simp [hz, Order.withReason, Suspension.add]
  · simp only [hz, Bool.false_eq_true, ↓reduceIte] at ht hopen ⊢
    simpa [Order.zoneJoins, ht, hopen, Suspension.has] using hz

end Sys2Proof.Machine
end

