-- ==== Sys2Proof/WellFormed.lean ====
section
/-! DEFINITION. Which terms of Instr a frame or an event can carry.
The widths of the fields hold by their types; what stands here is what the layouts of spec/11 and the tables'
capacities add. A host command with a value out of its rule's range is well formed: it is answered BAD-ARGUMENT. -/

namespace Sys2Proof

/-- A frame of PLACE-ORDER holds 0 to 8 plan entries (R189). -/
def PlaceOrderArgs.wf (a : PlaceOrderArgs) : Bool := a.plan.length ≤ 8

/-- A frame of LOAD-CANNON has room for at most 7 coverage entries in its 60 payload bytes (R172, R187); an unloading
carries no fields (R187). -/
def CannonArgs.wf (node : Byte) (a : CannonArgs) : Bool :=
  if node = 0 then a = CannonArgs.none else a.coverage.length ≤ 7

/-- An unloading LOAD-BASIN TANK carries no fields (R187). -/
def TankArgs.wf (node : Byte) (a : TankArgs) : Bool := node != 0 || a = TankArgs.none

/-- READ-FORECAST by index carries a one-byte index (R72, R187). -/
def forecastKeyWf (form : Byte) (key : Long) : Bool := form != 1 || key.toNat < 256

/-- An event of a cannon names an entry of the cannon table (R99). -/
def cannonWf (n : Byte) : Bool := n.toNat < Config.cannons

/-- An event of a mast names an entry of the mast table (R44). -/
def mastWf (n : Byte) : Bool := n.toNat < Config.masts

/-- An event of a permit names a machine id (R144). -/
def machineWf (n : Byte) : Bool := 1 ≤ n.toNat && n.toNat ≤ 63

/-- An event of an order names an order id (R74). -/
def orderWf (n : Half) : Bool := 1 ≤ n.toNat

/-- A complete node reply holds its length plus 4 bytes, so at most 259 (R190). -/
def lineWf (bytes : List Byte) : Bool := bytes.length ≤ 259

/-- The well-formed commands. -/
def Instr.wf : Instr → Bool
  | .placeOrder a => a.wf
  | .loadCannon _ node a => a.wf node
  | .loadBasinTank node a => a.wf node
  | .readForecast form key => forecastKeyWf form key
  | .mastStaleExpiry n => mastWf n
  | .orderLapse n => orderWf n
  | .slewTimeout n => cannonWf n
  | .blankingTimerExpiry n => cannonWf n
  | .closeWaitExpiry n => cannonWf n
  | .retryDelayEnd n => cannonWf n
  | .tripCountDecay n => cannonWf n
  | .prewetWaitExpiry n => machineWf n
  | .maxHoldLapse n => machineWf n
  | .validReply bytes => lineWf bytes
  | .callAnswer bytes => lineWf bytes
  | .powerOnReset _ | .badFrame _ _ _ | .fetchReply _ | .readIdent | .readNotices | .readChanges _ | .setMask _
  | .setClock _ _ | .readClock | .resetYard _ | .loadGrade _ _ | .openPile _ | .amendPile _ | .readPile _ _
  | .rankPiles _ | .setMoisture _ _ | .reportDisturbance _ _ _ | .retirePile _ | .setLead _ | .setBands _ _ _
  | .readModel | .modelStep | .loadMast _ _ _ | .setWindLimits _ | .readWind | .postForecast _ _ | .slotRetirement
  | .setYardCodes _ _ _ _ | .clearForecasts | .suspendOrder _ | .resumeOrder _ | .cancelOrder _ | .volley _ _
  | .readOrder _ _ | .setDispatch _ _ _ | .readDispatch | .arbitration | .resetCannon _ | .readCannon _
  | .loadBasinPond _ | .gaugeStaleExpiry | .setAllowance _ | .dayRollover | .reportInflow _ | .setPond _ _
  | .startWaitExpiry | .holdOffEnd | .readWater | .requestPermit _ _ _ | .releasePermit _ | .setPermitLimits _ _ _ _
  | .readPermit _ _ | .roundStart | .roundOverrun | .message | .miss | .call | .callSlotTimeout | .setLoop _
  | .readLoop _ | .yardMinuteChange | .secondsCountRise => true

end Sys2Proof
end

