-- ==== Sys2Proof/Laws/PerInstr.lean ====
section
/-! SUPPORT. A law of every command as syntax: a frame carries a host command only under that command's own code, and only
well formed; it carries no event of the part. One lemma for each command. -/

namespace Sys2Proof.Laws.Sourced

/-- The code of the frame that carries a command (section 10.3); none for an event, and for FETCH-REPLY, which is judged
on its first four bytes (R172). -/
def frameCode : Instr → Option Nat
  | .powerOnReset _ => none
  | .badFrame _ _ _ => none
  | .fetchReply _ => none
  | .readIdent => some 0x02
  | .readNotices => some 0x03
  | .readChanges _ => some 0x04
  | .setMask _ => some 0x05
  | .setClock _ _ => some 0x06
  | .readClock => some 0x07
  | .resetYard _ => some 0x0F
  | .loadGrade _ _ => some 0x10
  | .openPile _ => some 0x11
  | .amendPile _ => some 0x12
  | .readPile _ _ => some 0x13
  | .rankPiles _ => some 0x14
  | .setMoisture _ _ => some 0x15
  | .reportDisturbance _ _ _ => some 0x16
  | .retirePile _ => some 0x17
  | .setLead _ => some 0x20
  | .setBands _ _ _ => some 0x21
  | .readModel => some 0x22
  | .modelStep => none
  | .loadMast _ _ _ => some 0x28
  | .mastStaleExpiry _ => none
  | .setWindLimits _ => some 0x29
  | .readWind => some 0x2A
  | .postForecast _ _ => some 0x30
  | .slotRetirement => none
  | .setYardCodes _ _ _ _ => some 0x31
  | .readForecast _ _ => some 0x32
  | .clearForecasts => some 0x33
  | .placeOrder _ => some 0x40
  | .suspendOrder _ => some 0x41
  | .resumeOrder _ => some 0x42
  | .cancelOrder _ => some 0x43
  | .volley _ _ => some 0x44
  | .readOrder _ _ => some 0x45
  | .setDispatch _ _ _ => some 0x46
  | .readDispatch => some 0x47
  | .arbitration => none
  | .orderLapse _ => none
  | .loadCannon _ _ _ => some 0x50
  | .slewTimeout _ => none
  | .blankingTimerExpiry _ => none
  | .closeWaitExpiry _ => none
  | .retryDelayEnd _ => none
  | .tripCountDecay _ => none
  | .resetCannon _ => some 0x52
  | .readCannon _ => some 0x51
  | .loadBasinTank _ _ => some 0x58
  | .loadBasinPond _ => some 0x58
  | .gaugeStaleExpiry => none
  | .setAllowance _ => some 0x59
  | .dayRollover => none
  | .reportInflow _ => some 0x5A
  | .setPond _ _ => some 0x5B
  | .startWaitExpiry => none
  | .holdOffEnd => none
  | .readWater => some 0x5C
  | .requestPermit _ _ _ => some 0x60
  | .prewetWaitExpiry _ => none
  | .maxHoldLapse _ => none
  | .releasePermit _ => some 0x61
  | .setPermitLimits _ _ _ _ => some 0x62
  | .readPermit _ _ => some 0x63
  | .roundStart => none
  | .roundOverrun => none
  | .message => none
  | .validReply _ => none
  | .miss => none
  | .call => none
  | .callAnswer _ => none
  | .callSlotTimeout => none
  | .setLoop _ => some 0x68
  | .readLoop _ => some 0x69
  | .yardMinuteChange => none
  | .secondsCountRise => none

/-- A payload of a frame's length that spells the command stands under its code, and the command is well formed. -/
def Statement (i : Instr) : Prop :=
  ∀ (broadcast : Bool) (pins : BitVec 4) (code : Nat) (payload : List Byte), payload.length ≤ 60 →
    decodePayload broadcast pins code payload = .command i → frameCode i = some code ∧ i.wf = true

theorem sized_command {n : Nat} {p : List Byte} {i j : Instr} (h : sized n p i = .command j) : i = j := by
  unfold sized at h; split at h <;> simp_all

theorem placeOrderAt_command {p : List Byte} {j : Instr} (hp : p.length ≤ 60) (h : placeOrderAt p = .command j) :
    frameCode j = some 0x40 ∧ j.wf = true := by
  simp only [placeOrderAt] at h
  split at h
  · cases h; simp [frameCode, Instr.wf, PlaceOrderArgs.wf]; omega
  · cases h

theorem loadCannonAt_command {p : List Byte} {j : Instr} (hp : p.length ≤ 60) (h : loadCannonAt p = .command j) :
    frameCode j = some 0x50 ∧ j.wf = true := by
  simp only [loadCannonAt] at h
  split at h
  · cases sized_command h; simp [frameCode, Instr.wf, CannonArgs.wf]
  · rename_i h0
    split at h
    · cases h; simp only [frameCode, Instr.wf, CannonArgs.wf, if_neg h0]; simp; omega
    · cases h

theorem loadBasinAt_command {p : List Byte} {j : Instr} (h : loadBasinAt p = .command j) :
    frameCode j = some 0x58 ∧ j.wf = true := by
  simp only [loadBasinAt] at h
  split at h
  · cases h
  · split at h
    · split at h
      · cases sized_command h; exact ⟨rfl, by decide⟩
      · cases sized_command h; simp_all [frameCode, Instr.wf, TankArgs.wf]
    · split at h
      · cases sized_command h; exact ⟨rfl, rfl⟩
      · split at h <;> cases h

theorem readForecastAt_command {p : List Byte} {j : Instr} (h : readForecastAt p = .command j) :
    frameCode j = some 0x32 ∧ j.wf = true := by
  simp only [readForecastAt] at h
  split at h
  · cases h; simp_all [frameCode, Instr.wf, forecastKeyWf]
  · split at h
    · cases h
      have := (u8 p 1).isLt
      simp [frameCode, Instr.wf, forecastKeyWf]; omega
    · cases h

/-- The law, for whatever command a payload spells. -/
theorem carried (i : Instr) : Statement i := by
  intro b pins code p hp h
  unfold decodePayload at h
  split at h
  all_goals first
    | exact placeOrderAt_command hp h
    | exact loadCannonAt_command hp h
    | exact loadBasinAt_command h
    | exact readForecastAt_command h
    | (cases sized_command h; exact ⟨rfl, rfl⟩)
    | cases h

theorem powerOnReset (pins : BitVec 4) : Statement (.powerOnReset pins) := carried _
theorem badFrame (pins : BitVec 4) (resetLow : Bool) (bytes : List Byte) : Statement (.badFrame pins resetLow bytes) := carried _
theorem fetchReply (clocked : Nat) : Statement (.fetchReply clocked) := carried _
theorem readIdent : Statement .readIdent := carried _
theorem readNotices : Statement .readNotices := carried _
theorem readChanges (category : Byte) : Statement (.readChanges category) := carried _
theorem setMask (bits : Byte) : Statement (.setMask bits) := carried _
theorem setClock (broadcast : Bool) (minute : Long) : Statement (.setClock broadcast minute) := carried _
theorem readClock : Statement .readClock := carried _
theorem resetYard (pins : BitVec 4) : Statement (.resetYard pins) := carried _
theorem loadGrade (number : Byte) (args : GradeArgs) : Statement (.loadGrade number args) := carried _
theorem openPile (args : OpenPileArgs) : Statement (.openPile args) := carried _
theorem amendPile (args : AmendPileArgs) : Statement (.amendPile args) := carried _
theorem readPile (selector : Byte) (value : Half) : Statement (.readPile selector value) := carried _
theorem rankPiles (band : Byte) : Statement (.rankPiles band) := carried _
theorem setMoisture (tag : Half) (value : Half) : Statement (.setMoisture tag value) := carried _
theorem reportDisturbance (tag : Half) (f : Byte) (mf : Option Half) : Statement (.reportDisturbance tag f mf) := carried _
theorem retirePile (tag : Half) : Statement (.retirePile tag) := carried _
theorem setLead (value : Half) : Statement (.setLead value) := carried _
theorem setBands (b1 : Byte) (b2 : Byte) (b3 : Byte) : Statement (.setBands b1 b2 b3) := carried _
theorem readModel : Statement .readModel := carried _
theorem modelStep : Statement .modelStep := carried _
theorem loadMast (mast : Byte) (node : Byte) (stale : Half) : Statement (.loadMast mast node stale) := carried _
theorem mastStaleExpiry (mast : Byte) : Statement (.mastStaleExpiry mast) := carried _
theorem setWindLimits (args : WindLimitArgs) : Statement (.setWindLimits args) := carried _
theorem readWind : Statement .readWind := carried _
theorem postForecast (broadcast : Bool) (args : ForecastArgs) : Statement (.postForecast broadcast args) := carried _
theorem slotRetirement : Statement .slotRetirement := carried _
theorem setYardCodes (c1 : Byte) (c2 : Byte) (c3 : Byte) (c4 : Byte) : Statement (.setYardCodes c1 c2 c3 c4) := carried _
theorem readForecast (form : Byte) (key : Long) : Statement (.readForecast form key) := carried _
theorem clearForecasts : Statement .clearForecasts := carried _
theorem placeOrder (args : PlaceOrderArgs) : Statement (.placeOrder args) := carried _
theorem suspendOrder (id : Half) : Statement (.suspendOrder id) := carried _
theorem resumeOrder (id : Half) : Statement (.resumeOrder id) := carried _
theorem cancelOrder (id : Half) : Statement (.cancelOrder id) := carried _
theorem volley (broadcast : Bool) (code : Byte) : Statement (.volley broadcast code) := carried _
theorem readOrder (selector : Byte) (value : Half) : Statement (.readOrder selector value) := carried _
theorem setDispatch (lapse : Half) (maxDose : Half) (floor : Byte) : Statement (.setDispatch lapse maxDose floor) := carried _
theorem readDispatch : Statement .readDispatch := carried _
theorem arbitration : Statement .arbitration := carried _
theorem orderLapse (id : Half) : Statement (.orderLapse id) := carried _
theorem loadCannon (number : Byte) (node : Byte) (args : CannonArgs) : Statement (.loadCannon number node args) := carried _
theorem slewTimeout (number : Byte) : Statement (.slewTimeout number) := carried _
theorem blankingTimerExpiry (number : Byte) : Statement (.blankingTimerExpiry number) := carried _
theorem closeWaitExpiry (number : Byte) : Statement (.closeWaitExpiry number) := carried _
theorem retryDelayEnd (number : Byte) : Statement (.retryDelayEnd number) := carried _
theorem tripCountDecay (number : Byte) : Statement (.tripCountDecay number) := carried _
theorem resetCannon (number : Byte) : Statement (.resetCannon number) := carried _
theorem readCannon (number : Byte) : Statement (.readCannon number) := carried _
theorem loadBasinTank (node : Byte) (args : TankArgs) : Statement (.loadBasinTank node args) := carried _
theorem loadBasinPond (args : PondArgs) : Statement (.loadBasinPond args) := carried _
theorem gaugeStaleExpiry : Statement .gaugeStaleExpiry := carried _
theorem setAllowance (value : Long) : Statement (.setAllowance value) := carried _
theorem dayRollover : Statement .dayRollover := carried _
theorem reportInflow (litres : Long) : Statement (.reportInflow litres) := carried _
theorem setPond (volume : Long) (clearSpill : Bool) : Statement (.setPond volume clearSpill) := carried _
theorem startWaitExpiry : Statement .startWaitExpiry := carried _
theorem holdOffEnd : Statement .holdOffEnd := carried _
theorem readWater : Statement .readWater := carried _
theorem requestPermit (machine : Byte) (kind : Byte) (tag : Half) : Statement (.requestPermit machine kind tag) := carried _
theorem prewetWaitExpiry (machine : Byte) : Statement (.prewetWaitExpiry machine) := carried _
theorem maxHoldLapse (machine : Byte) : Statement (.maxHoldLapse machine) := carried _
theorem releasePermit (args : ReleaseArgs) : Statement (.releasePermit args) := carried _
theorem setPermitLimits (prewet : Byte) (stacker : Half) (reclaimer : Half) (dozer : Half) : Statement (.setPermitLimits prewet stacker reclaimer dozer) := carried _
theorem readPermit (form : Byte) (key : Byte) : Statement (.readPermit form key) := carried _
theorem roundStart : Statement .roundStart := carried _
theorem roundOverrun : Statement .roundOverrun := carried _
theorem message : Statement .message := carried _
theorem validReply (bytes : List Byte) : Statement (.validReply bytes) := carried _
theorem miss : Statement .miss := carried _
theorem call : Statement .call := carried _
theorem callAnswer (bytes : List Byte) : Statement (.callAnswer bytes) := carried _
theorem callSlotTimeout : Statement .callSlotTimeout := carried _
theorem setLoop (period : Half) : Statement (.setLoop period) := carried _
theorem readLoop (node : Option Byte) : Statement (.readLoop node) := carried _
theorem yardMinuteChange : Statement .yardMinuteChange := carried _
theorem secondsCountRise : Statement .secondsCountRise := carried _

end Sys2Proof.Laws.Sourced
end

