-- ==== Sys2Proof/Laws/Settle.lean ====
section
/-! SUPPORT. What the tellings of an event can never change, said once: `State.skeleton` keeps the settings, the clock, the
port, the samples, the forecasts, the configurations and the node list, and drops the rest; no telling changes it. And the
induction over an event's agenda, packaged once. -/

namespace Sys2Proof.Machine

/-- What no telling of an event changes, with everything a telling may change blanked out. -/
def State.skeleton (s : State) : State :=
  { s with
    notices := ⟨[], [], [], [], Categories.none, s.notices.mask⟩
    piles := []
    wind := { s.wind with
      weather := Weather.initial, established := false, lastOctant := 0, cutOut := false, frost := false }
    dispatch := { s.dispatch with orders := [], nextId := 0, due := 0 }
    cannons := s.cannons.map fun e => (e.1, Cannon.loaded e.2.config)
    water := { s.water with
      usedToday := 0, spent := false, countedDay := 0
      pond := { s.water.pond with volume := 0, spill := 0 }
      transfer := Transfer.initial }
    permits := { s.permits with list := [], outcomes := [] }
    loop := { s.loop with nodes := s.loop.nodes.map fun e => (e.1, { e.2 with slot := none }) } }

variable {s : State}

/-! ## The named updates -/

@[simp] theorem State.hand_skeleton (c : ChangeSet) (k : Nat) : (s.hand c k).skeleton = s.skeleton := by
  cases c <;> rfl
@[simp] theorem State.raiseWind_skeleton : s.raiseWind.skeleton = s.skeleton := rfl
@[simp] theorem State.raiseWater_skeleton : s.raiseWater.skeleton = s.skeleton := rfl
@[simp] theorem State.mapPile_skeleton (n : Nat) (f : Pile → Pile) : (s.mapPile n f).skeleton = s.skeleton := rfl
@[simp] theorem State.mapOrder_skeleton (i : Nat) (f : Order → Order) : (s.mapOrder i f).skeleton = s.skeleton := rfl
@[simp] theorem State.freeOrder_skeleton (i : Nat) : (s.freeOrder i).skeleton = s.skeleton := rfl
@[simp] theorem State.occasion_skeleton : s.occasion.skeleton = s.skeleton := rfl
@[simp] theorem State.mapPermits_skeleton (c : Permit → Bool) (f : Permit → Permit) :
    (s.mapPermits c f).skeleton = s.skeleton := rfl
@[simp] theorem State.mapTransfer_skeleton (f : Transfer → Transfer) : (s.mapTransfer f).skeleton = s.skeleton := rfl

/-- A table whose entries keep a figure keeps it entry by entry through an update. -/
theorem Table.map_update {α β : Type} (t : Table α) (n : Nat) (f : α → α) (g : α → β) (h : ∀ x, g (f x) = g x) :
    (Table.update t n f).map (fun e => (e.1, g e.2)) = t.map fun e => (e.1, g e.2) := by
  simp only [Table.update, List.map_map]
  refine List.map_congr_left fun e _ => ?_
  dsimp only [Function.comp]
  split <;> simp [h]

@[simp] theorem State.mapCannon_skeleton (n : Nat) (f : Cannon → Cannon) (h : ∀ c, (f c).config = c.config) :
    (s.mapCannon n f).skeleton = s.skeleton := by
  have := Table.map_update s.cannons n f (fun c => Cannon.loaded c.config) fun c => by rw [h]
  simp only [State.skeleton, State.mapCannon, this]

theorem State.mapNode_skeleton (a : Nat) (f : Node → Node)
    (h : ∀ n, ({ f n with slot := none } : Node) = { n with slot := none }) :
    (s.mapNode a f).skeleton = s.skeleton := by
  have := Table.map_update s.loop.nodes a f (fun n => ({ n with slot := none } : Node)) h
  simp only [State.skeleton, State.mapNode, this]

@[simp] theorem State.placeStop_skeleton (a : Nat) (c : LoopCommand) : (s.placeStop a c).skeleton = s.skeleton :=
  State.mapNode_skeleton _ _ fun _ => rfl
@[simp] theorem State.placeStart_skeleton (a : Nat) (c : LoopCommand) : (s.placeStart a c).skeleton = s.skeleton :=
  State.mapNode_skeleton _ _ fun n => by cases n.slot <;> rfl

theorem State.mapPond_skeleton (f : Pond → Pond)
    (h : ∀ p, ({ f p with volume := 0, spill := 0 } : Pond) = { p with volume := 0, spill := 0 }) :
    (s.mapPond f).skeleton = s.skeleton := by
  simp only [State.skeleton, State.mapPond, h]

@[simp] theorem Cannon.unbound_config (c : Cannon) : c.unbound.config = c.config := rfl
@[simp] theorem Cannon.quiet_config (c : Cannon) : c.quiet.config = c.config := rfl
@[simp] theorem Cannon.afterTrip_config (c : Cannon) (now : Nat) : (c.afterTrip now).config = c.config := rfl

/-! ## The operations of the blocks -/

@[simp] theorem State.evalSpent_skeleton : s.evalSpent.skeleton = s.skeleton := by
  simp only [State.evalSpent]; split <;> rfl

@[simp] theorem State.releaseHeader_skeleton (n : Nat) : (s.releaseHeader n).skeleton = s.skeleton := by
  simp only [State.releaseHeader]
  split
  · split
    · simp
    · rfl
  · rfl

@[simp] theorem State.placeStopRun_skeleton : s.placeStopRun.skeleton = s.skeleton := by
  simp only [State.placeStopRun]; split <;> simp

@[simp] theorem State.stopRun_skeleton (e : RunEnd) : (s.stopRun e).skeleton = s.skeleton := by
  simp [State.stopRun]

@[simp] theorem State.startRun_skeleton : s.startRun.skeleton = s.skeleton := by
  simp only [State.startRun]
  split
  · split <;> simp
  · rfl

@[simp] theorem State.evalTransfer_skeleton : s.evalTransfer.skeleton = s.skeleton := by
  simp only [State.evalTransfer]
  split <;> first | rfl | (split <;> simp)

@[simp] theorem State.creditPond_skeleton (c : Nat) : (s.creditPond c).skeleton = s.skeleton := by
  simp only [State.creditPond, State.evalTransfer_skeleton]
  split
  · exact State.mapPond_skeleton _ fun _ => rfl
  · rw [State.raiseWater_skeleton]; exact State.mapPond_skeleton _ fun _ => rfl

@[simp] theorem State.rollOver_skeleton : s.rollOver.skeleton = s.skeleton := by
  simp only [State.rollOver]
  split
  · rfl
  · simp only [State.occasion_skeleton, State.evalSpent_skeleton]; rfl

@[simp] theorem State.endOrder_skeleton (i : Nat) (x : OrderOutcome) : (s.endOrder i x).1.skeleton = s.skeleton := rfl

@[simp] theorem State.lapseOrder_skeleton (i : Nat) : (s.lapseOrder i).1.skeleton = s.skeleton := by
  simp only [State.lapseOrder]
  split
  · split <;> simp
  · rfl

@[simp] theorem State.dropReason_skeleton (i : Nat) (r : Reason) : (s.dropReason i r).skeleton = s.skeleton := by
  simp only [State.dropReason]
  split
  · rfl
  · split
    · split <;> simp
    · rfl

@[simp] theorem State.dropHold_skeleton : s.dropHold.skeleton = s.skeleton := by
  simp only [State.dropHold]; split <;> rfl

@[simp] theorem State.selectWeather_skeleton : s.selectWeather.1.skeleton = s.skeleton := by
  simp only [State.selectWeather]; split <;> rfl

@[simp] theorem State.evalHolds_skeleton : s.evalHolds.1.skeleton = s.skeleton := by
  simp only [State.evalHolds]
  split <;> split <;> (try split) <;> simp <;> rfl

@[simp] theorem State.placeClose_skeleton (n : Nat) : (s.placeClose n).skeleton = s.skeleton := by
  simp only [State.placeClose]; split <;> simp

@[simp] theorem State.mapBoundPass_skeleton (c : Cannon) (f : Pass → Pass) :
    (s.mapBoundPass c f).skeleton = s.skeleton := by
  simp only [State.mapBoundPass]; split <;> simp

@[simp] theorem State.toIdle_skeleton (n : Nat) : (s.toIdle n).skeleton = s.skeleton := by
  simp [State.toIdle]

@[simp] theorem State.rampDown_skeleton (n : Nat) : (s.rampDown n).skeleton = s.skeleton := by
  simp only [State.rampDown]
  split
  · simp
  · rfl

@[simp] theorem State.closeDown_skeleton (n : Nat) : (s.closeDown n).1.skeleton = s.skeleton := by
  simp only [State.closeDown]
  split
  · rfl
  · split <;> try rfl
    · split <;> simp [State.mapCannon_skeleton n Cannon.unbound Cannon.unbound_config]
    · simp

@[simp] theorem State.decayTrips_skeleton : s.decayTrips.skeleton = s.skeleton := by
  have h : ∀ c : Cannon, (c.decayed s.now).config = c.config := fun c => by
    simp only [Cannon.decayed]; split <;> (try split) <;> rfl
  simp [State.skeleton, State.decayTrips, Function.comp_def, h]

@[simp] theorem State.handPermit_skeleton (q : Option Nat) (m : Nat) : (s.handPermit q m).skeleton = s.skeleton := by
  simp only [State.handPermit]; split <;> simp

/-- A fold of steps none of which changes the skeleton. -/
theorem foldl_skeleton {β : Type} (f : State → β → State) (h : ∀ s b, (f s b).skeleton = s.skeleton) (l : List β)
    (s : State) : (l.foldl f s).skeleton = s.skeleton := by
  induction l generalizing s with
  | nil => rfl
  | cons b l ih => rw [List.foldl_cons, ih, h]

@[simp] theorem State.endOpenPrewet_skeleton (tag : Nat) : (s.endOpenPrewet tag).1.skeleton = s.skeleton := by
  simp only [State.endOpenPrewet]
  split
  · split <;> simp
  · rfl

@[simp] theorem State.enterClearing_skeleton (tag : Nat) : (s.enterClearing tag).1.skeleton = s.skeleton := rfl

@[simp] theorem State.tellPile_skeleton (q : Option Nat) (tag : Nat) : (s.tellPile q tag).1.skeleton = s.skeleton := by
  simp only [State.tellPile]
  split
  · rfl
  · split
    · simp only [State.enterClearing_skeleton, State.endOpenPrewet_skeleton]
      exact foldl_skeleton _ (fun s (p : Permit) => State.handPermit_skeleton q p.machine) _ _
    · rfl

@[simp] theorem State.askGrant_skeleton (q : Option Nat) (tag : Nat) : (s.askGrant q tag).skeleton = s.skeleton := by
  simp only [State.askGrant]
  split
  · rfl
  · exact foldl_skeleton _ (fun s (p : Permit) => State.handPermit_skeleton q p.machine) _ _

@[simp] theorem State.passTold_skeleton (q : Option Nat) (tag : Nat) : (s.passTold q tag).1.skeleton = s.skeleton := by
  simp only [State.passTold]
  split
  · split <;> simp
  · simp

@[simp] theorem State.accept_skeleton (r : OrderRequest) : (s.accept r).1.skeleton = s.skeleton := by
  simp only [State.accept]
  split <;> split <;> rfl

@[simp] theorem State.askPrewet_skeleton (tag : Nat) (o : Option Nat) : (s.askPrewet tag o).1.skeleton = s.skeleton := by
  simp only [State.askPrewet]
  split
  · rfl
  · split
    · rfl
    · split
      · rfl
      · split
        · rfl
        · split
          · rfl
          · simp

@[simp] theorem State.prewetEnded_skeleton (i : Nat) (x : OrderOutcome) :
    (s.prewetEnded i x).1.skeleton = s.skeleton := by
  simp only [State.prewetEnded]; split <;> rfl

@[simp] theorem State.endPermit_skeleton (q : Option Nat) (m : Nat) (x : PermitOutcome) (w : Bool) :
    (s.endPermit q m x w).1.skeleton = s.skeleton := by
  simp only [State.endPermit]
  split
  · rfl
  · rw [State.handPermit_skeleton]; rfl

@[simp] theorem State.checkRetire_skeleton (tag : Nat) : (s.checkRetire tag).1.skeleton = s.skeleton := by
  simp only [State.checkRetire]
  split
  · rfl
  · split <;> simp

@[simp] theorem State.liftZone_skeleton (tag : Nat) : (s.liftZone tag).skeleton = s.skeleton := by
  simp only [State.liftZone]
  split
  · rfl
  · split
    · exact foldl_skeleton _ (fun s (o : Order) => State.dropReason_skeleton o.id .zone) _ _
    · rfl

@[simp] theorem State.checkFree_skeleton (tag : Nat) : (s.checkFree tag).skeleton = s.skeleton := by
  simp only [State.checkFree]
  split
  · rfl
  · split
    · rw [State.hand_skeleton]; rfl
    · rfl

@[simp] theorem State.blendPile_skeleton (tag f : Nat) (mf : Option Nat) :
    (s.blendPile tag f mf).skeleton = s.skeleton := by
  simp only [State.blendPile]
  split
  · rfl
  · split <;> simp

@[simp] theorem State.markEstimated_skeleton (tag : Nat) : (s.markEstimated tag).skeleton = s.skeleton := by
  simp only [State.markEstimated]
  split
  · rfl
  · split <;> simp

@[simp] theorem State.expirePrewet_skeleton (m : Nat) : (s.expirePrewet m).1.skeleton = s.skeleton := by
  simp only [State.expirePrewet]
  split
  · split <;> rfl
  · rfl

@[simp] theorem State.lapsePermit_skeleton (m : Nat) : (s.lapsePermit m).1.skeleton = s.skeleton := by
  simp only [State.lapsePermit]
  split
  · split <;> simp
  · rfl

@[simp] theorem State.closePass_skeleton (o : Order) : (s.closePass o).1.skeleton = s.skeleton := by
  simp only [State.closePass]
  split
  · split <;> simp
  · rfl

@[simp] theorem State.closePassOf_skeleton (i : Nat) : (s.closePassOf i).1.skeleton = s.skeleton := by
  simp only [State.closePassOf]; split <;> simp

@[simp] theorem State.addReason_skeleton (i : Nat) (r : Reason) : (s.addReason i r).1.skeleton = s.skeleton := by
  simp only [State.addReason]
  split
  · rfl
  · split <;> simp

@[simp] theorem State.cancel_skeleton (i : Nat) : (s.cancel i).1.skeleton = s.skeleton := by
  simp only [State.cancel]
  split
  · rfl
  · split <;> try simp
    split <;> simp

@[simp] theorem State.applyGain_skeleton (tag v : Nat) : (s.applyGain tag v).1.skeleton = s.skeleton := by
  simp only [State.applyGain]
  split
  · rfl
  · split
    · rfl
    · split
      · rfl
      · split <;> simp

@[simp] theorem State.passEnd_skeleton (i : Nat) (k : PassKind) (v : Nat) :
    (s.passEnd i k v).1.skeleton = s.skeleton := by
  simp only [State.passEnd]; split <;> simp

@[simp] theorem State.passNext_skeleton (i : Nat) (k : PassKind) : (s.passNext i k).1.skeleton = s.skeleton := by
  simp only [State.passNext]
  split
  · rfl
  · split <;> simp

@[simp] theorem State.orderEnded_skeleton (i : Nat) : (s.orderEnded i).1.skeleton = s.skeleton := by
  simp only [State.orderEnded]; split <;> simp

/-! ## The agenda -/

/-- No telling changes the skeleton. -/
@[simp] theorem doTask_skeleton (q : Option Nat) (t : Task) : (doTask q t s).1.skeleton = s.skeleton := by
  cases t <;> simp [doTask, State.retryPrewets, State.permitMinute]

/-- What every telling keeps, the whole agenda keeps. -/
theorem runTasks_induction (P : State → Prop) (q : Option Nat) (h : ∀ t s, P s → P (doTask q t s).1) (fuel : Nat)
    (ts : List Task) (s : State) (hs : P s) : P (runTasks q fuel ts s) := by
  induction fuel generalizing ts s with
  | zero => exact hs
  | succ n ih =>
    cases ts with
    | nil => exact hs
    | cons t ts => exact ih _ _ (h t s hs)

/-- What every telling keeps, an event's settling keeps. -/
theorem settle_induction (P : State → Prop) (q : Option Nat) (h : ∀ t s, P s → P (doTask q t s).1) (ts : List Task)
    (s : State) (hs : P s) : P (s.settle q ts) := runTasks_induction P q h _ ts s hs

@[simp] theorem State.settle_skeleton (q : Option Nat) (ts : List Task) : (s.settle q ts).skeleton = s.skeleton :=
  settle_induction (fun x => x.skeleton = s.skeleton) q (fun t _ hx => (doTask_skeleton q t).trans hx) ts s rfl

@[simp] theorem settled_skeleton (x : State × List Task) : (settled x).skeleton = x.1.skeleton :=
  State.settle_skeleton none x.2

/-! ## The agenda, telling by telling -/

@[simp] theorem runTasks_nil (q : Option Nat) (fuel : Nat) (s : State) : runTasks q fuel [] s = s := by
  cases fuel <;> rfl

/-- The first telling carried out, those it brings about put before the rest. -/
theorem runTasks_cons (q : Option Nat) (fuel : Nat) (t : Task) (ts : List Task) (s : State) :
    runTasks q (fuel + 1) (t :: ts) s = runTasks q fuel ((doTask q t s).2 ++ ts) (doTask q t s).1 := rfl

/-- An event without tellings is over. -/
@[simp] theorem State.settle_nil (q : Option Nat) (s : State) : s.settle q [] = s := runTasks_nil q _ s

@[simp] theorem settled_nil (s : State) : settled (s, []) = s := State.settle_nil none s

/-- An event with one telling that brings about none. -/
theorem State.settle_one (q : Option Nat) (t : Task) (s : State) (h : (doTask q t s).2 = []) :
    s.settle q [t] = (doTask q t s).1 := by
  rw [State.settle, Config.agendaFuel, runTasks_cons, h, List.append_nil, runTasks_nil]

/-! ## What the skeleton says, field by field -/

section
variable {s t : State} (h : t.skeleton = s.skeleton)
include h

theorem skeleton_port : t.port = s.port := congrArg (fun x => x.port) h
theorem skeleton_clock : t.clock = s.clock := congrArg (fun x => x.clock) h
theorem skeleton_mask : t.notices.mask = s.notices.mask := congrArg (fun x => x.notices.mask) h
theorem skeleton_grades : t.grades = s.grades := congrArg (fun x => x.grades) h
theorem skeleton_model : t.model = s.model := congrArg (fun x => x.model) h
theorem skeleton_masts : t.wind.masts = s.wind.masts := congrArg (fun x => x.wind.masts) h
theorem skeleton_limits : t.wind.limits = s.wind.limits := congrArg (fun x => x.wind.limits) h
theorem skeleton_forecast : t.forecast = s.forecast := congrArg (fun x => x.forecast) h
theorem skeleton_lapseTime : t.dispatch.lapseTime = s.dispatch.lapseTime := congrArg (fun x => x.dispatch.lapseTime) h
theorem skeleton_maxDose : t.dispatch.maxDose = s.dispatch.maxDose := congrArg (fun x => x.dispatch.maxDose) h
theorem skeleton_freshFloor : t.dispatch.freshFloor = s.dispatch.freshFloor :=
  congrArg (fun x => x.dispatch.freshFloor) h
theorem skeleton_tank : t.water.tank = s.water.tank := congrArg (fun x => x.water.tank) h
theorem skeleton_allowance : t.water.allowance = s.water.allowance := congrArg (fun x => x.water.allowance) h
theorem skeleton_pondCapacity : t.water.pond.capacity = s.water.pond.capacity :=
  congrArg (fun x => x.water.pond.capacity) h
theorem skeleton_pondNode : t.water.pond.node = s.water.pond.node := congrArg (fun x => x.water.pond.node) h
theorem skeleton_permitId : t.permits.nextId = s.permits.nextId := congrArg (fun x => x.permits.nextId) h
theorem skeleton_prewetWait : t.permits.prewetWait = s.permits.prewetWait := congrArg (fun x => x.permits.prewetWait) h
theorem skeleton_maxHold : t.permits.maxHold = s.permits.maxHold := congrArg (fun x => x.permits.maxHold) h
theorem skeleton_pending : t.pending = s.pending := congrArg (fun x => x.pending) h
theorem skeleton_events : t.events = s.events := congrArg (fun x => x.events) h
theorem skeleton_phase : t.loop.phase = s.loop.phase := congrArg (fun x => x.loop.phase) h
theorem skeleton_period : t.loop.period = s.loop.period := congrArg (fun x => x.loop.period) h
theorem skeleton_configs : (t.cannons.map fun e => (e.1, e.2.config)) = s.cannons.map fun e => (e.1, e.2.config) := by
  have := congrArg (fun x => x.cannons.map fun e => (e.1, e.2.config)) h
  simpa [State.skeleton, Function.comp_def, Cannon.loaded] using this
theorem skeleton_nodes :
    (t.loop.nodes.map fun e => (e.1, { e.2 with slot := none })) =
      s.loop.nodes.map fun e => (e.1, { e.2 with slot := none }) := congrArg (fun x => x.loop.nodes) h

end

end Sys2Proof.Machine
end

