-- ==== Sys2Proof/Laws/Quiet.lean ====
section
/-! SUPPORT. Tellings that find nothing to do, and events whose tellings all do: the quiet yards of the statements. One
lemma for each telling says on what condition it leaves the state as it was and brings about no other. -/

namespace Sys2Proof.Machine

/-! ## Events of quiet tellings -/

/-- An agenda of tellings that each leave the state as it was leaves it so. -/
theorem runTasks_quiet (q : Option Nat) (fuel : Nat) (ts : List Task) (s : State)
    (h : ∀ t ∈ ts, doTask q t s = (s, [])) : runTasks q fuel ts s = s := by
  induction ts generalizing fuel with
  | nil => simp
  | cons a ts ih =>
    cases fuel with
    | zero => rfl
    | succ n =>
      rw [runTasks_cons, h a (by simp)]
      exact ih n fun t ht => h t (by simp [ht])

theorem State.settle_quiet (q : Option Nat) (ts : List Task) (s : State) (h : ∀ t ∈ ts, doTask q t s = (s, [])) :
    s.settle q ts = s := runTasks_quiet q _ ts s h

theorem settled_quiet (ts : List Task) (s : State) (h : ∀ t ∈ ts, doTask none t s = (s, [])) : settled (s, ts) = s :=
  State.settle_quiet none ts s h

/-! ## Telling by telling -/

/-- No permit waits on moisture: the telling of a pile does nothing (R148). -/
theorem tellPile_quiet (s : State) (q : Option Nat) (tag : Nat) (h : ∀ p ∈ s.permits.list, p.state ≠ .pendingWet) :
    s.tellPile q tag = (s, []) := by
  have : (s.permits.list.filter fun x => x.waitsOn tag) = [] := by
    rw [List.filter_eq_nil_iff]; intro p hp; simp [Permit.waitsOn, h p hp]
  simp only [State.tellPile, this]
  split <;> simp

/-- No permit stands: the consideration of the grant does nothing (R151). -/
theorem askGrant_quiet (s : State) (q : Option Nat) (tag : Nat) (h : s.permits.list = []) : s.askGrant q tag = s := by
  simp only [State.askGrant, h]
  split
  · rfl
  · simp [State.mapPermits, h]
    cases s with | mk p _ _ _ _ _ _ _ _ _ _ pm _ _ _ => cases pm; simp_all

/-- No order is a PREWET order: no pile has an open one (R81). -/
theorem openPrewet_none (s : State) (tag : Nat) (h : ∀ o ∈ s.dispatch.orders, o.origin ≠ .prewet) :
    s.openPrewet? tag = none := by
  simp only [State.openPrewet?, State.openOn, List.find?_eq_none]
  intro o ho
  simp only [List.mem_filter] at ho
  simp [h o ho.1]

/-- In a yard without permits and PREWET orders the permit table acts on no pass end and no close wait (R151). -/
theorem passTold_quiet (s : State) (q : Option Nat) (tag : Nat) (hp : s.permits.list = [])
    (ho : ∀ o ∈ s.dispatch.orders, o.origin ≠ .prewet) : s.passTold q tag = (s, []) := by
  simp only [State.passTold, askGrant_quiet s q tag hp, openPrewet_none s tag ho]

/-- A pile that is not RETIRING keeps its slot (R20). -/
theorem checkFree_quiet (s : State) (tag : Nat) (h : ∀ slot p, s.pileAt? tag = some (slot, p) → p.life = .live) :
    s.checkFree tag = s := by
  simp only [State.checkFree]
  split
  · rfl
  · rename_i slot p hp; simp [h slot p hp]

/-- A pile that is not retire-pending does not enter RETIRING (R19). -/
theorem checkRetire_quiet (s : State) (tag : Nat)
    (h : ∀ slot p, s.pileAt? tag = some (slot, p) → p.retirePending = false) : s.checkRetire tag = (s, []) := by
  simp only [State.checkRetire]
  split
  · rfl
  · rename_i slot p hp; simp [h slot p hp]

/-- Nothing is gained by a pass that delivered nothing (R37). -/
theorem applyGain_zero (s : State) (tag : Nat) : s.applyGain tag 0 = (s, []) := by
  simp only [State.applyGain]
  split
  · rfl
  · split <;> simp

/-- An order that does not lapse is left as it is (R94). -/
theorem lapseOrder_quiet (s : State) (id : Nat)
    (h : ∀ o, s.order? id = some o → o.lapses s.now s.dispatch.lapseTime = false) : s.lapseOrder id = (s, []) := by
  simp only [State.lapseOrder]
  split
  · rename_i o ho; simp [h o ho]
  · rfl

/-- A cannon without a pass bound and without a close wait ends no pass and tells no pile (R105, R113). -/
theorem cannon_idle_tasks (c : Cannon) (kind : PassKind) (vm : Nat) (hb : c.bound = none) (hw : c.closeWait = none) :
    c.passEndTasks kind vm ++ c.closeTold = [] := by
  simp [Cannon.passEndTasks, Cannon.closeTold, hb, hw]

/-! ## Orders by id -/

/-- An order changed in its place is found changed, and any other as it was. -/
theorem order_mapOrder (s : State) (id k : Nat) (f : Order → Order) (hf : ∀ o, (f o).id = o.id) :
    (s.mapOrder id f).order? k = if k = id then (s.order? k).map f else s.order? k := by
  simp only [State.order?, State.mapOrder]
  induction s.dispatch.orders with
  | nil => simp
  | cons o t ih =>
    by_cases ho : o.id = id
    · by_cases hk : k = id
      · subst hk; simp [ho, hf]
      · have : ¬ id = k := fun h => hk h.symm
        simp_all
    · by_cases hk : k = id
      · subst hk; simp_all
      · by_cases h2 : o.id = k <;> simp_all

end Sys2Proof.Machine
end

