-- ==== Sys2Proof/Tests/Slice0.lean ====
section
/-! SUPPORT. Small checks: each check of WellFormed refuses an ill-formed term; frames and lines written out byte by byte
from spec/11 decode to their commands; worked examples of the manual; and for each statement with hypotheses a witness that
they can be met together, clause by clause. -/

namespace Sys2Proof.Tests
open Sys2Proof Sys2Proof.Machine

/-! ## A small yard -/

def grade : Grade := ⟨10, 20, 800, 900, 1200, 100, 8, 30⟩
def flat : Profile := ⟨128, 128, 128, 128, 128, 128, 128, 128⟩
def pile : Pile := ⟨7, .live, 2, 100, flat, 700, 0, 500, 0, 0, 0, .calm, false, false, false, false, none⟩
def clockAt (minute seconds stepLeft : Nat) : Clock := ⟨minute, seconds, stepLeft, Expiries.noneDue, Expiries.noneDue⟩
/-- One LIVE pile of tag 7 in slot 3, of grade 2. -/
def yard : State := { State.reset with grades := [(2, grade)], piles := [(3, pile)] }
def cover : Cover := ⟨7, 10, 90⟩
def config : CannonConfig := ⟨5, .both, 200, 1000, 4, 100, 10, 20, 1000, 0, [cover]⟩
def cannon : Cannon := Cannon.loaded config
def node : Node := ⟨.cannon 4, 0, none, 0, false, none, 0⟩
def order : Order := ⟨1, 7, .host, 2, 500, 0, .freshOnly, none, none, .waiting, Suspension.none, false, false, false, 0, 0,
  0, none, none, none, none, 0⟩
def pass (x : PassState) : Pass := ⟨4, .reuse, 500, 500, none, 0, x⟩
def ordered (o : Order) : State := { yard with dispatch := { yard.dispatch with orders := [o], nextId := 2 } }
def armed (s : State) (c : Cannon) (n : Node) : State :=
  { s with cannons := [(4, c)], loop := { s.loop with running := true, nodes := [(5, n)], timer := .running 500 } }
def active (x : PassState) : Order := { order with state := .active, passes := 1, pass := some (pass x) }
def bound (x : CannonState) : Cannon :=
  { cannon with state := x, bound := some 1, header := some .reuse, meterLast := some 100 }
def exchanging (s : State) (m : Sent) : State := { s with loop := { s.loop with phase := .exchange 5 m [9] } }
def permit (x : PermitState) (id : Option Nat) : Permit := ⟨1, 12, .reclaimer, 7, x, 100, 110, id⟩
def permitted (x : Permit) (now : Nat) : State :=
  { yard with clock := clockAt now 0 60, permits := { yard.permits with list := [x], nextId := 2 } }
/-- A PREWET order for which a permit waits on the pile of tag 7. -/
def prewet (o : Order) : Order := { o with origin := .prewet }
def awaited (o : Order) (m : Nat) : State := { ordered (prewet o) with
  clock := clockAt 120 0 60, piles := [(3, { pile with m := m })]
  permits := { yard.permits with list := [⟨1, 12, .dozer, 7, .pendingWet, 100, 110, some 1⟩], nextId := 2 } }
def tankConfig : TankConfig := ⟨9, 100, 10, 80, 5, 50, 120⟩
def tank : Tank := ⟨tankConfig, some ⟨50, 3, false⟩, false, false, false, 0, true, some 50⟩
def watered (x : Transfer) : State :=
  { yard with water := { yard.water with tank := some tank, pond := ⟨100, 50, 10, 60, 0, some 11⟩, transfer := x } }
def report (v : Valve) : NodeReport := ⟨v, true, false, false⟩

/-! ## WellFormed refuses -/

def entryArgs : PlanEntryArgs := ⟨0xFF, 0, 0, 100⟩
theorem test_wf_plan_of_nine : Instr.wf (.placeOrder ⟨7, 0, 0, 0, none, List.replicate 9 entryArgs⟩) = false := by decide
theorem test_wf_unloading_with_fields : Instr.wf (.loadCannon 1 0 { CannonArgs.none with supply := 1 }) = false := by decide
theorem test_wf_coverage_of_eight :
    Instr.wf (.loadCannon 1 5 { CannonArgs.none with coverage := List.replicate 8 ⟨1, 0, 0⟩ }) = false := by decide
theorem test_wf_tank_unloading_with_fields :
    Instr.wf (.loadBasinTank 0 { TankArgs.none with capacity := 1 }) = false := by decide
theorem test_wf_forecast_index : Instr.wf (.readForecast 1 256) = false := by decide
theorem test_wf_mast : Instr.wf (.mastStaleExpiry 2) = false := by decide
theorem test_wf_order : Instr.wf (.orderLapse 0) = false := by decide
theorem test_wf_cannon_events : Instr.wf (.slewTimeout 24) = false ∧ Instr.wf (.blankingTimerExpiry 24) = false
    ∧ Instr.wf (.closeWaitExpiry 24) = false ∧ Instr.wf (.retryDelayEnd 24) = false
    ∧ Instr.wf (.tripCountDecay 24) = false := by decide
theorem test_wf_machine_events : Instr.wf (.prewetWaitExpiry 0) = false ∧ Instr.wf (.maxHoldLapse 64) = false := by decide
theorem test_wf_line : Instr.wf (.validReply (List.replicate 260 0)) = false
    ∧ Instr.wf (.callAnswer (List.replicate 260 0)) = false := by decide +kernel

/-! ## Frames and lines, byte by byte (R187 to R190) -/

theorem test_crc_check_value : crc8 [0x31, 0x32, 0x33, 0x34, 0x35, 0x36, 0x37, 0x38, 0x39] = 0xF4 := by decide +kernel
/-- A whole SET-LEAD frame of 300 to part 3. -/
theorem test_frame_set_lead :
    decodeFrame 3 0 false (closeFrame [3, 0x20, 2, 0x01, 0x2C]) = .command (.setLead 300) := by decide +kernel
/-- RESET held low: every transaction is ignored (R185). -/
theorem test_frame_under_reset :
    decodeFrame 3 0 true (closeFrame [3, 0x20, 2, 0x01, 0x2C]) = .ignored := by decide
/-- A broadcast READ-CLOCK is ignored (R173). -/
theorem test_frame_broadcast_read :
    decodeFrame 3 0 false (closeFrame [0xFF, 0x07, 0]) = .ignored := by decide
/-- A FETCH-REPLY is judged on four bytes, the rest being clocked (R172, R175). -/
theorem test_frame_fetch : decodeFrame 3 0 false (closeFrame [3, 0x01, 0] ++ [0, 0, 0, 0, 0, 0]) = .command (.fetchReply 6) := by
  decide
/-- AIM to node 5: arc 10 to 90, rate 12 (R190). -/
theorem test_line_aim : Sent.bytes 5 (.command (.aim 10 90 12)) = closeFrame [5, 0x10, 5, 0, 10, 0, 90, 12] := by decide +kernel
/-- A cannon report: valve OPEN, SETTLED, meter 300 (R190). -/
theorem test_line_cannon_report :
    parseReply 5 .cannon (closeFrame [5, 0, 3, 0x06, 0x01, 0x2C]) = some (.cannon ⟨.opened, true, false, false⟩ 300) := by
  decide +kernel
/-- A mast sample: 12.5 m/s from 350 degrees, 40 %, no rain, -5 degrees (R190). -/
theorem test_line_mast_sample :
    parseReply 2 .mast (closeFrame [2, 1, 8, 0x00, 0x7D, 0x01, 0x5E, 40, 0, 0, 0xFB]) = some (.mast 125 350 40 0 (-5)) := by
  decide +kernel

/-! ## Worked examples of the manual -/

/-- R79: a coverage arc from 300 to 40 holds 330 to 10 and not 20 to 350. -/
theorem test_arcs_wrap : arcWithin ⟨7, 300, 40⟩ 330 10 = true ∧ arcWithin ⟨7, 300, 40⟩ 20 350 = false := by decide
/-- R79's note: shares 150, 3000 and 900 under pass doses 200 to 2500 make a dose of 3600. -/
theorem test_plan_dose : planDose [⟨none, 0, 0, clamp 200 2500 150, 0⟩, ⟨none, 0, 0, clamp 200 2500 3000, 0⟩,
    ⟨none, 0, 0, 900, 0⟩] = 3600 := by decide
/-- R48 and R128: one reading toward a change counts, the second makes it. -/
theorem test_second_reading_changes : qualityNext 50 51 false 0 = (false, 1) ∧ qualityNext 50 51 false 1 = (true, 0)
    ∧ qualityNext 50 50 false 1 = (false, 0) := by decide
/-- R65: issues are compared modulo 65536. -/
theorem test_issue_wraps : issueNewer 2 65535 = true ∧ issueNewer 65535 2 = false ∧ issueNewer 5 5 = false := by decide
/-- R104: the meter wraps at 65536. -/
theorem test_meter_wraps : meterDelta (some 65530) 10 = 16 ∧ meterDelta none 10 = 0 := by decide
/-- R143: ids count on from 255 to 1 and pass over those in the table. -/
theorem test_permit_id_wraps : freeId 255 [255, 1] 17 255 = 2 := by decide

/-- The next state a command answers. -/
def after (c : Instr) (s : State) : Option State :=
  match exec c s with
  | .next t => some t
  | .fault _ => none
  | .refused _ => none

/-- R8: loading a grade whose Msat lies below a pile's M of 700 clamps it. -/
theorem test_load_grade_clamps : (after (.loadGrade 2 ⟨10, 20, 0, 0, 600, 0, 1, 0⟩) yard).map (fun t => t.piles)
    = some [(3, { pile with m := 600 })] := by decide
/-- R42: lowering b2 from 96 to 80 moves a pile of risk 86 from WATCH to ACT and hands its slot on. -/
theorem test_set_bands_moves_a_pile :
    (after (.setBands 32 80 192) { yard with piles := [(3, { pile with risk := 86, band := .watch })] }).map
      (fun t => (t.piles, t.notices.piles)) = some ([(3, { pile with risk := 86, band := .act })], [3]) := by decide
/-- R13: a free slot is told as FREE. -/
theorem test_read_free_slot : (after (.readPile 1 5) yard).map (fun t => t.port.reply.map fun r => r.payload)
    = some (some [5, 0]) := by decide

/-- R172: a SET-LEAD frame whose payload is a byte short is a bad frame (R189 gives it two). -/
theorem test_short_payload : (after (.badFrame 0 false (closeFrame [0, 0x20, 1, 0x01])) yard).map (fun t => t.port.reply)
    = some (some ⟨.badFrame, 0x20, false, []⟩) := by decide
/-- R187: READ-ORDER's litres metered so far are zeros while no pass is bound (R96). -/
theorem test_read_order_without_pass : (after (.readOrder 0 1) (ordered { order with delivered := 300 })).map
    (fun t => t.port.reply.map fun r => (fieldAt r.payload 8 4, fieldAt r.payload 45 4)) = some (some (300, 0)) := by decide
/-- R49: a mast whose last sample is 119 s old under a limit of 120 s is not stale yet, and at 120 s it is. -/
theorem test_mast_goes_stale_at_its_limit : ∀ a ∈ [119, 120], (after (.mastStaleExpiry 1)
    { yard with wind := { yard.wind with masts := [(1, { Mast.loaded 9 120 with fresh := true, ring := [5], age := some a })] } }).map
      (fun t => (Table.get t.wind.masts 1).map fun m => m.fresh) = some (some (a == 119)) := by decide
/-- R177: the seconds count's rise at the step timer's expiry makes one model step due, and a second step is not taken. -/
theorem test_one_step_for_an_expiry : ((((after .secondsCountRise { yard with clock := clockAt 9 30 1 }).bind
    (after .modelStep)).map fun t => { t with model := { t.model with lastStep := none } }).bind (after .modelStep)).map
      (fun t => t.model.lastStep) = some none := by decide

/-! ## Witnesses: each statement's hypotheses, clause by clause, at the edges of their ranges -/

theorem witness_bad_frames : yard.port.address ≤ 15 ∧ { yard with port := ⟨15, none, []⟩ }.port.address ≤ 15
    ∧ ([1, 2, 3] : List Byte).length < 4
    ∧ ((u8 [1, 7, 0, 9] 0).toNat ≠ yard.port.address ∧ u8 [1, 7, 0, 9] 0 ≠ 0xFF)
    ∧ 60 < (u8 [0, 7, 61, 0] 2).toNat ∧ ([0, 7, 0, 9, 9] : List Byte).length ≠ (u8 [0, 7, 0, 9, 9] 2).toNat + 4
    ∧ (u8 [0, 7, 0, 9] 3 ≠ crc8 ([0, 7, 0, 9].take 3) ∧ 4 ≤ ([0, 7, 0, 9] : List Byte).length
      ∧ (u8 [0, 7, 0, 9] 0).toNat = yard.port.address
      ∧ ¬ (u8 [0, 7, 0, 9] 1 = 0x01 ∧ u8 [0, 7, 0, 9] 2 = 0 ∧ u8 [0, 7, 0, 9] 3 = crc8 ([0, 7, 0, 9].take 3)))
    ∧ (u8 [0xFF, 7, 0, 9] 3 ≠ crc8 ([0xFF, 7, 0, 9].take 3) ∧ u8 [0xFF, 7, 0, 9] 0 = 0xFF) := by decide

/-- A payload one byte short and one byte long, a code that is not listed, and the lengths of each code with more than one. -/
theorem witness_bad_payloads : yard.port.address ≤ 15 ∧ (List.replicate 60 (0 : Byte)).length ≤ 60
    ∧ ([] : List Byte).length ≠ 2 ∧ ([1, 2, 3] : List Byte).length ≠ 2
    ∧ ((0x34 : Byte).toNat ∉ [0x01, 0x32, 0x40, 0x50, 0x58]) ∧ ([0] : List Byte) ≠ []
    ∧ (u8 [0, 1] 0 = 0 ∧ ([0, 1] : List Byte).length ≠ 5) ∧ (u8 [1, 0, 0, 0, 0] 0 = 1 ∧ ([1, 0, 0, 0, 0] : List Byte).length ≠ 2)
    ∧ (∀ k, k ≤ 8 → (List.replicate 56 (0 : Byte)).length ≠ 7 + 6 * k)
    ∧ (u8 [4, 0, 0, 1] 2 = 0 ∧ ([4, 0, 0, 1] : List Byte).length ≠ 3)
    ∧ (u8 [0, 0, 0] 0 = 0 ∧ u8 [0, 0, 0] 1 = 0 ∧ ([0, 0, 0] : List Byte).length ≠ 2)
    ∧ ((0x44 : Byte) = 0x06 ∨ (0x44 : Byte) = 0x30 ∨ (0x44 : Byte) = 0x44) ∧ ([] : List Byte).length ≠ 1
    ∧ (1 < (u8 [2, 0] 0).toNat ∧ ([2, 0] : List Byte).length = 2) ∧ (List.replicate 13 (2 : Byte)).length = 13
    ∧ (List.replicate 19 (2 : Byte)).length = 19 := by decide

theorem witness_good_frames : yard.port.address ≤ 15
    ∧ decodePayload false 0 0x02 [] = .command .readIdent
    ∧ decodePayload false 0 0x20 [0x01, 0x2C] = .command (.setLead 300)
    ∧ decodePayload true 0 0x06 [0, 0, 1, 0] = .command (.setClock true 256)
    ∧ decodePayload true 0 0x44 [5] = .command (.volley true 5)
    ∧ (0x20 : Byte) ≠ 0x06 ∧ (0x20 : Byte) ≠ 0x30 ∧ (0x20 : Byte) ≠ 0x44 := by decide

def told : Reply := ⟨.ok, 3, false, [1, 2]⟩
theorem witness_fetch : { yard with port := ⟨0, some told, []⟩ }.port.reply = some told
    ∧ told.payload.length + 6 ≤ 8 ∧ 7 < told.payload.length + 6 ∧ yard.port.reply = none := by decide

theorem witness_read_changes : 3 < (4 : Byte).toNat ∧ ChangeSet.ofCode (0 : Byte).toNat = some .pile
    ∧ ChangeSet.ofCode (3 : Byte).toNat = some .permit ∧ ChangeSet.order ≠ .pile := by decide

/-- A machine with a granted permit and a lapsed one remembered, and one that neither table holds. -/
def toldYard : State := { permitted (permit .granted none) 120 with
  permits := { (permitted (permit .granted none) 120).permits with outcomes := [(12, ⟨.lapsed, 90, 7, 3, some 400⟩)] }
  notices := { yard.notices with permits := [12, 13] } }
theorem witness_permit_keys : (toldYard.permit? 12).map (fun x => x.state) = some .granted
    ∧ (Table.get toldYard.permits.outcomes 12).map (fun e => e.outcome) = some .lapsed
    ∧ toldYard.permit? 13 = none ∧ Table.get toldYard.permits.outcomes 13 = none
    ∧ (after (.readChanges 3) toldYard).map (fun t => t.port.reply.map fun r => r.payload)
        = some (some [2, 3, 12, 2, 2, 0, 13, 0, 0, 0]) := by decide

def noticed : Notices := ⟨[2, 9], [], [], [], Categories.none, Categories.none⟩
theorem witness_handed_key : ascending (noticed.keys .pile) = true ∧ 9 ∈ noticed.keys .pile ∧ ChangeSet.order ≠ .pile := by
  decide

/-- The yard at a number of seconds to the next expiry, with what the moisture model and the forecast table hold of it. -/
def stepping (left : Nat) (x : Expiries) : State := { yard with clock := ⟨5, 58, left, x, x⟩ }
theorem witness_second : (∀ k ∈ [1, 2, 60], (stepping k Expiries.noneDue).clock.seconds < 59
      ∧ (stepping k Expiries.noneDue).clock.stepLeft = k)
    ∧ (2 ≤ (stepping 2 ⟨3, true⟩).clock.stepLeft ∧ (stepping 60 ⟨3, true⟩).clock.stepLeft ≤ 60)
    ∧ (stepping 1 ⟨0, true⟩).clock.stepLeft = 1 := by decide

/-- At the last minute of the count and at the first of a day, with a trip count that is kept and one that decays. -/
theorem witness_minute : (0 : Long).toNat = yard.clock.minute ∧ (1440 : Long).toNat ≠ yard.clock.minute
    ∧ { yard with clock := clockAt 4294967295 59 60 }.clock.seconds = 59
    ∧ yard.dispatch.orders = [] ∧ yard.permits.list = []
    ∧ { yard with cannons := [(4, { cannon with lastTrip := some 1410 })] }.cannon? 4
        = some { cannon with lastTrip := some 1410 }
    ∧ (1440 : Long).toNat / 1440 ≠ yard.water.countedDay ∧ (1439 : Long).toNat / 1440 = yard.water.countedDay := by
  decide

/-- Two FRESH masts of equal averages, mast 0 in gust; none FRESH, with a slot that covers the minute and without. -/
def secondMast : Mast := ⟨8, 120, true, [110, 120], none, none, some 3, true, 1, some 90, some 60, some 5, some (-4), some 119⟩
def firstMast : Mast := ⟨9, 120, true, [100, 130], some 130, some 2, some 3, false, 1, some 90, some 40, some 0, some 10, some 119⟩
def twoMasts (a b : Mast) : State := { yard with wind := { yard.wind with masts := [(0, a), (1, b)] } }
theorem twoMasts_get {a b y : Mast} {k : Nat} (h : Table.get (twoMasts a b).wind.masts k = some y) :
    (k = 0 ∧ y = a) ∨ (k = 1 ∧ y = b) := by
  simp only [twoMasts, Table.get] at h
  split at h
  · left; simp_all
  · split at h <;> simp_all
theorem witness_observed : Table.get (twoMasts firstMast secondMast).wind.masts 0 = some firstMast ∧ firstMast.fresh = true
    ∧ firstMast.rh = some 40 ∧ firstMast.rain = some 0 ∧ firstMast.temp ≠ none ∧ secondMast.fresh = true
    ∧ Table.wf (twoMasts firstMast secondMast).wind.masts = true ∧ secondMast.gust = true
    ∧ (∀ k y, Table.get (twoMasts firstMast secondMast).wind.masts k = some y → y.fresh = true → k ≠ 0 →
        y.ring.sum / y.ring.length < firstMast.ring.sum / firstMast.ring.length
          ∨ (y.ring.sum / y.ring.length = firstMast.ring.sum / firstMast.ring.length ∧ 0 < k))
    ∧ State.weatherNow (twoMasts firstMast secondMast) = ⟨115, 130, 2, 40, 0, -4, .observed⟩ := by
  refine ⟨by decide, by decide, by decide, by decide, by decide, by decide, by decide, by decide, ?_, by decide⟩
  intro k y h _ hk
  obtain ⟨rfl, rfl⟩ | ⟨rfl, rfl⟩ := twoMasts_get h
  · exact absurd rfl hk
  · decide
def quietMast (a : Mast) : Mast := { a with fresh := false, ring := [] }
theorem witness_other_sources : (∀ k y, Table.get (twoMasts (quietMast firstMast) (quietMast secondMast)).wind.masts k = some y →
      y.fresh = false)
    ∧ [(⟨0, 1, 0, 60, 600, 600, 8, 0, 0, 10⟩ : Slot)].filter (fun f => decide (f.start ≤ 59 ∧ 59 < f.start + f.length))
        = [⟨0, 1, 0, 60, 600, 600, 8, 0, 0, 10⟩]
    ∧ [(⟨0, 1, 0, 60, 600, 600, 8, 0, 0, 10⟩ : Slot)].filter (fun f => decide (f.start ≤ 60 ∧ 60 < f.start + f.length)) = []
    ∧ { yard.wind with established := true }.established = true ∧ yard.wind.established = false
    ∧ 8 = (if (7 : Nat) < 8 then 8 else 3) ∧ (0 : Long).toNat < 4294967296 := by
  refine ⟨fun k y h => ?_, by decide⟩
  obtain ⟨rfl, rfl⟩ | ⟨rfl, rfl⟩ := twoMasts_get h <;> rfl

def edgeGrade : GradeArgs := ⟨1, 255, 4000, 4000, 4000, 1000, 1, 100⟩
theorem witness_load_grade : 15 < (16 : Byte).toNat ∧ { edgeGrade with msat := 0 }.msat.toNat = 0
    ∧ 4000 < { edgeGrade with msat := 4001 }.msat.toNat ∧ { edgeGrade with kg := 0 }.kg = 0
    ∧ { edgeGrade with gk := 0 }.gk = 0 ∧ { edgeGrade with dg := 0 }.dg = 0
    ∧ { edgeGrade with mt := 4001 }.msat.toNat < { edgeGrade with mt := 4001 }.mt.toNat
    ∧ { edgeGrade with mwork := 4001 }.msat.toNat < { edgeGrade with mwork := 4001 }.mwork.toNat
    ∧ 1000 < { edgeGrade with margin := 1001 }.margin.toNat ∧ 100 < { edgeGrade with fdef := 101 }.fdef.toNat
    ∧ ((15 : Byte).toNat ≤ 15 ∧ 1 ≤ edgeGrade.msat.toNat ∧ edgeGrade.msat.toNat ≤ 4000 ∧ edgeGrade.kg ≠ 0
      ∧ edgeGrade.gk ≠ 0 ∧ edgeGrade.dg ≠ 0 ∧ edgeGrade.mt.toNat ≤ edgeGrade.msat.toNat
      ∧ edgeGrade.mwork.toNat ≤ edgeGrade.msat.toNat ∧ edgeGrade.margin.toNat ≤ 1000 ∧ edgeGrade.fdef.toNat ≤ 100
      ∧ ∀ x ∈ yard.permits.list, x.state ≠ .pendingWet) := by decide

def opening : OpenPileArgs := ⟨8, 2, 1, flat, 1300, 4000, true⟩
def fullYard : State := { yard with piles := (List.range 64).map fun k => (k, { pile with tag := 100 + k }) }
theorem witness_open_pile : ({ opening with tag := 0 }.tag = 0 ∧ 15 < { opening with grade := 16 }.grade.toNat
      ∧ { opening with area := 0 }.area = 0 ∧ 4000 < { opening with mcore := 4001 }.mcore.toNat)
    ∧ (opening.tag ≠ 0 ∧ opening.grade.toNat ≤ 15 ∧ opening.area ≠ 0 ∧ opening.mcore.toNat ≤ 4000)
    ∧ (yard.pileAt? (7 : Half).toNat).isSome = true ∧ yard.pileAt? opening.tag.toNat = none
    ∧ Table.get yard.grades 15 = none ∧ Table.get yard.grades opening.grade.toNat = some grade
    ∧ (fullYard.pileAt? opening.tag.toNat = none ∧ Table.get fullYard.grades opening.grade.toNat = some grade
      ∧ ∀ k, k < 64 → (Table.get fullYard.piles k).isSome = true)
    ∧ (Table.get yard.piles 0 = none ∧ ∀ k, k < 0 → (Table.get yard.piles k).isSome = true)
    ∧ (Table.get { fullYard with piles := Table.erase fullYard.piles 63 }.piles 63 = none
      ∧ ∀ k, k < 63 → (Table.get { fullYard with piles := Table.erase fullYard.piles 63 }.piles k).isSome = true) := by
  decide

def amending : AmendPileArgs := ⟨7, some 2, some 1, none, some 4000, some true⟩
theorem witness_amend_pile : yard.pileAt? (8 : Half).toNat = none ∧ yard.pileAt? amending.tag.toNat = some (3, pile)
    ∧ (∃ n : Byte, some (16 : Byte) = some n ∧ 15 < n.toNat) ∧ (∃ x : Half, some (4001 : Half) = some x ∧ 4000 < x.toNat)
    ∧ ((∀ n, amending.grade = some n → n.toNat ≤ 15) ∧ amending.area ≠ some 0
      ∧ (∀ x, amending.mcore = some x → x.toNat ≤ 4000)
      ∧ (∃ n, amending.grade = some n ∧ n.toNat = pile.grade ∧ (Table.get yard.grades n.toNat).isSome = true))
    ∧ Table.get yard.grades (15 : Byte).toNat = none
    ∧ (Table.get { yard with grades := [(2, grade), (15, grade)] }.grades (15 : Byte).toNat = some grade
      ∧ (15 : Byte).toNat ≠ pile.grade ∧ ∀ x ∈ yard.permits.list, x.state ≠ .pendingWet) :=
  ⟨by decide, by decide, ⟨16, rfl, by decide⟩, ⟨4001, rfl, by decide⟩,
    ⟨fun n h => by cases h; decide, by decide, fun x h => by cases h; decide, 2, rfl, rfl, by decide⟩, by decide, by decide,
    by decide, by decide⟩

theorem witness_piles_read : yard.pileAt? (8 : Half).toNat = none ∧ 63 < (64 : Half).toNat ∧ 1 < (2 : Byte).toNat
    ∧ ((63 : Half).toNat ≤ 63 ∧ Table.get yard.piles (63 : Half).toNat = none)
    ∧ (yard.pileAt? (7 : Half).toNat = some (3, pile) ∧ 3 ≤ 63 ∧ pile.tag < 65536)
    ∧ ((3 : Half).toNat = 3 ∧ Table.get yard.piles 3 = some pile) ∧ 3 < (4 : Byte).toNat
    ∧ Band.ofCode (0 : Byte).toNat = some .calm ∧ Band.ofCode (3 : Byte).toNat = some .severe
    ∧ Table.wf yard.piles = true := by decide

theorem witness_moisture : yard.pileAt? (8 : Half).toNat = none ∧ yard.pileAt? (7 : Half).toNat = some (3, pile)
    ∧ Table.get yard.grades pile.grade = some grade ∧ Table.wf yard.piles = true
    ∧ ∀ x ∈ yard.permits.list, x.state ≠ .pendingWet := by decide

def waitingYard : State := permitted ⟨1, 12, .reclaimer, 7, .pendingWet, 100, 110, none⟩ 120
theorem witness_working_moisture : waitingYard.pileAt? (7 : Half).toNat = some (3, pile)
    ∧ Table.get waitingYard.grades pile.grade = some grade ∧ pile.life = .live ∧ Table.wf waitingYard.piles = true
    ∧ grade.mwork ≤ min (900 : Half).toNat (min 4000 grade.msat)
    ∧ (∀ o ∈ waitingYard.dispatch.orders, o.tag ≠ (7 : Half).toNat) ∧ waitingYard.cannons = []
    ∧ ∃ x ∈ waitingYard.permits.list, x.tag = (7 : Half).toNat ∧ x.state = .pendingWet := by decide

/-- Cannons that cover the pile: one waits for its valve with its pass still its own, one is at rest. -/
theorem witness_working_moisture_cannons : ∀ e ∈ [(4, { cannon with bound := some 1, closeWait := some 3 }), (6, cannon)],
    (∃ v ∈ e.2.config.coverage, v.tag = (7 : Half).toNat) ∧ (e.2.bound = none → e.2.closeWait = none) := by decide

/-- Each telling of a pile's moisture, with a permit that waits on it. -/
theorem witness_told_while_waiting : (∃ x ∈ waitingYard.permits.list, x.state = .pendingWet)
    ∧ (∀ e ∈ waitingYard.piles, e.2.life = .live ∧ e.2.retirePending = false)
    ∧ waitingYard.pileAt? (7 : Half).toNat = some (3, pile) ∧ Table.get waitingYard.grades pile.grade = some grade
    ∧ Table.wf waitingYard.piles = true
    ∧ Table.get { waitingYard with grades := [(2, grade), (15, grade)] }.grades (15 : Byte).toNat = some grade := by decide

theorem witness_retire_pile : yard.pileAt? (8 : Half).toNat = none ∧ yard.pileAt? (7 : Half).toNat = some (3, pile)
    ∧ pile.life = .live
    ∧ { yard with piles := [(3, { pile with life := .retiring })] }.pileAt? (7 : Half).toNat
        = some (3, { pile with life := .retiring })
    ∧ (∃ x ∈ waitingYard.permits.list, x.tag = (7 : Half).toNat)
    ∧ ((∀ x ∈ (ordered order).permits.list, x.tag ≠ (7 : Half).toNat) ∧ Table.wf (ordered order).piles = true
      ∧ ((ordered order).piles.map fun e => e.2.tag).Nodup)
    ∧ (∀ o ∈ yard.dispatch.orders, o.tag = (7 : Half).toNat → o.state = .ended)
    ∧ ((ordered order).dispatch.orders.filter fun o => o.tag == (7 : Half).toNat && o.isOpen) = [order]
    ∧ ((ordered order).dispatch.orders.map fun o => o.id).Nodup ∧ order.state = .waiting ∧ order.origin = .host := by decide

/-- Two open orders on a pile: one waits, and the other is held, has a pass that sprays, or has one that slews. -/
def several (o : Order) : State := { yard with dispatch := { yard.dispatch with orders := [o, { order with id := 2 }], nextId := 3 } }
def held : Order := { order with state := .volleyHeld, volley := some 3 }
theorem witness_retire_several (o : Order) (h : o ∈ [held, active .spraying, active .rampDown, active .aiming]) :
    (several o).pileAt? (7 : Half).toNat = some (3, pile) ∧ (∀ x ∈ (several o).permits.list, x.tag ≠ (7 : Half).toNat)
    ∧ Table.wf (several o).piles = true ∧ ((several o).piles.map fun e => e.2.tag).Nodup
    ∧ ((several o).dispatch.orders.map fun o => o.id).Nodup ∧ (several o).dispatch.orders.length ≤ 32
    ∧ ((several o).dispatch.orders.filter fun o => decide (o.tag = (7 : Half).toNat ∧ o.state ≠ .ended))
        = [o, { order with id := 2 }]
    ∧ (∀ x ∈ (several o).permits.list, x.prewetOrder ≠ some o.id) := by
  simp only [List.mem_cons, List.not_mem_nil, or_false] at h
  rcases h with rfl | rfl | rfl | rfl <;> decide
theorem witness_retire_running :
    (held.state = .waiting ∨ held.state = .volleyHeld) ∧ order.state = .waiting
    ∧ (∀ c ∈ [bound .spraying, bound .rampDown, { bound .aiming with aimPhase := some .slewing }],
      (armed (several (active .spraying)) c node).cannon? (pass .spraying).cannon = some c ∧ c.bound = some (active .spraying).id
      ∧ (armed (several (active .spraying)) c node).node? c.config.node = some node)
    ∧ (∀ x ∈ [PassState.spraying, .rampDown, .aiming], (active x).state = .active ∧ (active x).pass = some (pass x)
      ∧ (active x).cancelPending = false ∧ (active x).plan = none ∧ (active x).delivered ≤ 4294967295
      ∧ (active x).origin ≠ .prewet ∧ (active x).id ≠ 2 ∧ (pass x).state = x)
    ∧ ((bound .spraying).state = .spraying ∧ (bound .rampDown).state = .rampDown ∧ (bound .aiming).state = .aiming) := by
  decide

theorem witness_bands : ¬ (1 ≤ (0 : Byte).toNat ∧ (0 : Byte).toNat < (1 : Byte).toNat ∧ (1 : Byte).toNat < (2 : Byte).toNat)
    ∧ ¬ (1 ≤ (1 : Byte).toNat ∧ (1 : Byte).toNat < (1 : Byte).toNat ∧ (1 : Byte).toNat < (2 : Byte).toNat)
    ∧ (1 ≤ (1 : Byte).toNat ∧ (1 : Byte).toNat < (2 : Byte).toNat ∧ (2 : Byte).toNat < (255 : Byte).toNat) := by decide

/-- An expiry handed over, the coming one, neither, and the coming one acted on already. -/
theorem witness_expiries : 0 < (stepping 60 ⟨1, false⟩).clock.modelDue.due ∧ 0 < (stepping 60 ⟨1, false⟩).clock.retireDue.due
    ∧ ((stepping 1 ⟨0, false⟩).clock.stepLeft = 1 ∧ (stepping 1 ⟨0, false⟩).clock.modelDue.ahead = false)
    ∧ ((stepping 2 ⟨0, false⟩).clock.modelDue.due = 0 ∧ (stepping 2 ⟨0, false⟩).clock.stepLeft ≠ 1)
    ∧ ((stepping 1 ⟨0, true⟩).clock.modelDue.due = 0 ∧ (stepping 1 ⟨0, true⟩).clock.modelDue.ahead = true) := by decide

theorem witness_model_step : Table.wf (stepping 1 ⟨0, false⟩).piles = true
    ∧ (∀ e ∈ (stepping 1 ⟨0, false⟩).piles, e.2.auto = false) ∧ (stepping 1 ⟨0, false⟩).dispatch.orders = []
    ∧ (∀ x ∈ (stepping 1 ⟨0, false⟩).permits.list, x.state ≠ .pendingWet)
    ∧ (∀ e ∈ (stepping 1 ⟨0, false⟩).piles, (Table.get (stepping 1 ⟨0, false⟩).grades e.2.grade).isSome = true)
    ∧ Table.get (stepping 1 ⟨0, false⟩).piles 0 = none ∧ Table.get (stepping 1 ⟨0, false⟩).piles 3 = some pile
    ∧ Table.get yard.grades pile.grade = some grade ∧ yard.wind.weather.octant < 8
    ∧ 8 ≤ { yard with wind := { yard.wind with weather := { yard.wind.weather with octant := 8 } } }.wind.weather.octant := by
  decide

/-- A pile that stages 1 to 5 leave in ACT, on auto and not, with the orders the second part names. -/
def dryPile (auto : Bool) : Pile := { pile with m := 0, auto := auto }
def windy (x : Pile) (gust : Nat) (o : List Order) : State := { stepping 60 ⟨1, false⟩ with
  piles := [(3, x)], wind := { yard.wind with weather := { yard.wind.weather with gustSpeed := gust } }
  dispatch := { yard.dispatch with orders := o } }
def bandAt (x : Pile) (gust : Nat) : Band := (stages1to5 (windy x gust []).model (windy x gust []).wind.weather grade x).band
def autoOrder (origin : Origin) (priority : Nat) : Order := { order with origin := origin, priority := priority }
theorem witness_auto_orders : (windy (dryPile true) 70 []).piles = [(3, dryPile true)]
    ∧ 0 < (windy (dryPile true) 70 []).clock.modelDue.due
    ∧ Table.get yard.grades (dryPile true).grade = some grade ∧ (dryPile true).life = .live ∧ (dryPile true).auto = true
    ∧ (windy (dryPile true) 70 []).dispatch.orders = [] ∧ yard.permits.list = [] ∧ yard.wind.cutOut = false
    ∧ yard.wind.frost = false ∧ 50 ≤ { yard.dispatch with maxDose := 100 }.maxDose
    ∧ bandAt (dryPile true) 70 = .act ∧ bandAt (dryPile true) 600 = .severe ∧ bandAt (dryPile true) 0 = .calm
    ∧ (dryPile false).auto = false ∧ (windy (dryPile false) 0 [autoOrder .autoRisk 0]).dispatch.orders = [autoOrder .autoRisk 0]
    ∧ (autoOrder .autoRisk 0).tag = (dryPile false).tag ∧ (autoOrder .autoRisk 0).state = .waiting
    ∧ (autoOrder .autoRisk 0).passes = 0 ∧ bandAt (dryPile false) 0 = .calm ∧ bandAt (dryPile false) 30 = .watch
    ∧ bandAt (dryPile false) 70 = .act ∧ bandAt (dryPile false) 600 = .severe
    ∧ (autoOrder .autoLookahead 0).origin = .autoLookahead ∧ (autoOrder .autoRisk 1).priority < 2
    ∧ 2 ≤ (autoOrder .autoRisk 2).priority := by decide

def blow : Slot := ⟨0, 1, 0, 60, 600, 600, 0, 0, 0, 10⟩
def foreseen : State := { stepping 1 ⟨0, false⟩ with
  piles := [(3, { pile with m := 850, auto := true })], forecast := { yard.forecast with slots := [blow] } }
theorem witness_look_ahead : foreseen.model.lead ≠ 0 ∧ foreseen.clock.stepLeft = 1 ∧ foreseen.clock.modelDue.ahead = false
    ∧ foreseen.forecast.lookup (foreseen.clock.minute + foreseen.model.lead) = some blow
    ∧ (stages1to5 foreseen.model foreseen.wind.weather grade { pile with m := 850, auto := true }).band = .calm
    ∧ (stages1to5 foreseen.model foreseen.wind.weather grade { pile with m := 850, auto := true }).m = 850
    ∧ 10 * (600 + 20) * (100 - 0) / 65536 * 30 = 270 ∧ 850 - 270 < grade.mt
    ∧ min grade.msat (grade.mt + grade.margin) = 900
    ∧ 50 ≤ ((900 - 850) * pile.area + grade.gk - 1) / grade.gk := by decide

/-- An auto order on the pile: the look-ahead PASSED at the top of its range, FAILED, or not evaluated; HOLD; a full table. -/
def calmSlot : Slot := { blow with rain := 999 }
def foreseenWith (slots : List Slot) (m : Nat) (o : List Order) : State := { foreseen with
  piles := [(3, { pile with m := m, auto := true })], forecast := { yard.forecast with slots := slots }
  dispatch := { yard.dispatch with orders := o, nextId := 2 } }
theorem witness_look_ahead_orders : (foreseenWith [calmSlot] 850 [autoOrder .autoLookahead 0]).forecast.lookup
        ((foreseenWith [calmSlot] 850 []).clock.minute + (foreseenWith [calmSlot] 850 []).model.lead) = some calmSlot
    ∧ (foreseenWith [] 850 []).forecast.lookup ((foreseenWith [] 850 []).clock.minute + (foreseenWith [] 850 []).model.lead) = none
    ∧ 850 + (((999 * 20 / 256 : Nat) : Int) - ((10 * (600 * 128 / 128 + 20) * (100 - 0) / 65536 : Nat) : Int)) * 30 ≥ 800
    ∧ (autoOrder .autoLookahead 0).origin = .autoLookahead ∧ (autoOrder .autoLookahead 0).state = .waiting
    ∧ (autoOrder .autoLookahead 0).passes = 0 ∧ (autoOrder .autoLookahead 0).tag = pile.tag
    ∧ 1 ≤ (foreseenWith [] 850 []).dispatch.nextId ∧ (foreseenWith [] 850 []).dispatch.nextId ≤ 65535
    ∧ (after .modelStep (foreseenWith [calmSlot] 850 [autoOrder .autoLookahead 0])).map
        (fun t => t.dispatch.orders.map fun o => o.outcome) = some [some .withdrawn]
    ∧ (∀ f ∈ [[], [blow]], (after .modelStep (foreseenWith f 850 [autoOrder .autoLookahead 0])).map
        (fun t => t.dispatch.orders) = some [autoOrder .autoLookahead 0]) := by decide
/-- One withdrawn and followed by another: the wind now makes ACT, and the slot that covers now + Lead rains. -/
theorem witness_order_followed : bandAt (dryPile true) 70 = .act
    ∧ (after .modelStep { windy (dryPile true) 70 [autoOrder .autoLookahead 0] with
        forecast := { yard.forecast with slots := [calmSlot] }, dispatch := { yard.dispatch with
          orders := [autoOrder .autoLookahead 0], nextId := 2 } }).map
      (fun t => t.dispatch.orders.map fun o => (o.id, o.origin, o.outcome))
        = some [(1, .autoLookahead, some .withdrawn), (2, .autoRisk, none)] := by decide
theorem witness_none_placed : { foreseenWith [blow] 850 [] with wind := { yard.wind with cutOut := true } }.wind.cutOut = true
    ∧ (∀ o ∈ (List.range 32).map (fun k => { order with id := k + 1 }), o.tag = pile.tag → o.state ≠ .ended →
        o.origin ≠ .autoRisk ∧ o.origin ≠ .autoLookahead)
    ∧ 32 ≤ (((List.range 32).map (fun k => { order with id := k + 1 })).countP fun o => o.state != .ended) := by decide

/-! ### The wind monitor and the forecast table -/

def mastNode : Node := ⟨.mast 1, 0, none, 0, false, none, 0⟩
def mast (fresh : Bool) : Mast := ⟨9, 120, fresh, if fresh then [100, 110, 120, 130] else [], some 130, some 2, some 3, false, 1,
  some 90, some 40, some 0, some 10, some 119⟩
def mastedWith (m : Mast) : State := { yard with
  wind := { yard.wind with masts := [(1, m)] }, loop := { yard.loop with nodes := [(9, mastNode)], running := true } }
def masted (fresh : Bool) : State := mastedWith (mast fresh)
theorem witness_masts : 120 = (if (0 : Half) = 0 then 120 else (0 : Half).toNat)
    ∧ 600 = (if (600 : Half) = 0 then 120 else (600 : Half).toNat)
    ∧ 1 < (2 : Byte).toNat ∧ 31 < (32 : Byte).toNat ∧ ((9 : Half) ≠ 0 ∧ (9 : Half).toNat < 10)
    ∧ ((601 : Half) ≠ 0 ∧ 600 < (601 : Half).toNat)
    ∧ ((1 : Byte).toNat ≤ 1 ∧ (31 : Byte).toNat ≤ 31 ∧ 10 ≤ (10 : Half).toNat ∧ (600 : Half).toNat ≤ 600)
    ∧ (∃ n, (masted true).node? (9 : Byte).toNat = some n ∧ n.owner ≠ .mast (0 : Byte).toNat)
    ∧ (yard.node? (31 : Byte).toNat = none ∧ Table.get yard.wind.masts (1 : Byte).toNat = none ∧ yard.loop.nodes = []
      ∧ yard.loop.running = false)
    ∧ ((masted true).node? (31 : Byte).toNat = none ∧ Table.get (masted true).wind.masts (0 : Byte).toNat = none
      ∧ (masted true).loop.running = true)
    ∧ (Table.get (masted true).wind.masts (1 : Byte).toNat = some (mast true) ∧ (9 : Byte).toNat = (mast true).node
      ∧ (mast true).age.getD 0 < 120 ∧ (masted true).node? 9 = some mastNode ∧ mastNode.owner = .mast (1 : Byte).toNat
      ∧ (mast true).fresh = true)
    ∧ (Table.get (masted false).wind.masts (1 : Byte).toNat = some (mast false) ∧ (mast false).fresh = false)
    -- at the limit and a second short of it; a new address; a mast that never answered
    ∧ ((mastedWith { mast true with age := some 120 }).wind.masts = [(1, { mast true with age := some 120 })]
      ∧ { mast true with age := some 120 }.stale ≤ { mast true with age := some 120 }.age.getD 0
      ∧ (mast true).age.getD 0 < (mast true).stale ∧ 10 ≤ (mast true).age.getD 0)
    ∧ ((31 : Byte) ≠ 0 ∧ (31 : Byte).toNat ≠ (mast true).node ∧ (masted true).node? (31 : Byte).toNat = none
      ∧ (mast true).inst ≠ none ∧ { mast true with inst := none }.inst = none) := by
  refine ⟨by decide, by decide, by decide, by decide, by decide, by decide, by decide, ⟨mastNode, by decide⟩, ?_⟩
  decide

def edgeLimits : WindLimitArgs := ⟨600, 599, 600, 599, 59, 60⟩
def lowLimits : WindLimitArgs := ⟨1, 0, 1, 0, 0xD8, 0xD9⟩
theorem witness_wind_limits : { edgeLimits with gust := 0 }.gust.toNat = 0 ∧ 600 < { edgeLimits with gust := 601 }.gust.toNat
    ∧ edgeLimits.gust.toNat ≤ { edgeLimits with hysteresis := 600 }.hysteresis.toNat
    ∧ { edgeLimits with frost := 0xD7 }.frost.toInt < -40 ∧ 59 < { edgeLimits with frost := 60 }.frost.toInt
    ∧ { edgeLimits with frostRelease := 59 }.frostRelease.toInt ≤ edgeLimits.frost.toInt
    ∧ 60 < { edgeLimits with frostRelease := 61 }.frostRelease.toInt
    ∧ (∀ a ∈ [edgeLimits, lowLimits], 1 ≤ a.gust.toNat ∧ a.gust.toNat ≤ 600 ∧ a.hysteresis.toNat < a.gust.toNat
      ∧ 1 ≤ a.cutOut.toNat ∧ a.cutOut.toNat ≤ 600 ∧ a.release.toNat < a.cutOut.toNat ∧ -40 ≤ a.frost.toInt
      ∧ a.frost.toInt ≤ 59 ∧ a.frost.toInt < a.frostRelease.toInt ∧ a.frostRelease.toInt ≤ 60)
    ∧ (∀ o ∈ (ordered order).dispatch.orders, o.state = .ended ∨ o.pass = none)
    ∧ ((ordered order).dispatch.orders.map fun o => o.id).Nodup ∧ (ordered order).dispatch.orders.length ≤ 32
    ∧ (after (.setWindLimits edgeLimits) (ordered order)).map (fun t => t.wind.cutOut || t.wind.frost) = some true
    ∧ (after (.setWindLimits lowLimits) (ordered order)).map (fun t => t.wind.cutOut || t.wind.frost) = some false
    ∧ (after (.setWindLimits lowLimits) { ordered { order with suspension := ⟨false, true, false⟩ } with
        wind := { yard.wind with frost := true } }).map (fun t => t.wind.cutOut || t.wind.frost) = some false := by
  decide

def sampling (m : Mast) : State := { masted true with
  wind := { yard.wind with masts := [(1, m)] }, loop := { (masted true).loop with phase := .exchange 9 .poll [12] } }
theorem witness_mast_sample : 9 ≤ 31 ∧ (sampling (mast true)).loop.phase = .exchange 9 .poll [12]
    ∧ (sampling (mast true)).node? 9 = some mastNode ∧ mastNode.owner = .mast 1
    ∧ Table.get (sampling (mast true)).wind.masts 1 = some (mast true)
    ∧ (mast false).ring.length < 4 ∧ ((mast true).ring = 100 :: [110, 120, 130] ∧ (mast true).ring.length = 4)
    ∧ 360 ≤ (360 : Half).toNat ∧ (359 : Half).toNat < 360
    ∧ 3 = (((135 : Half).toNat + 22) / 45) % 8 ∧ (mast true).pendingOctant = some 3
    ∧ 0 = (((359 : Half).toNat + 22) / 45) % 8
    ∧ { mast true with octant := none }.octant = none
    ∧ ((mast true).octant ≠ none ∧ (mast true).octant ≠ some 0 ∧ (mast true).pendingOctant ≠ some 0)
    ∧ ((mast true).gust = false ∧ (mast true).gustCount = 1)
    ∧ { mast true with gustCount := 0 }.gustCount = 0
    ∧ (True ↔ if (mast true).gust = true then True else yard.wind.limits.gust ≤ min (150 : Half).toNat 600)
    ∧ (False ↔ if (mast true).gust = true then True else yard.wind.limits.gust ≤ min (149 : Half).toNat 600)
    ∧ (sampling (mast true)).wind.masts = [(1, mast true)] ∧ (sampling (mast true)).dispatch.orders = [] := by
  decide
/-- A lost mast that answers a PROBE. -/
def probing : State := { sampling (mast false) with loop := { (sampling (mast false)).loop with
  nodes := [(9, { mastNode with lost := true })], phase := .exchange 9 .probe [12] } }
theorem witness_mast_probe : probing.loop.phase = .exchange 9 .probe [12]
    ∧ probing.node? 9 = some { mastNode with lost := true } ∧ Table.get probing.wind.masts 1 = some (mast false) := by
  decide
/-- R166: the valid reply to the PROBE rejoins the node, and the sample makes the mast fresh. -/
theorem test_mast_probe : (after (.validReply ((NodeReply.mast 100 90 50 0 10).bytes 9)) probing).map
        (fun t => ((t.node? 9).map fun n => n.lost, (Table.get t.wind.masts 1).map fun m => m.fresh))
      = some (some false, some true) := by decide +kernel

def post : ForecastArgs := ⟨0, 5, 100, 60, 120, 150, 3, 40, 0, 10⟩
def posted (n : Nat) : State := { yard with
  clock := clockAt 150 0 60
  forecast := ⟨(List.range n).map fun k => ⟨0, 4, 160 + 10 * k, 10, 0, 0, 0, 50, 0, 10⟩, [1, 2, 3, 4],
    [none, none, none, none, none]⟩ }
def ahead (issue : Nat) : State := { posted 0 with forecast := { (posted 0).forecast with
  slots := [⟨0, issue, 159, 10, 0, 0, 0, 50, 0, 10⟩] } }
theorem witness_post_forecast : 8 < (slotOf { post with octant := 9 }).octant
    ∧ 4294967296 < (slotOf { post with start := 0xFFFFFFFF }).start + (slotOf { post with start := 0xFFFFFFFF }).length
    ∧ ((slotOf post).octant ≤ 8 ∧ (slotOf post).start + (slotOf post).length ≤ 4294967296)
    ∧ ((slotOf { post with code := 9 }).code ≠ 0 ∧ (slotOf { post with code := 9 }).code ∉ (posted 0).forecast.codes)
    ∧ (slotOf { post with code := 4 }).code ∈ (posted 0).forecast.codes ∧ (slotOf post).code = 0
    ∧ (slotOf { post with length := 50 }).start + (slotOf { post with length := 50 }).length ≤ (posted 0).clock.minute
    ∧ (posted 0).clock.minute < (slotOf { post with length := 51 }).start + (slotOf { post with length := 51 }).length
    ∧ ((ahead 6).forecast.slots.find? (fun y => decide ((slotOf post).start < y.start + y.length
        ∧ y.start < (slotOf post).start + (slotOf post).length ∧ (ahead 6).clock.minute < y.start + y.length
        ∧ (slotOf post).issue ≠ y.issue ∧ ¬ (1 ≤ ((slotOf post).issue + 65536 - y.issue % 65536) % 65536
          ∧ ((slotOf post).issue + 65536 - y.issue % 65536) % 65536 ≤ 32767)))).isSome = true
    ∧ (∀ y ∈ (ahead 4).forecast.slots, (slotOf post).issue = y.issue
      ∨ (1 ≤ ((slotOf post).issue + 65536 - y.issue % 65536) % 65536
        ∧ ((slotOf post).issue + 65536 - y.issue % 65536) % 65536 ≤ 32767))
    ∧ ((posted 47).forecast.slots.filter (fun y => !decide ((slotOf post).start < y.start + y.length
        ∧ y.start < (slotOf post).start + (slotOf post).length))).length < 48
    ∧ 48 ≤ ((posted 48).forecast.slots.filter (fun y => !decide ((slotOf post).start < y.start + y.length
        ∧ y.start < (slotOf post).start + (slotOf post).length))).length
    ∧ (∀ y ∈ (posted 48).forecast.slots, (posted 48).clock.minute < y.start + y.length)
    ∧ (posted 47).forecast.slots.Pairwise (fun y z => y.start ≤ z.start)
    ∧ (posted 47).forecast.latest.length = 5 ∧ (posted 47).forecast.codes.length = 4 := by decide

/-- A slot of an own code; and a full table in which one slot has ended. -/
def late : State := { posted 48 with clock := clockAt 170 0 60 }
def postLate : ForecastArgs := { post with code := 2, start := 640 }
theorem witness_post_retires : (slotOf postLate).code ≠ 0 ∧ (slotOf postLate).code ∈ late.forecast.codes
    ∧ (slotOf postLate).octant ≤ 8 ∧ late.clock.minute < (slotOf postLate).start + (slotOf postLate).length
    ∧ (∀ y ∈ late.forecast.slots, ¬ ((slotOf postLate).start < y.start + y.length
        ∧ y.start < (slotOf postLate).start + (slotOf postLate).length))
    ∧ 48 ≤ (late.forecast.slots.filter fun y => !decide ((slotOf postLate).start < y.start + y.length
        ∧ y.start < (slotOf postLate).start + (slotOf postLate).length)).length
    ∧ ((late.forecast.slots.filter fun y => !decide ((slotOf postLate).start < y.start + y.length
        ∧ y.start < (slotOf postLate).start + (slotOf postLate).length)).filter fun y =>
          decide (late.clock.minute < y.start + y.length)).length < 48
    ∧ late.forecast.latest.length = 5 ∧ late.forecast.codes.length = 4 := by decide

theorem witness_retired : ∃ y ∈ late.forecast.slots, y.start + y.length ≤ late.clock.minute :=
  ⟨⟨0, 4, 160, 10, 0, 0, 0, 50, 0, 10⟩, by decide, by decide⟩
theorem witness_forecasts : (∀ y ∈ (posted 2).forecast.slots, (posted 2).clock.minute < y.start + y.length)
    ∧ (posted 2).forecast.codes = [1, 2, 3, 4] ∧ (posted 2).forecast.latest = [none, none, none, none, none] := by decide

/-! ### The order dispatcher -/

def placing : PlaceOrderArgs := ⟨7, 3, 2, 50, some 15, []⟩
def planned : PlaceOrderArgs := ⟨7, 3, 2, 0, none, [⟨4, 10, 90, 300⟩, ⟨0xFF, 0, 359, 50⟩]⟩
def staffed : State := { yard with cannons := [(4, cannon)] }
/-- What the share of an entry comes to in the yard with cannon 4. -/
def shareOf (e : PlanEntryArgs) : Nat :=
  match staffed.cannon? e.cannon.toNat with
  | some c => if e.cannon = 0xFF then e.share.toNat else max c.config.minDose (min e.share.toNat c.config.maxDose)
  | none => e.share.toNat

theorem witness_place_refusals :
    (∀ e c, e.cannon ≠ 0xFF → staffed.cannon? e.cannon.toNat = some c →
      shareOf e = max c.config.minDose (min e.share.toNat c.config.maxDose))
    ∧ (∀ e : PlanEntryArgs, e.cannon = 0xFF ∨ staffed.cannon? e.cannon.toNat = none → shareOf e = e.share.toNat)
    ∧ ({ placing with tag := 0 }.tag = 0 ∧ 3 < { placing with priority := 4 }.priority.toNat
      ∧ 2 < { placing with policy := 3 }.policy.toNat ∧ (0 : BitVec 7).toNat = 0 ∧ 15 < (16 : BitVec 7).toNat
      ∧ { placing with dose := 0 }.dose.toNat = 0 ∧ 23 < (24 : Byte).toNat ∧ 359 < (360 : BitVec 12).toNat)
    ∧ staffed.pileAt? (8 : Half).toNat = none ∧ staffed.pileAt? planned.tag.toNat = some (3, pile) ∧ pile.life = .live
    ∧ (arcWithin cover 10 91 = false ∧ { staffed.dispatch with maxDose := 349 }.maxDose < (planned.plan.map shareOf).sum)
    ∧ 32 ≤ (((List.range 32).map fun k => { order with id := k + 1 }).countP fun o => o.state != .ended) := by
  refine ⟨fun e c h h' => ?_, fun e h => ?_, by decide, by decide, by decide, by decide, by decide, by decide⟩
  · simp only [shareOf, h', if_neg h]
  · rcases h with h | h
    · simp [shareOf, h]; rfl
    · simp [shareOf, h]

def endedOrder (k : Nat) : Order := { order with
  id := k + 1, state := if k = 31 then .ended else .waiting, outcome := if k = 31 then some .done else none }
def crowded : State := { yard with dispatch := { yard.dispatch with orders := (List.range 32).map endedOrder, nextId := 65535 } }
theorem witness_place_order : (placeOrderArgsOk placing = true ∧ yard.liveTag placing.tag.toNat = true
      ∧ yard.planOk placing = true ∧ yard.dispatch.orders.length < 32
      ∧ (yard.dispatch.orders.countP fun o => o.state != .ended) < 32 ∧ 1 ≤ yard.dispatch.nextId
      ∧ yard.dispatch.nextId ≤ 65535)
    ∧ (placeOrderArgsOk planned = true ∧ staffed.liveTag planned.tag.toNat = true ∧ staffed.planOk planned = true)
    ∧ (yard.planOk { planned with plan := [⟨0xFF, 0, 0, 49⟩] } = true)
    ∧ (crowded.dispatch.orders.length = 32 ∧ crowded.planOk placing = true ∧ crowded.liveTag placing.tag.toNat = true
      ∧ (crowded.dispatch.orders.countP fun o => o.state != .ended) < 32 ∧ crowded.dispatch.nextId ≤ 65535)
    ∧ ({ placing with dose := 49 }.plan = [] ∧ min { placing with dose := 49 }.dose.toNat yard.dispatch.maxDose < 50)
    ∧ ¬ min placing.dose.toNat yard.dispatch.maxDose < 50 := by decide

theorem witness_waiting_orders : yard.order? (1 : Half).toNat = none
    ∧ (ordered { order with state := .ended }).order? (1 : Half).toNat = some { order with state := .ended }
    ∧ (ordered { order with suspension := ⟨true, false, false⟩ }).order? (1 : Half).toNat
        = some { order with suspension := ⟨true, false, false⟩ }
    ∧ ((ordered order).order? (1 : Half).toNat = some order ∧ order.state ≠ .ended ∧ order.suspension.host = false
      ∧ order.pass = none ∧ ((ordered order).dispatch.orders.map fun x => x.id).Nodup ∧ order.origin = .host)
    ∧ ((ordered order).pileAt? order.tag = some (3, pile) ∧ pile.life = .live)
    ∧ (ordered { active .rampDown with cancelPending := true }).order? (1 : Half).toNat
        = some { active .rampDown with cancelPending := true } ∧ (active .rampDown).state = .active
    ∧ (ordered { order with state := .volleyHeld, volley := some 3 }).order? (1 : Half).toNat
        = some { order with state := .volleyHeld, volley := some 3 } := by decide
theorem witness_prewet_order_ends : (∀ o ∈ [order, { order with state := .volleyHeld, volley := some 3 }],
      (awaited o 700).order? (1 : Half).toNat = some (prewet o) ∧ (o.state = .waiting ∨ o.state = .volleyHeld)
      ∧ (prewet o).origin = .prewet ∧ (awaited o 700).pileAt? o.tag = some (3, pile)
      ∧ (awaited o 700).permits.list.filter (fun x => decide (x.state = .pendingWet ∧ x.prewetOrder = some (1 : Half).toNat))
          = (awaited o 700).permits.list ∧ (awaited o 700).permits.list.length ≤ 16
      ∧ ((awaited o 700).permits.list.map fun x => x.machine).Nodup
      ∧ (∀ x ∈ (awaited o 700).permits.list, (awaited o 700).pileAt? x.tag = some (3, pile)))
    ∧ pile.life = .live ∧ pile.retirePending = false
    ∧ (prewet order).lapseRef + yard.dispatch.lapseTime < { awaited order 700 with clock := clockAt 121 0 60 }.clock.minute := by
  decide

/-- Order 1 with a pass on cannon 4 at node 5. -/
def passing (p : PassState) (c : CannonState) (phase : Option AimPhase) : State :=
  armed (ordered (active p)) { bound c with aimPhase := phase } node
theorem witness_running_passes : (passing .spraying .spraying none).order? (1 : Half).toNat = some (active .spraying)
    ∧ (active .spraying).state = .active ∧ (active .spraying).cancelPending = false
    ∧ (active .spraying).pass = some (pass .spraying) ∧ (pass .spraying).cannon = 4
    ∧ (passing .spraying .spraying none).cannon? 4 = some (bound .spraying) ∧ (bound .spraying).bound = some (1 : Half).toNat
    ∧ (passing .spraying .spraying none).node? (bound .spraying).config.node = some node
    ∧ (active .spraying).suspension.host = false
    ∧ (passing .rampDown .rampDown none).cannon? 4 = some (bound .rampDown)
    ∧ (passing .rampDown .rampDown none).order? (1 : Half).toNat = some (active .rampDown) := by decide
theorem witness_aiming_passes : (passing .aiming .aiming (some .slewing)).order? (1 : Half).toNat = some (active .aiming)
    ∧ (active .aiming).origin = .host ∧ (active .aiming).plan = none ∧ (active .aiming).delivered + 50 ≤ (active .aiming).dose
    ∧ (active .aiming).dose ≤ 65535 ∧ (passing .aiming .aiming (some .slewing)).permits.list = []
    ∧ (∀ x ∈ (passing .aiming .aiming (some .slewing)).dispatch.orders, x.origin = .host)
    ∧ (∀ e ∈ (passing .aiming .aiming (some .slewing)).piles, e.2.life = .live)
    ∧ (passing .aiming .aiming (some .slewing)).cannon? 4 = some { bound .aiming with aimPhase := some .slewing }
    ∧ (bound .aiming).header = some .reuse
    ∧ (passing .aiming .aiming (some .slewing)).node? (bound .aiming).config.node = some node := by decide

theorem witness_opening_passes : ∀ waiting ∈ [true, false],
    (armed (ordered (active .aiming)) { bound .aiming with aimPhase := some .opening, aimWaiting := waiting }
        { node with slot := some .close }).cannon? 4 = some { bound .aiming with aimPhase := some .opening, aimWaiting := waiting }
    ∧ (passing .aiming .aiming (some .opening)).order? (1 : Half).toNat = some (active .aiming)
    ∧ (passing .aiming .aiming (some .opening)).cannon? 4 = some { bound .aiming with aimPhase := some .opening }
    ∧ (passing .aiming .aiming (some .opening)).node? (bound .aiming).config.node = some node := by decide

/-- A mast at its stale limit in a yard whose forecast slot brings the cut-out speed. -/
def storm (s : State) : State := { s with
  wind := { s.wind with masts := [(1, { mast true with age := some 120 })] }, forecast := { s.forecast with slots := [blow] }
  loop := { s.loop with nodes := s.loop.nodes ++ [(9, mastNode)], running := true } }
/-- The same orders once HOLD is active, before a minute at which the mast finds little wind. -/
def lull (s : State) : State := { storm s with wind := { (storm s).wind with cutOut := true }, forecast := s.forecast }
def heldAfter (c : Instr) (s : State) : Option Bool := (after c s).map fun t => t.wind.cutOut || t.wind.frost
def mastless (s : State) : State := { s with wind := { s.wind with masts := [] } }
theorem witness_hold_comes : ∀ o ∈ [order, held], heldAfter (.setClock true 1) (mastless (storm (ordered o))) = some true
    ∧ ∀ c ∈ [.mastStaleExpiry 1, .loadMast 1 9 120, .loadMast 1 31 0, .loadMast 1 0 0],
      heldAfter c (storm (ordered o)) = some true ∧ (storm (ordered o)).wind.cutOut = false
      ∧ (storm (ordered o)).wind.frost = false ∧ o.pass = none
      ∧ ((storm (ordered o)).dispatch.orders.map fun y => y.id).Nodup ∧ (storm (ordered o)).dispatch.orders.length ≤ 32 := by
  decide
theorem witness_hold_goes : ∀ o ∈ [{ order with suspension := ⟨false, true, false⟩ }, { held with suspension := ⟨true, true, false⟩ }],
    heldAfter (.setClock true 1) (lull (ordered o)) = some false ∧ (lull (ordered o)).wind.cutOut = true
      ∧ o.pass = none ∧ o.suspension.hold = true := by decide
theorem witness_hold_at_other_selections :
    heldAfter (.postForecast false { post with start := 150, wind := 600 }) { ordered order with clock := clockAt 150 0 60 } = some true
    ∧ heldAfter .slotRetirement { lull (ordered order) with
        clock := ⟨60, 0, 60, ⟨1, false⟩, ⟨1, false⟩⟩, forecast := { yard.forecast with slots := [blow] } } = some false
    ∧ heldAfter .clearForecasts (lull (ordered order)) = some false := by decide
theorem witness_hold_at_a_sample : (after (.validReply ((NodeReply.mast 600 0 0 0 10).bytes 9)) { storm (ordered order) with
      loop := { (storm (ordered order)).loop with phase := .exchange 9 .poll [] } }).map (fun t => (t.wind.cutOut, t.dispatch.orders))
    = some (true, [{ order with suspension := ⟨false, true, false⟩ }]) := by decide +kernel
def ramping : Pass := { pass .rampDown with cannon := 6 }
/-- HOLD comes to a pass that sprays, ramps down or aims, beside a pass that ramps down on another cannon. -/
def besides (x : State) : State := { x with
  dispatch := { x.dispatch with orders := x.dispatch.orders ++ [{ active .rampDown with
    id := 2, pass := some ramping }] }
  cannons := x.cannons ++ [(6, { bound .rampDown with bound := some 2, config := { config with node := 6 } })]
  loop := { x.loop with nodes := x.loop.nodes ++ [(6, { node with owner := .cannon 6 })] } }
def runs : List (PassState × CannonState × Option AimPhase) :=
  [(.spraying, .spraying, none), (.rampDown, .rampDown, none), (.aiming, .aiming, some .slewing), (.aiming, .aiming, some .opening)]
theorem witness_hold_reaches_passes : ∀ x ∈ runs, ∀ s ∈ [storm (passing x.1 x.2.1 x.2.2), storm (besides (passing x.1 x.2.1 x.2.2))],
    heldAfter (.mastStaleExpiry 1) s = some true ∧ heldAfter (.setClock true 1) (mastless s) = some true
    ∧ s.wind.cutOut = false ∧ s.wind.frost = false ∧ (s.dispatch.orders.map fun y => y.id).Nodup
    ∧ s.dispatch.orders.length ≤ 32 ∧ s.order? 1 = some (active x.1) ∧ (active x.1).pass = some (pass x.1) := by decide
theorem witness_hold_beside_a_pass : ∀ s ∈ [storm (besides (passing .spraying .spraying none)),
      storm (besides (passing .aiming .aiming (some .opening)))],
    (∀ y ∈ s.dispatch.orders, y.id = 1 ∨ (y.id = 2 ∧ y.pass = some ramping))
    ∧ (s.cannon? ramping.cannon).map (fun d => (d.bound, d.state)) = some (some 2, .rampDown)
    ∧ (s.cannon? ramping.cannon).map (fun d => d.config.node) = some 6 := by decide
theorem witness_hold_cannons : ∀ x ∈ runs, ∀ s ∈ [storm (passing x.1 x.2.1 x.2.2), storm (besides (passing x.1 x.2.1 x.2.2))],
    (s.cannon? 4).map (fun c => (c.state, c.aimPhase)) = some x.2
    ∧ (s.cannon? 4).map (fun c => (c.bound, c.config.node, c.header.isSome)) = some (some 1, 5, true)
    ∧ s.node? 5 = some node ∧ node.owner = .cannon (pass x.1).cannon := by decide
theorem witness_hold_aiming : ∀ x ∈ runs, ∀ s ∈ [storm (passing x.1 x.2.1 x.2.2), storm (besides (passing x.1 x.2.1 x.2.2))],
    s.permits.list = [] ∧ (∀ y ∈ s.dispatch.orders, y.origin = .host) ∧ (∀ e ∈ s.piles, e.2.life = .live)
    ∧ (active x.1).delivered + 50 ≤ (active x.1).dose ∧ (active x.1).plan = none := by decide

/-- A minute at which orders lapse, host orders and a PREWET one that a permit waits on. -/
theorem witness_minute_lapses : ∃ late : Order → Bool,
    (∀ o, late o = true ↔ (o.state = .volleyHeld ∨ o.state = .waiting)
      ∧ o.lapseRef + (ordered order).dispatch.lapseTime < (121 : Long).toNat)
    ∧ late order = true ∧ late { order with lapseRef := 1 } = false ∧ (121 : Long).toNat ≠ (ordered order).clock.minute
    ∧ (ordered order).permits.list = [] ∧ (∀ e ∈ (ordered order).piles, e.2.life = .live)
    ∧ (∀ o ∈ (ordered order).dispatch.orders, o.origin ≠ .prewet ∧ o.pass = none) :=
  ⟨fun o => decide ((o.state = .volleyHeld ∨ o.state = .waiting) ∧ o.lapseRef + 120 < 121), fun o => by simp [ordered, yard,
    State.reset], by decide, by decide, by decide, by decide, by decide, by decide⟩
theorem witness_minute_prewet : (∀ o ∈ [order, { order with state := .volleyHeld, volley := some 3 }],
      (awaited o 700).dispatch.orders = [prewet o] ∧ (121 : Long).toNat ≠ (awaited o 700).clock.minute
      ∧ (prewet o).lapseRef + (awaited o 700).dispatch.lapseTime < (121 : Long).toNat
      ∧ (∀ x ∈ (awaited o 700).permits.list, x.state = .pendingWet ∧ x.prewetOrder = some (prewet o).id)
      ∧ State.weatherNow { awaited o 700 with clock := { (awaited o 700).clock with minute := (121 : Long).toNat } }
        = (awaited o 700).wind.weather
      ∧ ∀ e ∈ (awaited o 700).piles, e.2.life = .live ∧ e.2.retirePending = false)
    ∧ ((clockAt 4294967295 59 60).seconds = 59 ∧ (clockAt 4294967295 59 60).minute < 4294967296) := by decide
/-- A permit that asks again: beside an open PREWET order, with 32 orders open, and with room. -/
theorem witness_minute_asks : ∃ asking : Permit → Bool,
    (∀ x, asking x = true ↔ x.state = .pendingWet ∧ x.prewetOrder = none)
    ∧ ∀ d ∈ [(ordered (prewet order)).dispatch, { crowded.dispatch with orders := crowded.dispatch.orders.map fun o =>
        { o with state := .waiting } }, crowded.dispatch, yard.dispatch], ∀ s ∈ [{ waitingYard with
          clock := clockAt 119 0 60, dispatch := d }],
      (120 : Long).toNat ≠ s.clock.minute ∧ s.dispatch.orders.length ≤ 32
      ∧ State.weatherNow { s with clock := { s.clock with minute := (120 : Long).toNat } } = s.wind.weather
      ∧ (∀ o ∈ s.dispatch.orders, (120 : Long).toNat ≤ o.lapseRef + s.dispatch.lapseTime)
      ∧ (∀ x ∈ s.permits.list, asking x = true ∧ x.tag = pile.tag ∧ (120 : Long).toNat < x.entered + s.permits.prewetWait)
      ∧ (∃ x ∈ s.permits.list, asking x = true) ∧ s.pileAt? pile.tag = some (3, pile)
      ∧ Table.get s.grades pile.grade = some grade ∧ 50 ≤ s.dispatch.maxDose ∧ 1 ≤ s.dispatch.nextId
      ∧ s.dispatch.nextId ≤ 65535 :=
  ⟨fun x => decide (x.state = .pendingWet ∧ x.prewetOrder = none), fun x => by simp, by decide⟩

theorem witness_volley : ∃ heard : Order → Bool,
    (∀ o, heard o = true ↔ o.state = .volleyHeld ∧ ((15 : Byte).toNat = 0 ∨ o.volley = some (15 : Byte).toNat))
    ∧ heard { order with state := .volleyHeld, volley := some 15 } = true ∧ heard order = false :=
  ⟨fun o => decide (o.state = .volleyHeld ∧ ((15 : Byte).toNat = 0 ∨ o.volley = some (15 : Byte).toNat)),
    fun o => by simp, by decide, by decide⟩

/-- One minute past the lapse time, and at it. -/
def later (minute : Nat) : State := { ordered order with clock := clockAt minute 0 60 }
theorem witness_lapses : ∃ late : Nat → Nat → Order → Bool,
    (∀ m k o, late m k o = true ↔ (o.state = .volleyHeld ∨ o.state = .waiting) ∧ o.lapseRef + k < (later m).clock.minute)
    ∧ (∀ o ∈ (later 121).dispatch.orders, o.origin ≠ .prewet ∧ o.endedEvent ≤ (later 121).events)
    ∧ (∀ e ∈ (later 121).piles, e.2.life = .live)
    ∧ ((later 121).order? (1 : Half).toNat = some order ∧ late 121 (later 121).dispatch.lapseTime order = true)
    ∧ late 120 (later 120).dispatch.lapseTime order = false :=
  ⟨fun m k o => decide ((o.state = .volleyHeld ∨ o.state = .waiting) ∧ o.lapseRef + k < m), fun m k o => by simp [later, clockAt],
    by decide, by decide, by decide, by decide⟩
theorem witness_set_dispatch : (9 : Half).toNat < 10 ∧ 1440 < (1441 : Half).toNat ∧ (99 : Half).toNat < 100
    ∧ 4 < (5 : Byte).toNat ∧ 10 ≤ (10 : Half).toNat ∧ (1440 : Half).toNat ≤ 1440 ∧ 100 ≤ (100 : Half).toNat
    ∧ (4 : Byte).toNat ≤ 4 ∧ ((later 121).dispatch.orders.map fun o => o.id).Nodup
    ∧ (later 121).dispatch.orders.length ≤ 32 := by decide

/-! ### Arbitration and the cannons -/

def idleYard (o : Order) (tanked : Option Tank) (allowance : Nat) : State := { armed (ordered o) cannon node with
  dispatch := { (ordered o).dispatch with due := 1 }
  water := { yard.water with tank := tanked, allowance := allowance } }
def deepTank : Tank := { tank with
  config := { tankConfig with capacity := 5000, high := 4800 }, reading := some ⟨4000, 3, false⟩, qualityHold := false }
def reuseOrder : Order := { order with policy := .reuseThenFresh }
theorem witness_arbitration : (∀ c : Cannon, ∃ d, d = max c.config.minDose (min (order.dose - order.delivered) c.config.maxDose))
    ∧ yard.dispatch.due = 0 ∧ (idleYard order none 500).dispatch.due = 0 + 1
    ∧ (∀ o ∈ (idleYard { order with state := .ended } none 500).dispatch.orders, o.state = .waiting →
        o.suspension ≠ ⟨false, false, false⟩)
    ∧ ((idleYard order none 500).dispatch.orders.filter fun x => x.state == .waiting && x.suspension == ⟨false, false, false⟩)
        = [order]
    ∧ (idleYard order none 500).order? order.id = some order ∧ order.plan = none ∧ order.priority ≤ 3
    ∧ Table.wf (idleYard order none 500).cannons = true
    ∧ ((idleYard order none 500).cannon? 4 = some cannon ∧ cannon.state = .idle ∧ (∃ v ∈ cannon.config.coverage, v.tag = order.tag))
    -- a fresh pass at the whole of what is available, and none at a litre less
    ∧ (cannon.header = none ∧ cannon.config.supply ≠ .reuse ∧ ((idleYard order none 500).holders .fresh).length < 2
      ∧ 500 ≤ (idleYard order none 500).freshAvailable ∧ (idleYard order none 499).freshAvailable < 500 ∧ order.policy = .freshOnly)
    -- a reuse pass
    ∧ (reuseOrder.policy ≠ .freshOnly ∧ cannon.config.supply ≠ .fresh
      ∧ ((idleYard reuseOrder (some deepTank) 0).holders .reuse).length < 4
      ∧ 500 ≤ (idleYard reuseOrder (some deepTank) 0).reuseAvailable ∧ deepTank.fresh = true ∧ deepTank.nearEmpty = false
      ∧ deepTank.qualityHold = false)
    -- fresh water after reuse, at the floor
    ∧ (idleYard reuseOrder none 500).dispatch.freshFloor ≤ reuseOrder.priority
    -- the command slot, empty and taken
    ∧ (idleYard order none 500).slot? cannon.config.node = none
    ∧ (armed (idleYard order none 500) cannon { node with slot := some .close }).slot? cannon.config.node ≠ none
    ∧ (ordered order).cannon? 4 = none := by
  refine ⟨fun c => ⟨_, rfl⟩, ?_⟩
  decide
/-- A planned order whose current entry names the cannon, or none and an arc that the coverage entry's 10 to 90 holds or not;
its remaining below the pass doses, between them and above. -/
def entryFor (cannon : Option Nat) (arcEnd remaining : Nat) : PlanEntry := ⟨cannon, 10, arcEnd, 2000, remaining⟩
def byPlan (e : PlanEntry) : Order := { order with plan := some ⟨[⟨none, 0, 359, 50, 49⟩, e], 1⟩ }
theorem witness_planned_arbitration : (∀ remaining ∈ [50, 500, 2000], ∀ x ∈ [some 4, none],
      (byPlan (entryFor x 90 remaining)).plan = some ⟨[⟨none, 0, 359, 50, 49⟩, entryFor x 90 remaining], 1⟩
      ∧ ([⟨none, 0, 359, 50, 49⟩, entryFor x 90 remaining] : List PlanEntry)[1]? = some (entryFor x 90 remaining)
      ∧ max cannon.config.minDose (min remaining cannon.config.maxDose) ∈ [200, 500, 1000]
      ∧ (idleYard (byPlan (entryFor x 90 remaining)) none 1000).order? 1 = some (byPlan (entryFor x 90 remaining))
      ∧ ((idleYard (byPlan (entryFor x 90 remaining)) none 1000).dispatch.orders.filter fun x =>
          x.state == .waiting && x.suspension == ⟨false, false, false⟩) = [byPlan (entryFor x 90 remaining)]
      ∧ (idleYard (byPlan (entryFor x 90 remaining)) none 1000).cannon? 4 = some cannon
      ∧ 1000 ≤ (idleYard (byPlan (entryFor x 90 remaining)) none 1000).freshAvailable)
    ∧ cannon.config.coverage.find? (fun v => v.tag == order.tag) = some cover
    ∧ ((10 + 360 - cover.arcStart % 360) % 360 ≤ (90 + 360 - cover.arcStart % 360) % 360
      ∧ (90 + 360 - cover.arcStart % 360) % 360 ≤ (cover.arcEnd + 360 - cover.arcStart % 360) % 360)
    ∧ ¬ (91 + 360 - cover.arcStart % 360) % 360 ≤ (cover.arcEnd + 360 - cover.arcStart % 360) % 360 := by decide

def second (priority : Nat) : Order := { order with id := 2, priority := priority }
theorem witness_two_orders : (∀ priority ∈ [2, 3],
    { idleYard order none 500 with dispatch := { yard.dispatch with orders := [order, second priority], due := 1 } }.offer
      (if order.priority < priority then second priority else order) = some (.fresh, 4, cannon))
    ∧ order.id ≠ (second 3).id ∧ order.tag = (second 3).tag ∧ (second 3).plan = none
    ∧ (∀ o ∈ [order, second 2, second 3], o.state = .waiting ∧ o.pass = none ∧ o.suspension = ⟨false, false, false⟩
      ∧ o.priority ≤ 3)
    ∧ (idleYard order none 500).cannons = [(4, cannon)] ∧ (idleYard order none 500).dispatch.due ≠ 0 := by decide

def planOrder : Order := { order with plan := some ⟨[⟨some 4, 10, 90, 300, 300⟩, ⟨none, 0, 359, 50, 49⟩], 0⟩ }
theorem witness_read_order : yard.order? (1 : Half).toNat = none ∧ 31 < (32 : Half).toNat
    ∧ ((31 : Half).toNat ≤ 31 ∧ yard.dispatch.orders.length ≤ (31 : Half).toNat) ∧ 1 < (2 : Byte).toNat
    ∧ ((ordered planOrder).order? (1 : Half).toNat = some planOrder ∧ planOrder.state ≠ .ended)
    ∧ ((ordered { order with state := .ended }).order? (1 : Half).toNat = some { order with state := .ended })
    ∧ ((0 : Half).toNat ≤ 31 ∧ (ordered planOrder).dispatch.orders[(0 : Half).toNat]? = some planOrder)
    ∧ (crowded.dispatch.orders[(31 : Half).toNat]? = some (endedOrder 31)) := by decide

def loading : CannonArgs := ⟨2, 200, 2, 60, [⟨7, 0, 359⟩], none, some 5000, some 5, some 5000, some 15⟩
def loaded : CannonConfig := ⟨5, .both, 200, 200, 2, 5000, 60, 5, 5000, 15, [⟨7, 0, 359⟩]⟩
theorem witness_load_cannon : 23 < (24 : Byte).toNat ∧ 31 < (32 : Byte).toNat ∧ (23 : Byte).toNat ≤ 23
    ∧ (31 : Byte).toNat ≤ 31
    -- each field at its edge, and past it
    ∧ (loading.supply.toNat ≤ 2 ∧ 200 ≤ loading.maxDose.toNat ∧ 2 ≤ loading.rampTime.toNat ∧ loading.sweepRate.toNat ≤ 60
      ∧ loading.coverage.length ≤ 6 ∧ (∀ v ∈ loading.coverage, v.tag ≠ 0 ∧ v.arcStart.toNat ≤ 359 ∧ v.arcEnd.toNat ≤ 359)
      ∧ (loading.coverage.map fun v => v.tag).Nodup)
    ∧ 2 < { loading with supply := 3 }.supply.toNat ∧ { loading with rampTime := 1 }.rampTime.toNat < 2
    ∧ 30 < { loading with rampTime := 31 }.rampTime.toNat ∧ { loading with maxDose := 199 }.maxDose.toNat < 200
    ∧ 60 < { loading with sweepRate := 61 }.sweepRate.toNat ∧ { loading with coverage := [] }.coverage = []
    -- not loaded, loaded at the same node, loaded at another, another owner at the node
    ∧ (yard.cannon? 4 = none ∧ yard.node? 5 = none)
    ∧ ((armed yard cannon node).cannon? (4 : Byte).toNat = some cannon ∧ cannon.state = .idle ∧ cannon.config.node = 5
      ∧ (armed yard cannon node).node? (5 : Byte).toNat = some node ∧ node.owner = .cannon (4 : Byte).toNat)
    ∧ ((armed yard cannon node).node? (6 : Byte).toNat = none ∧ cannon.config.node ≠ (6 : Byte).toNat)
    ∧ node.owner ≠ .cannon (3 : Byte).toNat ∧ loaded.supply.code = loading.supply.toNat
    ∧ ((armed yard (bound .aiming) node).cannon? (4 : Byte).toNat = some (bound .aiming) ∧ (bound .aiming).state ≠ .idle)
    ∧ ((armed yard { cannon with state := .locked } node).cannon? 4 = some { cannon with state := .locked }
      ∧ cannon.header = none) := by decide

def tripped : Cannon := { cannon with state := .tripped, retry := some 0, tripCount := 1, lastTrip := some 10 }
def aged (minute : Nat) (c : Cannon) : State := { armed yard c node with clock := clockAt minute 0 60 }
theorem witness_cannons_return : (aged 40 tripped).cannon? (4 : Byte).toNat = some tripped ∧ tripped.state = .tripped
    ∧ tripped.retry = some 0 ∧ tripped.lastTrip = some 10 ∧ 10 + 30 ≤ (aged 40 tripped).clock.minute
    ∧ (aged 39 tripped).clock.minute < 10 + 30 ∧ (armed yard cannon node).cannon? (4 : Byte).toNat = some cannon
    ∧ cannon.state ≠ .tripped ∧ cannon.lastTrip = none ∧ cannon.state ≠ .aiming ∧ cannon.blankingOn = false
    ∧ cannon.closeWait = none ∧ yard.cannon? (4 : Byte).toNat = none
    ∧ { tripped with retry := some 1 }.retry ≠ some 0 ∧ { cannon with slew := some 1 }.slew ≠ some 0
    ∧ { cannon with closeWait := some 1 }.closeWait ≠ some 0
    ∧ 23 < (24 : Byte).toNat ∧ (23 : Byte).toNat ≤ 23 ∧ yard.cannon? (23 : Byte).toNat = none
    ∧ (armed yard cannon node).node? cannon.config.node = some node ∧ cannon.bound = none
    ∧ (armed yard cannon node).permits.list = [] ∧ ∀ x ∈ (armed yard cannon node).dispatch.orders, x.origin = .host := by
  decide

def timed (x : CannonState) (trips : Nat) : Cannon := { bound x with
  slew := if x = .aiming then some 0 else none, blankingOn := true, tripCount := trips
  aimPhase := if x = .aiming then some .slewing else none }
theorem witness_trips : ∀ c ∈ [timed .spraying 1, timed .aiming 1, timed .aiming 2],
    (armed (ordered (active .aiming)) c node).cannon? (4 : Byte).toNat = some c ∧ c.bound = some (active .aiming).id
    ∧ (armed (ordered (active .aiming)) c node).order? (active .aiming).id = some (active .aiming)
    ∧ (active .aiming).pass = some (pass .aiming)
    ∧ (armed (ordered (active .aiming)) c node).node? c.config.node = some node ∧ (active .aiming).state = .active
    ∧ c.blankingOn = true ∧ (c.state = .aiming → c.slew = some 0)
    ∧ (active .aiming).plan = none ∧ (active .aiming).cancelPending = false
    ∧ (active .aiming).delivered + 50 ≤ (active .aiming).dose ∧ (active .aiming).dose ≤ 65535
    ∧ (armed (ordered (active .aiming)) c node).permits.list = []
    ∧ (∀ x ∈ (armed (ordered (active .aiming)) c node).dispatch.orders, x.origin = .host)
    ∧ (∀ e ∈ (armed (ordered (active .aiming)) c node).piles, e.2.life = .live)
    ∧ (∃ v ∈ c.config.coverage, v.tag = (active .aiming).tag)
    ∧ (armed (ordered (active .aiming)) c node).cannons = [((4 : Byte).toNat, c)] := by decide
def metered : Order := { active .rampDown with pass := some { pass .rampDown with delivered := 450 } }
def closing : Cannon := { bound .rampDown with closeWait := some 0 }
/-- The yard of a cannon whose pass ends out of the ordinary, the cannon's node about to miss for the third time. -/
def ending (done : Nat) (c : Cannon) (misses : Nat) : State := exchanging
  (armed (ordered { active .rampDown with pass := some { pass .rampDown with delivered := done } }) c { node with misses := misses })
  .poll
theorem witness_close_wait : (ending 0 { closing with bound := none } 0).cannon? (4 : Byte).toNat
        = some { closing with bound := none } ∧ closing.closeWait = some 0 ∧ (ending 0 closing 0).permits.list = []
    ∧ ∀ x ∈ (ending 0 closing 0).dispatch.orders, x.origin = .host := by decide
theorem witness_pass_ends : ∀ done ∈ [0, 450], ∀ c ∈ [closing, bound .spraying, bound .tripped, bound .aiming],
    (ending done c 2).cannons = [((4 : Byte).toNat, c)] ∧ (4 : Byte).toNat ≤ 23
    ∧ (ending done c 2).node? c.config.node = some { node with misses := 2 } ∧ c.bound = some metered.id
    ∧ (ending done c 2).order? metered.id
        = some { active .rampDown with pass := some { pass .rampDown with delivered := done } }
    ∧ metered.state = .active ∧ metered.plan = none ∧ metered.cancelPending = false ∧ 0 + done + 50 ≤ metered.dose
    ∧ metered.dose ≤ 65535 ∧ (∃ v ∈ c.config.coverage, v.tag = metered.tag) ∧ (ending done c 2).permits.list = []
    ∧ (∀ x ∈ (ending done c 2).dispatch.orders, x.origin = .host) ∧ (ending done c 2).piles = [(3, pile)]
    ∧ pile.tag = metered.tag ∧ pile.life = .live ∧ Table.get (ending done c 2).grades pile.grade = some grade
    ∧ (ending done c 2).water.pond.node = none ∧ (ending done c 2).water.transfer.state = .stopped
    ∧ (ending done c 2).water.pond.volume ≤ (ending done c 2).water.pond.capacity
    ∧ (c = closing → c.closeWait = some 0)
    ∧ node.owner = .cannon (4 : Byte).toNat ∧ node.lost = false ∧ (ending done c 2).loop.phase = .exchange 5 .poll [9]
    ∧ (c.state = .aiming ∨ c.state = .spraying ∨ c.state = .rampDown ∨ c.state = .tripped) := by decide
/-- The same with a PREWET order for which a permit waits. -/
def failing (done : Nat) (c : Cannon) : State := exchanging (armed (awaited { active .rampDown with
  pass := some { pass .rampDown with delivered := done } } 700) c { node with misses := 2 }) .poll
theorem witness_pass_ends_with_permits : ∀ done ∈ [0, 450], ∀ c ∈ [closing, bound .spraying],
    (failing done c).permits.list ≠ [] ∧ (failing done c).permits.list.length ≤ 16
    ∧ ((failing done c).permits.list.map fun x => x.machine).Nodup
    ∧ (∃ o, (failing done c).dispatch.orders = [o] ∧ (failing done c).order? 1 = some o ∧ o.origin = .prewet
      ∧ o.delivered + done + 50 ≤ o.dose
      ∧ ∀ x ∈ (failing done c).permits.list, x.tag = o.tag ∧ x.state = .pendingWet ∧ x.prewetOrder = some o.id)
    ∧ (failing done c).cannons = [((4 : Byte).toNat, c)] ∧ (failing done c).piles = [(3, pile)]
    ∧ pile.retirePending = false ∧ min grade.msat (pile.m + done * 256 / 256 * grade.gk / pile.area) < grade.mwork := by
  intro done hd c hc
  simp only [List.mem_cons, List.not_mem_nil, or_false] at hd hc
  rcases hd with rfl | rfl <;> rcases hc with rfl | rfl <;> refine ⟨by decide, by decide, by decide, ⟨_, rfl, rfl, by decide⟩, by decide⟩

def opened (c : CannonState) (phase : Option AimPhase) (start : Option Nat) (done : Nat) : State := exchanging
  (armed (ordered { active .aiming with pass := some { pass .aiming with meterStart := start, delivered := done } })
    { bound c with aimPhase := phase } node) .poll
theorem witness_replies : 5 ≤ 31 ∧ (∀ s ∈ [opened .aiming (some .slewing) none 0, opened .aiming (some .opening) none 0],
      s.loop.phase = .exchange 5 .poll [9] ∧ s.node? 5 = some node
      ∧ (s.cannon? 4).map (fun c => { c with aimPhase := none }) = some { bound .aiming with aimPhase := none }
      ∧ (s.order? 1).map (fun o => o.pass.map fun p => (p.delivered, p.meterStart)) = some (some (0, none)))
    ∧ (bound .aiming).config.node = 5 ∧ (bound .aiming).bound = some 1 ∧ (bound .aiming).header = some .reuse
    ∧ (bound .aiming).meterLast = some 100 ∧ (bound .aiming).aimWaiting = false ∧ (bound .aiming).state = .aiming
    ∧ node.owner = .cannon 4 ∧ node.lost = false ∧ node.slot = none ∧ 100 < 65536
    ∧ 65535 = ((99 : Half).toNat + 65536 - 100) % 65536 ∧ 0 = ((100 : Half).toNat + 65536 - 100) % 65536
    ∧ (report .opened).overload = false ∧ (report .opened).valve = .opened
    ∧ (bound .aiming).config.rampAllowance + 399 < (pass .aiming).dose
    ∧ (report .moving).valve ≠ .closed
    -- one litre short of the point at which CLOSE is sent, and at it
    ∧ ((opened .spraying none (some 4) 399).order? 1).map (fun o => o.pass.map fun p => (p.delivered, p.meterStart))
        = some (some (399, some 4))
    ∧ min 65535 (399 + 0) < (pass .spraying).dose - config.rampAllowance
    ∧ (pass .spraying).dose - config.rampAllowance ≤ min 65535 (399 + 1) := by decide

/-- Overload under a blanking time and under one of 0: SPRAYING a litre short of CLOSE, and AIMING in both phases, at the
second trip and at the third. -/
def overloaded (v : Valve) : NodeReport := { report v with overload := true }
def rash (trips : Nat) (x : CannonState) (phase : Option AimPhase) : Cannon := { bound x with
  aimPhase := phase, tripCount := trips, config := { config with blanking := 0 } }
theorem witness_overloads : (overloaded .opened).overload = true ∧ config.blanking ≠ 0
    ∧ (∀ trips ∈ [1, 2], ∀ c ∈ [rash trips .spraying none, rash trips .aiming (some .slewing), rash trips .aiming (some .opening)],
      c.config.blanking = 0 ∧ c.config.node = 5 ∧ c.bound = some 1 ∧ c.header = some .reuse ∧ c.meterLast = some 100
      ∧ (exchanging (armed (ordered (active .aiming)) c node) .poll).cannon? 4 = some c
      ∧ (exchanging (armed (ordered (active .aiming)) c node) .poll).cannons = [(4, c)]
      ∧ (exchanging (armed (ordered (active .aiming)) c node) .poll).node? 5 = some node
      ∧ (exchanging (armed (ordered (active .aiming)) c node) .poll).order? 1 = some (active .aiming)
      ∧ (exchanging (armed (ordered (active .aiming)) c node) .poll).permits.list = []
      ∧ (∀ x ∈ (exchanging (armed (ordered (active .aiming)) c node) .poll).dispatch.orders, x.origin = .host)
      ∧ (∀ e ∈ (exchanging (armed (ordered (active .aiming)) c node) .poll).piles, e.2.life = .live)
      ∧ (∃ v ∈ c.config.coverage, v.tag = (active .aiming).tag))
    ∧ (pass .aiming).meterStart = none ∧ (active .aiming).plan = none ∧ (active .aiming).cancelPending = false
    ∧ (active .aiming).delivered + 50 ≤ (active .aiming).dose ∧ (active .aiming).dose ≤ 65535
    ∧ (overloaded .moving).valve ≠ .opened ∧ (overloaded .opened).valve ≠ .closed
    ∧ ((opened .spraying none (some 4) 399).order? 1).map (fun o => o.pass.map fun p => (p.delivered, p.meterStart))
        = some (some (399, some 4))
    ∧ min 65535 (399 + 0) < (pass .spraying).dose - config.rampAllowance := by decide
/-- A CLOSE about to leave the slot for which an AIM waits, of an order without a plan and of a planned one. -/
def waitingAim (o : Order) : State := exchanging (armed (ordered o)
  { bound .aiming with aimPhase := some .slewing, aimWaiting := true } { node with slot := some .close }) (.command .close)
theorem witness_waiting_aim : ∀ o ∈ [active .aiming, { byPlan (entryFor none 80 500) with
      state := .active, pass := some (pass .aiming) }],
    (waitingAim o).loop.phase = .exchange 5 (.command .close) [9] ∧ (waitingAim o).order? 1 = some o
    ∧ (waitingAim o).node? 5 = some { node with slot := some .close } ∧ o.pass = some (pass .aiming)
    ∧ (waitingAim o).cannon? 4 = some { bound .aiming with aimPhase := some .slewing, aimWaiting := true }
    ∧ (pass .aiming).meterStart = none ∧ (bound .aiming).config.coverage.find? (fun v => v.tag == o.tag) = some cover
    ∧ (o.plan = none ∨ o.plan = some ⟨[⟨none, 0, 359, 50, 49⟩, entryFor none 80 500], 1⟩) := by decide

/-- A pass in RAMP-DOWN or SPRAYING that has delivered some litres already, of an order of 500. -/
def settling (x : CannonState) (done : Nat) : State := exchanging (armed (ordered { active .rampDown with
  pass := some { pass .rampDown with meterStart := some 4, delivered := done } }) (bound x) node) .poll
theorem witness_closed : ∀ x ∈ [CannonState.rampDown, .spraying], ∀ done ∈ [440, 441],
    5 ≤ 31 ∧ (settling x done).loop.phase = .exchange 5 .poll [9]
    ∧ (settling x done).node? 5 = some node ∧ node.owner = .cannon 4 ∧ node.lost = false
    ∧ (settling x done).cannon? 4 = some (bound x) ∧ (bound x).config.node = 5
    ∧ (bound x).bound = some 1 ∧ (bound x).state = x ∧ (bound x).header = some .reuse
    ∧ (bound x).meterLast = some 100
    ∧ (settling x done).order? 1 = some { active .rampDown with
        pass := some { pass .rampDown with meterStart := some 4, delivered := done } }
    ∧ done + 10 = done + ((110 : Half).toNat + 65536 - 100) % 65536 ∧ (report .closed).valve = .closed
    ∧ (0 + (done + 10) + 50 ≤ 500 ↔ done = 440) ∧ (settling x done).permits.list = []
    ∧ (∀ y ∈ (settling x done).dispatch.orders, y.origin = .host) ∧ (settling x done).piles = [(3, pile)]
    ∧ pile.tag = order.tag ∧ pile.life = .live ∧ Table.get (settling x done).grades pile.grade = some grade
    ∧ (settling x done).water.pond.node = none ∧ (settling x done).water.transfer.state = .stopped
    ∧ (settling x done).water.pond.volume ≤ (settling x done).water.pond.capacity := by decide

/-- The same after a trip, the close wait running, of an order without a plan and of planned ones: the current entry left at
50 litres, passed over with the next of 49 behind it, and moved on to one of 50. -/
def afterTrip (x : CannonState) : Cannon := { bound x with closeWait := some 3, tripCount := if x = .locked then 3 else 1 }
def creditedPlan (first next : Nat) : Plan := ⟨[⟨some 4, 10, 90, 2000, first⟩, ⟨none, 10, 90, 2000, next⟩], 0⟩
def settlingBy (x : CannonState) (plan : Option Plan) : State := exchanging (armed (ordered { active .rampDown with
  plan := plan, pass := some { pass .rampDown with meterStart := some 4, delivered := 440 } }) (afterTrip x) node) .poll
theorem witness_closed_after_trip : (∀ x ∈ [CannonState.tripped, .locked], (afterTrip x).state = x
      ∧ (afterTrip x).closeWait ≠ none ∧ (afterTrip x).bound = some 1 ∧ (afterTrip x).header = some .reuse
      ∧ (afterTrip x).meterLast = some 100 ∧ (afterTrip x).config.node = 5
      ∧ ∀ p ∈ [none, some (creditedPlan 500 50), some (creditedPlan 499 49), some (creditedPlan 499 50)],
        (settlingBy x p).cannon? 4 = some (afterTrip x) ∧ (settlingBy x p).node? 5 = some node
        ∧ ((settlingBy x p).order? 1).map (fun o => (o.plan, o.cancelPending, o.delivered, o.pass.map fun q => q.delivered))
            = some (p, false, 0, some 440)
        ∧ (∀ o ∈ (settlingBy x p).dispatch.orders, o.origin = .host) ∧ (settlingBy x p).permits.list = []
        ∧ (settlingBy x p).loop.phase = .exchange 5 .poll [9] ∧ Table.wf (settlingBy x p).cannons = true)
    -- the entries as credited with 450 litres: which is current, and whether the plan is complete
    ∧ (∀ y ∈ [(500, 50, 50, 0), (499, 49, 49, 2), (499, 50, 49, 1)],
        (creditedPlan y.1 y.2.1).entries.modify 0 (fun e => { e with remaining := e.remaining - 450 })
          = [⟨some 4, 10, 90, 2000, y.2.2.1⟩, ⟨none, 10, 90, 2000, y.2.1⟩]
        ∧ (y.2.2.2 = 0 ↔ 50 ≤ y.2.2.1) ∧ (y.2.2.2 = 2 ↔ y.2.2.1 < 50 ∧ y.2.1 < 50))
    -- whether a cannon remains for the order
    ∧ ((afterTrip .tripped).state ≠ .locked ∧ (afterTrip .tripped).state ≠ .lost ∧ (afterTrip .locked).state = .locked
      ∧ (∃ v ∈ (afterTrip .tripped).config.coverage, v.tag = order.tag) ∧ (creditedPlan 500 50).entries[0]?.isSome = true) := by
  refine ⟨by decide, ?_, by decide⟩
  decide
def unboundAfter (x : CannonState) : Cannon := { afterTrip x with bound := none }
def unboundYard (x : CannonState) : State := exchanging (armed yard (unboundAfter x) node) .poll
theorem witness_closed_unbound : ∀ x ∈ [CannonState.rampDown, .tripped, .locked],
    (unboundAfter x).state = x ∧ (unboundAfter x).closeWait ≠ none ∧ (unboundAfter x).bound = none
    ∧ (unboundYard x).cannon? 4 = some (unboundAfter x) ∧ (unboundYard x).node? 5 = some node
    ∧ (∀ y ∈ (unboundYard x).permits.list, y.state ≠ .clearing)
    ∧ (∀ o ∈ (unboundYard x).dispatch.orders, o.origin ≠ .prewet) := by decide
/-- R115, R117: the retry delay of 30 s starts in TRIPPED and not in LOCKED, and the header slot is released in each. -/
theorem test_closed_after_trip : ∀ x ∈ [CannonState.rampDown, .tripped, .locked],
    (after (.validReply ((NodeReply.cannon (report .closed) 110).bytes 5)) (unboundYard x)).map
        (fun t => (t.cannon? 4).map fun c => (c.state, c.header, c.retry))
      = some (some (if x = .rampDown then .idle else x, none, if x = .tripped then some 30 else none)) := by decide +kernel

/-- The FRESH header: a cannon that aims, and the CLOSED reports with a pass, after a trip and without one. -/
def onFresh (s : State) : State := { s with
  cannons := s.cannons.map fun e => (e.1, { e.2 with header := some .fresh })
  dispatch := { s.dispatch with orders := s.dispatch.orders.map fun o =>
    { o with pass := o.pass.map fun p => { p with header := .fresh } } } }
theorem witness_fresh_header : (∀ s ∈ [opened .aiming (some .slewing) none 0, opened .aiming (some .opening) none 0,
        settling .rampDown 440, settling .spraying 440, settlingBy .tripped none, settlingBy .locked none],
      ((onFresh s).cannon? 4).map (fun c => (c.header, c.bound, c.meterLast)) = some (some .fresh, some 1, some 100)
      ∧ ((onFresh s).order? 1).map (fun o => o.pass.map fun p => p.header) = some (some .fresh)
      ∧ (onFresh s).loop.phase = .exchange 5 .poll [9] ∧ (onFresh s).node? 5 = some node)
    ∧ ∀ x ∈ [CannonState.rampDown, .tripped, .locked],
      (onFresh (unboundYard x)).cannon? 4 = some { unboundAfter x with header := some .fresh } := by decide
/-- R124, R132: ten litres reported while the slot on the FRESH header is held are counted, and the CLOSED report releases it. -/
theorem test_closed_on_fresh : ∀ s ∈ [unboundYard .rampDown, settling .rampDown 440],
    (after (.validReply ((NodeReply.cannon (report .closed) 110).bytes 5)) (onFresh s)).map
        (fun t => (t.water.usedToday - s.water.usedToday, (t.cannon? 4).map fun c => c.header))
      = some (10, some none) := by decide +kernel

/-- The same with a permit that clears on the pile, and of a PREWET order for which a permit waits. -/
def clearing (x : CannonState) : State := { settling x 440 with permits := (permitted (permit .clearing none) 120).permits }
def prewetting (done m : Nat) : State := exchanging (armed (awaited { active .rampDown with
  pass := some { pass .rampDown with meterStart := some 4, delivered := done } } m) (bound .rampDown) node) .poll
theorem witness_closed_while_clearing : (∀ x ∈ [CannonState.rampDown, .spraying],
      (∀ y ∈ (clearing x).dispatch.orders, y.origin = .host) ∧ (clearing x).permits.list.length ≤ 16
      ∧ (∀ y ∈ (clearing x).permits.list, y.tag = order.tag → y.state ≠ .pendingWet)
      ∧ ((clearing x).dispatch.orders.map fun y => y.id).Nodup ∧ Table.wf (clearing x).cannons = true
      -- nothing else runs on the pile
      ∧ (∀ y ∈ (clearing x).dispatch.orders, y.id = order.id) ∧ ∀ e ∈ (clearing x).cannons, e.1 = 4)
    -- another cannon of the pile still waits for its valve
    ∧ ((∃ v ∈ cannon.config.coverage, v.tag = order.tag) ∧ cannon.bound = none
      ∧ { cannon with closeWait := some 3 }.closeWait ≠ none ∧ 6 ≠ 4
      ∧ Table.wf [(4, bound .rampDown), (6, { cannon with closeWait := some 3 })] = true) := by decide
/-- Dry, one short of the working moisture, and at it; with litres outstanding, and complete. -/
theorem witness_closed_prewet : ∀ m ∈ [700, 809, 810], ∀ done ∈ [440, 441],
    (∀ o ∈ (prewetting done m).dispatch.orders, (prewetting done m).order? 1 = some o
      ∧ (prewetting done m).dispatch.orders = [o] ∧ o.origin = .prewet ∧ o.state = .active
      ∧ (∀ x ∈ (prewetting done m).permits.list, x.tag = o.tag ∧ x.state = .pendingWet ∧ x.prewetOrder = some o.id)
      ∧ (o.delivered + (done + 10) + 50 ≤ o.dose ↔ done = 440) ∧ (prewetting done m).dispatch.nextId ≠ o.id)
    ∧ (prewetting done m).permits.list ≠ [] ∧ Table.wf (prewetting done m).cannons = true
    ∧ (prewetting done m).node? 5 = some node ∧ (prewetting done m).cannon? 4 = some (bound .rampDown)
    ∧ (prewetting done m).piles = [(3, { pile with m := m })]
    ∧ Table.get (prewetting done m).grades pile.grade = some grade
    ∧ (grade.mwork ≤ min grade.msat (m + (done + 10) * 256 / 256 * grade.gk / pile.area) ↔ m = 810)
    ∧ 50 ≤ (prewetting done m).dispatch.maxDose ∧ 1 ≤ (prewetting done m).dispatch.nextId
    ∧ (prewetting done m).dispatch.nextId ≤ 65535 := by decide

/-! ### The water account -/

def gauged (t : Tank) : State := { yard with
  water := { yard.water with tank := some t }
  loop := { yard.loop with running := true, nodes := [(9, ⟨.tank, 0, none, 0, false, none, 0⟩)], phase := .exchange 9 .poll [] } }
def transfer (x : TransferState) : Transfer := ⟨x, none, none, if x = .starting then some 0 else none,
  if x = .stopped then some 0 else none, false, false⟩
def tankLoading : TankArgs := ⟨100, 10, 20, 5, 1, 10⟩
theorem witness_tank : 31 < (32 : Byte).toNat ∧ (31 : Byte).toNat ≤ 31 ∧ (31 : Byte) ≠ 0
    ∧ (tankLoading.capacity.toNat ≠ 0 ∧ tankLoading.high.toNat ≤ tankLoading.capacity.toNat
      ∧ tankLoading.low.toNat + 2 * tankLoading.hysteresis.toNat ≤ tankLoading.high.toNat
      ∧ tankLoading.turbidityLimit.toNat ≠ 0 ∧ 10 ≤ tankLoading.stale.toNat ∧ tankLoading.stale.toNat ≤ 600)
    ∧ { tankLoading with high := 19 }.high.toNat < tankLoading.low.toNat + 2 * tankLoading.hysteresis.toNat
    ∧ { tankLoading with stale := 9 }.stale.toNat < 10
    ∧ node.owner ≠ .tank ∧ (armed yard cannon node).node? (5 : Byte).toNat = some node
    ∧ (yard.node? (31 : Byte).toNat = none ∧ yard.water.tank = none ∧ yard.water.transfer.state = .stopped)
    ∧ ((gauged tank).water.tank = some tank ∧ tank.config.node = (9 : Byte).toNat ∧ tank.reading = some ⟨50, 3, false⟩
      ∧ (gauged tank).node? (9 : Byte).toNat = some ⟨.tank, 0, none, 0, false, none, 0⟩ ∧ tank.fresh = true)
    ∧ { tank with reading := none }.reading = none ∧ { tank with fresh := false }.fresh = false
    -- the age at the limit and a second short of it, and past a new limit; a new address
    ∧ ((gauged { tank with age := some 120 }).water.tank = some { tank with age := some 120 }
      ∧ tank.config.stale ≤ { tank with age := some 120 }.age.getD 0
      ∧ { tank with age := some 119 }.age.getD 0 < tank.config.stale ∧ tankLoading.stale.toNat ≤ tank.age.getD 0)
    ∧ ((gauged tank).node? (31 : Byte).toNat = none ∧ tank.config.node ≠ (31 : Byte).toNat)
    ∧ (∀ x ∈ [TransferState.stopped, .starting, .running, .stopping], (watered (transfer x)).water.tank = some tank
      ∧ (watered (transfer x)).water.transfer.state = x)
    -- a reading at each edge of the two flags, and of the quality hold
    ∧ (9 ≤ 31 ∧ (gauged tank).loop.phase = .exchange 9 .poll [] ∧ (gauged tank).water.pond.node = none
      ∧ (gauged tank).water.transfer.state = .stopped)
    ∧ (tank.nearEmpty = false ∧ min (9 : Half).toNat 100 < tankConfig.low) ∧ min (10 : Half).toNat 100 = tankConfig.low
    ∧ ({ tank with nearEmpty := true }.nearEmpty = true ∧ tankConfig.low + tankConfig.hysteresis = min (15 : Half).toNat 100)
    ∧ (tank.nearFull = false ∧ tankConfig.high < min (81 : Half).toNat 100)
    ∧ ({ tank with nearFull := true }.nearFull = true ∧ min (75 : Half).toNat 100 + tankConfig.hysteresis = tankConfig.high)
    ∧ ((50 : Byte).toNat ≤ tankConfig.turbidityLimit ↔ tank.qualityHold = false)
    ∧ ¬ ((51 : Byte).toNat ≤ tankConfig.turbidityLimit ↔ tank.qualityHold = false) ∧ tank.qualityCount = 0
    ∧ { tank with qualityCount := 1 }.qualityCount = 1 := by decide

def ponded (x : Transfer) (volume : Nat) (slot : Option LoopCommand) : State := { watered x with
  water := { (watered x).water with pond := ⟨100, 50, 10, volume, 0, some 11⟩ }
  loop := { yard.loop with nodes := [(11, ⟨.pond, 0, slot, 0, false, none, 0⟩)], running := true } }
theorem witness_transfer_run : (∃ a k, (ponded Transfer.initial 50 none).water.pond.node = some a
      ∧ (ponded Transfer.initial 50 none).nodeLost a = false
      ∧ (ponded Transfer.initial 50 none).water.pond.startMark ≤ (ponded Transfer.initial 50 none).water.pond.volume
      ∧ (ponded Transfer.initial 50 none).water.tank = some k ∧ k.fresh = true ∧ k.nearFull = false)
    ∧ (ponded Transfer.initial 50 none).water.transfer.state = .stopped
    ∧ (ponded Transfer.initial 50 none).water.transfer.holdOff = none ∧ (ponded Transfer.initial 50 none).slot? 11 = none
    ∧ (ponded Transfer.initial 50 (some .stop)).slot? 11 ≠ none
    ∧ (ponded Transfer.initial 49 none).water.pond.volume < (ponded Transfer.initial 49 none).water.pond.startMark
    ∧ (transfer .stopped).holdOff ≠ none ∧ (transfer .stopping).state = .stopping
    ∧ ((ponded (transfer .running) 10 none).water.pond.volume ≤ (ponded (transfer .running) 10 none).water.pond.stopMark
      ∧ (transfer .running).state = .running ∧ (ponded (transfer .running) 10 none).water.pond.node = some 11)
    ∧ ((ponded (transfer .starting) 11 none).water.pond.stopMark < (ponded (transfer .starting) 11 none).water.pond.volume
      ∧ ∃ k, (ponded (transfer .starting) 11 none).water.tank = some k ∧ k.nearFull = false ∧ k.fresh = true) :=
  ⟨⟨11, tank, by decide⟩, by decide, by decide, by decide, by decide, by decide, by decide, by decide, by decide, by decide,
    tank, by decide⟩

/-- The station's node answers a poll, its meter at 65530 before. -/
def pumping (x : TransferState) : State := { ponded { transfer x with meterLast := some 65530 } 16 none with
  loop := { (ponded (transfer x) 16 none).loop with phase := .exchange 11 .poll [] } }
theorem witness_transfer_replies : ∀ x ∈ [TransferState.starting, .running, .stopping], 11 ≤ 31
    ∧ (pumping x).loop.phase = .exchange 11 .poll [] ∧ (pumping x).node? 11 = some ⟨.pond, 0, none, 0, false, none, 0⟩
    ∧ (pumping x).water.pond.node = some 11 ∧ (pumping x).water.transfer.meterLast = some 65530 ∧ 65530 < 65536
    ∧ 16 = ((10 : Half).toNat + 65536 - 65530) % 65536 ∧ 16 ≤ (pumping x).water.pond.volume
    ∧ 0 = ((65530 : Half).toNat + 65536 - 65530) % 65536 ∧ (pumping x).water.transfer.state = x := by decide

/-- The run STOPPED, with litres up to the pond's volume and beyond; STOPPING with its STOP still pending; and a lost station
that answers a probe. -/
theorem witness_transfer_other_replies : (pumping .stopped).node? 11 = some ⟨.pond, 0, none, 0, false, none, 0⟩
    ∧ ((pumping .stopped).water.transfer.state = .stopped ∧ (pumping .stopped).water.transfer.meterLast = some 65530)
    ∧ (pumping .stopped).water.pond.volume < 17 ∧ 17 = ((11 : Half).toNat + 65536 - 65530) % 65536
    ∧ (∀ s ∈ [{ ponded { transfer .stopping with meterLast := some 65530 } 16 (some .stop) with
          loop := { (ponded Transfer.initial 16 (some .stop)).loop with phase := .exchange 11 .poll [] } }],
        s.node? 11 = some ⟨.pond, 0, some .stop, 0, false, none, 0⟩ ∧ s.water.transfer.state = .stopping
        ∧ s.water.transfer.meterLast = some 65530 ∧ s.loop.phase = .exchange 11 .poll [])
    ∧ ∀ slot ∈ [none, some LoopCommand.stop], ∀ s ∈ [{ ponded Transfer.initial 50 slot with
          loop := { yard.loop with nodes := [(11, ⟨.pond, 0, slot, 0, true, some 3, 9⟩)], phase := .exchange 11 .probe [] } }],
        s.node? 11 = some ⟨.pond, 0, slot, 0, true, some 3, 9⟩ ∧ s.loop.phase = .exchange 11 .probe []
        ∧ s.water.pond.node = some 11 ∧ s.water.transfer.meterLast = none ∧ s.water.transfer.state = .stopped := by decide

/-- One litre more than the pond holds; and a third miss, with each command in the slot. -/
theorem witness_pond_empty_and_lost : (∀ x ∈ [TransferState.starting, .running],
      17 = ((11 : Half).toNat + 65536 - 65530) % 65536 ∧ (pumping x).water.pond.volume < 17
      ∧ (pumping x).water.transfer.state = x ∧ (pumping x).water.transfer.meterLast = some 65530)
    ∧ ∀ slot ∈ [none, some LoopCommand.run, some .stop], ∀ x ∈ [TransferState.stopped, .running],
      { ponded (transfer x) 16 slot with loop := { yard.loop with
          nodes := [(11, ⟨.pond, 0, slot, 2, false, none, 0⟩)], phase := .exchange 11 .poll [] } }.node? 11
        = some ⟨.pond, 0, slot, 2, false, none, 0⟩ ∧ (ponded (transfer x) 16 slot).water.pond.node = some 11
      ∧ (ponded (transfer x) 16 slot).water.transfer.state = x := by decide

def pondLoading : PondArgs := ⟨100, 100, 99, some 100, 11⟩
theorem witness_pond : (0 : Long).toNat = 0 ∧ (51 : Long).toNat ≠ 0
    ∧ 1 = (ponded Transfer.initial 50 none).water.pond.volume + (51 : Long).toNat
        - (ponded Transfer.initial 50 none).water.pond.capacity
    ∧ ({ pondLoading with capacity := 0 }.capacity.toNat = 0
      ∧ { pondLoading with startMark := 99 }.startMark.toNat ≤ pondLoading.stopMark.toNat
      ∧ pondLoading.capacity.toNat < { pondLoading with startMark := 101 }.startMark.toNat
      ∧ 31 < { pondLoading with node := 32 }.node.toNat)
    ∧ (pondLoading.capacity.toNat ≠ 0 ∧ pondLoading.stopMark.toNat < pondLoading.startMark.toNat
      ∧ pondLoading.startMark.toNat ≤ pondLoading.capacity.toNat ∧ pondLoading.node.toNat ≤ 31 ∧ pondLoading.node ≠ 0)
    ∧ ((armed yard cannon node).node? 5 = some node ∧ node.owner ≠ .pond)
    ∧ (some pondLoading.node.toNat = (ponded Transfer.initial 50 none).water.pond.node
      ∧ (ponded Transfer.initial 50 none).node? pondLoading.node.toNat = some ⟨.pond, 0, none, 0, false, none, 0⟩)
    ∧ (some (12 : Byte).toNat ≠ (ponded Transfer.initial 50 none).water.pond.node
      ∧ (ponded Transfer.initial 50 none).node? (12 : Byte).toNat = none ∧ min (99 : Long).toNat 100 < 100)
    ∧ ((watered (transfer .starting)).water.transfer.state = .starting
      ∧ (watered (transfer .starting)).water.transfer.startWait = some 0
      ∧ (watered (transfer .starting)).water.pond.node = some 11)
    ∧ yard.water.transfer.startWait = none ∧ yard.water.transfer.holdOff = none
    ∧ { transfer .starting with startWait := some 1 }.startWait ≠ some 0
    ∧ { transfer .stopped with holdOff := some 1 }.holdOff ≠ some 0
    ∧ ((watered (transfer .stopped)).water.transfer.state = .stopped
      ∧ (watered (transfer .stopped)).water.transfer.holdOff = some 0) := by decide

theorem witness_account : (0 : Long).toNat ≤ yard.water.usedToday ∧ (aged 1439 cannon).clock.minute / 1440 = yard.water.countedDay
    ∧ (aged 1440 cannon).clock.minute / 1440 ≠ yard.water.countedDay := by decide

/-- A spraying pass of the FRESH header, one litre short of the point at which CLOSE is sent. -/
def freshPass : Cannon := { bound .spraying with header := some .fresh }
def freshYard : State := exchanging (armed (ordered { active .spraying with
  pass := some { pass .spraying with header := .fresh, meterStart := some 4, delivered := 399 } }) freshPass node) .poll
theorem witness_fresh_litres : 5 ≤ 31 ∧ freshYard.loop.phase = .exchange 5 .poll [9] ∧ freshYard.node? 5 = some node
    ∧ node.owner = .cannon 4 ∧ node.lost = false ∧ freshYard.cannon? 4 = some freshPass ∧ freshPass.config.node = 5
    ∧ freshPass.state = .spraying ∧ freshPass.bound = some 1 ∧ freshPass.header = some .fresh
    ∧ freshPass.meterLast = some 100
    ∧ freshYard.order? 1 = some { active .spraying with
        pass := some { pass .spraying with header := .fresh, meterStart := some 4, delivered := 399 } }
    ∧ (report .opened).overload = false ∧ (report .opened).valve ≠ .closed
    ∧ 1 = ((101 : Half).toNat + 65536 - 100) % 65536 ∧ min 65535 (399 + 0) < 500 - config.rampAllowance
    ∧ ¬ min 65535 (399 + 1) < 500 - config.rampAllowance := by decide

/-! ### The permit table -/

def dozers (n : Nat) : State := { yard with permits := { yard.permits with
  list := (List.range n).map fun k => ⟨k + 1, k + 20, .dozer, 7, .clearing, 0, 0, none⟩ } }
def elsewhere : State := { yard with permits := { yard.permits with
  list := (List.range 16).map fun k => ⟨k + 1, k + 20, .dozer, 50 + k, .clearing, 0, 0, none⟩ } }
def wetYard (m : Nat) : State := { yard with piles := [(3, { pile with m := m })], dispatch := { yard.dispatch with maxDose := 50 } }
theorem witness_request_permit : (0 : Byte).toNat = 0 ∧ 63 < (64 : Byte).toNat ∧ 2 < (3 : Byte).toNat
    ∧ (1 ≤ (1 : Byte).toNat ∧ (63 : Byte).toNat ≤ 63 ∧ PermitKind.dozer.code = (2 : Byte).toNat ∧ (7 : Half) ≠ 0)
    ∧ yard.pileAt? (8 : Half).toNat = none ∧ yard.pileAt? (7 : Half).toNat = some (3, pile)
    ∧ (pile.life = .live ∧ pile.retirePending = false) ∧ { pile with retirePending := true }.retirePending = true
    ∧ (∃ x ∈ waitingYard.permits.list, x.machine = (12 : Byte).toNat) ∧ (∀ x ∈ waitingYard.permits.list, x.machine ≠ (63 : Byte).toNat)
    -- a second stacker or reclaimer, a third dozer, and one fewer of each
    ∧ (∃ x ∈ waitingYard.permits.list, x.tag = (7 : Half).toNat ∧ x.kind ≠ .dozer)
    ∧ ¬ (∃ x ∈ yard.permits.list, x.tag = (7 : Half).toNat ∧ x.kind ≠ .dozer)
    ∧ 2 ≤ ((dozers 2).permits.list.countP fun x => decide (x.tag = (7 : Half).toNat ∧ x.kind = .dozer))
    ∧ ¬ 2 ≤ ((dozers 1).permits.list.countP fun x => decide (x.tag = (7 : Half).toNat ∧ x.kind = .dozer))
    ∧ (16 ≤ elsewhere.permits.list.length ∧ ¬ (∃ x ∈ elsewhere.permits.list, x.tag = (7 : Half).toNat ∧ x.kind ≠ .dozer)
      ∧ elsewhere.pileAt? (7 : Half).toNat = some (3, pile) ∧ ∀ x ∈ elsewhere.permits.list, x.machine ≠ (63 : Byte).toNat)
    -- at the working moisture, and below it
    ∧ ((wetYard 900).permits.list.length < 16 ∧ (wetYard 900).dispatch.orders = [] ∧ 1 ≤ (wetYard 900).permits.nextId
      ∧ (wetYard 900).permits.nextId ≤ 255 ∧ Table.get (wetYard 900).grades pile.grade = some grade ∧ grade.mwork ≤ 900
      ∧ (wetYard 900).cannons = [] ∧ (∀ y ∈ (wetYard 900).permits.list, y.tag = (7 : Half).toNat → y.state ≠ .clearing))
    ∧ (899 < grade.mwork ∧ 50 ≤ (wetYard 899).dispatch.maxDose ∧ (wetYard 899).dispatch.nextId < 65536) := by decide
/-- A dry pile that has a PREWET order open, with another permit or without; 32 orders open; all entries taken, one of them
by an order that ended. -/
theorem witness_request_dry : ((ordered (prewet order)).dispatch.orders.find? (fun y =>
        y.tag == (7 : Half).toNat && y.state != .ended && y.origin == .prewet) = some (prewet order)
      ∧ (ordered (prewet order)).pileAt? (7 : Half).toNat = some (3, pile) ∧ pile.m < grade.mwork)
    ∧ (∀ s ∈ [crowded, { crowded with dispatch := { crowded.dispatch with
          orders := crowded.dispatch.orders.map fun o => { o with state := .waiting } } }],
        s.dispatch.orders.length = 32 ∧ s.pileAt? (7 : Half).toNat = some (3, pile)
        ∧ ∀ y ∈ s.dispatch.orders, y.tag = (7 : Half).toNat → y.origin = .prewet → y.state = .ended)
    ∧ (crowded.dispatch.orders.countP fun y => y.state != .ended) = 31
    ∧ (crowded.dispatch.orders.map fun o => { o with state := OrderState.waiting }).countP (fun y => y.state != .ended) = 32
    ∧ 50 ≤ crowded.dispatch.maxDose ∧ crowded.dispatch.nextId ≤ 65535 := by decide
/-- A pile at its working moisture with an order on it, idle or spraying. -/
def zoning (o : Order) (c : Cannon) : State := armed { ordered o with piles := [(3, { pile with m := 900 })] } c node
theorem witness_request_zones : (∀ s ∈ [zoning order cannon, zoning (active .spraying) (bound .spraying)],
      s.pileAt? (7 : Half).toNat = some (3, { pile with m := 900 }) ∧ s.permits.list = [] ∧ 1 ≤ s.permits.nextId
      ∧ s.permits.nextId ≤ 255 ∧ (s.dispatch.orders.map fun o => o.id).Nodup ∧ s.dispatch.orders.length ≤ 32
      ∧ Table.get s.grades pile.grade = some grade ∧ grade.mwork ≤ 900)
    ∧ ((∀ o ∈ (zoning order cannon).dispatch.orders, o.tag = (7 : Half).toNat → o.pass = none)
      ∧ ∀ e ∈ (zoning order cannon).cannons, e.2.closeWait = none)
    ∧ active .spraying ∈ (zoning (active .spraying) (bound .spraying)).dispatch.orders
    ∧ ((active .spraying).tag = (7 : Half).toNat ∧ (active .spraying).state = .active
      ∧ (active .spraying).suspension.zone = false ∧ (active .spraying).pass = some (pass .spraying)
      ∧ (pass .spraying).state = .spraying ∧ (bound .spraying).state = .spraying
      ∧ (bound .spraying).bound = some (active .spraying).id)
    ∧ (∀ y ∈ (zoning (active .spraying) (bound .spraying)).dispatch.orders, y.id = (active .spraying).id)
    ∧ (zoning (active .spraying) (bound .spraying)).cannon? (pass .spraying).cannon = some (bound .spraying)
    ∧ (zoning (active .spraying) (bound .spraying)).node? (bound .spraying).config.node = some node := by decide

def granting (kind : PermitKind) : Permit := ⟨1, 12, kind, 7, .granted, 100, 110, none⟩
def releasing (tonnage : Long) (emptied : Bool) : ReleaseArgs := ⟨12, tonnage, 100, none, emptied⟩
def remembered : OutcomeEntry := ⟨.lapsed, 90, 7, 3, some 400⟩
theorem witness_release_permit : { releasing 0 false with machine := 0 }.machine.toNat = 0
    ∧ 63 < { releasing 0 false with machine := 64 }.machine.toNat
    ∧ (1 ≤ (releasing 0 false).machine.toNat ∧ (releasing 0 false).machine.toNat ≤ 63)
    ∧ ((∀ x ∈ yard.permits.list, x.machine ≠ (releasing 0 false).machine.toNat)
      ∧ Table.get yard.permits.outcomes (releasing 0 false).machine.toNat = none)
    ∧ Table.get { yard with permits := { yard.permits with outcomes := [(12, remembered)] } }.permits.outcomes
        (releasing 0 false).machine.toNat = some remembered
    ∧ (∀ kind ∈ [PermitKind.stacker, .reclaimer, .dozer],
      (permitted (granting kind) 120).permit? (releasing 0 false).machine.toNat = some (granting kind)
      ∧ (granting kind).state = .granted ∧ (permitted (granting kind) 120).permits.list = [granting kind]
      ∧ (permitted (granting kind) 120).dispatch.orders = [] ∧ (permitted (granting kind) 120).piles = [(3, pile)]
      ∧ pile.tag = (granting kind).tag ∧ pile.life = .live ∧ pile.retirePending = false
      ∧ Table.get (permitted (granting kind) 120).grades pile.grade = some grade)
    ∧ (releasing 0xFFFFFFFF false).tonnage.toInt < 0 ∧ 0 < (releasing 1 false).tonnage.toInt
    ∧ 0 ≤ (releasing 0 false).tonnage.toInt ∧ (releasing 0 false).tonnage.toInt ≤ 0 ∧ (releasing 0 true).emptied = true
    ∧ { granting .dozer with state := .clearing }.state = .clearing
    ∧ 500 = (pile.m * (100 - min (releasing 0 false).f.toNat 100)
      + min (((releasing 0 false).mf.map fun v => v.toNat).getD pile.mcore) grade.msat * min (releasing 0 false).f.toNat 100
      + 50) / 100 := by decide

def waitingPermit : Permit := ⟨1, 12, .dozer, 7, .pendingWet, 100, 110, some 1⟩
def awaiting (now : Nat) : State := { permitted waitingPermit now with dispatch := (ordered order).dispatch }
/-- The withdrawal of a permit that waits: it names no order, one that waits, one that ended, one with a spraying pass, or
one that another waiting permit names too. -/
def alsoWaiting : State := { awaiting 120 with permits := { (awaiting 120).permits with
  list := [waitingPermit, { waitingPermit with id := 2, machine := 13 }] } }
def sprayed : State := armed { awaiting 120 with dispatch := (ordered (active .spraying)).dispatch } (bound .spraying) node
theorem witness_withdrawal :
    ((awaiting 120).permit? (releasing 0 false).machine.toNat = some waitingPermit ∧ waitingPermit.state = .pendingWet
      ∧ (awaiting 120).pileAt? waitingPermit.tag = some (3, pile) ∧ (pile.life = .live ∧ pile.retirePending = false)
      ∧ waitingPermit.prewetOrder = some order.id ∧ (awaiting 120).order? order.id = some order ∧ order.state = .waiting
      ∧ (awaiting 120).pileAt? order.tag = some (3, pile)
      ∧ ((awaiting 120).permits.list.filter fun y => y.machine != waitingPermit.machine) = [])
    ∧ (waitingYard.permit? (releasing 0 false).machine.toNat).map (fun x => (x.state, x.prewetOrder)) = some (.pendingWet, none)
    ∧ (alsoWaiting.permit? (releasing 0 false).machine.toNat = some waitingPermit
      ∧ ∃ y ∈ alsoWaiting.permits.list.filter (fun y => y.machine != waitingPermit.machine),
        y.state = .pendingWet ∧ y.prewetOrder = waitingPermit.prewetOrder)
    ∧ { order with state := .ended }.state = .ended
    ∧ (sprayed.permit? (releasing 0 false).machine.toNat = some waitingPermit
      ∧ sprayed.order? order.id = some (active .spraying) ∧ (active .spraying).pass = some (pass .spraying)
      ∧ (active .spraying).cancelPending = false ∧ sprayed.cannon? (pass .spraying).cannon = some (bound .spraying)
      ∧ (bound .spraying).bound = some order.id ∧ sprayed.node? (bound .spraying).config.node = some node) := by decide

/-- A permit that clears, or is granted, beside others: one that waits for order 1, and one more. -/
def shared (x y : PermitState) : State := { awaiting 120 with
  dispatch := (ordered { prewet order with suspension := ⟨false, false, true⟩ }).dispatch
  permits := { (awaiting 120).permits with
    list := [{ granting .dozer with state := x }, { waitingPermit with id := 2, machine := 13 },
      { granting .dozer with id := 3, machine := 14, state := y }] } }
theorem witness_release_zone : (∀ x ∈ [PermitState.clearing, .granted], ∀ y ∈ [PermitState.pendingWet, .granted],
      (shared x y).permit? (releasing 0 false).machine.toNat = some { granting .dozer with state := x }
      ∧ (shared x y).pileAt? (7 : Half).toNat = some (3, pile) ∧ Table.wf (shared x y).piles = true
      ∧ Table.get (shared x y).grades pile.grade = some grade ∧ 500 < grade.mwork
      ∧ ((shared x y).dispatch.orders.map fun o => o.id).Nodup
      ∧ ((∃ z ∈ (shared x y).permits.list.filter (fun z => z.machine != 12), z.tag = 7 ∧ z.state ≠ .pendingWet)
          ↔ y = .granted)
      ∧ (∃ o ∈ (shared x y).dispatch.orders, o.tag = 7 ∧ o.state = .waiting ∧ o.suspension.zone = true
        ∧ o.suspension.host = false ∧ o.suspension.hold = false))
    ∧ pile.life = .live ∧ pile.retirePending = false := by decide
theorem witness_release_emptied : ∀ y ∈ [PermitState.clearing, .granted],
    (releasing 0 true).emptied = true ∧ 0 ≤ (releasing 0 true).tonnage.toInt
    ∧ (shared .granted y).permit? (releasing 0 true).machine.toNat = some (granting .dozer)
    ∧ (shared .granted y).pileAt? (granting .dozer).tag = some (3, pile) ∧ Table.wf (shared .granted y).piles = true
    ∧ ((shared .granted y).piles.map fun e => e.2.tag).Nodup ∧ (shared .granted y).permits.list.length ≤ 16
    ∧ ((shared .granted y).permits.list.map fun z => z.machine).Nodup
    ∧ ((shared .granted y).dispatch.orders.map fun o => o.id).Nodup ∧ (shared .granted y).dispatch.orders.length ≤ 32
    ∧ (∀ o ∈ (shared .granted y).dispatch.orders, o.tag = 7 ∧ o.state ≠ .active)
    ∧ (∀ z ∈ (shared .granted y).permits.list, z.tag = 7)
    ∧ ((∃ z ∈ (shared .granted y).permits.list.filter (fun z => decide (z.machine ≠ 12 ∧ ¬ (z.tag = 7 ∧ z.state ≠ .granted))),
        z.tag = 7) ↔ y = .granted) := by decide

/-- A release on a pile that an earlier one has left retire-pending, the last granted permit of the pile or not. -/
theorem witness_release_retiring : ∀ rest ∈ [[], [{ granting .dozer with id := 3, machine := 14 }]], ∀ s ∈ [{ yard with
      piles := [(3, { pile with retirePending := true })]
      permits := { yard.permits with list := granting .dozer :: rest } }],
    (releasing 0 false).emptied = false ∧ s.permit? (releasing 0 false).machine.toNat = some (granting .dozer)
    ∧ s.pileAt? (granting .dozer).tag = some (3, { pile with retirePending := true })
    ∧ s.permits.list.filter (fun y => decide (y.tag = 7 ∧ y.machine ≠ 12 ∧ y.state ≠ .granted)) = []
    ∧ s.permits.list.filter (fun y => decide (y.machine ≠ 12 ∧ ¬ (y.tag = 7 ∧ y.state ≠ .granted))) = rest
    ∧ (s.permits.list.map fun z => z.machine).Nodup ∧ s.dispatch.orders = [] := by decide

theorem witness_permit_limits :
    ((permitted (granting .stacker) 350).permit? (12 : Byte).toNat = some (granting .stacker)
      ∧ 240 = (permitted (granting .stacker) 350).permits.maxHold.stacker ∧ (granting .stacker).state = .granted
      ∧ (granting .stacker).entered + 240 ≤ (permitted (granting .stacker) 350).clock.minute
      ∧ (permitted (granting .stacker) 350).permits.list = [granting .stacker]
      ∧ (permitted (granting .stacker) 350).dispatch.orders = [] ∧ (permitted (granting .stacker) 350).piles = [(3, pile)]
      ∧ pile.tag = (granting .stacker).tag ∧ pile.life = .live ∧ pile.retirePending = false
      ∧ Table.get (permitted (granting .stacker) 350).grades pile.grade = some grade ∧ grade.fdef ≤ 100)
    ∧ (permitted (granting .stacker) 349).clock.minute < (granting .stacker).entered + 240
    ∧ ((awaiting 155).permit? (12 : Byte).toNat = some waitingPermit ∧ waitingPermit.state = .pendingWet
      ∧ waitingPermit.entered + (awaiting 155).permits.prewetWait ≤ (awaiting 155).clock.minute
      ∧ (awaiting 155).permits.list = [waitingPermit] ∧ (awaiting 155).dispatch.orders = [order]
      ∧ waitingPermit.prewetOrder = some order.id ∧ order.state = .waiting
      ∧ (awaiting 155).pileAt? waitingPermit.tag = some (3, pile) ∧ (awaiting 155).pileAt? order.tag = some (3, pile))
    ∧ (awaiting 154).clock.minute < waitingPermit.entered + (awaiting 154).permits.prewetWait
    ∧ 1 ≤ (awaiting 154).permits.prewetWait
    ∧ ((4 : Byte).toNat < 5 ∧ 240 < (241 : Byte).toNat ∧ (9 : Half).toNat < 10 ∧ 1440 < (1441 : Half).toNat)
    ∧ ((awaiting 154).permits.list.length ≤ 16 ∧ ∀ y ∈ (awaiting 154).permits.list, (awaiting 154).permit? y.machine = some y
      ∧ (y.state = .pendingWet → (awaiting 154).clock.minute < y.entered + (240 : Byte).toNat) ∧ y.state ≠ .granted)
    ∧ (110 < waitingPermit.entered + (5 : Byte).toNat)
    ∧ (∀ y ∈ (permitted (granting .dozer) 119).permits.list, y.state = .granted ∧ 119 < y.entered + (10 : Half).toNat) := by
  decide

theorem witness_lapse_retires : ∀ s ∈ [{ permitted (granting .stacker) 350 with piles := [(3, { pile with retirePending := true })] }],
    s.permits.list = [granting .stacker] ∧ s.piles = [(3, { pile with retirePending := true })] ∧ s.dispatch.orders = []
    ∧ (granting .stacker).entered + s.permits.maxHold.stacker ≤ s.clock.minute
    ∧ Table.get s.grades pile.grade = some grade := by decide
/-- SET-PERMIT-LIMITS with no permit, and with one that has reached a new limit at the command. -/
theorem witness_limits_at_the_command : (yard.permits.list = [] ∧ yard.permits.list.length ≤ 16)
    ∧ ((permitted (granting .dozer) 120).permits.list = [granting .dozer] ∧ 10 = (10 : Half).toNat
      ∧ (granting .dozer).entered + 10 ≤ (permitted (granting .dozer) 120).clock.minute
      ∧ (permitted (granting .dozer) 120).dispatch.orders = [] ∧ (permitted (granting .dozer) 120).piles = [(3, pile)]
      ∧ Table.get (permitted (granting .dozer) 120).grades pile.grade = some grade ∧ grade.fdef ≤ 100)
    ∧ ((awaiting 115).permits.list = [waitingPermit] ∧ waitingPermit.entered + (5 : Byte).toNat ≤ (awaiting 115).clock.minute
      ∧ (awaiting 115).dispatch.orders = [order] ∧ waitingPermit.prewetOrder = some order.id ∧ order.state = .waiting
      ∧ (awaiting 115).pileAt? waitingPermit.tag = some (3, pile)) := by decide

/-- Two permits that wait for order 1, and one granted on another pile, all of which reach a new limit at the command. -/
def overdue : State := { awaiting 200 with
  piles := [(3, pile), (5, { pile with tag := 8 })]
  permits := { (awaiting 200).permits with
    list := [waitingPermit, { granting .dozer with id := 3, machine := 14, tag := 8 }, { waitingPermit with id := 2, machine := 13 }] } }
def dueNow (y : Permit) : Bool := decide ((y.state = .pendingWet ∧ y.entered + 45 ≤ 200) ∨ (y.state = .granted ∧ y.entered + 90 ≤ 200))
theorem witness_several_at_the_command : (∀ y, dueNow y = true ↔ limitReached overdue.clock.minute (45 : Byte).toNat (fun _ => 90) y)
    ∧ (90 : Half).toNat = 90 ∧ expiriesApart dueNow overdue ∧ overdue.permits.list.filter dueNow = overdue.permits.list := by
  have piles : ∀ y ∈ overdue.permits.list, overdue.pileAt? y.tag = some (3, pile)
      ∨ overdue.pileAt? y.tag = some (5, { pile with tag := 8 }) := by decide
  have sound : ∀ tag slot p, overdue.pileAt? tag = some (3, pile) ∨ overdue.pileAt? tag = some (5, { pile with tag := 8 }) →
      overdue.pileAt? tag = some (slot, p) → p.life = .live ∧ p.retirePending = false := by
    intro tag slot p hs h
    rcases hs with e | e <;> rw [e] at h <;> cases h <;> decide
  refine ⟨fun y => by simp [dueNow, limitReached, overdue, awaiting, permitted, clockAt], by decide,
    ⟨by decide, by decide, by decide, by decide, by decide, by decide, fun y hy slot p h => sound _ slot p (piles y hy) h,
      fun y _ _ _ o ho _ => ?_, fun y hy _ hg => ?_⟩, by decide⟩
  · have order : ∀ o ∈ overdue.dispatch.orders, o.state ≠ .active ∧ overdue.pileAt? o.tag = some (3, pile) := by decide
    exact ⟨(order o ho).1, fun slot p h => (sound _ slot p (.inl (order o ho).2) h).1⟩
  · have granted : ∀ y ∈ overdue.permits.list, y.state = .granted → overdue.pileAt? y.tag = some (5, { pile with tag := 8 })
        ∧ (∀ o ∈ overdue.dispatch.orders, o.tag ≠ y.tag)
        ∧ ∀ z ∈ overdue.permits.list, z.tag = y.tag → z.state ≠ .pendingWet := by decide
    exact ⟨⟨5, _, grade, (granted y hy hg).1, by decide, by decide⟩, (granted y hy hg).2⟩
/-- The same limits reached at a change of the minute, in a yard whose orders do not lapse at it. -/
theorem witness_limits_at_the_minute : ∀ s ∈ [{ overdue with
      clock := clockAt 199 0 60, dispatch := { overdue.dispatch with lapseTime := 1440 }
      permits := { overdue.permits with maxHold := ⟨90, 90, 90⟩ } }],
    (200 : Long).toNat ≠ s.clock.minute ∧ s.permits.prewetWait = 45 ∧ s.permits.list = overdue.permits.list ∧ s.piles = overdue.piles
    ∧ s.dispatch.orders = overdue.dispatch.orders ∧ s.grades = overdue.grades
    ∧ State.weatherNow { s with clock := { s.clock with minute := (200 : Long).toNat } } = s.wind.weather
    ∧ (∀ o ∈ s.dispatch.orders, (200 : Long).toNat ≤ o.lapseRef + s.dispatch.lapseTime)
    ∧ (∀ y ∈ s.permits.list, y.state = .pendingWet → y.prewetOrder = none → dueNow y = true) := by decide
/-- What a permit's ending at its limit does to piles, outcomes and notices can be given for every permit at once. -/
theorem witness_expire (s : State) (blended : Pile → Pile) : ∃ expire : Table Pile × Table OutcomeEntry × Notices → Permit →
      Table Pile × Table OutcomeEntry × Notices,
    (∀ acc y, y.state = .pendingWet → expire acc y = (acc.1,
      Table.set acc.2.1 y.machine ⟨.refusedTooDry, s.clock.minute, y.tag, y.id, none⟩, acc.2.2.hand .permit y.machine))
    ∧ ∀ acc y slot p, y.state = .granted → acc.1.find? (fun e => e.2.tag == y.tag) = some (slot, p) → expire acc y =
      (acc.1.map (fun e => if e.2.tag = y.tag then (e.1, blended e.2) else e),
        Table.set acc.2.1 y.machine ⟨.lapsed, s.clock.minute, y.tag, y.id, some (blended p).m⟩,
        (if p.estimated then acc.2.2 else acc.2.2.hand .pile slot).hand .permit y.machine) :=
  ⟨fun acc y => if y.state = .pendingWet then (acc.1,
      Table.set acc.2.1 y.machine ⟨.refusedTooDry, s.clock.minute, y.tag, y.id, none⟩, acc.2.2.hand .permit y.machine)
    else match acc.1.find? (fun e => e.2.tag == y.tag) with
      | some (slot, p) => (acc.1.map (fun e => if e.2.tag = y.tag then (e.1, blended e.2) else e),
        Table.set acc.2.1 y.machine ⟨.lapsed, s.clock.minute, y.tag, y.id, some (blended p).m⟩,
        (if p.estimated then acc.2.2 else acc.2.2.hand .pile slot).hand .permit y.machine)
      | none => acc,
    fun acc y h => by simp [h], fun acc y slot p h hf => by simp [h, hf]⟩

/-! ### The yard loop -/

theorem witness_loop : (99 : Half).toNat < 100 ∧ 2500 < (2501 : Half).toNat ∧ (101 : Half).toNat % 20 ≠ 0
    ∧ (100 ≤ (100 : Half).toNat ∧ (100 : Half).toNat % 20 = 0) ∧ ((2500 : Half).toNat ≤ 2500 ∧ (2500 : Half).toNat % 20 = 0)
    ∧ ((armed yard cannon node).loop.running = true ∧ (armed yard cannon node).loop.phase = .noRound) := by decide

def looping (p : Phase) (t : RoundTimer) (n : Node) (w : Option Nat) : State := { armed yard cannon n with
  loop := { (armed yard cannon n).loop with phase := p, timer := t, winner := w } }
def lostNode (k : Nat) : Node := { node with lost := true, countdown := some k }
theorem witness_rounds : (looping .noRound .expired node none).loop.running = true
    ∧ (looping .noRound .expired node none).loop.phase = .noRound
    ∧ (looping .noRound .expired node none).loop.winner = none ∧ (looping .noRound .expired node (some 5)).loop.winner = some 5
    ∧ (looping .noRound .expired node none).node? 6 = none ∧ (looping .noRound .expired node none).node? 5 = some node
    ∧ ((lostNode 1).lost = true ∧ (lostNode 1).countdown = some (0 + 1)) ∧ (lostNode 8).countdown = some (7 + 1)
    ∧ yard.loop.running = false ∧ (looping (.between []) (.running 500) node none).loop.timer = .running 500
    ∧ (looping (.between []) (.running 500) node none).loop.phase ≠ .noRound
    ∧ (looping (.between [5]) .expired node none).loop.phase = .between [5]
    ∧ (looping (.between [5]) .expired (lostNode 8) none).node? 5 = some (lostNode 8) ∧ node.slot = none
    ∧ { node with slot := some .close }.slot = some .close ∧ (looping (.between []) .expired node none).loop.phase = .between []
    ∧ (looping .calling (.running 500) node none).loop.phase = .calling
    ∧ (looping .calling .expired node none).loop.timer = .expired := by decide

def sending (m : Sent) (n : Node) (c : Cannon) : State := { armed yard c n with
  loop := { (armed yard c n).loop with phase := .exchange 5 m [] } }
theorem witness_misses : (sending .poll node cannon).loop.phase = .exchange 5 .poll []
    ∧ (sending .poll node cannon).node? 5 = some node ∧ parseReply 5 node.owner.kind [5, 0] = none
    ∧ (gauged tank).loop.phase = .exchange 9 .poll [] ∧ (gauged tank).node? 9 = some ⟨.tank, 0, none, 0, false, none, 0⟩
    ∧ (lostNode 8).lost = true ∧ (node.lost = false ∧ { node with misses := 1 }.misses < 2)
    ∧ { node with misses := 2 }.misses = 2 ∧ { node with slot := some .close }.slot = some .close
    ∧ (sampling (mast true)).node? 9 = some mastNode ∧ mastNode.owner = .mast 1
    ∧ ((sending .poll { node with misses := 2 } cannon).cannon? 4 = some cannon ∧ node.owner = .cannon 4
      ∧ cannon.state = .idle ∧ cannon.bound = none ∧ cannon.closeWait = none ∧ cannon.header = none) := by decide

def closeSlot : Node := { node with slot := some .close }
theorem witness_valid_replies : (∀ x ∈ [CannonState.idle, .lost, .resetting],
      (sending .probe closeSlot { cannon with state := x }).cannon? 4 = some { cannon with state := x })
    ∧ 5 ≤ 31 ∧ (sending .probe closeSlot cannon).loop.phase = .exchange 5 .probe []
    ∧ (sending .probe closeSlot cannon).node? 5 = some closeSlot ∧ closeSlot.owner = .cannon 4 ∧ cannon.config.node = 5
    ∧ cannon.bound = none ∧ cannon.header = none ∧ cannon.aimWaiting = false
    ∧ (Sent.command .close = .command .close ∧ closeSlot.slot = some .close)
    ∧ (Sent.command (.openValve .reuse) ≠ .command .close) ∧ (report .closed).valve = .closed
    ∧ { closeSlot with misses := 0, lost := false, countdown := none, slot := none }.slot = none := by decide

theorem witness_calls : (looping .noRound .expired node none).loop.phase ≠ .calling
    ∧ (looping .calling .expired node none).loop.phase = .calling
    ∧ ((looping .calling .expired node none).node? (u8 [5, 0, 3] 0).toNat = some node
      ∧ parseReply (u8 [5, 0, 3] 0).toNat node.owner.kind [5, 0, 3] = none)
    ∧ (looping .calling .expired node none).node? (u8 [6, 0, 3] 0).toNat = none
    ∧ (5 = (u8 ((NodeReply.cannon (report .closed) 7).bytes 5) 0).toNat
      ∧ parseReply 5 node.owner.kind ((NodeReply.cannon (report .closed) 7).bytes 5) = some (.cannon (report .closed) 7))
    ∧ (looping .calling (.running 500) node none).loop.timer = .running 500
    ∧ (looping .calling .expired node none).loop.timer = .expired
    -- a mast's node, the tank's, and an idle cannon's with a command in its slot
    ∧ ((masted true).node? 9 = some mastNode ∧ mastNode.owner = .mast 1 ∧ (masted true).cannons = []
      ∧ (masted true).water.pond.node ≠ some 9)
    ∧ (gauged tank).node? 9 = some ⟨.tank, 0, none, 0, false, none, 0⟩
    ∧ ((looping .calling .expired { node with slot := some .close } none).node? 5 = some { node with slot := some .close }
      ∧ (looping .calling .expired node none).cannon? 4 = some cannon ∧ cannon.state = .idle ∧ cannon.bound = none
      ∧ cannon.header = none ∧ cannon.aimWaiting = false) := by decide +kernel

/-! ### The read-back commands and the invariants -/

/-- What the reads tell is there for something: masts loaded and not, a cannon loaded and absent, holders of both headers,
a permit by machine and by position, the slot that covers a minute. -/
theorem witness_told_items : (0 < 2 ∧ 1 < 2 ∧ Table.get (masted true).wind.masts 0 = none
      ∧ Table.get (masted true).wind.masts 1 = some (mast true))
    ∧ (freshYard.cannon? (4 : Byte).toNat = some freshPass ∧ freshYard.cannon? (23 : Byte).toNat = none
      ∧ freshPass.config.coverage[0]? = some cover)
    ∧ ((freshYard.cannons.filter fun e => e.2.header == some .fresh).map (fun e => e.1))[0]? = some 4
    ∧ (((armed yard (bound .spraying) node).cannons.filter fun e => e.2.header == some .reuse).map (fun e => e.1))[0]? = some 4
    ∧ freshYard.loop.nodes[0]? = some (5, node)
    ∧ (waitingYard.permit? (12 : Byte).toNat).isSome = true ∧ waitingYard.permit? (63 : Byte).toNat = none
    ∧ (waitingYard.permits.list[(0 : Byte).toNat]?).map (fun y => y.machine) = some 12
    ∧ (posted 2).forecast.codes = [1, 2, 3, 4] ∧ (posted 2).forecast.latest = [none, none, none, none, none]
    ∧ (∀ j y, j < 1 → (posted 2).forecast.slots[j]? = some y →
        ¬ (y.start ≤ (170 : Long).toNat ∧ (170 : Long).toNat < y.start + y.length)) := by
  refine ⟨by decide, by decide, by decide, by decide, by decide, by decide, by decide, by decide, by decide, by decide,
    fun j y h hy => ?_⟩
  obtain rfl : j = 0 := by omega
  obtain rfl : y = ⟨0, 4, 160, 10, 0, 0, 0, 50, 0, 10⟩ := by simpa [posted] using hy.symm
  decide

theorem witness_reads : 23 < (24 : Byte).toNat ∧ (23 : Byte).toNat ≤ 23
    ∧ ((0 : Byte) = 0 ∧ 31 < (32 : Byte).toNat ∧ (31 : Byte) ≠ 0 ∧ (31 : Byte).toNat ≤ 31 ∧ yard.node? (31 : Byte).toNat = none
      ∧ (armed yard cannon node).node? (5 : Byte).toNat = some node)
    ∧ (1 < (2 : Byte).toNat ∧ (0 : Byte).toNat = 0 ∧ 63 < (64 : Byte).toNat ∧ 15 < (16 : Byte).toNat
      ∧ (63 : Byte).toNat ≤ 63 ∧ (15 : Byte).toNat ≤ 15 ∧ (1 : Byte).toNat = 1
      ∧ yard.permits.list[(15 : Byte).toNat]? = none ∧ waitingYard.permits.list[(0 : Byte).toNat]?.isSome = true)
    ∧ (47 < (48 : Long).toNat ∧ (47 : Long).toNat ≤ 47 ∧ (∀ x ∈ (posted 2).forecast.slots, ¬ (x.start ≤ (180 : Long).toNat
        ∧ (180 : Long).toNat < x.start + x.length))
      ∧ (posted 2).forecast.slots[1]? = some ⟨0, 4, 170, 10, 0, 0, 0, 50, 0, 10⟩
      ∧ (170 ≤ (179 : Long).toNat ∧ (179 : Long).toNat < 170 + 10) ∧ (170 ≤ (170 : Long).toNat ∧ (170 : Long).toNat < 170 + 10)
      ∧ (posted 2).forecast.slots[(47 : Long).toNat]? = none) := by decide

/-- A state with a command in its queue that has every invariant: a step answers a next state from it. -/
def busyYard : State := { armed (ordered (active .aiming)) { bound .aiming with aimPhase := some .slewing, slew := some 20 } node with
  pending := [.secondsCountRise] }
theorem witness_invariants : busyYard.tablesAscend = true ∧ busyYard.notices.ascend = true
    ∧ busyYard.clockAndModelInRange = true ∧ busyYard.water.sound = true ∧ busyYard.pilesSound = true
    ∧ busyYard.weatherSound = true ∧ busyYard.dispatch.sound = true ∧ busyYard.cannonsSound = true
    ∧ busyYard.permits.sound = true ∧ busyYard.permitsOnLive = true ∧ busyYard.loop.sound = true
    ∧ busyYard.passesBound = true ∧ busyYard.zonesHeld = true
    ∧ (∀ o ∈ busyYard.dispatch.orders, o.endedEvent ≤ busyYard.events) := by decide
/-- The same with a machine at work on the pile, whose orders hold ZONE; and the two rules are no mere words. -/
def workedYard (o : Order) : State := { ordered o with permits := (permitted (permit .granted none) 120).permits }
theorem witness_zone_held : (workedYard { order with suspension := ⟨false, false, true⟩ }).zonesHeld = true
    ∧ (workedYard order).zonesHeld = false ∧ (workedYard { order with suspension := ⟨false, false, true⟩ }).passesBound = true
    ∧ (workedYard { active .spraying with suspension := ⟨false, false, true⟩ }).zonesHeld = false
    ∧ { busyYard with dispatch := (ordered order).dispatch }.passesBound = false := by decide
theorem witness_nodes_owned : busyYard.nodesOwned := by
  refine ⟨fun a o => ?_, fun a n h => ?_⟩
  · cases o <;> simp [busyYard, armed, ordered, yard, State.node?, State.addressOf, State.cannon?, State.reset, Table.get,
      Pond.initial, node, bound, cannon, Cannon.loaded, config]
    grind
  · simp [busyYard, armed, State.node?, Table.get, node] at h
    rw [← h.2]; rfl
theorem witness_step : ∃ t, step busyYard = .next t := ⟨_, rfl⟩

theorem witness_parse_back : 255 ≤ 255 ∧ 65535 < 65536 ∧ 255 < 256 ∧ (-128 : Int) ≤ -128 ∧ (127 : Int) ≤ 127
    ∧ parseReply 255 .mast ((NodeReply.mast 65535 65535 255 65535 (-128)).bytes 255)
      = some (.mast 65535 65535 255 65535 (-128)) ∧ 254 ≠ 255 ∧ NodeKind.gauge ≠ .mast := by decide +kernel

theorem witness_keeps : Instr.sweeping .readClock = false ∧ Instr.replyCode .modelStep = none
    ∧ Instr.replyCode .readClock = some 0x07 ∧ Instr.movesClock .readClock = false ∧ Instr.writesModel .readClock = false
    ∧ Instr.writesForecast .readClock = false ∧ Instr.writesMasts .readClock = false := by decide

end Sys2Proof.Tests
end

section
/-! PROOFS. The lowest free key of a sparse table, and OPEN-PILE branch by branch (R9, R10). -/

namespace Sys2Proof.Machine

/-! ## The lowest free key -/

/-- No key below the bound is free exactly when every one of them has an entry. -/
theorem Table.lowestFree_eq_none_iff {α : Type} (t : Table α) (n : Nat) :
    Table.lowestFree t n = none ↔ ∀ k, k < n → (Table.get t k).isSome = true := by
  simp [Table.lowestFree, Option.isSome_iff_ne_none]

/-- A key is the lowest free one exactly when it has no entry and every key below it has one. -/
theorem Table.lowestFree_eq_some_iff {α : Type} (t : Table α) (n k : Nat) :
    Table.lowestFree t n = some k ↔
      k < n ∧ Table.get t k = none ∧ ∀ j, j < k → (Table.get t j).isSome = true := by
  simp only [Table.lowestFree, List.find?_range_eq_some, List.mem_range, Option.isNone_iff_eq_none, Option.not_isNone,
    and_left_comm]

/-! ## The checks of OPEN-PILE -/

/-- A reply writes the port alone. -/
theorem State.answer_eq (s : State) (code : Nat) (status : Status) (payload : List Byte) :
    s.answer code status payload = { s with port := s.replied status code payload } := rfl

/-- The first check of OPEN-PILE fails on a zero tag, a grade past 15, a zero area or a core past 4000 (R9). -/
theorem openPileArgsOk_eq_false_iff (a : OpenPileArgs) :
    openPileArgsOk a = false ↔ a.tag = 0 ∨ 15 < a.grade.toNat ∨ a.area = 0 ∨ 4000 < a.mcore.toNat := by
  simp only [openPileArgsOk, Config.grades, Config.maxMoisture, Bool.and_eq_false_iff, bne_eq_false_iff_eq,
    decide_eq_false_iff_not, Nat.not_lt, Nat.not_le, or_assoc]
  rfl

/-- The first check of OPEN-PILE passes on fields that are all in range (R9). -/
theorem openPileArgsOk_of_inRange {a : OpenPileArgs} (htag : a.tag ≠ 0) (hgrade : a.grade.toNat ≤ 15)
    (harea : a.area ≠ 0) (hcore : a.mcore.toNat ≤ 4000) : openPileArgsOk a = true := by
  rw [← Bool.not_eq_false, openPileArgsOk_eq_false_iff]
  rintro (h | h | h | h)
  · exact htag h
  · omega
  · exact harea h
  · omega

/-! ## One equation for each branch of OPEN-PILE -/

section
variable {a : OpenPileArgs} {s : State}

theorem exec_openPile (a : OpenPileArgs) (s : State) : exec (.openPile a) s = .next (s.openPile a) := rfl

theorem openPile_of_badArgs (hargs : openPileArgsOk a = false) :
    s.openPile a = s.answer Code.openPile .badArgument [] := by
  rw [State.openPile, if_pos hargs]

theorem openPile_of_duplicate (hargs : openPileArgsOk a = true) (htag : (s.pileAt? a.tag.toNat).isSome = true) :
    s.openPile a = s.answer Code.openPile .duplicate [] := by
  rw [State.openPile, if_neg (by simp [hargs]), if_pos htag]

theorem openPile_of_unknownGrade (hargs : openPileArgsOk a = true) (htag : s.pileAt? a.tag.toNat = none)
    (hgrade : Table.get s.grades a.grade.toNat = none) :
    s.openPile a = s.answer Code.openPile .unknownGrade [] := by
  simp [State.openPile, hargs, htag, hgrade]

theorem openPile_of_full {g : Grade} (hargs : openPileArgsOk a = true) (htag : s.pileAt? a.tag.toNat = none)
    (hgrade : Table.get s.grades a.grade.toNat = some g)
    (hfull : Table.lowestFree s.piles Config.pileSlots = none) :
    s.openPile a = s.answer Code.openPile .full [] := by
  simp [State.openPile, hargs, htag, hgrade, hfull]

theorem openPile_of_free {g : Grade} {slot : Nat} (hargs : openPileArgsOk a = true)
    (htag : s.pileAt? a.tag.toNat = none) (hgrade : Table.get s.grades a.grade.toNat = some g)
    (hslot : Table.lowestFree s.piles Config.pileSlots = some slot) :
    s.openPile a =
      { s with piles := Table.set s.piles slot (newPile s.model g a) }.answer Code.openPile .ok (be8 slot) := by
  simp [State.openPile, hargs, htag, hgrade, hslot]

end

/-- Settles O15: the checks are taken in their order, each branch by its own equation; what is placed is read back from
the written table. -/
theorem openPilePlacesTheRecord : Obligations.OpenPilePlacesTheRecord := by
  unfold Obligations.OpenPilePlacesTheRecord
  intro a s
  simp only [exec_openPile]
  refine ⟨fun hbad => ?badArgument, fun htag0 hgrade15 harea hcore => ?_⟩
  case badArgument => rw [openPile_of_badArgs ((openPileArgsOk_eq_false_iff a).2 hbad), State.answer_eq]
  have hargs := openPileArgsOk_of_inRange htag0 hgrade15 harea hcore
  refine ⟨fun hdup => ?duplicate, fun htag => ⟨fun hnone => ?unknownGrade, fun g hgrade =>
    ⟨fun hfull => ?full, fun slot hslot hfree hbelow => ?placed⟩⟩⟩
  case duplicate => rw [openPile_of_duplicate hargs hdup, State.answer_eq]
  case unknownGrade => rw [openPile_of_unknownGrade hargs htag hnone, State.answer_eq]
  case full =>
    rw [openPile_of_full hargs htag hgrade ((Table.lowestFree_eq_none_iff _ _).2 hfull), State.answer_eq]
  case placed =>
    have hlowest : Table.lowestFree s.piles Config.pileSlots = some slot :=
      (Table.lowestFree_eq_some_iff _ _ _).2 ⟨hslot, hfree, hbelow⟩
    rw [openPile_of_free hargs htag hgrade hlowest]
    refine ⟨_, rfl, rfl, rfl, ?record, fun k hk => ?others⟩
    case record => exact Table.get_set_self s.piles slot (newPile s.model g a)
    case others => exact Table.get_set_of_ne s.piles (newPile s.model g a) hk

end Sys2Proof.Machine
end

section
/-! PROOFS. SET-LOOP branch by branch, the round start that takes the period, and the period after a reset (R158, R160,
R169). -/

namespace Sys2Proof.Machine

/-! ## The check of SET-LOOP -/

/-- The periods SET-LOOP takes (R169). -/
theorem periodOk_iff (period : Half) :
    periodOk period = true ↔ 100 ≤ period.toNat ∧ period.toNat ≤ 2500 ∧ period.toNat % 20 = 0 := by
  simp only [periodOk, within, Bool.and_eq_true, decide_eq_true_eq, beq_iff_eq, and_assoc]

/-- The periods SET-LOOP refuses: too short, too long or off a multiple of 20 (R169). -/
theorem periodOk_eq_false_iff (period : Half) :
    periodOk period = false ↔ period.toNat < 100 ∨ 2500 < period.toNat ∨ period.toNat % 20 ≠ 0 := by
  rw [← Bool.not_eq_true, periodOk_iff]
  omega

/-! ## One equation for each branch of SET-LOOP -/

section
variable {period : Half} {s : State}

theorem exec_setLoop (period : Half) (s : State) : exec (.setLoop period) s = .next (s.setLoop period) := rfl

theorem setLoop_of_refused (hperiod : periodOk period = false) :
    s.setLoop period = s.answer Code.setLoop .badArgument [] := by
  rw [State.setLoop, if_neg (by simp [hperiod])]

theorem setLoop_of_taken (hperiod : periodOk period = true) :
    s.setLoop period =
      { s with loop := { s.loop with period := period.toNat } }.answer Code.setLoop .ok (be16 period.toNat) := by
  rw [State.setLoop, if_pos hperiod]

end

/-! ## The round start and the resets -/

theorem exec_roundStart (s : State) : exec .roundStart s = .next s.timerStart := rfl

/-- The timer's expiry with no round under way starts one (R160). -/
theorem timerStart_of_noRound {s : State} (hrunning : s.loop.running = true) (hphase : s.loop.phase = .noRound) :
    s.timerStart = { s with loop := s.loop.startRound } := by
  rw [State.timerStart, if_pos ⟨hrunning, hphase⟩]

/-- A round start sets the timer to the period that stands (R160). -/
@[simp] theorem Loop.startRound_timer (l : Loop) : l.startRound.timer = .running l.period := rfl

/-- A round start leaves the period. -/
@[simp] theorem Loop.startRound_period (l : Loop) : l.startRound.period = l.period := rfl

theorem exec_powerOnReset (pins : BitVec 4) (s : State) : exec (.powerOnReset pins) s = .next (s.powerOn pins) := rfl

/-- RESET-YARD gives the state a power-on reset gives (R186). -/
theorem exec_resetYard (pins : BitVec 4) (s : State) : exec (.resetYard pins) s = .next (s.powerOn pins) := rfl

/-- A whole-part reset sets the period to 500 (R158). -/
@[simp] theorem State.powerOn_loop_period (s : State) (pins : BitVec 4) : (s.powerOn pins).loop.period = 500 := rfl

/-- Settles O49: the check of R169 decides between the two branches of SET-LOOP; the round start reads the period that
stands. -/
theorem setLoopWritesThePeriod : Obligations.SetLoopWritesThePeriod := by
  unfold Obligations.SetLoopWritesThePeriod
  intro period s
  refine ⟨fun hbad => ?refused, fun hlow hhigh hstep => ?taken, fun hrunning hphase => ?governs, fun pins => ?reset⟩
  case refused =>
    rw [exec_setLoop, setLoop_of_refused ((periodOk_eq_false_iff period).2 hbad), State.answer_eq]
  case taken =>
    rw [exec_setLoop, setLoop_of_taken ((periodOk_iff period).2 ⟨hlow, hhigh, hstep⟩), State.answer_eq]
    rfl
  case governs =>
    rw [exec_roundStart, timerStart_of_noRound hrunning hphase]
    exact ⟨_, rfl, Loop.startRound_timer s.loop, Loop.startRound_period s.loop⟩
  case reset =>
    exact ⟨_, _, exec_powerOnReset pins s, exec_resetYard pins s, State.powerOn_loop_period s pins,
      State.powerOn_loop_period s pins⟩

end Sys2Proof.Machine
end

section
/-! PROOFS. READ-IDENT's reply, part by part (R184). -/

namespace Sys2Proof.Machine

theorem exec_readIdent (s : State) : exec .readIdent s = .next s.readIdent := rfl

/-! ## The parts of the reply -/

/-- The vendor code, the part code and the revision as they stand in the reply (R184). -/
theorem identity_bytes :
    be16 Config.vendor ++ be16 Config.part ++ be8 Config.revision = [0x50, 0x46, 0x64, 0x24, 3] := by decide

/-- Each of the nine capacities takes one byte of the reply (R184). -/
theorem capacities_bytes : capacities.flatMap be8 = [64, 16, 48, 32, 24, 16, 2, 28, 60] := by decide

/-- READ-IDENT is an answer and nothing more: the identity, the sampled address, the capacities (R184). -/
theorem readIdent_eq_answer (s : State) :
    s.readIdent = s.answer Code.readIdent .ok ([0x50, 0x46, 0x64, 0x24, 3] ++ be8 s.port.address
      ++ [64, 16, 48, 32, 24, 16, 2, 28, 60]) := by
  rw [State.readIdent, identity_bytes, capacities_bytes]

/-- Settles O7: READ-IDENT is an answer, and an answer writes the port alone. -/
theorem readIdentAnswersTheIdentity : Obligations.ReadIdentAnswersTheIdentity := by
  unfold Obligations.ReadIdentAnswersTheIdentity
  intro s
  rw [exec_readIdent, readIdent_eq_answer, State.answer_eq]
  rfl

end Sys2Proof.Machine
end

section
-- Each proof is elaborated before the next begins: the many threads that would wait on one another need more memory.
set_option Elab.async false
/-! PROOFS. What every operation within an event keeps, packaged once as a preorder `Keeps` on states, and the named updates
that stand in it. -/

namespace Sys2Proof.Machine

/-! ## The invariants taken apart -/

/-- No order has ended in an event still to come. -/
def State.endedByNow (s : State) : Prop := ∀ o ∈ s.dispatch.orders, o.endedEvent ≤ s.events

/-- Every slot of the loop holds a command of its node's kind or none: the second half of `State.nodesOwned`. -/
def State.slotsFit (s : State) : Prop := ∀ a n, s.node? a = some n → n.slotFits = true

theorem Dispatcher.sound_iff (d : Dispatcher) :
    d.sound = true ↔ d.orders.length ≤ Config.orders ∧ (∀ o ∈ d.orders, o.sound = true) ∧ (d.orders.map Order.id).Nodup
      ∧ 1 ≤ d.nextId ∧ d.nextId ≤ 65535 := by
  simp [Dispatcher.sound, within, and_assoc]

theorem Water.sound_iff (w : Water) :
    w.sound = true ↔ w.pond.volume ≤ w.pond.capacity ∧ w.pond.spill < Config.two32 ∧ w.usedToday < Config.two32
      ∧ (w.transfer.startWait = none ∨ w.transfer.state = .starting)
      ∧ (w.transfer.runWaiting = false ∨ w.transfer.state = .starting)
      ∧ (w.transfer.holdOff = none ∨ w.transfer.state = .stopped)
      ∧ (w.transfer.pendingHoldOff = false ∨ w.transfer.state = .stopping)
      ∧ (w.pond.node.isSome = true ∨ w.transfer.state = .stopped) := by
  simp [Water.sound, and_assoc]

theorem State.cannonsSound_iff (s : State) :
    s.cannonsSound = true ↔ Table.wf s.cannons = true ∧ (∀ e ∈ s.cannons, e.1 < Config.cannons ∧ e.2.sound = true)
      ∧ (s.holders .reuse).length ≤ Config.reuseSlots ∧ (s.holders .fresh).length ≤ Config.freshSlots := by
  simp [State.cannonsSound, and_assoc]

theorem Permits.sound_iff (x : Permits) :
    x.sound = true ↔ x.list.length ≤ Config.permits ∧ (∀ p ∈ x.list, p.sound = true) ∧ (x.list.map Permit.id).Nodup
      ∧ (x.list.map Permit.machine).Nodup ∧ (∀ p ∈ x.list, compatible (x.list.filter fun q => q.tag == p.tag) = true)
      ∧ 1 ≤ x.nextId ∧ x.nextId ≤ 255 := by
  simp [Permits.sound, within, and_assoc]

theorem State.permitsOnLive_iff (s : State) :
    s.permitsOnLive = true ↔ Table.wf s.piles = true ∧ (s.piles.map fun e => e.2.tag).Nodup
      ∧ ∀ p ∈ s.permits.list, s.liveTag p.tag = true := by
  simp [State.permitsOnLive, and_assoc]

theorem State.pilesSound_iff (s : State) :
    s.pilesSound = true ↔ Table.wf s.piles = true ∧ (∀ e ∈ s.piles, e.1 < Config.pileSlots ∧ s.pileInRange e.2 = true)
      ∧ (∀ e ∈ s.grades, e.1 < Config.grades ∧ e.2.inRange = true) ∧ (s.piles.map fun e => e.2.tag).Nodup := by
  simp [State.pilesSound, and_assoc]

theorem Notices.ascend_iff (n : Notices) :
    n.ascend = true ↔ ascending n.piles = true ∧ ascending n.orders = true ∧ ascending n.cannons = true
      ∧ ascending n.permits = true := by
  simp [Notices.ascend, and_assoc]

/-! ## The preorder -/

/-- What every operation within an event keeps: the skeleton, and each invariant that the operation may not break. -/
structure Keeps (s t : State) : Prop where
  skeleton : t.skeleton = s.skeleton
  notices : s.notices.ascend = true → t.notices.ascend = true
  pilesWf : Table.wf s.piles = true → Table.wf t.piles = true
  piles : s.pilesSound = true → t.pilesSound = true
  outcomes : Table.wf s.permits.outcomes = true → Table.wf t.permits.outcomes = true
  weather : s.weatherSound = true → t.weatherSound = true
  dispatch : s.dispatch.sound = true → t.dispatch.sound = true
  ended : s.endedByNow → t.endedByNow
  water : s.water.sound = true → t.water.sound = true
  cannons : s.cannonsSound = true → t.cannonsSound = true
  permits : s.permits.sound = true → t.permits.sound = true
  onLive : s.permitsOnLive = true → t.permitsOnLive = true
  slots : Table.wf s.cannons = true → s.nodesOwned → t.slotsFit

/-! ## What the skeleton says of the nodes' owners -/

/-- A reading of a table whose entries have been changed is the change of the reading. -/
theorem Table.get_map {α β : Type} (t : Table α) (f : α → β) (k : Nat) :
    Table.get (t.map fun e => (e.1, f e.2)) k = (Table.get t k).map f := by
  induction t with
  | nil => rfl
  | cons e t ih =>
    simp only [List.map_cons, Table.get_cons, ih]
    split <;> rfl

/-- Nodes that differ in their slots alone have the same owners. -/
theorem skeleton_owner {s t : State} (h : t.skeleton = s.skeleton) (a : Nat) :
    (t.node? a).map (fun n => n.owner) = (s.node? a).map fun n => n.owner := by
  have key : ∀ u : State, (u.node? a).map (fun n => n.owner)
      = (Table.get (u.loop.nodes.map fun e => (e.1, { e.2 with slot := none })) a).map fun n => n.owner := fun u => by
    have hm : Table.get (u.loop.nodes.map fun e => (e.1, ({ e.2 with slot := none } : Node))) a
        = (u.node? a).map fun n => { n with slot := none } := Table.get_map u.loop.nodes (fun n => { n with slot := none }) a
    rw [hm, Option.map_map]; rfl
  rw [key t, key s, skeleton_nodes h]

/-- Cannons of the same configurations stand at the same addresses, and so do all owners. -/
theorem skeleton_addressOf {s t : State} (h : t.skeleton = s.skeleton) (o : Owner) : t.addressOf o = s.addressOf o := by
  cases o with
  | cannon n =>
    have key : ∀ u : State, u.addressOf (.cannon n)
        = (Table.get (u.cannons.map fun e => (e.1, e.2.config)) n).map fun c => c.node := fun u => by
      rw [Table.get_map u.cannons fun c => c.config, Option.map_map]; rfl
    rw [key t, key s, skeleton_configs h]
  | mast n => simp [State.addressOf, skeleton_masts h]
  | tank => simp [State.addressOf, skeleton_tank h]
  | pond => simp [State.addressOf, skeleton_pondNode h]

/-- The cannon table's keys are those it had. -/
theorem skeleton_cannonsWf {s t : State} (h : t.skeleton = s.skeleton) (hw : Table.wf s.cannons = true) :
    Table.wf t.cannons = true := by
  have key : ∀ u : State, Table.keys u.cannons = Table.keys (u.cannons.map fun e => (e.1, e.2.config)) := fun u => by simp
  rw [Table.wf, key t, skeleton_configs h, ← key s]
  exact hw

namespace Keeps

theorem refl (s : State) : Keeps s s :=
  ⟨rfl, id, id, id, id, id, id, id, id, id, id, id, fun _ h => h.2⟩

/-- An operation keeps the node list owned. -/
theorem nodesOwned {s t : State} (h : Keeps s t) (hw : Table.wf s.cannons = true) (hs : s.nodesOwned) : t.nodesOwned := by
  refine ⟨fun a o => ?_, h.slots hw hs⟩
  rw [skeleton_owner h.skeleton, skeleton_addressOf h.skeleton]
  exact hs.1 a o

theorem trans {s t u : State} (h : Keeps s t) (k : Keeps t u) : Keeps s u where
  skeleton := k.skeleton.trans h.skeleton
  notices := k.notices ∘ h.notices
  pilesWf := k.pilesWf ∘ h.pilesWf
  piles := k.piles ∘ h.piles
  outcomes := k.outcomes ∘ h.outcomes
  weather := k.weather ∘ h.weather
  dispatch := k.dispatch ∘ h.dispatch
  ended := k.ended ∘ h.ended
  water := k.water ∘ h.water
  cannons := k.cannons ∘ h.cannons
  permits := k.permits ∘ h.permits
  onLive := k.onLive ∘ h.onLive
  slots := fun hw hs => k.slots (skeleton_cannonsWf h.skeleton hw) (h.nodesOwned hw hs)

/-- An update that writes the notices alone. -/
theorem of_notices {s : State} {n : Notices} (hm : n.mask = s.notices.mask)
    (h : s.notices.ascend = true → n.ascend = true) : Keeps s { s with notices := n } :=
  ⟨by simp [State.skeleton, hm], h, id, id, id, id, id, id, id, id, id, id, fun _ h => h.2⟩

/-- A key handed to a change set leaves the sets ascending. -/
theorem hand (s : State) (c : ChangeSet) (k : Nat) : Keeps s (s.hand c k) := by
  refine of_notices (by cases c <;> rfl) fun h => ?_
  obtain ⟨hp, ho, hc, hx⟩ := (Notices.ascend_iff _).1 h
  rw [Notices.ascend_iff]
  cases c
  · exact ⟨ascending_insertKey _ _ hp, ho, hc, hx⟩
  · exact ⟨hp, ascending_insertKey _ _ ho, hc, hx⟩
  · exact ⟨hp, ho, ascending_insertKey _ _ hc, hx⟩
  · exact ⟨hp, ho, hc, ascending_insertKey _ _ hx⟩

theorem raiseWind (s : State) : Keeps s s.raiseWind := of_notices rfl id
theorem raiseWater (s : State) : Keeps s s.raiseWater := of_notices rfl id

theorem handPermit (s : State) (q : Option Nat) (m : Nat) : Keeps s (s.handPermit q m) := by
  unfold State.handPermit
  split
  · exact .refl s
  · exact hand s _ _

/-- What each step of a fold keeps, the fold keeps. -/
theorem foldl {β : Type} {f : State → β → State} (h : ∀ s b, Keeps s (f s b)) (l : List β) (s : State) :
    Keeps s (l.foldl f s) := by
  induction l generalizing s with
  | nil => exact .refl s
  | cons b l ih => exact (h s b).trans (ih _)

end Keeps

/-! ## Orders -/

/-- A changed order carries its id, and is no worse than it was. -/
structure Order.Kept (events : Nat) (o o' : Order) : Prop where
  id : o'.id = o.id
  sound : o.sound = true → o'.sound = true
  ended : o.endedEvent ≤ events → o'.endedEvent ≤ events

theorem Order.Kept.refl (events : Nat) (o : Order) : Order.Kept events o o := ⟨rfl, fun h => h, fun h => h⟩

theorem Order.sound_iff (o : Order) :
    o.sound = true ↔ 1 ≤ o.id ∧ o.id ≤ 65535 ∧ o.priority ≤ 3 ∧ o.passes ≤ 255 ∧ o.delivered < Config.two32
      ∧ (o.state ≠ .ended ∨ o.outcome.isSome = true ∧ o.endedMinute.isSome = true ∧ o.starved = false) := by
  simp [Order.sound, Order.isOpen, within, and_assoc]

namespace Keeps

/-- The orders changed each in its place, the soundness of the table at hand. -/
theorem orders' {s : State} {g : Order → Order} {d : Nat} (hid : ∀ o, (g o).id = o.id)
    (hs : s.dispatch.sound = true → ∀ o ∈ s.dispatch.orders, (g o).sound = true)
    (he : ∀ o, o.endedEvent ≤ s.events → (g o).endedEvent ≤ s.events) :
    Keeps s { s with dispatch := { s.dispatch with orders := s.dispatch.orders.map g, due := d } } := by
  refine ⟨rfl, id, id, id, id, id, fun h => ?_, fun h => ?_, id, id, id, id, fun _ h => h.2⟩
  · have hg := hs h
    obtain ⟨hl, _, hn, h1, h2⟩ := (Dispatcher.sound_iff _).1 h
    refine (Dispatcher.sound_iff _).2 ⟨by simpa using hl, by simpa using hg, ?_, h1, h2⟩
    rw [List.map_map]
    exact (List.map_congr_left fun o _ => hid o : s.dispatch.orders.map (Order.id ∘ g) = _) ▸ hn
  · intro o ho
    obtain ⟨x, hx, rfl⟩ := List.mem_map.1 ho
    exact he x (h x hx)

/-- The orders changed each in its place. -/
theorem orders {s : State} {g : Order → Order} {d : Nat} (h : ∀ o, Order.Kept s.events o (g o)) :
    Keeps s { s with dispatch := { s.dispatch with orders := s.dispatch.orders.map g, due := d } } :=
  orders' (fun o => (h o).id) (fun hs o ho => (h o).sound (((Dispatcher.sound_iff _).1 hs).2.1 o ho)) fun o => (h o).ended

theorem mapOrder {s : State} {i : Nat} {f : Order → Order} (h : ∀ o, Order.Kept s.events o (f o)) :
    Keeps s (s.mapOrder i f) :=
  orders (d := s.dispatch.due) fun o => by
    split
    · exact h o
    · exact .refl _ o

theorem occasion (s : State) : Keeps s s.occasion :=
  ⟨rfl, id, id, id, id, id, id, id, id, id, id, id, fun _ h => h.2⟩

theorem report (s : State) (k : Nat) : Keeps s (s.report k) :=
  ⟨rfl, id, id, id, id, id, id, id, id, id, id, id, fun _ h => h.2⟩

theorem freeOrder (s : State) (i : Nat) : Keeps s (s.freeOrder i) := by
  refine ⟨rfl, id, id, id, id, id, fun h => ?_, fun h o ho => h o (List.mem_filter.1 ho).1, id, id, id, id, fun _ h => h.2⟩
  obtain ⟨hl, hs, hn, h1, h2⟩ := (Dispatcher.sound_iff _).1 h
  exact (Dispatcher.sound_iff _).2 ⟨(List.length_filter_le _ _).trans hl, fun o ho => hs o (List.mem_filter.1 ho).1,
    hn.sublist ((List.filter_sublist).map _), h1, h2⟩

/-! ## The water account -/

/-- An update that writes the water account alone, in the fields an event may write. -/
theorem of_water {s : State} {w : Water} (hk : ({ s with water := w } : State).skeleton = s.skeleton)
    (h : s.water.sound = true → w.sound = true) : Keeps s { s with water := w } :=
  ⟨hk, id, id, id, id, id, id, id, h, id, id, id, fun _ h => h.2⟩

theorem mapTransfer {s : State} {f : Transfer → Transfer}
    (h : s.water.sound = true → ({ s.water with transfer := f s.water.transfer } : Water).sound = true) :
    Keeps s (s.mapTransfer f) := of_water rfl h

theorem evalSpent (s : State) : Keeps s s.evalSpent := by
  unfold State.evalSpent
  have hw : Keeps s { s with water := { s.water with spent := decide (s.freshAvailable < Config.trickle) } } :=
    of_water rfl fun h => h
  dsimp only
  split
  · exact hw.trans (raiseWater _)
  · exact hw

/-! ## Slots of the loop -/

/-- A slot written in the entry of one address, with a command fit for the node that stands there. -/
theorem mapSlot' {s : State} {a : Nat} {f : Node → Node} (hk : ∀ n, ({ f n with slot := none } : Node) = { n with slot := none })
    (h : Table.wf s.cannons = true → s.nodesOwned → ∀ n, s.node? a = some n → (f n).slotFits = true) : Keeps s (s.mapNode a f) := by
  refine ⟨State.mapNode_skeleton a f hk, id, id, id, id, id, id, id, id, id, id, id, fun hw hs b n hn => ?_⟩
  rw [node_mapNode] at hn
  split at hn
  · subst_vars
    obtain ⟨m, hm, rfl⟩ := Option.map_eq_some_iff.1 hn
    exact h hw hs m hm
  · exact hs.2 b n hn

theorem mapSlot {s : State} {a : Nat} {f : Node → Node} (hk : ∀ n, ({ f n with slot := none } : Node) = { n with slot := none })
    (h : s.nodesOwned → ∀ n, s.node? a = some n → (f n).slotFits = true) : Keeps s (s.mapNode a f) :=
  mapSlot' hk fun _ => h

theorem placeStop {s : State} {a : Nat} {c : LoopCommand}
    (h : s.nodesOwned → ∀ n, s.node? a = some n → ({ n with slot := some c } : Node).slotFits = true) :
    Keeps s (s.placeStop a c) := mapSlot (fun _ => rfl) h

theorem placeStart {s : State} {a : Nat} {c : LoopCommand}
    (h : s.nodesOwned → ∀ n, s.node? a = some n → ({ n with slot := some c } : Node).slotFits = true) :
    Keeps s (s.placeStart a c) :=
  mapSlot (fun n => by split <;> rfl) fun hs n hn => by
    split
    · exact h hs n hn
    · exact hs.2 a n hn

end Keeps

/-- The node at a loaded cannon's address is that cannon's. -/
theorem State.nodesOwned.ofCannon {s : State} (h : s.nodesOwned) {k : Nat} {c : Cannon} (hc : s.cannon? k = some c)
    {n : Node} (hn : s.node? c.config.node = some n) : n.owner = .cannon k := by
  have := (h.1 c.config.node (.cannon k)).2 (by simp [State.addressOf, hc])
  simpa [hn] using this

/-- The node at the pond's address is the transfer station. -/
theorem State.nodesOwned.ofPond {s : State} (h : s.nodesOwned) {a : Nat} (ha : s.water.pond.node = some a)
    {n : Node} (hn : s.node? a = some n) : n.owner = .pond := by
  have := (h.1 a .pond).2 (by simp [State.addressOf, ha])
  simpa [hn] using this

namespace Keeps

theorem placeClose (s : State) (k : Nat) : Keeps s (s.placeClose k) := by
  unfold State.placeClose
  split
  · rename_i c hc
    exact placeStop fun hs n hn => by simp [Node.slotFits, hs.ofCannon hc hn]
  · exact .refl s

theorem placeStopRun (s : State) : Keeps s s.placeStopRun := by
  unfold State.placeStopRun
  split
  · rename_i a ha
    exact placeStop fun hs n hn => by simp [Node.slotFits, hs.ofPond ha hn]
  · exact .refl s

/-! ## The transfer run -/

/-- A run in progress is stopped: its timers are those of STOPPING (R138). -/
theorem stopRun {s : State} {e : RunEnd} (hr : s.water.transfer.state = .starting ∨ s.water.transfer.state = .running) :
    Keeps s (s.stopRun e) := by
  have hw : s.placeStopRun.water = s.water := by unfold State.placeStopRun; split <;> rfl
  refine (placeStopRun s).trans (mapTransfer fun h => ?_)
  rw [hw, Water.sound_iff] at *
  obtain ⟨h1, h2, h3, -, -, h6, h7, h8⟩ := h
  refine ⟨h1, h2, h3, .inl rfl, .inl rfl, ?_, ?_, .inl ?_⟩
  · exact h6.imp id fun h => by simp [h] at hr
  · exact .inr rfl
  · exact h8.resolve_right fun h => by simp [h] at hr

/-- A run starts from STOPPED with no hold-off, or its RUN waits for the slot (R138). -/
theorem startRun {s : State} (hs : s.water.transfer.state = .stopped ∨ s.water.transfer.state = .starting)
    (hh : s.water.transfer.holdOff = none ∨ s.water.transfer.state = .starting) : Keeps s s.startRun := by
  have key : ∀ w r, (r = false ∨ w = none) → s.water.sound = true → s.water.pond.node.isSome = true →
      ({ s.water with transfer := { s.water.transfer with state := .starting, startWait := w, runWaiting := r } } : Water).sound
        = true := fun w r _ h hn => by
    rw [Water.sound_iff] at h ⊢
    obtain ⟨h1, h2, h3, -, -, h6, h7, -⟩ := h
    refine ⟨h1, h2, h3, .inr rfl, .inr rfl, .inl ?_, .inl ?_, .inl hn⟩
    · rcases hh with hh | hh
      · exact hh
      · exact h6.resolve_right fun h => by simp [hh] at h
    · exact h7.resolve_right fun h => by simp [h] at hs
  unfold State.startRun
  split
  · rename_i a ha
    split
    · refine (placeStart fun hs n hn => by simp [Node.slotFits, hs.ofPond ha hn]).trans (mapTransfer fun h => ?_)
      exact key _ _ (.inl rfl) h (by simp [ha])
    · exact mapTransfer fun h => key _ _ (.inr rfl) h (by simp [ha])
  · exact .refl s

theorem evalTransfer (s : State) : Keeps s s.evalTransfer := by
  rcases evalTransfer_cases s with ⟨h1, h2, -, h⟩ | ⟨h1, -, h⟩ | h <;> rw [h]
  · exact startRun (.inl h1) (.inl h2)
  · exact stopRun h1
  · exact .refl s

theorem satAdd32_lt (a b : Nat) : satAdd32 a b < Config.two32 := by
  simp only [satAdd32, Config.two32]; omega

/-- The pond's volume and spill changed, the volume within the capacity. -/
theorem mapPond {s : State} {f : Pond → Pond}
    (hk : ∀ p, ({ f p with volume := 0, spill := 0 } : Pond) = { p with volume := 0, spill := 0 })
    (h : s.water.sound = true → (f s.water.pond).volume ≤ s.water.pond.capacity ∧ (f s.water.pond).spill < Config.two32) :
    Keeps s (s.mapPond f) := by
  refine of_water (State.mapPond_skeleton f hk) fun hs => ?_
  have hv := h hs
  have hc : (f s.water.pond).capacity = s.water.pond.capacity := (congrArg Pond.capacity (hk s.water.pond) :)
  have hn : (f s.water.pond).node = s.water.pond.node := (congrArg Pond.node (hk s.water.pond) :)
  rw [Water.sound_iff] at hs ⊢
  obtain ⟨-, -, h3, h4, h5, h6, h7, h8⟩ := hs
  exact ⟨hc ▸ hv.1, hv.2, h3, h4, h5, h6, h7, hn ▸ h8⟩

theorem creditPond (s : State) (c : Nat) : Keeps s (s.creditPond c) := by
  have hp : Keeps s (s.mapPond fun p => p.credited c) :=
    mapPond (fun _ => rfl) fun _ => ⟨Nat.min_le_right _ _, satAdd32_lt _ _⟩
  unfold State.creditPond
  dsimp only
  split
  · exact hp.trans (evalTransfer _)
  · exact (hp.trans (raiseWater _)).trans (evalTransfer _)

theorem rollOver (s : State) : Keeps s s.rollOver := by
  unfold State.rollOver
  split
  · exact .refl s
  · have hw : Keeps s { s with water := { s.water with usedToday := 0, countedDay := dayOf s.now } } :=
      of_water rfl fun h => by
        rw [Water.sound_iff] at h ⊢
        exact ⟨h.1, h.2.1, by simp, h.2.2.2⟩
    exact hw.trans ((evalSpent _).trans (occasion _))

theorem takeLitres (s : State) (h : Header) (l : Nat) : Keeps s (s.takeLitres h l) := by
  cases h with
  | reuse => exact .refl s
  | fresh =>
    have hw : Keeps s { s with water := { s.water with usedToday := satAdd32 s.water.usedToday l } } :=
      of_water rfl fun hs => by
        rw [Water.sound_iff] at hs ⊢
        exact ⟨hs.1, hs.2.1, satAdd32_lt _ _, hs.2.2.2⟩
    exact hw.trans (evalSpent _)

end Keeps

end Sys2Proof.Machine
end

section
set_option Elab.async false
/-! PROOFS. The updates of piles, cannons, permits, weather and orders that stand in the preorder `Keeps`. -/

namespace Sys2Proof.Machine

/-! ## Tables changed entry by entry -/

theorem Table.update_eq_map {α : Type} (t : Table α) (k : Nat) (f : α → α) :
    Table.update t k f = t.map fun e => (e.1, if e.1 = k then f e.2 else e.2) := by
  simp only [Table.update]
  exact List.map_congr_left fun e _ => by split <;> rfl

/-- Of the entries changed in their places no more satisfy a condition, when the change makes none satisfy it. -/
theorem length_filter_map_le {α : Type} (t : List α) (g : α → α) (p : α → Bool) (h : ∀ e ∈ t, p (g e) = true → p e = true) :
    ((t.map g).filter p).length ≤ (t.filter p).length := by
  rw [List.filter_map, List.length_map, ← List.countP_eq_length_filter, ← List.countP_eq_length_filter]
  exact List.countP_mono_left h

/-! ## Piles -/

theorem State.pileAt_mem {s : State} {tag slot : Nat} {p : Pile} (h : s.pileAt? tag = some (slot, p)) :
    (slot, p) ∈ s.piles ∧ p.tag = tag :=
  ⟨List.mem_of_find?_eq_some h, by simpa using List.find?_some h⟩

theorem State.pileAt_get {s : State} {tag slot : Nat} {p : Pile} (hw : Table.wf s.piles = true)
    (h : s.pileAt? tag = some (slot, p)) : Table.get s.piles slot = some p :=
  Table.get_of_mem hw (State.pileAt_mem h).1

/-- Where no tag stands on two piles, a tag is live when a LIVE pile carries it. -/
theorem State.liveTag_iff {s : State} (h : (s.piles.map fun e => e.2.tag).Nodup) (k : Nat) :
    s.liveTag k = true ↔ ∃ e ∈ s.piles, e.2.tag = k ∧ e.2.life = .live := by
  simp only [State.liveTag, State.pileAt?, Option.any_eq_true_iff_get, ]
  cases hf : s.piles.find? fun e => e.2.tag == k with
  | none =>
    simp only [List.find?_eq_none, beq_iff_eq] at hf
    simp only [Option.isSome_none, Bool.false_eq_true, IsEmpty.exists_iff, false_iff, not_exists, not_and]
    exact fun e he ht => absurd ht (hf e he)
  | some e =>
    have he := List.mem_of_find?_eq_some hf
    have ht : e.2.tag = k := by simpa using List.find?_some hf
    simp only [Option.isSome_some, Option.get_some, beq_iff_eq, exists_const]
    refine ⟨fun hl => ⟨e, he, ht, hl⟩, fun ⟨d, hd, hdt, hdl⟩ => ?_⟩
    rwa [← List.inj_on_of_nodup_map h hd he (hdt.trans ht.symm)]

namespace Keeps

/-- The piles changed each in its slot. -/
theorem mapPiles {s : State} {g : Nat × Pile → Pile}
    (htag : Table.wf s.piles = true → ∀ e ∈ s.piles, (g e).tag = e.2.tag)
    (hr : s.pilesSound = true → ∀ e ∈ s.piles, s.pileInRange e.2 = true → s.pileInRange (g e) = true)
    (hl : s.permitsOnLive = true → ∀ e ∈ s.piles, e.2.life = .live →
      (g e).life = .live ∨ ∀ x ∈ s.permits.list, x.tag ≠ e.2.tag) :
    Keeps s { s with piles := s.piles.map fun e => (e.1, g e) } := by
  have htags : Table.wf s.piles = true →
      (s.piles.map fun e => (e.1, g e)).map (fun e => e.2.tag) = s.piles.map fun e => e.2.tag := fun hw => by
    rw [List.map_map]; exact List.map_congr_left fun e he => htag hw e he
  refine ⟨rfl, id, Table.wf_map _ _, fun h => ?_, id, id, id, id, id, id, id, fun h => ?_, fun _ h => h.2⟩
  · have hr := hr h
    obtain ⟨hw, hp, hg, hn⟩ := (State.pilesSound_iff _).1 h
    refine (State.pilesSound_iff _).2 ⟨Table.wf_map _ _ hw, fun e he => ?_, hg, htags hw ▸ hn⟩
    obtain ⟨d, hd, rfl⟩ := List.mem_map.1 he
    exact ⟨(hp d hd).1, hr d hd (hp d hd).2⟩
  · have hl := hl h
    obtain ⟨hw, hn, hp⟩ := (State.permitsOnLive_iff _).1 h
    refine (State.permitsOnLive_iff _).2 ⟨Table.wf_map _ _ hw, htags hw ▸ hn, fun x hx => ?_⟩
    obtain ⟨e, he, ht, hlive⟩ := (State.liveTag_iff hn _).1 (hp x hx)
    refine (State.liveTag_iff (s := { s with piles := _ }) (htags hw ▸ hn) _).2
      ⟨(e.1, g e), List.mem_map.2 ⟨e, he, rfl⟩, (htag hw e he).trans ht, ?_⟩
    exact (hl e he hlive).resolve_right fun hno => hno x hx ht.symm

/-- A pile changed in its slot; what is asked of the change is asked of the pile that stands there. -/
theorem mapPileAt {s : State} {slot : Nat} {f : Pile → Pile}
    (htag : Table.wf s.piles = true → ∀ p, Table.get s.piles slot = some p → (f p).tag = p.tag)
    (hr : s.pilesSound = true → ∀ p, Table.get s.piles slot = some p → s.pileInRange p = true → s.pileInRange (f p) = true)
    (hl : s.permitsOnLive = true → ∀ p, Table.get s.piles slot = some p → p.life = .live →
      (f p).life = .live ∨ ∀ x ∈ s.permits.list, x.tag ≠ p.tag) :
    Keeps s (s.mapPile slot f) := by
  rw [State.mapPile, Table.update_eq_map]
  refine mapPiles (fun hw e he => ?_) (fun h e he hp => ?_) fun h e he hp => ?_
  · split
    · rename_i hk
      exact htag hw e.2 (hk ▸ Table.get_of_mem hw he)
    · rfl
  · split
    · rename_i hk
      exact hr h e.2 (hk ▸ Table.get_of_mem ((State.pilesSound_iff _).1 h).1 he) hp
    · exact hp
  · split
    · rename_i hk
      exact hl h e.2 (hk ▸ Table.get_of_mem ((State.permitsOnLive_iff _).1 h).1 he) hp
    · exact .inl hp

/-- A pile changed in its slot. -/
theorem mapPile {s : State} {slot : Nat} {f : Pile → Pile} (htag : ∀ p, (f p).tag = p.tag)
    (hr : s.pilesSound = true → ∀ p, Table.get s.piles slot = some p → s.pileInRange p = true → s.pileInRange (f p) = true)
    (hl : s.permitsOnLive = true → ∀ p, Table.get s.piles slot = some p → p.life = .live →
      (f p).life = .live ∨ ∀ x ∈ s.permits.list, x.tag ≠ p.tag) :
    Keeps s (s.mapPile slot f) := mapPileAt (fun _ p _ => htag p) hr hl

/-- A LIVE or RETIRING pile changed in its slot, its life kept. -/
theorem mapPile' {s : State} {slot : Nat} {f : Pile → Pile} (htag : ∀ p, (f p).tag = p.tag) (hlife : ∀ p, (f p).life = p.life)
    (hr : s.pilesSound = true → ∀ p, Table.get s.piles slot = some p → s.pileInRange p = true → s.pileInRange (f p) = true) :
    Keeps s (s.mapPile slot f) :=
  mapPile htag hr fun _ p _ hp => .inl ((hlife p).trans hp)

end Keeps

/-- A pile whose surface moisture alone has changed is in range while it stays within the grade's Msat. -/
theorem State.pileInRange_of_m {s : State} {p q : Pile} {g : Grade} (hq : q = { p with m := q.m, lastWetted := q.lastWetted })
    (hg : s.gradeOf? p = some g) (hm : q.m ≤ g.msat) (hp : s.pileInRange p = true) : s.pileInRange q = true := by
  rw [hq]
  simp only [State.pileInRange, Bool.and_eq_true] at hp ⊢
  exact ⟨hp.1, by simpa [State.gradeOf?, hg] using (show (s.gradeOf? p).any (fun g => decide (q.m ≤ g.msat)) = true by simp [hg, hm])⟩

/-- The disturbance blend stays within the grade's Msat (R40). -/
theorem blend_le {g : Grade} {f : Nat} {mf : Option Nat} {p : Pile} (h : p.m ≤ g.msat) : (blend g f mf p).m ≤ g.msat := by
  simp only [blend]
  generalize min f 100 = k, (show min f 100 ≤ 100 from Nat.min_le_right _ _) = hk
  have h1 : p.m * (100 - k) ≤ g.msat * (100 - k) := Nat.mul_le_mul_right _ h
  have h2 : min (mf.getD p.mcore) g.msat * k ≤ g.msat * k := Nat.mul_le_mul_right _ (Nat.min_le_right _ _)
  have h3 : g.msat * (100 - k) + g.msat * k = g.msat * 100 := by rw [← Nat.mul_add]; congr 1; omega
  omega

theorem State.moisture_le {s : State} {p : Pile} {g : Grade} (hg : s.gradeOf? p = some g) (hp : s.pileInRange p = true) :
    p.m ≤ g.msat := by
  simp only [State.pileInRange, Bool.and_eq_true] at hp
  simpa [hg] using hp.2

namespace Keeps

theorem blendPile (s : State) (tag f : Nat) (mf : Option Nat) : Keeps s (s.blendPile tag f mf) := by
  unfold State.blendPile
  split
  · exact .refl s
  · rename_i slot p hp
    split
    · rename_i g hg
      refine mapPile' (fun _ => rfl) (fun _ => rfl) fun h q hq hr => ?_
      rw [State.pileAt_get ((State.pilesSound_iff _).1 h).1 hp] at hq
      cases hq
      exact State.pileInRange_of_m rfl hg (blend_le (State.moisture_le hg hr)) hr
    · exact .refl s

theorem markEstimated (s : State) (tag : Nat) : Keeps s (s.markEstimated tag) := by
  unfold State.markEstimated
  split
  · exact .refl s
  · split
    · exact .refl s
    · refine .trans ?_ (hand _ _ _)
      exact mapPile' (fun _ => rfl) (fun _ => rfl) fun _ _ _ hr => hr

theorem applyGain (s : State) (tag vm : Nat) : Keeps s (s.applyGain tag vm).1 := by
  unfold State.applyGain
  split
  · exact .refl s
  · rename_i slot p hp
    split
    · exact .refl s
    · rename_i g hg
      split
      · exact .refl s
      · have hm : Keeps s (s.mapPile slot fun p => passGain g vm s.now p) :=
          mapPile' (fun _ => rfl) (fun _ => rfl) fun h q hq hr => by
            rw [State.pileAt_get ((State.pilesSound_iff _).1 h).1 hp] at hq
            cases hq
            exact State.pileInRange_of_m rfl hg (Nat.min_le_left _ _) hr
        dsimp only
        split
        · exact hm
        · exact hm.trans (creditPond _ _)

theorem checkRetire (s : State) (tag : Nat) : Keeps s (s.checkRetire tag).1 := by
  unfold State.checkRetire
  split
  · exact .refl s
  · rename_i slot p hp
    split
    · rename_i hc
      refine .trans ?_ (hand _ _ _)
      refine mapPile (fun _ => rfl) (fun _ _ _ hr => hr) fun h q hq _ => .inr fun x hx ht => ?_
      rw [State.pileAt_get ((State.permitsOnLive_iff _).1 h).1 hp] at hq
      cases hq
      have : x ∈ s.permitsOn tag := List.mem_filter.2 ⟨hx, by simp [ht, (State.pileAt_mem hp).2]⟩
      simp [hc.2.2] at this
    · exact .refl s

/-- A RETIRING pile leaves its slot: no permit stands on it. -/
theorem checkFree (s : State) (tag : Nat) : Keeps s (s.checkFree tag) := by
  unfold State.checkFree
  split
  · exact .refl s
  · rename_i slot p hp
    split
    · rename_i hc
      refine Keeps.trans (t := { s with piles := Table.erase s.piles slot }) ?_ (hand _ _ _)
      have hsub : ((Table.erase s.piles slot).map fun e => e.2.tag).Sublist (s.piles.map fun e => e.2.tag) :=
        List.filter_sublist.map _
      refine ⟨rfl, id, Table.wf_erase _ _, fun h => ?_, id, id, id, id, id, id, id, fun h => ?_, fun _ h => h.2⟩
      · obtain ⟨hw, hr, hg, hn⟩ := (State.pilesSound_iff _).1 h
        exact (State.pilesSound_iff _).2 ⟨Table.wf_erase _ _ hw, fun e he => hr e (List.mem_filter.1 he).1, hg, hn.sublist hsub⟩
      · obtain ⟨hw, hn, hx⟩ := (State.permitsOnLive_iff _).1 h
        refine (State.permitsOnLive_iff _).2 ⟨Table.wf_erase _ _ hw, hn.sublist hsub, fun x hxs => ?_⟩
        obtain ⟨e, he, ht, hlive⟩ := (State.liveTag_iff hn _).1 (hx x hxs)
        refine (State.liveTag_iff (s := { s with piles := _ }) (hn.sublist hsub) _).2 ⟨e, List.mem_filter.2 ⟨he, ?_⟩, ht, hlive⟩
        simp only [bne_iff_ne, ne_eq]
        intro hk
        have := Table.get_of_mem hw he
        rw [hk, State.pileAt_get hw hp] at this
        simp only [Option.some.injEq] at this
        rw [← this, hc.1] at hlive
        exact absurd hlive (by decide)
    · exact .refl s

end Keeps

/-! ## Cannons -/

/-- A cannon after a change: its record as sound as it was, and no header gained. -/
def Cannon.Kept (c c' : Cannon) : Prop :=
  c'.config = c.config ∧ (c.sound = true → c'.sound = true) ∧ (c'.header = c.header ∨ c'.header = none)

theorem cannonsSound_map {s t : State} {g : Nat × Cannon → Cannon} (ht : t.cannons = s.cannons.map fun e => (e.1, g e))
    (h : s.cannonsSound = true → ∀ e ∈ s.cannons, e.2.sound = true →
      (g e).sound = true ∧ ((g e).header = e.2.header ∨ (g e).header = none))
    (hs : s.cannonsSound = true) : t.cannonsSound = true := by
  have h := h hs
  obtain ⟨hw, hc, hr, hf⟩ := (State.cannonsSound_iff _).1 hs
  have hh : ∀ x : Header, (t.holders x).length ≤ (s.holders x).length := fun x => by
    simp only [State.holders, List.length_map, ht]
    refine length_filter_map_le _ _ _ fun e he hp => ?_
    rcases (h e he (hc e he).2).2 with hx | hx
    · simpa [hx] using hp
    · simp [hx] at hp
  refine (State.cannonsSound_iff _).2 ⟨ht ▸ Table.wf_map _ _ hw, fun e he => ?_, (hh _).trans hr, (hh _).trans hf⟩
  obtain ⟨d, hd, rfl⟩ := List.mem_map.1 (ht ▸ he)
  exact ⟨(hc d hd).1, (h d hd (hc d hd).2).1⟩

namespace Keeps

/-- The cannons changed each in its entry, the configurations kept. -/
theorem mapCannons {s : State} {g : Cannon → Cannon} (h : ∀ c, Cannon.Kept c (g c)) :
    Keeps s { s with cannons := s.cannons.map fun e => (e.1, g e.2) } := by
  refine ⟨?_, id, id, id, id, id, id, id, id, cannonsSound_map rfl fun _ e _ he => ⟨(h e.2).2.1 he, (h e.2).2.2⟩,
    id, id, fun _ h => h.2⟩
  simp [State.skeleton, Function.comp_def, (h _).1]

/-- A cannon changed in its entry, its configuration kept. -/
theorem mapCannon {s : State} {n : Nat} {f : Cannon → Cannon} (hk : ∀ c, (f c).config = c.config)
    (h : ∀ c, s.cannon? n = some c → c.sound = true →
      (f c).sound = true ∧ ((f c).header = c.header ∨ (f c).header = none)) :
    Keeps s (s.mapCannon n f) := by
  refine ⟨State.mapCannon_skeleton n f hk, id, id, id, id, id, id, id, id, ?_, id, id, fun _ h => h.2⟩
  refine cannonsSound_map (g := fun e => if e.1 = n then f e.2 else e.2)
    (by rw [State.mapCannon_cannons, Table.update_eq_map]) fun hs e he hc => ?_
  split
  · rename_i hn
    exact h e.2 (hn ▸ Table.get_of_mem ((State.cannonsSound_iff _).1 hs).1 he) hc
  · exact ⟨hc, .inl rfl⟩

end Keeps

theorem Cannon.sound_iff (c : Cannon) :
    c.sound = true ↔ (c.aimPhase.isSome = true ↔ c.state = .aiming) ∧ (c.slew = none ∨ c.state = .aiming)
      ∧ (c.aimWaiting = false ∨ c.aimPhase = some .slewing)
      ∧ (c.blankingOn = false ∨ c.state = .aiming ∨ c.state = .spraying)
      ∧ (c.closeWait = none ∨ c.state = .rampDown ∨ c.state = .tripped ∨ c.state = .locked)
      ∧ (c.retry = none ∨ c.state = .tripped ∧ c.closeWait = none ∧ c.bound = none ∧ c.header = none)
      ∧ (c.bound = none ∨ c.state ≠ .idle ∧ c.state ≠ .lost ∧ c.state ≠ .resetting)
      ∧ (c.header = none ∨ c.state ≠ .idle ∧ c.state ≠ .lost) := by
  simp only [Cannon.sound, Bool.and_eq_true, Bool.or_eq_true, beq_iff_eq, Option.isNone_iff_eq_none, Bool.not_eq_true',
    Bool.or_eq_false_iff, beq_eq_false_iff_ne, and_assoc, or_assoc]
  rw [Bool.eq_iff_iff]
  simp

/-- A sound cannon in IDLE has no pass, no header slot and no timer. -/
theorem Cannon.idle_of_sound {c : Cannon} (h : c.sound = true) (hs : c.state = .idle) :
    c.aimPhase = none ∧ c.slew = none ∧ c.aimWaiting = false ∧ c.blankingOn = false ∧ c.closeWait = none ∧ c.retry = none
      ∧ c.bound = none ∧ c.header = none := by
  obtain ⟨h1, h2, h3, h4, h5, h6, h7, h8⟩ := (Cannon.sound_iff c).1 h
  simp_all

/-- A sound cannon in SPRAYING has no aim phase and no timer but the blanking timer. -/
theorem Cannon.spraying_of_sound {c : Cannon} (h : c.sound = true) (hs : c.state = .spraying) :
    c.aimPhase = none ∧ c.slew = none ∧ c.aimWaiting = false ∧ c.closeWait = none ∧ c.retry = none := by
  obtain ⟨h1, h2, h3, h4, h5, h6, h7, h8⟩ := (Cannon.sound_iff c).1 h
  simp_all

/-- A sound cannon in AIMING runs no close wait and no retry delay. -/
theorem Cannon.aiming_of_sound {c : Cannon} (h : c.sound = true) (hs : c.state = .aiming) :
    c.aimPhase.isSome = true ∧ c.closeWait = none ∧ c.retry = none := by
  obtain ⟨h1, h2, h3, h4, h5, h6, h7, h8⟩ := (Cannon.sound_iff c).1 h
  simp_all

@[simp] theorem State.placeClose_cannons (s : State) (n : Nat) : (s.placeClose n).cannons = s.cannons := by
  unfold State.placeClose; split <;> rfl

@[simp] theorem State.placeClose_dispatch (s : State) (n : Nat) : (s.placeClose n).dispatch = s.dispatch := by
  unfold State.placeClose; split <;> rfl

@[simp] theorem State.placeClose_cannon (s : State) (n k : Nat) : (s.placeClose n).cannon? k = s.cannon? k := by
  simp [State.cannon?]

theorem Order.Kept.mapPass (events : Nat) (o : Order) (f : Pass → Pass) : Order.Kept events o (o.mapPass f) :=
  ⟨rfl, fun h => h, fun h => h⟩

namespace Keeps

theorem mapBoundPass (s : State) (c : Cannon) (f : Pass → Pass) : Keeps s (s.mapBoundPass c f) := by
  unfold State.mapBoundPass
  split
  · exact mapOrder fun o => .mapPass _ o f
  · exact .refl s

theorem releaseHeader (s : State) (n : Nat) : Keeps s (s.releaseHeader n) := by
  rcases releaseHeader_cases s n with ⟨c, hc, -, h⟩ | ⟨-, h⟩ <;> rw [h]
  · refine .trans ?_ (occasion _)
    refine mapCannon (fun _ => rfl) fun d _ hd => ⟨?_, .inr rfl⟩
    rw [Cannon.sound_iff] at hd ⊢
    obtain ⟨h1, h2, h3, h4, h5, h6, h7, -⟩ := hd
    exact ⟨h1, h2, h3, h4, h5, h6.imp id fun h => ⟨h.1, h.2.1, h.2.2.1, rfl⟩, h7, .inl rfl⟩
  · exact .refl s

/-- A spraying pass ramps down. -/
theorem rampDown {s : State} {n : Nat} (h : ∀ c, s.cannon? n = some c → c.state = .spraying) : Keeps s (s.rampDown n) := by
  unfold State.rampDown
  split
  · refine .trans ((placeClose s n).trans ?_) (mapBoundPass _ _ _)
    refine mapCannon (fun _ => rfl) fun d hd hs => ⟨?_, .inl rfl⟩
    have hsp := h d (by simpa using hd)
    obtain ⟨h1, h2, h3, -, h5⟩ := Cannon.spraying_of_sound hs hsp
    simp [Cannon.sound_iff, h1, h2, h3, h5]
  · exact .refl s

/-- A cannon whose timers, pass and slot are all released goes to IDLE. -/
theorem toIdle {s : State} {n : Nat} (h : ∀ c, s.cannon? n = some c → c.sound = true → c.slew = none ∧ c.aimWaiting = false
    ∧ c.blankingOn = false ∧ c.closeWait = none ∧ c.retry = none ∧ c.bound = none ∧ c.header = none) :
    Keeps s (s.toIdle n) := by
  refine .trans ?_ (occasion _)
  refine mapCannon (fun _ => rfl) fun c hc hs => ⟨?_, .inl rfl⟩
  obtain ⟨h1, h2, h3, h4, h5, h6, h7⟩ := h c hc hs
  simp [Cannon.sound_iff, h1, h2, h3, h4, h5, h6, h7]

end Keeps

/-- After its release the header slot of a cannon is empty, and nothing else of it has changed. -/
theorem cannon_releaseHeader (s : State) (n k : Nat) :
    (s.releaseHeader n).cannon? k = if k = n then (s.cannon? k).map fun c => { c with header := none } else s.cannon? k := by
  rcases releaseHeader_cases s n with ⟨c, hc, -, h⟩ | ⟨hn, h⟩ <;> rw [h]
  · exact cannon_mapCannon s n k fun c => { c with header := none }
  · split
    · rename_i hk
      cases hc : s.cannon? k with
      | none => rfl
      | some c =>
        have := hn c (hk ▸ hc)
        cases c; simp_all
    · rfl

theorem Keeps.closeDown (s : State) (n : Nat) : Keeps s (s.closeDown n).1 := by
  rcases closeDown_cases s n with ⟨h, -⟩ | ⟨c, hc, ⟨hs, h⟩ | ⟨hs, hp, h⟩ | ⟨hs, hp, h⟩⟩ <;> rw [h]
  · exact .refl s
  · exact .rampDown fun d hd => by rw [hc] at hd; cases hd; exact hs
  all_goals
    have hu : Keeps s ((s.placeClose n).mapCannon n Cannon.unbound) :=
      (Keeps.placeClose s n).trans (.mapCannon (fun _ => rfl) fun d hd hsd => by
        simp only [State.placeClose_cannon, hc, Option.some.injEq] at hd
        subst hd
        obtain ⟨h1, h2, h3⟩ := Cannon.aiming_of_sound hsd hs
        refine ⟨?_, .inl rfl⟩
        simpa [Cannon.sound_iff, Cannon.unbound, hs, h2, h3] using h1)
  · refine hu.trans (.mapCannon (fun _ => rfl) fun d hd hsd => ⟨?_, .inl rfl⟩)
    simp only [cannon_mapCannon, if_true, State.placeClose_cannon, hc, Option.map_some, Option.some.injEq] at hd
    subst hd
    obtain ⟨-, -, h3⟩ := Cannon.aiming_of_sound hsd hs
    simp [Cannon.sound_iff, Cannon.unbound, show c.retry = none from h3]
  · refine (hu.trans (.releaseHeader _ n)).trans (.toIdle fun d hd hsd => ?_)
    simp only [cannon_releaseHeader, cannon_mapCannon, if_true, State.placeClose_cannon, hc, Option.map_some,
      Option.some.injEq] at hd
    subst hd
    obtain ⟨-, h2, h3⟩ := Cannon.aiming_of_sound hsd hs
    exact ⟨rfl, rfl, rfl, h2, h3, rfl, rfl⟩

theorem Keeps.decayTrips (s : State) : Keeps s s.decayTrips :=
  .mapCannons (s := s) (g := fun c => c.decayed s.now) fun c => by
    unfold Cannon.decayed
    split
    · split
      · exact ⟨rfl, fun h => h, .inl rfl⟩
      · exact ⟨rfl, fun h => h, .inl rfl⟩
    · exact ⟨rfl, fun h => h, .inl rfl⟩

end Sys2Proof.Machine
end

section
set_option Elab.async false
/-! PROOFS. The tellings of an event stand in the preorder `Keeps`: permits, weather, orders, and the whole agenda. -/

namespace Sys2Proof.Machine

/-! ## Permits -/

/-- A changed permit carries its id, machine, kind and pile, and is no worse than it was. -/
structure Permit.Kept (p p' : Permit) : Prop where
  id : p'.id = p.id
  machine : p'.machine = p.machine
  kind : p'.kind = p.kind
  tag : p'.tag = p.tag
  sound : p.sound = true → p'.sound = true

theorem Permit.Kept.refl (p : Permit) : Permit.Kept p p := ⟨rfl, rfl, rfl, rfl, fun h => h⟩

theorem Permit.sound_iff (p : Permit) :
    p.sound = true ↔ 1 ≤ p.id ∧ p.id ≤ 255 ∧ 1 ≤ p.machine ∧ p.machine ≤ 63
      ∧ (p.state = .pendingWet ∨ p.prewetOrder = none) := by
  simp [Permit.sound, within, and_assoc]

/-- Permits that go together still do when some of them have left. -/
theorem compatible_sublist {l l' : List Permit} (h : l'.Sublist l) (hl : compatible l = true) : compatible l' = true := by
  simp only [compatible, Bool.and_eq_true, decide_eq_true_eq] at hl ⊢
  exact ⟨((h.filter _).length_le).trans hl.1, ((h.filter _).length_le).trans hl.2⟩

/-- Permits changed each in its place, kinds kept, go together as they did. -/
theorem compatible_map {l : List Permit} {g : Permit → Permit} (h : ∀ p, (g p).kind = p.kind) :
    compatible (l.map g) = compatible l := by
  have key : ∀ c : PermitKind → Bool, ((l.map g).filter fun p => c p.kind).length = (l.filter fun p => c p.kind).length :=
    fun c => by simp [List.filter_map, Function.comp_def, h]
  simp only [compatible, key PermitKind.cuts, key fun k => k == .dozer]

namespace Keeps

/-- The permits changed each in its place. -/
theorem mapPermits {s : State} {c : Permit → Bool} {f : Permit → Permit} (h : ∀ p, c p = true → Permit.Kept p (f p)) :
    Keeps s (s.mapPermits c f) := by
  have hg : ∀ p, Permit.Kept p (if c p then f p else p) := fun p => by
    split
    · exact h p ‹_›
    · exact .refl p
  refine ⟨rfl, id, id, id, id, id, id, id, id, id, fun hs => ?_, fun hs => ?_, fun _ h => h.2⟩
  · obtain ⟨hl, hp, hi, hm, hc, hn⟩ := (Permits.sound_iff _).1 hs
    have hmap : ∀ {β : Type} (k : Permit → β), (∀ p, k (if c p then f p else p) = k p) →
        (s.permits.list.map fun p => if c p then f p else p).map k = s.permits.list.map k := fun k hk => by
      rw [List.map_map]; exact List.map_congr_left fun p _ => hk p
    refine (Permits.sound_iff _).2 ⟨?_, fun q hq => ?_, ?_, ?_, fun q hq => ?_, hn⟩
    · simpa [State.mapPermits] using hl
    · obtain ⟨p, hpm, rfl⟩ := List.mem_map.1 hq
      exact (hg p).sound (hp p hpm)
    · exact (hmap Permit.id fun p => (hg p).id).symm ▸ hi
    · exact (hmap Permit.machine fun p => (hg p).machine).symm ▸ hm
    · obtain ⟨p, hpm, rfl⟩ := List.mem_map.1 hq
      have := hc p hpm
      simp only [State.mapPermits, List.filter_map, (hg p).tag, Function.comp_def, (hg _).tag]
      rwa [compatible_map fun q => (hg q).kind]
  · obtain ⟨hw, hn, hp⟩ := (State.permitsOnLive_iff _).1 hs
    refine (State.permitsOnLive_iff _).2 ⟨hw, hn, fun q hq => ?_⟩
    obtain ⟨p, hpm, rfl⟩ := List.mem_map.1 hq
    rw [(hg p).tag]
    exact hp p hpm

theorem endPermit (s : State) (q : Option Nat) (m : Nat) (x : PermitOutcome) (w : Bool) :
    Keeps s (s.endPermit q m x w).1 := by
  unfold State.endPermit
  split
  · exact .refl s
  · rename_i p _
    refine Keeps.trans (t := { s with permits := { s.permits with
      list := s.permits.list.filter fun y => y.machine != m
      outcomes := Table.set s.permits.outcomes m (s.outcomeEntry p x w) } }) ?_ (handPermit _ _ _)
    refine ⟨rfl, id, id, id, Table.wf_set _ _ _, id, id, id, id, id, fun hs => ?_, fun hs => ?_, fun _ h => h.2⟩
    · obtain ⟨hl, hp, hi, hm, hc, hn⟩ := (Permits.sound_iff _).1 hs
      refine (Permits.sound_iff _).2 ⟨(List.length_filter_le _ _).trans hl, fun q hq => hp q (List.mem_filter.1 hq).1,
        hi.sublist (List.filter_sublist.map _), hm.sublist (List.filter_sublist.map _), fun q hq => ?_, hn⟩
      exact compatible_sublist (List.filter_sublist.filter _) (hc q (List.mem_filter.1 hq).1)
    · obtain ⟨hw, hn, hp⟩ := (State.permitsOnLive_iff _).1 hs
      exact (State.permitsOnLive_iff _).2 ⟨hw, hn, fun q hq => hp q (List.mem_filter.1 hq).1⟩

end Keeps

/-- An order ended is sound, and ended in the event at hand. -/
theorem Order.Kept.ofEnded {events : Nat} (o : Order) (x : OrderOutcome) (now : Nat) :
    Order.Kept events o (o.ended x now events) := by
  refine ⟨rfl, fun h => ?_, fun _ => le_refl _⟩
  obtain ⟨h1, h2, h3, h4, h5, -⟩ := (Order.sound_iff _).1 h
  exact (Order.sound_iff _).2 ⟨h1, h2, h3, h4, h5, .inr ⟨rfl, rfl, rfl⟩⟩

theorem Order.Kept.withReason (events : Nat) (o : Order) (r : Reason) : Order.Kept events o (o.withReason r) := by
  refine ⟨rfl, fun h => ?_, fun h => h⟩
  obtain ⟨h1, h2, h3, h4, h5, h6⟩ := (Order.sound_iff _).1 h
  refine (Order.sound_iff _).2 ⟨h1, h2, h3, h4, h5, h6.imp (fun h => h) fun ⟨a, b, c⟩ => ⟨a, b, ?_⟩⟩
  simp [Order.withReason, c]

namespace Keeps

theorem endOrder (s : State) (i : Nat) (x : OrderOutcome) : Keeps s (s.endOrder i x).1 :=
  mapOrder fun o => .ofEnded o x s.now

theorem lapseOrder (s : State) (i : Nat) : Keeps s (s.lapseOrder i).1 := by
  unfold State.lapseOrder
  split
  · split
    · exact endOrder s i _
    · exact .refl s
  · exact .refl s

theorem dropReason (s : State) (i : Nat) (r : Reason) : Keeps s (s.dropReason i r) := by
  unfold State.dropReason
  split
  · exact .refl s
  · split
    · have h : Keeps s (s.mapOrder i fun o => { o with suspension := o.suspension.drop r }) :=
        mapOrder fun o => ⟨rfl, fun h => h, id⟩
      split
      · exact h.trans (occasion _)
      · exact h
    · exact .refl s

theorem dropHold (s : State) : Keeps s s.dropHold := by
  have h : Keeps s { s with dispatch := { s.dispatch with orders := s.dispatch.orders.map fun o =>
      if o.isOpen then { o with suspension := o.suspension.drop .hold } else o } } :=
    orders (d := s.dispatch.due) fun o => by
      split
      · exact ⟨rfl, fun h => h, id⟩
      · exact .refl _ o
  unfold State.dropHold
  dsimp only
  split
  · exact h.trans (occasion _)
  · exact h

theorem closePass (s : State) (o : Order) : Keeps s (s.closePass o).1 := by
  rcases closePass_cases s o with ⟨-, h⟩ | ⟨p, -, -, h⟩ <;> rw [h]
  · exact .refl s
  · exact closeDown s _

theorem addReason (s : State) (i : Nat) (r : Reason) : Keeps s (s.addReason i r).1 := by
  rcases addReason_cases s i r with ⟨-, h⟩ | ⟨o, -, -, -, h⟩ <;> rw [h]
  · exact .refl s
  · exact (mapOrder fun o => .withReason _ o r).trans (closePass _ _)

theorem cancel (s : State) (i : Nat) : Keeps s (s.cancel i).1 := by
  unfold State.cancel
  split
  · exact .refl s
  · split
    · exact endOrder s i _
    · exact endOrder s i _
    · exact .refl s
    · split
      · exact .refl s
      · refine .trans ?_ (closePass _ _)
        exact mapOrder fun o => ⟨rfl, fun h => h, id⟩

theorem closePassOf (s : State) (i : Nat) : Keeps s (s.closePassOf i).1 := by
  unfold State.closePassOf
  split
  · exact closePass s _
  · exact .refl s

theorem passEnd (s : State) (i : Nat) (k : PassKind) (v : Nat) : Keeps s (s.passEnd i k v).1 := by
  unfold State.passEnd
  split
  · exact .refl s
  · refine .trans ?_ (applyGain _ _ _)
    refine mapOrder fun o => ⟨rfl, fun h => ?_, id⟩
    obtain ⟨h1, h2, h3, h4, -, h6⟩ := (Order.sound_iff _).1 h
    exact (Order.sound_iff _).2 ⟨h1, h2, h3, h4, satAdd32_lt _ _, h6⟩

theorem passNext (s : State) (i : Nat) (k : PassKind) : Keeps s (s.passNext i k).1 := by
  unfold State.passNext
  split
  · exact .refl s
  · have h : Keeps s (s.mapOrder i fun o => { o with pass := none }).evalSpent := by
      refine .trans ?_ (evalSpent _)
      exact mapOrder fun o => ⟨rfl, fun h => h, id⟩
    have he : ∀ u : State, u.evalSpent.events = u.events := fun u => by rw [evalSpent_eq]
    dsimp only
    split
    · refine h.trans (mapOrder fun o => ?_)
      rw [he]
      exact .ofEnded o _ _
    · refine (h.trans ?_).trans (occasion _)
      refine mapOrder fun o => ⟨rfl, fun h => ?_, id⟩
      obtain ⟨h1, h2, h3, h4, h5, -⟩ := (Order.sound_iff _).1 h
      exact (Order.sound_iff _).2 ⟨h1, h2, h3, h4, h5, .inl nofun⟩

theorem endOpenPrewet (s : State) (tag : Nat) : Keeps s (s.endOpenPrewet tag).1 := by
  unfold State.endOpenPrewet
  split
  · split
    · exact endOrder s _ _
    · exact .refl s
  · exact .refl s

theorem enterClearing (s : State) (tag : Nat) : Keeps s (s.enterClearing tag).1 :=
  orders (d := s.dispatch.due) fun o => by
    split
    · exact .withReason _ o _
    · exact .refl _ o

theorem tellPile (s : State) (q : Option Nat) (tag : Nat) : Keeps s (s.tellPile q tag).1 := by
  unfold State.tellPile
  split
  · exact .refl s
  · dsimp only
    split
    · refine .trans (.trans (.trans ?_ (foldl (fun s (p : Permit) => handPermit s q p.machine) _ _)) (endOpenPrewet _ tag))
        (enterClearing _ tag)
      refine mapPermits fun p _ => ?_
      refine ⟨rfl, rfl, rfl, rfl, fun h => ?_⟩
      obtain ⟨h1, h2, h3, h4, -⟩ := (Permit.sound_iff _).1 h
      exact (Permit.sound_iff _).2 ⟨h1, h2, h3, h4, .inr rfl⟩
    · exact .refl s

theorem askGrant (s : State) (q : Option Nat) (tag : Nat) : Keeps s (s.askGrant q tag) := by
  unfold State.askGrant
  split
  · exact .refl s
  · refine .trans ?_ (foldl (fun s (p : Permit) => handPermit s q p.machine) _ _)
    refine mapPermits fun p hp => ?_
    refine ⟨rfl, rfl, rfl, rfl, fun h => ?_⟩
    obtain ⟨h1, h2, h3, h4, h5⟩ := (Permit.sound_iff _).1 h
    refine (Permit.sound_iff _).2 ⟨h1, h2, h3, h4, .inr (h5.resolve_left fun h => ?_)⟩
    simp [Permit.clearsOn, h] at hp

theorem passTold (s : State) (q : Option Nat) (tag : Nat) : Keeps s (s.passTold q tag).1 := by
  unfold State.passTold
  dsimp only
  split
  · split
    · exact (askGrant s q tag).trans (endOrder _ _ _)
    · exact askGrant s q tag
  · exact askGrant s q tag

end Keeps

/-! ## Ids (R74, R143) -/

/-- The id counted on `i` times from `next`, from `top` round to 1. -/
def idAfter (top next i : Nat) : Nat := (next - 1 + i) % top + 1

theorem idAfter_succ {top next i : Nat} (h1 : 1 ≤ next) (ht : next ≤ top) :
    idAfter top (next % top + 1) i = idAfter top next (i + 1) := by
  simp only [idAfter, Nat.add_sub_cancel]
  rcases Nat.lt_or_eq_of_le ht with h | rfl
  · rw [Nat.mod_eq_of_lt h, show next - 1 + (i + 1) = next + i by omega]
  · rw [Nat.mod_self, show next - 1 + (i + 1) = i + next by omega, Nat.add_mod_right, Nat.zero_add]

/-- The search for a free id stops at the first one that is in no list, or at its last step. -/
theorem freeId_cases (top : Nat) (taken : List Nat) (fuel next : Nat) (h1 : 1 ≤ next) (ht : next ≤ top) :
    ∃ j ≤ fuel, freeId top taken fuel next = idAfter top next j ∧ (∀ i < j, idAfter top next i ∈ taken)
      ∧ (j < fuel → idAfter top next j ∉ taken) := by
  induction fuel generalizing next with
  | zero =>
    refine ⟨0, le_refl _, ?_, by simp, by simp⟩
    rw [freeId, idAfter, Nat.add_zero, Nat.mod_eq_of_lt (by omega)]; omega
  | succ fuel ih =>
    have hself : idAfter top next 0 = next := by rw [idAfter, Nat.add_zero, Nat.mod_eq_of_lt (by omega)]; omega
    by_cases hc : next ∈ taken
    · obtain ⟨j, hj, he, hi, hn⟩ := ih (next % top + 1) (by omega) (Nat.mod_lt _ (by omega))
      refine ⟨j + 1, by omega, ?_, fun i hi' => ?_, fun hj' => ?_⟩
      · rw [freeId, if_pos (by simpa using hc), he, idAfter_succ h1 ht]
      · rcases i with _ | i
        · rwa [hself]
        · rw [← idAfter_succ h1 ht]; exact hi i (by omega)
      · rw [← idAfter_succ h1 ht]; exact hn (by omega)
    · refine ⟨0, by omega, ?_, by simp, fun _ => by rwa [hself]⟩
      rw [freeId, if_neg (by simpa using hc), hself]

/-- Of fewer taken ids than steps, one is free: the search answers an id in range that is in no list. -/
theorem freeId_free {top : Nat} {taken : List Nat} {fuel next : Nat} (h1 : 1 ≤ next) (ht : next ≤ top)
    (hlen : taken.length < fuel) (htop : fuel ≤ top) :
    freeId top taken fuel next ∉ taken ∧ 1 ≤ freeId top taken fuel next ∧ freeId top taken fuel next ≤ top := by
  obtain ⟨j, hj, he, hi, hn⟩ := freeId_cases top taken fuel next h1 ht
  have hlt : j < fuel := by
    by_contra hge
    have hjf : j = fuel := by omega
    subst hjf
    have hinj : Set.InjOn (idAfter top next) (Finset.range j) := fun a ha b hb hab => by
      simp only [Finset.coe_range, Set.mem_Iio] at ha hb
      simp only [idAfter, Nat.add_right_cancel_iff] at hab
      have := Nat.ModEq.add_left_cancel' _ (show (next - 1 + a) ≡ (next - 1 + b) [MOD top] from hab)
      exact Nat.ModEq.eq_of_lt_of_lt this (by omega) (by omega)
    have hsub : (Finset.range j).image (idAfter top next) ⊆ taken.toFinset := fun x hx => by
      obtain ⟨i, hij, rfl⟩ := Finset.mem_image.1 hx
      exact List.mem_toFinset.2 (hi i (Finset.mem_range.1 hij))
    have := (Finset.card_le_card hsub).trans (List.toFinset_card_le taken)
    rw [Finset.card_image_of_injOn hinj, Finset.card_range] at this
    omega
  refine ⟨he ▸ hn hlt, ?_, ?_⟩ <;> rw [he, idAfter]
  · omega
  · exact Nat.mod_lt _ (by omega)

/-- An id not yet taken is the one given (R74). -/
theorem freeId_self {top : Nat} {taken : List Nat} {fuel next : Nat} (h : next ∉ taken) :
    freeId top taken fuel next = next := by
  cases fuel with
  | zero => rfl
  | succ n => rw [freeId, if_neg (by simpa using h)]

/-! ## Acceptance (R80) -/

/-- Of a list of orders none is found to have ended first exactly when all are open. -/
theorem endedFirst_eq_none_iff (l : List Order) : endedFirst l = none ↔ ∀ o ∈ l, o.isOpen = true := by
  induction l with
  | nil => simp [endedFirst]
  | cons o t ih =>
    cases h : endedFirst t with
    | none =>
      have := ih.1 h
      simp only [endedFirst, h, List.mem_cons, forall_eq_or_imp]
      cases ho : o.isOpen
      · simp
      · simpa using this
    | some x =>
      have hx : ¬ ∀ o ∈ t, o.isOpen = true := fun hall => by simp [ih.2 hall] at h
      simp only [endedFirst, h, List.mem_cons, forall_eq_or_imp]
      constructor
      · intro hn; split at hn
        · cases hn
        · split at hn <;> cases hn
      · exact fun h => absurd h.2 hx

/-- The order found to have ended first is an ended one of the list. -/
theorem endedFirst_mem {l : List Order} {x : Order} (h : endedFirst l = some x) : x ∈ l ∧ x.state = .ended := by
  induction l generalizing x with
  | nil => simp [endedFirst] at h
  | cons o t ih =>
    have hopen : ¬ o.isOpen = true → o.state = .ended := fun ho => by simpa [Order.isOpen] using ho
    cases ht : endedFirst t with
    | none =>
      simp only [endedFirst, ht] at h
      split at h
      · cases h
      · cases h; exact ⟨by simp, hopen ‹_›⟩
    | some z =>
      obtain ⟨hz, hzs⟩ := ih ht
      simp only [endedFirst, ht] at h
      split at h
      · cases h; exact ⟨by simp [hz], hzs⟩
      · split at h
        · cases h; exact ⟨by simp [hz], hzs⟩
        · cases h; exact ⟨by simp, hopen ‹_›⟩

/-- The state with room made for one more order, by freeing the entry that ended first when all are taken (R80). -/
def State.withRoom (s : State) : State :=
  match s.evicted with
  | some o => s.freeOrder o.id
  | none => s

/-- The id the next order accepted is given (R74, R80). -/
def State.acceptedId (s : State) : Nat :=
  freeId 65535 (s.withRoom.dispatch.orders.map Order.id) (Config.orders + 1) s.withRoom.dispatch.nextId

/-- The record a request starts with, ended DONE at once when nothing is left to deliver (R80, R91). -/
def State.acceptedOrder (s : State) (r : OrderRequest) : Order :=
  if (s.withRoom.newOrder r s.acceptedId).complete then
    (s.withRoom.newOrder r s.acceptedId).ended .done s.now s.events
  else s.withRoom.newOrder r s.acceptedId

/-- The order table once a request has been accepted. -/
def State.accepted (s : State) (r : OrderRequest) : State :=
  { s.withRoom with dispatch := { s.withRoom.dispatch with
    orders := s.withRoom.dispatch.orders ++ [s.acceptedOrder r], nextId := s.acceptedId % 65535 + 1 } }

/-- An acceptance, in full (R80). -/
theorem accept_eq (s : State) (r : OrderRequest) :
    s.accept r = (if !(s.withRoom.newOrder r s.acceptedId).complete
        && (s.withRoom.newOrder r s.acceptedId).state == .waiting then (s.accepted r).occasion else s.accepted r,
      s.acceptedId, s.evicted.map Order.id,
      if (s.withRoom.newOrder r s.acceptedId).complete then [.orderEnded s.acceptedId] else []) := rfl

theorem acceptedOrder_id (s : State) (r : OrderRequest) : (s.acceptedOrder r).id = s.acceptedId := by
  unfold State.acceptedOrder; split <;> rfl

/-- Room is made by freeing the entry of an ended order, or there was room. -/
theorem withRoom_cases (s : State) :
    (s.dispatch.orders.length < Config.orders ∧ s.withRoom = s)
      ∨ (∃ o ∈ s.dispatch.orders, o.state = .ended ∧ s.withRoom = s.freeOrder o.id)
      ∨ (s.ordersFull = true ∧ s.withRoom = s) := by
  unfold State.withRoom State.evicted
  split_ifs with hlt
  · exact .inl ⟨hlt, rfl⟩
  · cases he : endedFirst s.dispatch.orders with
    | none =>
      refine .inr (.inr ⟨?_, rfl⟩)
      rw [State.ordersFull, List.filter_eq_self.2 ((endedFirst_eq_none_iff _).1 he)]
      simpa using hlt
    | some x => exact .inr (.inl ⟨x, (endedFirst_mem he).1, (endedFirst_mem he).2, rfl⟩)

/-- Where 32 orders are not open an acceptance finds room: fewer than 32 orders are left once the entry that ended first is
freed. -/
theorem withRoom_length {s : State} (hf : s.ordersFull = false) (hl : s.dispatch.orders.length ≤ Config.orders) :
    s.withRoom.dispatch.orders.length < Config.orders := by
  rcases withRoom_cases s with ⟨hlt, h⟩ | ⟨o, ho, -, h⟩ | ⟨hfull, -⟩
  · rwa [h]
  · rw [h]
    exact Nat.lt_of_lt_of_le (List.length_filter_lt_length_iff_exists.2 ⟨o, ho, by simp⟩) hl
  · simp [hf] at hfull

theorem withRoom_events (s : State) : s.withRoom.events = s.events := by
  unfold State.withRoom; split <;> rfl

/-- The order table as far as the numbering of orders goes: at most 32 orders, no id twice, and the next id in range (R74). -/
structure Dispatcher.Numbered (d : Dispatcher) : Prop where
  room : d.orders.length ≤ Config.orders
  ids : (d.orders.map Order.id).Nodup
  next : 1 ≤ d.nextId ∧ d.nextId ≤ 65535

theorem Dispatcher.Numbered.of_sound {d : Dispatcher} (h : d.sound = true) : d.Numbered := by
  obtain ⟨hl, -, hn, h1, h2⟩ := (Dispatcher.sound_iff _).1 h
  exact ⟨hl, hn, h1, h2⟩

/-- The id given is in range and no kept order has it. -/
theorem acceptedId_free {s : State} (hs : s.dispatch.Numbered) (hf : s.ordersFull = false) :
    s.acceptedId ∉ s.withRoom.dispatch.orders.map Order.id ∧ 1 ≤ s.acceptedId ∧ s.acceptedId ≤ 65535 := by
  obtain ⟨hl, -, h1, h2⟩ := hs
  have hlen := withRoom_length hf hl
  have hnext : s.withRoom.dispatch.nextId = s.dispatch.nextId := by unfold State.withRoom; split <;> rfl
  exact freeId_free (hnext ▸ h1) (hnext ▸ h2) (by simp; omega) (by decide)

namespace Keeps

theorem withRoom (s : State) : Keeps s s.withRoom := by
  unfold State.withRoom
  split
  · exact freeOrder s _
  · exact .refl s

/-- An order is accepted where the table has room for one more open order. -/
theorem accept {s : State} {r : OrderRequest} (hr : r.priority ≤ 3) (hf : s.ordersFull = false) : Keeps s (s.accept r).1 := by
  have hs1 := withRoom s
  have hd : Keeps s (s.accepted r) := by
    refine ⟨hs1.skeleton, hs1.notices, hs1.pilesWf, hs1.piles, hs1.outcomes, hs1.weather, fun h => ?_, fun h => ?_, hs1.water,
      hs1.cannons, hs1.permits, hs1.onLive, hs1.slots⟩
    · have hlen := withRoom_length hf ((Dispatcher.sound_iff _).1 h).1
      obtain ⟨-, ho, hn, -, -⟩ := (Dispatcher.sound_iff _).1 (hs1.dispatch h)
      obtain ⟨hfree, hi1, hi2⟩ := acceptedId_free (.of_sound h) hf
      have hnew : (s.acceptedOrder r).sound = true := by
        unfold State.acceptedOrder
        split
        · exact (Order.sound_iff _).2 ⟨hi1, hi2, hr, Nat.zero_le _, by simp [State.newOrder, Order.ended], .inr ⟨rfl, rfl, rfl⟩⟩
        · refine (Order.sound_iff _).2 ⟨hi1, hi2, hr, Nat.zero_le _, by simp [State.newOrder], .inl ?_⟩
          simp only [State.newOrder]
          split <;> decide
      refine (Dispatcher.sound_iff _).2 ⟨?_, ?_, ?_, by simp [State.accepted], ?_⟩
      · simp only [State.accepted, List.length_append, List.length_singleton]; omega
      · simpa [State.accepted, or_imp, forall_and] using ⟨ho, hnew⟩
      · simp only [State.accepted, List.map_append, List.map_cons, List.map_nil, acceptedOrder_id, List.nodup_append]
        exact ⟨hn, by simp, fun a ha b hb hab => hfree (by simp only [List.mem_singleton] at hb; rw [← hb, ← hab]; exact ha)⟩
      · have := Nat.mod_lt s.acceptedId (show 0 < 65535 by decide)
        simp only [State.accepted]; omega
    · intro o ho
      rcases List.mem_append.1 ho with ho | ho
      · exact hs1.ended h o ho
      · simp only [List.mem_singleton] at ho
        subst ho
        unfold State.acceptedOrder
        split
        · exact (withRoom_events s).ge
        · exact Nat.zero_le _
  rw [accept_eq]
  dsimp only
  split
  · exact hd.trans (occasion _)
  · exact hd

theorem askPrewet (s : State) (tag : Nat) (only : Option Nat) : Keeps s (s.askPrewet tag only).1 := by
  have hp : ∀ (s : State) (i : Option Nat), Keeps s (s.mapPermits (fun x => x.asksOn tag only) fun x => { x with prewetOrder := i }) :=
    fun s i => mapPermits fun p hp => ⟨rfl, rfl, rfl, rfl, fun h => by
      obtain ⟨h1, h2, h3, h4, -⟩ := (Permit.sound_iff _).1 h
      refine (Permit.sound_iff _).2 ⟨h1, h2, h3, h4, .inl ?_⟩
      simp only [Permit.asksOn, Permit.waitsOn, Bool.and_eq_true, beq_iff_eq] at hp
      exact hp.1.1.2⟩
  rcases askPrewet_cases s tag only with ⟨-, h⟩ | ⟨o, -, h⟩ | ⟨-, -, h⟩ | ⟨slot, p, g, a, -, hf, -, -, ha, h⟩ <;> rw [h]
  · exact .refl s
  · exact hp s _
  · exact .refl s
  · subst ha
    refine Keeps.trans ?_ (hp _ _)
    exact accept (by simp [State.prewetRequest]) hf

theorem prewetEnded (s : State) (i : Nat) (x : OrderOutcome) : Keeps s (s.prewetEnded i x).1 := by
  unfold State.prewetEnded
  split
  · refine mapPermits fun p hp => ⟨rfl, rfl, rfl, rfl, fun h => ?_⟩
    obtain ⟨h1, h2, h3, h4, -⟩ := (Permit.sound_iff _).1 h
    exact (Permit.sound_iff _).2 ⟨h1, h2, h3, h4, .inr rfl⟩
  all_goals exact .refl s

theorem liftZone (s : State) (tag : Nat) : Keeps s (s.liftZone tag) := by
  unfold State.liftZone
  split
  · exact .refl s
  · split
    · exact foldl (fun s (o : Order) => dropReason s o.id .zone) _ s
    · exact .refl s

theorem orderEnded (s : State) (i : Nat) : Keeps s (s.orderEnded i).1 := by
  unfold State.orderEnded
  split
  · exact .refl s
  · exact hand s _ _

theorem expirePrewet (s : State) (m : Nat) : Keeps s (s.expirePrewet m).1 := by
  unfold State.expirePrewet
  split
  · split <;> exact .refl s
  · exact .refl s

theorem lapsePermit (s : State) (m : Nat) : Keeps s (s.lapsePermit m).1 := by
  unfold State.lapsePermit
  split
  · split
    · exact (blendPile s _ _ _).trans (markEstimated _ _)
    · exact .refl s
  · exact .refl s

end Keeps

end Sys2Proof.Machine
end

section
set_option Elab.async false
/-! PROOFS. The selection of the weather, the agenda of an event, and the controller's own operations stand in `Keeps`. -/

namespace Sys2Proof.Machine

/-! ## Weather (R50 to R53) -/

theorem Mast.sound_iff (m : Mast) :
    m.sound = true ↔ m.ring.length ≤ 4 ∧ (∀ v ∈ m.ring, v ≤ Config.maxWind) ∧ m.fresh = !m.ring.isEmpty
      ∧ (∀ v, m.inst = some v → v ≤ Config.maxWind) ∧ (∀ v, m.octant = some v → v ≤ 7)
      ∧ (∀ v, m.pendingOctant = some v → v ≤ 7) ∧ m.gustCount ≤ 1 ∧ (∀ v, m.direction = some v → v ≤ 359)
      ∧ (∀ v, m.rh = some v → v ≤ 100) ∧ (∀ v, m.rain = some v → v ≤ 999)
      ∧ (∀ v, m.temp = some v → tempInRange v = true) ∧ (∀ v, m.age = some v → v ≤ 65535) := by
  simp [Mast.sound, atMost, Option.all_eq_true, and_assoc]

theorem Weather.inRange_iff (w : Weather) :
    w.inRange = true ↔ w.speed ≤ Config.maxWind ∧ w.gustSpeed ≤ Config.maxWind ∧ w.octant ≤ 8 ∧ w.rh ≤ 100 ∧ w.rain ≤ 999
      ∧ tempInRange w.temp = true := by
  simp [Weather.inRange, and_assoc]

theorem State.weatherSound_iff (s : State) :
    s.weatherSound = true ↔ (∀ e ∈ s.wind.masts, e.1 < Config.masts ∧ e.2.sound = true) ∧ s.wind.weather.inRange = true
      ∧ s.wind.lastOctant ≤ 7 ∧ s.forecast.sound = true := by
  simp [State.weatherSound, and_assoc]

theorem Forecast.sound_iff (f : Forecast) :
    f.sound = true ↔ f.slots.length ≤ Config.forecastSlots ∧ (∀ x ∈ f.slots, x.inRange = true)
      ∧ slotsFollow f.slots = true ∧ f.codes.length = 4 ∧ f.latest.length = 5 := by
  simp [Forecast.sound, and_assoc]

theorem foldl_max_le {l : List Nat} {k n : Nat} (hk : k ≤ n) (h : ∀ v ∈ l, v ≤ n) : l.foldl max k ≤ n := by
  induction l generalizing k with
  | nil => exact hk
  | cons a l ih => exact ih (max_le hk (h a (by simp))) fun v hv => h v (by simp [hv])

/-- The average of a sound mast's ring is a wind speed (R44). -/
theorem Mast.average_le {m : Mast} (h : ∀ v ∈ m.ring, v ≤ Config.maxWind) : m.average.getD 0 ≤ Config.maxWind := by
  unfold Mast.average
  split
  · simp
  · have hs := List.sum_le_card_nsmul m.ring Config.maxWind h
    rw [smul_eq_mul] at hs
    exact Nat.div_le_of_le_mul hs

/-- The peak of a sound mast's ring is a wind speed (R44). -/
theorem Mast.peak_le {m : Mast} (h : ∀ v ∈ m.ring, v ≤ Config.maxWind) : m.peak.getD 0 ≤ Config.maxWind := by
  unfold Mast.peak
  split
  · simp
  · exact foldl_max_le (Nat.zero_le _) h

theorem lowestTemp_inRange {ms : List Mast} (h : ∀ m ∈ ms, ∀ v, m.temp = some v → tempInRange v = true) (t : Int)
    (ht : lowestTemp ms = some t) : tempInRange t = true := by
  induction ms generalizing t with
  | nil => simp [lowestTemp] at ht
  | cons m l ih =>
    have ih := ih fun m hm => h m (by simp [hm])
    have hm := h m (by simp)
    cases hmt : m.temp with
    | none => simp only [lowestTemp, hmt] at ht; exact ih t ht
    | some a =>
      cases hlt : lowestTemp l with
      | none => simp only [lowestTemp, hmt, hlt, Option.some.injEq] at ht; exact ht ▸ hm a hmt
      | some b =>
        simp only [lowestTemp, hmt, hlt, Option.some.injEq] at ht
        rcases min_choice a b with hab | hab <;> rw [hab] at ht
        · exact ht ▸ hm a hmt
        · exact ht ▸ ih b hlt

/-- The octant made definite is one of the eight (R51, R53). -/
theorem Wind.definite_le {w : Wind} (h : w.lastOctant ≤ 7) (o : Nat) : w.definite o ≤ 7 := by
  unfold Wind.definite
  split <;> omega

theorem getD_le {x : Option Nat} {d n : Nat} (hd : d ≤ n) (h : ∀ v, x = some v → v ≤ n) : x.getD d ≤ n := by
  cases x with
  | none => exact hd
  | some v => exact h v rfl

/-- What a selection takes is in the ranges of R50. -/
theorem weatherNow_inRange {s : State} (h : s.weatherSound = true) : s.weatherNow.inRange = true := by
  obtain ⟨hm, hw, ho, hf⟩ := (State.weatherSound_iff s).1 h
  rcases weatherNow_cases s with ⟨m, hmf, -, he⟩ | ⟨-, x, hx, he⟩ | ⟨-, -, he⟩ <;> rw [he]
  · have hms : ∀ k ∈ s.wind.freshMasts, k.sound = true := fun k hk => by
      simp only [Wind.freshMasts, List.mem_filter, List.mem_map] at hk
      obtain ⟨⟨e, he, rfl⟩, -⟩ := hk
      exact (hm e he).2
    obtain ⟨-, hr, -, -, hoc, -, -, -, hrh, hrain, -, -⟩ := (Mast.sound_iff m).1 (hms m hmf)
    have ha := Mast.average_le hr
    have hp := Mast.peak_le hr
    have hd := Wind.definite_le ho s.wind.weather.octant
    refine (Weather.inRange_iff _).2 ⟨ha, ?_, (getD_le hd hoc).trans (by decide), getD_le (by simp) hrh,
      getD_le (by simp) hrain, ?_⟩
    · simp only [Wind.observed]
      split
      · exact max_le ha hp
      · exact ha
    · simp only [Wind.observed]
      cases hl : lowestTemp s.wind.freshMasts with
      | none => decide
      | some t =>
        exact lowestTemp_inRange (fun k hk => ((Mast.sound_iff k).1 (hms k hk)).2.2.2.2.2.2.2.2.2.2.1) t hl
  · have hxs : x ∈ s.forecast.slots := by
      simp only [Forecast.lookup] at hx
      split at hx
      · cases hx
      · exact List.mem_of_find?_eq_some hx
    have := ((Forecast.sound_iff _).1 hf).2.1 x hxs
    simp only [Slot.inRange, Bool.and_eq_true, decide_eq_true_eq] at this
    obtain ⟨⟨⟨⟨⟨⟨⟨-, -⟩, h1⟩, h2⟩, h3⟩, h4⟩, h5⟩, h6⟩ := this
    exact (Weather.inRange_iff _).2 ⟨h1, max_le h1 h2, h3, h4, h5, h6⟩
  · split
    · obtain ⟨h1, h2, -, h4, h5, h6⟩ := (Weather.inRange_iff _).1 hw
      exact (Weather.inRange_iff _).2 ⟨h1, h2, (Wind.definite_le ho _).trans (by decide), h4, h5, h6⟩
    · decide

namespace Keeps

/-- An update that writes the wind monitor alone, its masts and limits kept. -/
theorem of_wind {s : State} {w : Wind} (hm : w.masts = s.wind.masts) (hl : w.limits = s.wind.limits)
    (h : s.weatherSound = true → w.weather.inRange = true ∧ w.lastOctant ≤ 7) : Keeps s { s with wind := w } := by
  refine ⟨by simp [State.skeleton, hm, hl], id, id, id, id, fun hs => ?_, id, id, id, id, id, id, fun _ h => ?_⟩
  · obtain ⟨h1, -, -, h4⟩ := (State.weatherSound_iff s).1 hs
    exact (State.weatherSound_iff _).2 ⟨hm ▸ h1, (h hs).1, (h hs).2, h4⟩
  · exact h.2

theorem selectWeather (s : State) : Keeps s s.selectWeather.1 := by
  have hw : Keeps s { s with wind := s.wind.withWeather s.weatherNow } := of_wind rfl rfl fun h => by
    refine ⟨weatherNow_inRange h, ?_⟩
    have := ((State.weatherSound_iff s).1 h).2.2.1
    simp only [Wind.withWeather]
    split <;> omega
  rcases selectWeather_cases s with ⟨-, h⟩ | ⟨-, -, h⟩ | ⟨-, h⟩ <;> rw [h]
  · exact hw
  · exact hw
  · exact hw.trans (raiseWind _)

theorem evalHolds (s : State) : Keeps s s.evalHolds.1 := by
  obtain ⟨u, ⟨cut, fr, -, -, hu⟩, h⟩ := evalHolds_cases s
  have hw : Keeps s { s with wind := { s.wind with cutOut := cut, frost := fr } } := of_wind rfl rfl fun h => by
    obtain ⟨-, h2, h3, -⟩ := (State.weatherSound_iff s).1 h
    exact ⟨h2, h3⟩
  have hk : Keeps s u := by
    rw [hu]
    split
    · exact hw
    · exact hw.trans (raiseWind _)
  rcases h with ⟨-, h⟩ | ⟨-, -, h⟩ | ⟨-, -, h⟩ <;> rw [h]
  · exact hk
  · exact hk
  · exact hk.trans (dropHold _)

/-! ## The agenda -/

theorem doTask (q : Option Nat) (t : Task) (s : State) : Keeps s (doTask q t s).1 := by
  cases t with
  | addReason id r => exact addReason s id r
  | cancel id => exact cancel s id
  | passEnd id kind vm => exact passEnd s id kind vm
  | passNext id kind => exact passNext s id kind
  | passTold tag => exact passTold s q tag
  | orderEnded id => exact orderEnded s id
  | prewetEnded id x => exact prewetEnded s id x
  | askPrewet tag only => exact askPrewet s tag only
  | retryPrewets => exact .refl s
  | tellPile tag => exact tellPile s q tag
  | closePass id => exact closePassOf s id
  | askGrant tag => exact askGrant s q tag
  | endPermit machine x withM => exact endPermit s q machine x withM
  | checkRetire tag => exact checkRetire s tag
  | liftZone tag => exact liftZone s tag
  | checkFree tag => exact checkFree s tag
  | lapseOrder id => exact lapseOrder s id
  | lapseOrders => exact .refl s
  | expirePrewet machine => exact expirePrewet s machine
  | lapsePermit machine => exact lapsePermit s machine
  | permitMinute => exact .refl s
  | blendPile tag f mf => exact blendPile s tag f mf
  | selectWeather => exact selectWeather s
  | evalHolds => exact evalHolds s
  | decayTrips => exact decayTrips s
  | rollOver => exact rollOver s

theorem settle (s : State) (q : Option Nat) (ts : List Task) : Keeps s (s.settle q ts) :=
  settle_induction (Keeps s) q (fun t u h => h.trans (doTask q t u)) ts s (.refl s)

/-- An operation and its tellings. -/
theorem settled {s : State} {x : State × List Task} (h : Keeps s x.1) : Keeps s (settled x) :=
  h.trans (settle x.1 none x.2)

end Keeps

/-! ## The controller -/

/-- Two changes of one cannon are one. -/
theorem mapCannon_mapCannon (s : State) (n : Nat) (f g : Cannon → Cannon) :
    (s.mapCannon n f).mapCannon n g = s.mapCannon n fun c => g (f c) := by
  simp only [State.mapCannon, Table.update, List.map_map, State.mk.injEq, true_and, and_true]
  refine List.map_congr_left fun e _ => ?_
  by_cases he : e.1 = n <;> simp [he]

namespace Keeps

/-- A cannon changed and its header slot released, both within one operation. -/
theorem mapCannon_releaseHeader {s : State} {n : Nat} {f : Cannon → Cannon} (hk : ∀ c, (f c).config = c.config)
    (h : ∀ c, s.cannon? n = some c → c.sound = true → ({ f c with header := none } : Cannon).sound = true) :
    Keeps s ((s.mapCannon n f).releaseHeader n) := by
  rcases releaseHeader_cases (s.mapCannon n f) n with ⟨-, -, -, he⟩ | ⟨hn, he⟩ <;> rw [he]
  · rw [mapCannon_mapCannon]
    refine .trans ?_ (occasion _)
    exact mapCannon (f := fun c => { f c with header := none }) hk fun c hc hs => ⟨h c hc hs, .inr rfl⟩
  · refine mapCannon hk fun c hc hs => ?_
    have hnone : (f c).header = none := hn (f c) (by simp [cannon_mapCannon, hc])
    refine ⟨?_, .inr hnone⟩
    have := h c hc hs
    rwa [show ({ f c with header := none } : Cannon) = f c by rw [← hnone]] at this

theorem trip {s : State} {n : Nat} {k : PassKind}
    (h : ∀ c, s.cannon? n = some c → c.state = .aiming ∨ c.state = .spraying) : Keeps s (s.trip n k).1 := by
  unfold State.trip
  split
  · exact .refl s
  · rename_i c hc
    dsimp only
    have hmap : ((((s.placeClose n).mapCannon n fun c => c.afterTrip s.now).hand .cannon n).mapCannon n Cannon.unbound)
        = ((s.placeClose n).mapCannon n fun c => (c.afterTrip s.now).unbound).hand .cannon n :=
      congrArg (fun u : State => u.hand .cannon n) (mapCannon_mapCannon (s.placeClose n) n _ _)
    split
    · rename_i ha
      rw [hmap]
      refine .trans ((placeClose s n).trans ?_) (hand _ _ _)
      refine mapCannon (fun _ => rfl) fun d hd hs => ⟨?_, .inl rfl⟩
      simp only [State.placeClose_cannon, hc, Option.some.injEq] at hd
      subst hd
      obtain ⟨-, -, h3⟩ := Cannon.aiming_of_sound hs ha
      simp only [Cannon.sound_iff, Cannon.unbound, Cannon.afterTrip, h3]
      split <;> simp
    · rename_i ha
      refine .trans (.trans ((placeClose s n).trans ?_) (hand _ _ _)) (mapBoundPass _ _ _)
      refine mapCannon (fun _ => rfl) fun d hd hs => ⟨?_, .inl rfl⟩
      simp only [State.placeClose_cannon, hc, Option.some.injEq] at hd
      subst hd
      obtain ⟨-, -, h3, -, h5⟩ := Cannon.spraying_of_sound hs ((h c hc).resolve_left ha)
      simp only [Cannon.sound_iff, Cannon.afterTrip, h3, h5]
      split <;> simp

theorem slewExpiry (s : State) (n : Nat) : Keeps s (s.slewExpiry n).1 := by
  unfold State.slewExpiry
  split
  · rename_i c hc
    split
    · exact trip fun d hd => by rw [hc] at hd; cases hd; exact .inl (by simp_all)
    · exact .refl s
  · exact .refl s

theorem blankingExpiry (s : State) (n : Nat) : Keeps s (s.blankingExpiry n).1 := by
  unfold State.blankingExpiry
  split
  · rename_i c hc
    split
    · rename_i h
      exact trip fun d hd => by rw [hc] at hd; cases hd; exact h.2
    · exact .refl s
  · exact .refl s

theorem closeWaitExpiry (s : State) (n : Nat) : Keeps s (s.closeWaitExpiry n).1 := by
  unfold State.closeWaitExpiry
  split
  · rename_i c hc
    split
    · rename_i hw
      refine .trans ?_ (hand _ _ _)
      refine mapCannon (fun _ => rfl) fun d hd hs => ⟨?_, .inl rfl⟩
      rw [hc] at hd; cases hd
      obtain ⟨h1, -, -, -, h5, h6, -, -⟩ := (Cannon.sound_iff c).1 hs
      have hst : c.state ≠ .aiming := fun h => by simp [h, hw] at h5
      have hp : c.aimPhase = none := by
        cases ha : c.aimPhase with
        | none => rfl
        | some x => exact absurd (h1.1 (by simp [ha])) hst
      have hr : c.retry = none := h6.resolve_right fun h => by simp [hw] at h
      simp [Cannon.sound_iff, Cannon.unbound, hp, hr]
    · exact .refl s
  · exact .refl s

theorem retryEnd (s : State) (n : Nat) : Keeps s (s.retryEnd n) := by
  unfold State.retryEnd
  split
  · rename_i c hc
    split
    · rename_i hr
      have hmap : (s.mapCannon n fun c => { c with retry := none }).toIdle n
          = (s.mapCannon n fun c => { c with retry := none, state := .idle, aimPhase := none }).occasion :=
        congrArg State.occasion (mapCannon_mapCannon s n _ _)
      rw [hmap]
      refine .trans (.trans ?_ (occasion _)) (hand _ _ _)
      refine mapCannon (fun _ => rfl) fun d hd hs => ⟨?_, .inl rfl⟩
      rw [hc] at hd; cases hd
      obtain ⟨h1, h2, h3, h4, h5, h6, -, -⟩ := (Cannon.sound_iff c).1 hs
      simp only [hr.1, hr.2, reduceCtorEq, or_false, false_or, iff_false, true_and] at h1 h2 h3 h4 h6
      simp only [Bool.not_eq_true, Option.isSome_eq_false_iff, Option.isNone_iff_eq_none] at h1
      simp [Cannon.sound_iff, h2, h4, h6, h1] at h3 ⊢
      exact h3
    · exact .refl s
  · exact .refl s

theorem decayTrip (s : State) (n : Nat) : Keeps s (s.decayTrip n) := by
  have h : ∀ c : Cannon, Cannon.Kept c (c.decayed s.now) := fun c => by
    unfold Cannon.decayed
    split
    · split
      · exact ⟨rfl, fun h => h, .inl rfl⟩
      · exact ⟨rfl, fun h => h, .inl rfl⟩
    · exact ⟨rfl, fun h => h, .inl rfl⟩
  exact mapCannon (fun c => (h c).1) fun c _ hc => ⟨(h c).2.1 hc, (h c).2.2⟩

theorem cannonLost (s : State) (n : Nat) : Keeps s (s.cannonLost n).1 := by
  unfold State.cannonLost
  split
  · exact .refl s
  · rename_i c hc
    have key : Keeps s (((s.mapCannon n fun c => { c.quiet with state := .lost }).releaseHeader n).hand .cannon n) := by
      refine .trans ?_ (hand _ _ _)
      exact mapCannon_releaseHeader (fun _ => rfl) fun d _ _ => by simp [Cannon.sound_iff, Cannon.quiet, Cannon.unbound]
    split
    · exact .refl s
    · exact .refl s
    · exact .refl s
    all_goals exact key

theorem cannonReset (s : State) (n : Nat) (c : Cannon) : Keeps s (s.cannonReset n c).1 := by
  have h : Keeps s ((s.placeClose n).mapCannon n fun c => { c.quiet with state := .resetting }) := by
    refine .trans (placeClose s n) ?_
    exact mapCannon (fun _ => rfl) fun d _ _ => ⟨by simp [Cannon.sound_iff, Cannon.quiet, Cannon.unbound], .inl rfl⟩
  unfold State.cannonReset
  dsimp only
  split
  · exact h.trans (hand _ _ _)
  · exact h

/-- An AIM is placed, or made to wait, for the pass of a cannon that is slewing (R106). -/
theorem placeAim {s : State} {n : Nat} {c : Cannon} {o : Order} (hc : Table.wf s.cannons = true → ∃ d, s.cannon? n = some d ∧ d.config = c.config)
    (h : ∀ d, s.cannon? n = some d → d.sound = true → d.state = .aiming ∧ d.aimPhase = some .slewing) :
    Keeps s (s.placeAim n c o) := by
  rcases placeAim_cases s n c o with ⟨-, he⟩ | ⟨-, he⟩ <;> rw [he]
  · refine .trans (t := s.placeStart c.config.node (.aim (o.aimArc c).1 (o.aimArc c).2 c.config.sweepRate)) ?_ ?_
    · refine mapSlot' (fun m => by split <;> rfl) fun hw hs m hm => ?_
      obtain ⟨d, hd, hcfg⟩ := hc hw
      split
      · simp [Node.slotFits, hs.ofCannon hd (hcfg ▸ hm)]
      · exact hs.2 _ m hm
    · refine mapCannon (fun _ => rfl) fun d hd hs => ⟨?_, .inl rfl⟩
      obtain ⟨h1, h2⟩ := h d hd hs
      obtain ⟨-, -, -, h4, h5, h6, h7, h8⟩ := (Cannon.sound_iff d).1 hs
      simp_all [Cannon.sound_iff]
  · refine mapCannon (fun _ => rfl) fun d hd hs => ⟨?_, .inl rfl⟩
    obtain ⟨h1, h2⟩ := h d hd hs
    obtain ⟨-, -, -, h4, h5, h6, h7, h8⟩ := (Cannon.sound_iff d).1 hs
    simp_all [Cannon.sound_iff]

theorem cannonSlotEmptied (s : State) (n : Nat) : Keeps s (s.cannonSlotEmptied n) := by
  rcases cannonSlotEmptied_cases s n with ⟨c, o, p, hc, hw, -, h⟩ | ⟨-, h⟩ <;> rw [h]
  · refine placeAim (fun _ => ⟨c, hc, rfl⟩) fun d hd hs => ?_
    rw [hc] at hd; cases hd
    obtain ⟨h1, -, h3, -⟩ := (Cannon.sound_iff c).1 hs
    have := h3.resolve_left (by simp [hw])
    exact ⟨h1.1 (by simp [this]), this⟩
  · exact .refl s

theorem openPass {s : State} {n : Nat} {c : Cannon} (h : ∀ d, s.cannon? n = some d → d.state = .aiming ∧ d.aimPhase = some .opening) :
    Keeps s (s.openPass n c) := by
  unfold State.openPass
  refine .trans (t := s.mapBoundPass c fun p => { p with meterStart := c.meterLast, state := .spraying })
    (mapBoundPass s c _) ?_
  refine mapCannon (fun _ => rfl) fun d hd hs => ⟨?_, .inl rfl⟩
  have hcan : ∀ f, (s.mapBoundPass c f).cannon? n = s.cannon? n := fun f => by
    unfold State.mapBoundPass; split <;> rfl
  rw [hcan] at hd
  obtain ⟨h1, h2⟩ := h d hd
  obtain ⟨-, -, h3, h4, h5, h6, h7, h8⟩ := (Cannon.sound_iff d).1 hs
  simp_all [Cannon.sound_iff]

/-- A change of a cannon that leaves the fields of its state alone. -/
theorem mapCannon_plain {s : State} {n : Nat} {f : Cannon → Cannon} (hk : ∀ c, (f c).config = c.config)
    (hs : ∀ c, (f c).sound = c.sound) (hh : ∀ c, (f c).header = c.header) : Keeps s (s.mapCannon n f) :=
  mapCannon hk fun c _ hc => ⟨(hs c).trans hc, .inl (hh c)⟩

theorem routeDelta (s : State) (n : Nat) (c : Cannon) (l : Nat) : Keeps s (s.routeDelta n c l) := by
  have hstray : Keeps s (s.mapCannon n fun c => { c with stray := satAdd32 c.stray l }) :=
    mapCannon_plain (fun _ => rfl) (fun _ => rfl) fun _ => rfl
  unfold State.routeDelta
  extract_lets s1
  have hrouted : Keeps s s1 := by
    simp only [s1]
    split
    · split
      · exact mapBoundPass s c _
      · exact hstray
    · exact hstray
  split
  · exact hrouted.trans (takeLitres _ _ _)
  · exact hrouted

theorem meterReply {s : State} {n : Nat} {c : Cannon} {r : NodeReport} {m : Nat} (hc : s.cannon? n = some c) :
    Keeps s (s.meterReply n c r m) := by
  unfold State.meterReply
  dsimp only
  refine .trans (.trans (t := if c.opens r then s.openPass n c else s) ?_ ?_) (routeDelta _ _ _ _)
  · split
    · rename_i ho
      refine openPass fun d hd => ?_
      rw [hc] at hd; cases hd
      simp only [Cannon.opens, Bool.and_eq_true, beq_iff_eq] at ho
      exact ho.1
    · exact .refl s
  · exact mapCannon_plain (fun _ => rfl) (fun _ => rfl) fun _ => rfl

end Keeps

end Sys2Proof.Machine
end

section
set_option Elab.async false
/-! PROOFS. The taking of replies, the arbitration and the transfer run stand in `Keeps`. -/

namespace Sys2Proof.Machine

/-! ## A reply of a cannon node (R104) -/

namespace Keeps

theorem examineDose {s : State} {n : Nat} (h : ∀ c, s.cannon? n = some c → c.state = .spraying) : Keeps s (s.examineDose n) := by
  unfold State.examineDose
  split
  · split
    · split
      · exact rampDown h
      · exact .refl s
    · exact .refl s
  · exact .refl s

theorem closedToIdle {s : State} {n : Nat} {c : Cannon} (hc : s.cannon? n = some c)
    (h : c.state = .spraying ∨ c.state = .rampDown) : Keeps s (s.closedToIdle n c).1 := by
  unfold State.closedToIdle
  refine .trans (.trans (t := s.mapCannon n fun c => { c.unbound with closeWait := none }) ?_ (releaseHeader _ n)) ?_
  · refine mapCannon (fun _ => rfl) fun d hd hs => ⟨?_, .inl rfl⟩
    rw [hc] at hd; cases hd
    obtain ⟨h1, h2, h3, h4, h5, h6, h7, h8⟩ := (Cannon.sound_iff c).1 hs
    rcases h with h | h <;> simp_all [Cannon.sound_iff, Cannon.unbound]
  · refine toIdle fun d hd hsd => ?_
    simp only [cannon_releaseHeader, cannon_mapCannon, if_true, hc, Option.map_some, Option.some.injEq] at hd
    subst hd
    obtain ⟨h1, h2, h3, h4, h5, h6, h7, h8⟩ := (Cannon.sound_iff _).1 hsd
    rcases h with h | h <;> simp_all [Cannon.unbound]

theorem closedAfterTrip {s : State} {n : Nat} {c : Cannon} (hc : s.cannon? n = some c)
    (h : c.state = .tripped ∨ c.state = .locked) : Keeps s (s.closedAfterTrip n c).1 := by
  refine mapCannon_releaseHeader (fun _ => rfl) fun d hd hs => ?_
  rw [hc] at hd; cases hd
  obtain ⟨h1, h2, h3, h4, h5, h6, h7, h8⟩ := (Cannon.sound_iff c).1 hs
  rcases h with h | h <;> simp_all [Cannon.sound_iff, Cannon.unbound]

theorem resetComplete {s : State} {n : Nat} (h : ∀ c, s.cannon? n = some c → c.state = .resetting) :
    Keeps s (s.resetComplete n) := by
  unfold State.resetComplete
  refine .trans (.trans (t := s.mapCannon n fun c => { c with tripCount := 0 }) ?_ (releaseHeader _ n)) ?_
  · exact mapCannon_plain (fun _ => rfl) (fun _ => rfl) fun _ => rfl
  · refine toIdle fun d hd hsd => ?_
    simp only [cannon_releaseHeader, cannon_mapCannon, if_true] at hd
    obtain ⟨x, hx, rfl⟩ := Option.map_eq_some_iff.1 hd
    obtain ⟨c, hc, rfl⟩ := Option.map_eq_some_iff.1 hx
    have hst := h c hc
    obtain ⟨h1, h2, h3, h4, h5, h6, h7, h8⟩ := (Cannon.sound_iff _).1 hsd
    simp_all

theorem placeOpen {s : State} {n : Nat} {c : Cannon} (hc : s.cannon? n = some c) {r : NodeReport}
    (h : c.aimPhase = some .slewing) (ha : s.aimSettled c r = true) : Keeps s (s.placeOpen n c) := by
  unfold State.placeOpen
  split
  · rename_i p _
    refine .trans (t := s.placeStart c.config.node (.openValve p.header))
      (placeStart fun hs m hm => by simp [Node.slotFits, hs.ofCannon hc hm]) ?_
    refine mapCannon (fun _ => rfl) fun d hd hs => ⟨?_, .inl rfl⟩
    rw [show (s.placeStart c.config.node (.openValve p.header)).cannon? n = s.cannon? n from rfl, hc] at hd
    cases hd
    obtain ⟨h1, h2, h3, h4, h5, h6, h7, h8⟩ := (Cannon.sound_iff c).1 hs
    simp only [State.aimSettled, Bool.and_eq_true, Bool.not_eq_true'] at ha
    have := h1.1 (by simp [h])
    simp_all [Cannon.sound_iff]
  · exact .refl s

theorem actOnReport (s : State) (n : Nat) (r : NodeReport) (b : Bool) : Keeps s (s.actOnReport n r b).1 := by
  unfold State.actOnReport
  split
  · exact .refl s
  · rename_i c hc
    split <;> rename_i hst
    · exact .refl s
    · split
      · rename_i h; exact placeOpen hc h.1 h.2
      · exact .refl s
    · split
      · exact closedToIdle hc (.inl hst)
      · exact examineDose fun d hd => by rw [hc] at hd; cases hd; exact hst
    · split
      · exact closedToIdle hc (.inr hst)
      · exact .refl s
    · split
      · exact closedAfterTrip hc (.inl hst)
      · exact .refl s
    · split
      · exact closedAfterTrip hc (.inr hst)
      · exact .refl s
    · refine .trans (.trans (placeClose s n) ?_) (hand _ _ _)
      refine mapCannon (fun _ => rfl) fun d hd hs => ⟨?_, .inl rfl⟩
      rw [State.placeClose_cannon, hc] at hd; cases hd
      obtain ⟨h1, h2, h3, h4, h5, h6, h7, h8⟩ := (Cannon.sound_iff c).1 hs
      simp_all [Cannon.sound_iff]
    · split
      · exact resetComplete fun d hd => by rw [hc] at hd; cases hd; exact hst
      · exact .refl s

theorem actOnOverload (s : State) (n : Nat) (r : NodeReport) : Keeps s (s.actOnOverload n r).1 := by
  rcases actOnOverload_cases s n r with ⟨c, hc, hst, ⟨-, -, h⟩ | ⟨-, h⟩⟩ | ⟨-, h⟩ <;> rw [h]
  · exact trip fun d hd => by rw [hc] at hd; cases hd; exact hst
  · refine mapCannon (fun _ => rfl) fun d hd hs => ⟨?_, .inl rfl⟩
    rw [hc] at hd; cases hd
    obtain ⟨h1, h2, h3, h4, h5, h6, h7, h8⟩ := (Cannon.sound_iff c).1 hs
    exact (Cannon.sound_iff _).2 ⟨h1, h2, h3, .inr hst, h5, h6, h7, h8⟩
  · exact .refl s

theorem takeCannonReply (s : State) (n : Nat) (r : NodeReport) (m : Nat) : Keeps s (s.takeCannonReply n r m).1 := by
  unfold State.takeCannonReply
  split
  · exact .refl s
  · rename_i c hc
    exact ((meterReply hc).trans (actOnReport _ n r _)).trans (actOnOverload _ n r)

/-! ## The transfer station (R138 to R140) -/

theorem debitPond (s : State) (p : Nat) : Keeps s (s.debitPond p) := by
  have hz : Keeps s (s.mapPond fun x => { x with volume := 0 }) :=
    mapPond (fun _ => rfl) fun h => ⟨Nat.zero_le _, ((Water.sound_iff _).1 h).2.1⟩
  unfold State.debitPond
  split
  · exact mapPond (fun _ => rfl) fun h =>
      ⟨(Nat.sub_le _ _).trans ((Water.sound_iff _).1 h).1, ((Water.sound_iff _).1 h).2.1⟩
  · dsimp only
    split <;> rename_i ht
    · exact hz.trans (stopRun (.inl ht))
    · exact hz.trans (stopRun (.inr ht))
    · exact hz
    · exact hz

/-- The run moves to another state, with the timers that state has. -/
theorem mapTransfer' {s : State} {f : Transfer → Transfer} (h : s.water.sound = true →
      ((f s.water.transfer).startWait = none ∨ (f s.water.transfer).state = .starting)
      ∧ ((f s.water.transfer).runWaiting = false ∨ (f s.water.transfer).state = .starting)
      ∧ ((f s.water.transfer).holdOff = none ∨ (f s.water.transfer).state = .stopped)
      ∧ ((f s.water.transfer).pendingHoldOff = false ∨ (f s.water.transfer).state = .stopping)
      ∧ (s.water.pond.node.isSome = true ∨ (f s.water.transfer).state = .stopped)) : Keeps s (s.mapTransfer f) :=
  mapTransfer fun hs => by
    have := h hs
    obtain ⟨h1, h2, h3, -⟩ := (Water.sound_iff _).1 hs
    exact (Water.sound_iff _).2 ⟨h1, h2, h3, this⟩

theorem pumpReport (s : State) (running : Bool) : Keeps s (s.pumpReport running) := by
  rcases pumpReport_cases s running with ⟨ht, -, h⟩ | ⟨ht, -, h⟩ | ⟨ht, -, -, h⟩ | ⟨-, -, h⟩ | h <;> rw [h]
  · refine mapTransfer' fun hs => ?_
    obtain ⟨-, -, -, h4, h5, h6, h7, h8⟩ := (Water.sound_iff _).1 hs
    simp_all
  · refine .trans ?_ (raiseWater _)
    refine mapTransfer' fun hs => ?_
    obtain ⟨-, -, -, h4, h5, h6, h7, h8⟩ := (Water.sound_iff _).1 hs
    simp_all
  · refine mapTransfer' fun hs => ?_
    obtain ⟨-, -, -, h4, h5, h6, h7, h8⟩ := (Water.sound_iff _).1 hs
    simp_all
  · exact placeStopRun s
  · exact .refl s

theorem takeTransferReply (s : State) (running : Bool) (m : Nat) (b : Bool) : Keeps s (s.takeTransferReply running m b) := by
  have h : Keeps s (((s.mapTransfer fun t => { t with meterLast := some m }).debitPond
      (meterDelta s.water.transfer.meterLast m)).pumpReport running) := by
    refine .trans (.trans ?_ (debitPond _ _)) (pumpReport _ _)
    exact mapTransfer fun h => h
  unfold State.takeTransferReply
  dsimp only
  split
  · exact h.trans (evalTransfer _)
  · exact h

theorem transferLost (s : State) : Keeps s s.transferLost := by
  unfold State.transferLost
  split
  · exact mapTransfer fun h => h
  · refine .trans ?_ (evalTransfer _)
    exact mapTransfer' fun hs => by simp

theorem transferSlotEmptied (s : State) : Keeps s s.transferSlotEmptied := by
  unfold State.transferSlotEmptied
  split
  · rename_i h; exact startRun (.inr h.2) (.inr h.2)
  · exact .refl s

theorem startWaitExpiry (s : State) : Keeps s s.startWaitExpiry := by
  unfold State.startWaitExpiry
  split
  · rename_i h
    refine .trans (.trans (stopRun (e := .startFailed) (.inl h.1)) ?_) (raiseWater _)
    refine mapTransfer' fun hs => ?_
    obtain ⟨-, -, -, h4, h5, h6, h7, h8⟩ := (Water.sound_iff _).1 hs
    exact ⟨h4, h5, h6, .inr rfl, h8⟩
  · exact .refl s

theorem holdOffEnd (s : State) : Keeps s s.holdOffEnd := by
  unfold State.holdOffEnd
  split
  · refine .trans ?_ (evalTransfer _)
    refine mapTransfer' fun hs => ?_
    obtain ⟨-, -, -, h4, h5, h6, h7, h8⟩ := (Water.sound_iff _).1 hs
    exact ⟨h4, h5, .inl rfl, h7, h8⟩
  · exact .refl s

theorem slotEmptied (s : State) (o : Owner) : Keeps s (s.slotEmptied o) := by
  cases o with
  | cannon n => exact cannonSlotEmptied s n
  | mast => exact .refl s
  | tank => exact .refl s
  | pond => exact transferSlotEmptied s

theorem ownerLost (s : State) (o : Owner) : Keeps s (s.ownerLost o).1 := by
  cases o with
  | cannon n => exact cannonLost s n
  | mast => exact .refl s
  | tank => exact .refl s
  | pond => exact transferLost s

theorem emptySlot (s : State) (a : Nat) (o : Owner) (m : Sent) : Keeps s (s.emptySlot a o m) := by
  unfold State.emptySlot
  split
  · split
    · refine .trans ?_ (slotEmptied _ o)
      exact mapSlot (fun _ => rfl) fun _ n _ => by cases n; rfl
    · exact .refl s
  · exact .refl s
  · exact .refl s

end Keeps

/-! ## Arbitration (R85 to R88) -/

/-- A binding adds one cannon to those that hold its header, and none to the other's. -/
theorem holders_bound {t : Table Cannon} (hw : Table.wf t = true) (n : Nat) (h k : Header) {f : Cannon → Cannon}
    (hf : ∀ c, (f c).header = some h) :
    ((t.map fun e => (e.1, if e.1 = n then f e.2 else e.2)).filter fun e => e.2.header == some k).length
      ≤ (t.filter fun e => e.2.header == some k).length + if k = h then 1 else 0 := by
  have hone : t.countP (fun e => e.1 == n) ≤ 1 := by
    have hn : (t.map Prod.fst).Nodup := by
      rw [Table.wf_iff_pairwise] at hw
      exact List.pairwise_map.2 (hw.imp fun h => Nat.ne_of_lt h)
    have := List.nodup_iff_count_le_one.1 hn n
    rwa [List.count, List.countP_map] at this
  rw [List.filter_map, List.length_map, ← List.countP_eq_length_filter, ← List.countP_eq_length_filter]
  have hor : ∀ l : Table Cannon, l.countP ((fun e => e.2.header == some k) ∘ fun e => (e.1, if e.1 = n then f e.2 else e.2))
      ≤ l.countP (fun e => e.2.header == some k) + if k = h then l.countP (fun e => e.1 == n) else 0 := fun l => by
    induction l with
    | nil => simp
    | cons e l ih =>
      simp only [List.countP_cons, Function.comp_apply] at ih ⊢
      by_cases he : e.1 = n
      · by_cases hkh : k = h
        · subst hkh
          simp only [he, hf, if_true, beq_self_eq_true] at ih ⊢
          omega
        · have hne : (some h == some k) = false := by simpa using fun h' => hkh h'.symm
          simp only [he, hf, hkh, if_true, if_false, hne, Bool.false_eq_true] at ih ⊢
          omega
      · simp only [he, if_false, beq_eq_false_iff_ne.2 he, Bool.false_eq_true] at ih ⊢
        split at ih
        · simp_all
          omega
        · simp_all
  refine (hor t).trans (Nat.add_le_add_left ?_ _)
  split
  · exact hone
  · exact Nat.zero_le _

/-- The cannon's side of a binding (R87, R106). -/
def Cannon.boundTo (c : Cannon) (id : Nat) (h : Header) : Cannon :=
  { c with state := .aiming, aimPhase := some .slewing, bound := some id, header := some h }

theorem bindPass_eq (s : State) (o : Order) (h : Header) (n : Nat) (c : Cannon) :
    s.bindPass o h n c = ((((s.mapOrder o.id fun x => x.boundTo n h (x.passDose c)).mapCannon n fun d =>
      d.boundTo o.id h)).placeAim n c o).evalSpent := rfl

/-- What an offer finds: an idle cannon of the table, its header with a slot left. -/
theorem offer_spec {s : State} {o : Order} {h : Header} {n : Nat} {c : Cannon} (ho : s.offer o = some (h, n, c)) :
    (n, c) ∈ s.cannons ∧ c.state = .idle ∧ s.grants h c (o.passDose c) = true := by
  obtain ⟨h', -, hf⟩ := List.exists_of_findSome?_eq_some ho
  obtain ⟨e, he, heq⟩ := Option.map_eq_some_iff.1 hf
  simp only [Prod.mk.injEq] at heq
  obtain ⟨rfl, rfl, rfl⟩ := heq
  have hm := List.mem_of_find?_eq_some he
  have hp := List.find?_some he
  simp only [State.serves, Bool.and_eq_true] at hp
  simp only [State.offered, List.mem_filter, beq_iff_eq] at hm
  refine ⟨?_, hm.2, hp.2⟩
  have := hm.1
  simp only [State.candidates] at this
  split at this
  · exact (List.mem_filter.1 this).1
  · split at this
    · simp at this
    · split at this <;> exact (List.mem_filter.1 this).1

/-- A sound cannon in IDLE is sound once a pass is bound to it. -/
theorem Cannon.sound_boundTo {c : Cannon} (hs : c.sound = true) (hi : c.state = .idle) (id : Nat) (h : Header) :
    (c.boundTo id h).sound = true := by
  obtain ⟨-, h2, h3, h4, h5, h6, -, -⟩ := Cannon.idle_of_sound hs hi
  simp [Cannon.sound_iff, Cannon.boundTo, h2, h3, h4, h5, h6]

/-- A binding leaves the cannon table sound. -/
theorem cannonsSound_bound {s : State} {o : Order} {h : Header} {n : Nat} {c : Cannon} (ho : s.offer o = some (h, n, c))
    (hs : s.cannonsSound = true) : (s.mapCannon n fun d => d.boundTo o.id h).cannonsSound = true := by
  obtain ⟨hmem, hidle, hgr⟩ := offer_spec ho
  have hslots : (s.holders h).length < slotsOf h := by
    simp only [State.grants, Bool.and_eq_true, decide_eq_true_eq] at hgr
    exact hgr.1.2
  obtain ⟨hw, hc, hr, hf⟩ := (State.cannonsSound_iff _).1 hs
  have hget : ∀ e ∈ s.cannons, e.1 = n → e.2 = c := fun e he hen => by
    have h1 := Table.get_of_mem hw he
    rw [hen, Table.get_of_mem hw hmem] at h1
    exact (Option.some.inj h1).symm
  have hcount : ∀ k, ((s.mapCannon n fun d => d.boundTo o.id h).holders k).length
      ≤ (s.holders k).length + if k = h then 1 else 0 := fun k => by
    simp only [State.holders, List.length_map, State.mapCannon_cannons, Table.update_eq_map]
    exact holders_bound hw n h k (f := fun d => d.boundTo o.id h) fun _ => rfl
  refine (State.cannonsSound_iff _).2 ⟨by rw [State.mapCannon_cannons]; exact Table.wf_update _ _ _ hw, fun e he => ?_, ?_, ?_⟩
  · rw [State.mapCannon_cannons, Table.update_eq_map] at he
    obtain ⟨d, hd, rfl⟩ := List.mem_map.1 he
    refine ⟨(hc d hd).1, ?_⟩
    dsimp only
    split
    · exact Cannon.sound_boundTo (hc d hd).2 ((hget d hd ‹_›).symm ▸ hidle) _ _
    · exact (hc d hd).2
  · refine (hcount _).trans ?_
    cases h with
    | reuse => exact hslots
    | fresh => exact hr
  · refine (hcount _).trans ?_
    cases h with
    | reuse => exact hf
    | fresh => exact hslots

namespace Keeps

/-- A pass is bound to an idle cannon whose header has a slot left. -/
theorem bindPass {s : State} {o : Order} {h : Header} {n : Nat} {c : Cannon} (ho : s.offer o = some (h, n, c)) :
    Keeps s (s.bindPass o h n c) := by
  have hmem := (offer_spec ho).1
  have ho1 : Keeps s (s.mapOrder o.id fun x => x.boundTo n h (x.passDose c)) := mapOrder fun x => ⟨rfl, fun hx => by
    obtain ⟨h1, h2, h3, -, h5, -⟩ := (Order.sound_iff _).1 hx
    exact (Order.sound_iff _).2 ⟨h1, h2, h3, Nat.min_le_left _ _, h5, .inl nofun⟩, fun h => h⟩
  rw [bindPass_eq]
  refine .trans (.trans (ho1.trans (t := s.mapOrder o.id fun x => x.boundTo n h (x.passDose c)) (u := (s.mapOrder o.id fun x => x.boundTo n h (x.passDose c)).mapCannon n fun d => d.boundTo o.id h) ?_) ?_) (evalSpent _)
  · exact ⟨State.mapCannon_skeleton n _ fun _ => rfl, id, id, id, id, id, id, id, id, fun hs => cannonsSound_bound (s := s) ho hs, id, id,
      fun _ h => h.2⟩
  · refine placeAim (fun hw => ?_) fun d hd _ => ?_
    · have hget : s.cannon? n = some c := Table.get_of_mem (by rwa [State.mapCannon_cannons, Table.wf, Table.keys_update] at hw) hmem
      exact ⟨c.boundTo o.id h, by rw [cannon_mapCannon, if_pos rfl]; exact congrArg (Option.map _) hget, rfl⟩
    · rw [cannon_mapCannon, if_pos rfl] at hd
      obtain ⟨x, -, rfl⟩ := Option.map_eq_some_iff.1 hd
      exact ⟨rfl, rfl⟩

/-- One order in its turn, in a state that an operation has kept so far: it is bound, or made starved while it is open. -/
theorem consider {u s : State} {o : Order} (hk : Keeps u s)
    (h : u.dispatch.sound = true → ∀ x ∈ s.dispatch.orders, x.id = o.id → x.isOpen = true) : Keeps u (s.consider o) := by
  rcases consider_cases s o with ⟨hd, n, c, ho, he⟩ | ⟨-, -, -, he⟩ | ⟨-, -, he⟩ <;> rw [he]
  · exact hk.trans (bindPass ho)
  · refine .trans ?_ (hand _ _ _)
    refine ⟨hk.skeleton, hk.notices, hk.pilesWf, hk.piles, hk.outcomes, hk.weather, fun hu => ?_, fun hu => ?_, hk.water,
      hk.cannons, hk.permits, hk.onLive, hk.slots⟩
    · refine (orders' (s := s) (g := fun x => if x.id = o.id then { x with starved := true } else x) (d := s.dispatch.due)
        (fun x => by split <;> rfl) (fun hs x hx => ?_) fun x hx => by split <;> exact hx).dispatch (hk.dispatch hu)
      have hxs := ((Dispatcher.sound_iff _).1 hs).2.1 x hx
      split
      · rename_i hid
        obtain ⟨h1, h2, h3, h4, h5, -⟩ := (Order.sound_iff _).1 hxs
        exact (Order.sound_iff _).2 ⟨h1, h2, h3, h4, h5, .inl (by simpa [Order.isOpen] using h hu x hx hid)⟩
      · exact hxs
    · intro x hx
      obtain ⟨y, hy, rfl⟩ := List.mem_map.1 hx
      split <;> exact hk.ended hu y hy
  · exact hk

end Keeps

/-- A binding changes the dispatcher in the order bound alone. -/
theorem bindPass_dispatch (s : State) (o : Order) (h : Header) (n : Nat) (c : Cannon) :
    (s.bindPass o h n c).dispatch = (s.mapOrder o.id fun x => x.boundTo n h (x.passDose c)).dispatch := by
  have ha : ∀ u : State, (u.placeAim n c o).dispatch = u.dispatch := fun u => by
    rcases placeAim_cases u n c o with ⟨-, he⟩ | ⟨-, he⟩ <;> rw [he] <;> rfl
  rw [bindPass_eq, evalSpent_eq]
  exact ha ((s.mapOrder o.id fun x => x.boundTo n h (x.passDose c)).mapCannon n fun d => d.boundTo o.id h)

/-- An order in its turn closes no open order, and leaves every other order alone. -/
theorem consider_open {s : State} {o : Order} {i : Nat} (h : ∀ x ∈ s.dispatch.orders, x.id = i → x.isOpen = true) :
    ∀ x ∈ (s.consider o).dispatch.orders, x.id = i → x.isOpen = true := by
  have hmap : ∀ f : Order → Order, (∀ y, (f y).id = y.id) → (∀ y : Order, y.isOpen = true → (f y).isOpen = true) →
      ∀ x ∈ (s.mapOrder o.id f).dispatch.orders, x.id = i → x.isOpen = true := fun f hid hop x hx hxi => by
    obtain ⟨y, hy, rfl⟩ := List.mem_map.1 hx
    split at hxi
    · rename_i hyo
      rw [if_pos hyo]
      exact hop y (h y hy ((hid y).symm.trans hxi))
    · rename_i hyo
      rw [if_neg hyo]
      exact h y hy hxi
  rcases consider_cases s o with ⟨hd, n, c, -, he⟩ | ⟨-, -, -, he⟩ | ⟨-, -, he⟩ <;> rw [he]
  · rw [bindPass_dispatch]
    exact hmap _ (fun _ => rfl) fun _ _ => rfl
  · exact hmap _ (fun _ => rfl) fun _ h => h
  · exact h

namespace Keeps

theorem consider_foldl {l : List Order} {u s : State} (hk : Keeps u s)
    (h : u.dispatch.sound = true → ∀ o ∈ l, ∀ x ∈ s.dispatch.orders, x.id = o.id → x.isOpen = true) :
    Keeps u (l.foldl State.consider s) := by
  induction l generalizing s with
  | nil => exact hk
  | cons o l ih =>
    exact ih (consider hk fun hu => h hu o (by simp)) fun hu y hy => consider_open (h hu y (by simp [hy]))

theorem arbitrate (s : State) : Keeps s s.arbitrate :=
  consider_foldl (.refl s) fun hs o ho x hx hid => by
    obtain ⟨p, -, hm⟩ := List.mem_flatMap.1 ho
    obtain ⟨ho, hp⟩ := List.mem_filter.1 hm
    have hxo := List.inj_on_of_nodup_map ((Dispatcher.sound_iff _).1 hs).2.2.1 hx ho hid
    simp only [Order.eligible, Bool.and_eq_true, beq_iff_eq] at hp
    simp [hxo, Order.isOpen, hp.2.1]

theorem arbitrateDue (s : State) : Keeps s s.arbitrateDue := by
  unfold State.arbitrateDue
  split
  · exact .refl s
  · refine Keeps.trans (t := { s with dispatch := { s.dispatch with due := s.dispatch.due - 1 } }) ?_ (arbitrate _)
    exact ⟨rfl, id, id, id, id, id, id, id, id, id, id, id, fun _ h => h.2⟩

end Keeps

end Sys2Proof.Machine
end

section
set_option Elab.async false
/-! PROOFS. What every command keeps, packaged as a preorder `Held` on states: each invariant that is stated of every step. The
commands of the pile table, the moisture model, the wind monitor and the forecast table stand in it. -/

namespace Sys2Proof.Machine

/-- The invariants of the single blocks that are stated of every step, each kept from one state to another. A field that an
update does not touch is kept as it is. -/
structure Blocks (s t : State) : Prop where
  tables : s.tablesAscend = true → t.tablesAscend = true := by exact fun h => h
  notices : s.notices.ascend = true → t.notices.ascend = true := by exact fun h => h
  clock : s.clockAndModelInRange = true → t.clockAndModelInRange = true := by exact fun h => h
  water : s.water.sound = true → t.water.sound = true := by exact fun h => h
  piles : s.pilesSound = true → t.pilesSound = true := by exact fun h => h
  weather : s.weatherSound = true → t.weatherSound = true := by exact fun h => h
  dispatch : s.dispatch.sound = true → t.dispatch.sound = true := by exact fun h => h
  ended : s.endedByNow → t.endedByNow := by exact fun h => h
  cannons : s.cannonsSound = true → t.cannonsSound = true := by exact fun h => h
  permits : s.permits.sound = true → t.permits.sound = true := by exact fun h => h
  onLive : s.permitsOnLive = true → t.permitsOnLive = true := by exact fun h => h
  loop : s.loop.sound = true → t.loop.sound = true := by exact fun h => h

/-- The blocks' invariants kept, and the nodes those of the loaded owners. -/
structure Held (s t : State) : Prop extends Blocks s t where
  nodes : s.tablesAscend = true → s.nodesOwned → t.nodesOwned := by exact fun _ h => h

theorem State.tablesAscend_iff (s : State) :
    s.tablesAscend = true ↔ Table.wf s.piles = true ∧ Table.wf s.grades = true ∧ Table.wf s.wind.masts = true
      ∧ Table.wf s.cannons = true ∧ Table.wf s.permits.outcomes = true ∧ Table.wf s.loop.nodes = true := by
  simp [State.tablesAscend, and_assoc]

theorem State.clockAndModelInRange_iff (s : State) :
    s.clockAndModelInRange = true ↔ s.clock.minute < Config.two32 ∧ s.clock.seconds ≤ 59 ∧ 1 ≤ s.clock.stepLeft
      ∧ s.clock.stepLeft ≤ 60 ∧ s.model.lead ≤ 240 ∧ 1 ≤ s.model.b1 ∧ s.model.b1 < s.model.b2 ∧ s.model.b2 < s.model.b3
      ∧ s.model.b3 ≤ 255 := by
  simp [State.clockAndModelInRange, within, and_assoc]

/-- What stands in the slots of its nodes does not matter to the soundness of the loop master. -/
theorem Loop.sound_unslotted (l : Loop) :
    ({ l with nodes := l.nodes.map fun e => (e.1, { e.2 with slot := none }) } : Loop).sound = l.sound := by
  have hl : ∀ a, (Table.get (l.nodes.map fun e => (e.1, ({ e.2 with slot := none } : Node))) a).isSome
      = (Table.get l.nodes a).isSome := fun a => by
    rw [Table.get_map l.nodes fun n => ({ n with slot := none } : Node)]; simp
  have hlists : ({ l with nodes := l.nodes.map fun e => (e.1, { e.2 with slot := none }) } : Loop).lists = l.lists :=
    funext hl
  simp only [Loop.sound, Loop.phaseListed, hlists, Table.wf, Table.keys_map, List.all_map, List.isEmpty_map]
  rfl

theorem Blocks.trans {s t u : State} (h : Blocks s t) (k : Blocks t u) : Blocks s u where
  tables := k.tables ∘ h.tables
  notices := k.notices ∘ h.notices
  clock := k.clock ∘ h.clock
  water := k.water ∘ h.water
  piles := k.piles ∘ h.piles
  weather := k.weather ∘ h.weather
  dispatch := k.dispatch ∘ h.dispatch
  ended := k.ended ∘ h.ended
  cannons := k.cannons ∘ h.cannons
  permits := k.permits ∘ h.permits
  onLive := k.onLive ∘ h.onLive
  loop := k.loop ∘ h.loop

namespace Held

theorem refl (s : State) : Held s s := {}

theorem trans {s t u : State} (h : Held s t) (k : Held t u) : Held s u where
  toBlocks := h.toBlocks.trans k.toBlocks
  nodes := fun ht hn => k.nodes (h.tables ht) (h.nodes ht hn)

end Held

/-- What an operation within an event keeps, every command may do. -/
theorem Keeps.held {s t : State} (h : Keeps s t) : Held s t where
  tables := fun hs => by
    obtain ⟨h1, h2, h3, h4, h5, h6⟩ := (State.tablesAscend_iff s).1 hs
    have hn : Table.keys t.loop.nodes = Table.keys s.loop.nodes := by
      have key : ∀ u : State, Table.keys u.loop.nodes
          = Table.keys (u.loop.nodes.map fun e => (e.1, ({ e.2 with slot := none } : Node))) := fun u => by simp
      rw [key t, key s, skeleton_nodes h.skeleton]
    refine (State.tablesAscend_iff t).2 ⟨h.pilesWf h1, ?_, ?_, skeleton_cannonsWf h.skeleton h4, h.outcomes h5, ?_⟩
    · rwa [skeleton_grades h.skeleton]
    · rwa [skeleton_masts h.skeleton]
    · rwa [Table.wf, hn]
  notices := h.notices
  clock := by
    rw [State.clockAndModelInRange, State.clockAndModelInRange, skeleton_clock h.skeleton, skeleton_model h.skeleton]
    exact id
  water := h.water
  piles := h.piles
  weather := h.weather
  dispatch := h.dispatch
  ended := h.ended
  cannons := h.cannons
  permits := h.permits
  onLive := h.onLive
  loop := by
    have key : ∀ u : State, u.loop.sound = u.skeleton.loop.sound := fun u => (Loop.sound_unslotted u.loop).symm
    rw [key t, key s, h.skeleton]
    exact id
  nodes := fun ht => h.nodesOwned ((State.tablesAscend_iff s).1 ht).2.2.2.1

namespace Held

theorem openEvent (s : State) : Held s s.openEvent where
  ended := fun h o ho => (h o ho).trans (Nat.le_succ _)

theorem answer (s : State) (c : Nat) (x : Status) (p : List Byte) : Held s (s.answer c x p) := {}

theorem answerUnless (s : State) (b : Bool) (c : Nat) (x : Status) (p : List Byte) : Held s (s.answerUnless b c x p) := by
  unfold State.answerUnless
  split
  · exact refl s
  · exact answer s c x p

/-- An operation, its tellings and a reply. -/
theorem settled {s : State} {x : State × List Task} (h : Held s x.1) : Held s (settled x) :=
  h.trans (Keeps.settle x.1 none x.2).held

end Held

/-! ## Piles and grades (R7 to R18) -/

theorem Grade.inRange_iff (g : Grade) :
    g.inRange = true ↔ (1 ≤ g.kg ∧ g.kg ≤ 255) ∧ (1 ≤ g.gk ∧ g.gk ≤ 255) ∧ g.mt ≤ g.msat ∧ g.mwork ≤ g.msat
      ∧ (1 ≤ g.msat ∧ g.msat ≤ Config.maxMoisture) ∧ g.margin ≤ 1000 ∧ (1 ≤ g.dg ∧ g.dg ≤ 255) ∧ g.fdef ≤ 100 := by
  simp [Grade.inRange, within, and_assoc]

theorem byte_pos {x : Byte} (h : x ≠ 0) : 1 ≤ x.toNat ∧ x.toNat ≤ 255 := by
  have := x.isLt
  refine ⟨?_, by omega⟩
  by_contra h0
  exact h (BitVec.eq_of_toNat_eq (by simp; omega))

theorem half_pos {x : Half} (h : x ≠ 0) : 1 ≤ x.toNat ∧ x.toNat ≤ 65535 := by
  have := x.isLt
  refine ⟨?_, by omega⟩
  by_contra h0
  exact h (BitVec.eq_of_toNat_eq (by simp; omega))

/-- A grade record that passes the checks of R7 is in range. -/
theorem gradeOf_inRange {n : Byte} {a : GradeArgs} (h : gradeArgsOk n a = true) :
    n.toNat < Config.grades ∧ (gradeOf a).inRange = true := by
  simp only [gradeArgsOk, within, Bool.and_eq_true, decide_eq_true_eq, bne_iff_ne, ne_eq] at h
  obtain ⟨⟨⟨⟨⟨⟨⟨⟨h1, h2⟩, h3⟩, h4⟩, h5⟩, h6⟩, h7⟩, h8⟩, h9⟩ := h
  exact ⟨h1, (Grade.inRange_iff _).2 ⟨byte_pos h3, byte_pos h4, h6, h7, h2, h8, byte_pos h5, h9⟩⟩

theorem State.pileInRange_iff (s : State) (p : Pile) :
    s.pileInRange p = true ↔ (1 ≤ p.tag ∧ p.tag ≤ 65535) ∧ (1 ≤ p.area ∧ p.area ≤ 65535) ∧ p.residue < Config.two16
      ∧ p.mcore ≤ Config.maxMoisture ∧ p.lastWp ≤ Config.maxWind ∧ p.lastWgp ≤ Config.maxWind ∧ p.risk ≤ 255
      ∧ p.band = bandOf s.model p.risk ∧ ∃ g, s.gradeOf? p = some g ∧ p.m ≤ g.msat := by
  simp only [State.pileInRange, within, Bool.and_eq_true, decide_eq_true_eq, beq_iff_eq, Option.any_eq_true, and_assoc]

/-- Piles changed each in its place, tags and states kept, leave every permit on a LIVE pile. -/
theorem State.permitsOnLive_map {s t : State} {g : Nat × Pile → Pile} (ht : t.piles = s.piles.map fun e => (e.1, g e))
    (hx : t.permits.list = s.permits.list) (hg : ∀ e, (g e).tag = e.2.tag ∧ (g e).life = e.2.life)
    (h : s.permitsOnLive = true) : t.permitsOnLive = true := by
  obtain ⟨hw, hnd, hl⟩ := (State.permitsOnLive_iff _).1 h
  have htags : (t.piles.map fun e => e.2.tag) = s.piles.map fun e => e.2.tag := by
    rw [ht, List.map_map]; exact List.map_congr_left fun e _ => (hg e).1
  refine (State.permitsOnLive_iff _).2 ⟨ht ▸ Table.wf_map _ _ hw, htags ▸ hnd, fun x hxs => ?_⟩
  obtain ⟨e, he, het, hlife⟩ := (State.liveTag_iff hnd _).1 (hl x (hx ▸ hxs))
  exact (State.liveTag_iff (htags ▸ hnd) _).2
    ⟨_, ht ▸ List.mem_map.2 ⟨e, he, rfl⟩, ((hg e).1).trans het, ((hg e).2).trans hlife⟩

/-- A write at a free key adds one entry to the table. -/
theorem Table.set_perm {α : Type} {t : Table α} {k : Nat} (v : α) (h : Table.get t k = none) :
    (Table.set t k v).Perm ((k, v) :: t) := by
  induction t with
  | nil => exact .refl _
  | cons e t ih =>
    obtain ⟨k', v'⟩ := e
    simp only [Table.set]
    split
    · exact .refl _
    · rw [Table.get_cons] at h
      split
      · simp_all
      · exact ((ih (by simpa [*] using h)).cons _).trans (.swap _ _ _)

theorem State.clampGrade_piles (s : State) (n : Nat) (g : Grade) :
    (s.clampGrade n g).piles
      = s.piles.map fun e => (e.1, if e.2.grade = n then { e.2 with m := min e.2.m g.msat } else e.2) :=
  List.map_congr_left fun e _ => by split <;> rfl

namespace Held

theorem loadGrade (s : State) (n : Byte) (a : GradeArgs) : Held s (s.loadGrade n a) := by
  unfold State.loadGrade
  split
  · rename_i hok
    obtain ⟨hn, hg⟩ := gradeOf_inRange hok
    refine .trans (.trans (.trans (openEvent s) ?_) (settled (.refl _))) (answer _ _ _ _)
    have hlive : ∀ e : Nat × Pile, (if e.2.grade = n.toNat then { e.2 with m := min e.2.m (gradeOf a).msat } else e.2).tag
        = e.2.tag ∧ (if e.2.grade = n.toNat then { e.2 with m := min e.2.m (gradeOf a).msat } else e.2).life = e.2.life :=
      fun e => by split <;> exact ⟨rfl, rfl⟩
    refine { tables := fun h => ?_, piles := fun h => ?_, onLive := fun h => ?_ }
    · obtain ⟨h1, h2, h3⟩ := (State.tablesAscend_iff _).1 h
      refine (State.tablesAscend_iff _).2 ⟨?_, Table.wf_set _ _ _ h2, h3⟩
      rw [State.clampGrade_piles]
      exact Table.wf_map _ _ h1
    · obtain ⟨hw, hp, hgr, hnd⟩ := (State.pilesSound_iff _).1 h
      refine (State.pilesSound_iff _).2 ⟨?_, fun e he => ?_, fun e he => ?_, ?_⟩
      · rw [State.clampGrade_piles]
        exact Table.wf_map _ _ hw
      · rw [State.clampGrade_piles] at he
        obtain ⟨d, hd, rfl⟩ := List.mem_map.1 he
        refine ⟨(hp d hd).1, ?_⟩
        obtain ⟨h1, h2, h3, h4, h5, h6, h7, h8, g, hgd, hm⟩ := (State.pileInRange_iff _ _).1 (hp d hd).2
        dsimp only
        split
        · rename_i hgn
          refine (State.pileInRange_iff _ _).2 ⟨h1, h2, h3, h4, h5, h6, h7, h8, gradeOf a, ?_, Nat.min_le_right _ _⟩
          exact hgn ▸ Table.get_set_self _ _ _
        · rename_i hgn
          refine (State.pileInRange_iff _ _).2 ⟨h1, h2, h3, h4, h5, h6, h7, h8, g, ?_, hm⟩
          exact (Table.get_set_of_ne _ _ hgn).trans hgd
      · rcases Table.mem_set he with rfl | he
        · exact ⟨hn, hg⟩
        · exact hgr e he
      · rw [State.clampGrade_piles, List.map_map]
        exact (List.map_congr_left fun e _ => (hlive e).1 : s.piles.map _ = _) ▸ hnd
    · exact State.permitsOnLive_map (State.clampGrade_piles _ _ _) rfl hlive h
  · exact answer s _ _ _

/-- A pile is placed in a free slot, under a tag that no pile carries. -/
theorem openPile (s : State) (a : OpenPileArgs) : Held s (s.openPile a) := by
  unfold State.openPile
  split
  · exact answer s _ _ _
  · rename_i hok
    split
    · exact answer s _ _ _
    · rename_i htag
      split
      · exact answer s _ _ _
      · rename_i g hg
        split
        · exact answer s _ _ _
        · rename_i slot hslot
          refine .trans ?_ (answer _ _ _ _)
          obtain ⟨hslot, hfree, -⟩ := (Table.lowestFree_eq_some_iff _ _ _).1 hslot
          have hperm := Table.set_perm (newPile s.model g a) hfree
          have htags : ((Table.set s.piles slot (newPile s.model g a)).map fun e => e.2.tag).Perm
              (a.tag.toNat :: s.piles.map fun e => e.2.tag) := hperm.map _
          have hnew : (s.piles.map fun e => e.2.tag).Nodup →
              ((Table.set s.piles slot (newPile s.model g a)).map fun e => e.2.tag).Nodup := fun hn => by
            refine htags.nodup_iff.2 (List.nodup_cons.2 ⟨fun hmem => ?_, hn⟩)
            obtain ⟨e, he, het⟩ := List.mem_map.1 hmem
            simp only [State.pileAt?, Option.isSome_iff_ne_none, ne_eq, not_not, List.find?_eq_none, beq_iff_eq] at htag
            exact htag e he het
          refine { tables := fun h => ?_, piles := fun h => ?_, onLive := fun h => ?_ }
          · obtain ⟨h1, h2⟩ := (State.tablesAscend_iff _).1 h
            exact (State.tablesAscend_iff _).2 ⟨Table.wf_set _ _ _ h1, h2⟩
          · obtain ⟨hw, hp, hgr, hnd⟩ := (State.pilesSound_iff _).1 h
            refine (State.pilesSound_iff _).2 ⟨Table.wf_set _ _ _ hw, fun e he => ?_, hgr, hnew hnd⟩
            rcases Table.mem_set he with rfl | he
            · simp only [openPileArgsOk, Bool.not_eq_false, Bool.and_eq_true, bne_iff_ne, ne_eq, decide_eq_true_eq] at hok
              obtain ⟨⟨⟨h1, h2⟩, h3⟩, h4⟩ := hok
              refine ⟨hslot, (State.pileInRange_iff _ _).2 ⟨half_pos h1, half_pos h3, by simp [newPile], h4, by simp [newPile],
                by simp [newPile], by simp [newPile], rfl, g, hg, Nat.min_le_right _ _⟩⟩
            · exact hp e he
          · obtain ⟨hw, hnd, hx⟩ := (State.permitsOnLive_iff _).1 h
            refine (State.permitsOnLive_iff _).2 ⟨Table.wf_set _ _ _ hw, hnew hnd, fun x hxs => ?_⟩
            obtain ⟨e, he, ht, hl⟩ := (State.liveTag_iff hnd _).1 (hx x hxs)
            exact (State.liveTag_iff (s := { s with piles := _ }) (hnew hnd) _).2
              ⟨e, hperm.mem_iff.2 (List.mem_cons_of_mem _ he), ht, hl⟩

theorem amendPile (s : State) (a : AmendPileArgs) : Held s (s.amendPile a) := by
  have hamend : ∀ p : Pile, amendPileArgsOk a = true → s.pileInRange p = true → s.pileInRange (p.amended a) = true :=
    fun p hok hp => by
      obtain ⟨h1, h2, h3, h4, h5, h6, h7, h8, g, hg, hm⟩ := (State.pileInRange_iff _ _).1 hp
      simp only [amendPileArgsOk, Bool.and_eq_true, Option.all_eq_true, decide_eq_true_eq, bne_iff_ne, ne_eq] at hok
      refine (State.pileInRange_iff _ _).2 ⟨h1, ?_, h3, ?_, h5, h6, h7, h8, g, hg, hm⟩
      · cases ha : a.area with
        | none => simpa [Pile.amended, ha] using h2
        | some x => simpa [Pile.amended, ha] using half_pos (hok.1.2 x ha)
      · cases ha : a.mcore with
        | none => simpa [Pile.amended, ha] using h4
        | some x => simpa [Pile.amended, ha] using hok.2 x ha
  unfold State.amendPile
  split
  · exact answer s _ _ _
  · split
    · exact answer s _ _ _
    · rename_i hok
      have hok : amendPileArgsOk a = true := by simpa using hok
      have hplain : ∀ slot, Held s (s.mapPile slot fun p => p.amended a) := fun slot =>
        Keeps.held (Keeps.mapPile' (fun _ => rfl) (fun _ => rfl) fun _ p _ hp => hamend p hok hp)
      split
      · exact (hplain _).trans (answer _ _ _ _)
      · split
        · exact answer s _ _ _
        · rename_i g hg
          split
          · exact (hplain _).trans (answer _ _ _ _)
          · refine .trans (settled (.trans (openEvent s) ?_)) (answer _ _ _ _)
            refine Keeps.held (Keeps.mapPile' (fun _ => rfl) (fun _ => rfl) fun _ p _ hp => ?_)
            obtain ⟨h1, h2, h3, h4, h5, h6, h7, h8, -⟩ := (State.pileInRange_iff _ _).1 (hamend p hok hp)
            exact (State.pileInRange_iff _ _).2 ⟨h1, h2, h3, h4, h5, h6, h7, h8, g, hg, Nat.min_le_right _ _⟩

theorem setMoisture (s : State) (tag value : Half) : Held s (s.setMoisture tag value) := by
  unfold State.setMoisture
  split
  · exact answer s _ _ _
  · rename_i slot p hp
    refine .trans (settled (.trans (openEvent s) ?_)) (answer _ _ _ _)
    refine Keeps.held (Keeps.mapPile' (fun _ => rfl) (fun _ => rfl) fun h q hq hr => ?_)
    obtain ⟨h1, h2, h3, h4, h5, h6, h7, h8, g, hg, hm⟩ := (State.pileInRange_iff _ _).1 hr
    refine (State.pileInRange_iff _ _).2 ⟨h1, h2, by simp, h4, h5, h6, h7, h8, g, hg, ?_⟩
    cases hq.symm.trans (State.pileAt_get ((State.pilesSound_iff _).1 h).1 hp)
    have hms : s.msatOf p = g.msat := by simp [State.msatOf, show s.gradeOf? p = some g from hg]
    dsimp only
    rw [hms]; omega

theorem reportDisturbance (s : State) (tag : Half) (f : Byte) (mf : Option Half) : Held s (s.reportDisturbance tag f mf) := by
  unfold State.reportDisturbance
  split
  · exact answer s _ _ _
  · exact (settled ((openEvent s).trans (Keeps.blendPile _ _ _ _).held)).trans (answer _ _ _ _)

theorem retirePile (s : State) (tag : Half) : Held s (s.retirePile tag) := by
  unfold State.retirePile
  split
  · exact answer s _ _ _
  · rename_i slot p hp
    split
    · exact answer s _ _ _
    · split
      · exact answer s _ _ _
      · rename_i hx
        refine .trans (settled (.trans (openEvent s) ?_)) (answer _ _ _ _)
        refine Keeps.held (Keeps.mapPile (fun _ => rfl) (fun _ _ _ hr => hr) fun h q hq _ => .inr fun x hxs ht => ?_)
        cases hq.symm.trans (State.pileAt_get ((State.permitsOnLive_iff _).1 h).1 hp)
        have hmem : x ∈ s.permitsOn tag.toNat := List.mem_filter.2 ⟨hxs, by simp [ht, (State.pileAt_mem hp).2]⟩
        simp only [ne_eq, not_not] at hx
        simp [hx] at hmem

end Held

end Sys2Proof.Machine
end

section
set_option Elab.async false
/-! PROOFS. The model step, the wind monitor's commands and the forecast table's, among what every command keeps. -/

namespace Sys2Proof.Machine

/-! ## The model step (R23 to R34) -/

/-- The record a pile has after stages 1 to 5 is in range (R25 to R29). -/
theorem stages1to5_inRange {s : State} {g : Grade} {p : Pile} (w : Weather) (hg : s.gradeOf? p = some g)
    (hp : s.pileInRange p = true) : s.pileInRange (stages1to5 s.model w g p) = true := by
  obtain ⟨h1, h2, -, h4, -, -, -, -, -⟩ := (State.pileInRange_iff _ _).1 hp
  have hdry : ∀ q : Pile, (stageDry w g q).tag = q.tag ∧ (stageDry w g q).area = q.area ∧ (stageDry w g q).mcore = q.mcore
      ∧ (stageDry w g q).lastWp = q.lastWp ∧ (stageDry w g q).lastWgp = q.lastWgp ∧ (stageDry w g q).grade = q.grade
      ∧ (stageDry w g q).residue < Config.two16 ∧ (stageDry w g q).m ≤ q.m := fun q => by
    simp only [stageDry]
    split
    · exact ⟨rfl, rfl, rfl, rfl, rfl, rfl, by simp, Nat.zero_le _⟩
    · exact ⟨rfl, rfl, rfl, rfl, rfl, rfl, Nat.mod_lt _ (by decide), Nat.sub_le _ _⟩
  obtain ⟨d1, d2, d3, d4, d5, d6, d7, d8⟩ := hdry (stageRain w g (stageWind w p))
  refine (State.pileInRange_iff _ _).2 ⟨d1 ▸ h1, d2 ▸ h2, d7, d3 ▸ h4, d4 ▸ Nat.min_le_left _ _, d5 ▸ Nat.min_le_left _ _,
    Nat.min_le_left _ _, rfl, g, ?_, d8.trans (Nat.min_le_left _ _)⟩
  exact (congrArg (Table.get s.grades) d6).trans hg

theorem stages1to5_kept (l : Model) (w : Weather) (g : Grade) (p : Pile) :
    (stages1to5 l w g p).tag = p.tag ∧ (stages1to5 l w g p).life = p.life := by
  simp only [stages1to5, stageBand, stageRisk, stageDry]
  split <;> exact ⟨rfl, rfl⟩

namespace Keeps

theorem withdrawAuto (s : State) (tag : Nat) (b : Band) (look : Look) : Keeps s (s.withdrawAuto tag b look) := by
  unfold State.withdrawAuto
  split
  · split
    · exact settled (endOrder s _ _)
    · exact .refl s
  · exact .refl s

end Keeps

theorem autoWanted_priority {b : Band} {look : Look} {x : Origin} {k : Nat} (h : autoWanted b look = some (x, k)) :
    k ≤ 2 := by
  unfold autoWanted at h
  split at h
  · cases h; decide
  · cases h; decide
  · split at h
    · cases h; decide
    · cases h
  · split at h
    · cases h; decide
    · cases h

namespace Keeps

theorem placeAuto (s : State) (g : Grade) (p : Pile) (look : Look) : Keeps s (s.placeAuto g p look).1 := by
  unfold State.placeAuto
  split
  · split
    · rename_i o k d c hw hd
      split
      · exact .refl s
      · rename_i hf
        exact settled (accept ((autoWanted_priority hw).trans (by decide)) (by simpa using hf))
    · exact .refl s
  · exact .refl s

theorem raiseAuto (s : State) (o : Order) (b : Band) : Keeps s (s.raiseAuto o b) := by
  unfold State.raiseAuto
  split
  · rename_i x k hk
    split
    · unfold State.raiseTo
      have hm : Keeps s (s.mapOrder o.id fun o => { o with origin := .autoRisk, priority := k }) :=
        mapOrder fun o => ⟨rfl, fun h => by
          obtain ⟨h1, h2, -, h4, h5, h6⟩ := (Order.sound_iff _).1 h
          exact (Order.sound_iff _).2 ⟨h1, h2, (autoWanted_priority hk).trans (by decide), h4, h5, h6⟩, fun h => h⟩
      dsimp only
      split
      · exact hm.trans (occasion _)
      · exact hm
    · exact .refl s
  · exact .refl s

theorem stageAuto (s : State) (g : Grade) (p : Pile) (look : Look) : Keeps s (s.stageAuto g p look).1 := by
  unfold State.stageAuto
  dsimp only
  split
  · exact (withdrawAuto _ _ _ _).trans (raiseAuto _ _ _)
  · exact (withdrawAuto _ _ _ _).trans (placeAuto _ _ _ _)

/-- The eight stages on one pile. -/
theorem stepPile (acc : State × Nat) (slot : Nat) : Keeps acc.1 (State.stepPile acc slot).1 := by
  unfold State.stepPile
  dsimp only
  split
  · exact .refl _
  · rename_i p hp
    split
    · exact .refl _
    · rename_i g hg
      have h1 : Keeps acc.1 (acc.1.mapPile slot fun _ => stages1to5 acc.1.model acc.1.wind.weather g p) := by
        refine mapPileAt (fun _ q hq => ?_) (fun _ q hq hr => ?_) (fun _ q hq hl => .inl ?_) <;>
          cases hq.symm.trans hp
        · exact (stages1to5_kept _ _ _ _).1
        · exact stages1to5_inRange _ hg hr
        · exact (stages1to5_kept _ _ _ _).2.trans hl
      have hdeg : ∀ s : State, Keeps s (s.mapPile slot fun p => stageDegraded acc.1.wind.weather p) := fun s =>
        mapPile' (fun _ => rfl) (fun _ => rfl) fun _ q _ hr => hr
      have hhand : ∀ (s : State) (c : Prop) [Decidable c], Keeps s (if c then s else s.hand .pile slot) := fun s c _ => by
        split
        · exact .refl s
        · exact hand s _ _
      have hraise : ∀ (s : State) (c : Bool), Keeps s (if c then s.hand .pile slot else s) := fun s c => by
        split
        · exact hand s _ _
        · exact .refl s
      exact h1.trans ((hhand _ _).trans ((stageAuto _ _ _ _).trans ((hdeg _).trans (hraise _ _))))

theorem stepPile_foldl (l : List Nat) (acc : State × Nat) : Keeps acc.1 (l.foldl State.stepPile acc).1 := by
  induction l generalizing acc with
  | nil => exact .refl _
  | cons k l ih => exact (stepPile acc k).trans (ih _)

end Keeps

namespace Held

theorem takeStep (s : State) : Held s s.takeStep := by
  unfold State.takeStep
  refine settled (.trans ((openEvent s).trans (Keeps.stepPile_foldl (Table.keys s.openEvent.piles) (s.openEvent, 0)).held) ?_)
  exact {}

theorem modelStep (s : State) : Held s s.modelStep := by
  unfold State.modelStep
  split
  · refine .trans ?_ (takeStep _)
    exact {}
  · exact refl s

/-! ## Settings of the moisture model (R41, R42) -/

theorem setLead (s : State) (v : Half) : Held s (s.setLead v) := by
  refine .trans ?_ (answer _ _ _ _)
  refine { clock := fun h => ?_ }
  obtain ⟨h1, h2, h3, h4, -, h6⟩ := (State.clockAndModelInRange_iff _).1 h
  exact (State.clockAndModelInRange_iff _).2 ⟨h1, h2, h3, h4, Nat.min_le_right _ _, h6⟩

theorem setBands (s : State) (b1 b2 b3 : Byte) : Held s (s.setBands b1 b2 b3) := by
  unfold State.setBands
  split
  · rename_i hok
    refine .trans (.trans ?_ (Keeps.foldl (fun s k => Keeps.hand s .pile k) _ _).held) (answer _ _ _ _)
    refine { tables := fun h => ?_, clock := fun h => ?_, piles := fun h => ?_, onLive := fun h => ?_ }
    · obtain ⟨h1, h2⟩ := (State.tablesAscend_iff _).1 h
      exact (State.tablesAscend_iff _).2 ⟨Table.wf_map _ _ h1, h2⟩
    · obtain ⟨h1, h2, h3, h4, h5, -⟩ := (State.clockAndModelInRange_iff _).1 h
      simp only [bandsOk, Bool.and_eq_true, decide_eq_true_eq] at hok
      exact (State.clockAndModelInRange_iff _).2 ⟨h1, h2, h3, h4, h5, by dsimp only; omega, by dsimp only; omega,
        by dsimp only; omega, by have := b3.isLt; dsimp only; omega⟩
    · obtain ⟨hw, hp, hg, hn⟩ := (State.pilesSound_iff _).1 h
      refine (State.pilesSound_iff _).2 ⟨Table.wf_map _ _ hw, fun e he => ?_, hg, ?_⟩
      · obtain ⟨d, hd, rfl⟩ := List.mem_map.1 he
        refine ⟨(hp d hd).1, ?_⟩
        obtain ⟨h1, h2, h3, h4, h5, h6, h7, -, g⟩ := (State.pileInRange_iff _ _).1 (hp d hd).2
        exact (State.pileInRange_iff _ _).2 ⟨h1, h2, h3, h4, h5, h6, h7, rfl, g⟩
      · rw [List.map_map]
        exact hn
    · exact State.permitsOnLive_map rfl rfl (fun _ => ⟨rfl, rfl⟩) h
  · exact answer s _ _ _

end Held

end Sys2Proof.Machine
end

section
set_option Elab.async false
/-! PROOFS. The node list as owners come, move and go, and rounds start and end: what keeps the loop master sound and the
nodes those of the loaded owners (R158 to R160). -/

namespace Sys2Proof.Machine

theorem Node.sound_iff (n : Node) :
    n.sound = true ↔ n.misses ≤ 2 ∧ n.lost = n.countdown.isSome ∧ (∀ k, n.countdown = some k → 1 ≤ k ∧ k ≤ 8)
      ∧ n.extraDelay ≤ 15 ∧ n.totalMisses ≤ 65535 := by
  simp [Node.sound, within, Option.all_eq_true, and_assoc]

theorem Loop.sound_iff (l : Loop) :
    l.sound = true ↔ Table.wf l.nodes = true ∧ (∀ e ∈ l.nodes, e.2.sound = true) ∧ l.running = !l.nodes.isEmpty
      ∧ (l.running = true ∨ l.phase = .noRound ∧ l.timer = .stopped ∧ l.winner = none)
      ∧ (l.running = true → l.timer ≠ .stopped) ∧ (∀ a, l.winner = some a → l.lists a = true) ∧ l.phaseListed = true := by
  cases hr : l.running <;> simp [Loop.sound, Option.all_eq_true, and_assoc, hr]

/-- An address of an entry stands in the list. -/
theorem Loop.lists_of_mem {l : Loop} (hw : Table.wf l.nodes = true) {e : Nat × Node} (he : e ∈ l.nodes) :
    l.lists e.1 = true := by
  rw [Loop.lists, Table.get_of_mem hw he]
  rfl

/-- The addresses that a round's place names (R163). -/
def Phase.names : Phase → List Nat
  | .noRound => []
  | .between todo => todo
  | .exchange a _ todo => a :: todo
  | .calling => []

theorem Loop.phaseListed_iff (l : Loop) : l.phaseListed = true ↔ ∀ a ∈ l.phase.names, l.lists a = true := by
  unfold Loop.phaseListed
  cases l.phase <;> simp [Phase.names]

theorem Node.counted_sound {n : Node} (h : n.sound = true) : n.counted.sound = true := by
  obtain ⟨h1, h2, h3, h4, h5⟩ := (Node.sound_iff n).1 h
  unfold Node.counted
  split
  · rename_i hl
    refine (Node.sound_iff _).2 ⟨h1, by simpa using hl, fun k hk => ?_, h4, h5⟩
    obtain ⟨j, hj⟩ := Option.isSome_iff_exists.1 (h2 ▸ hl)
    have := h3 j hj
    have hk := Option.some.inj hk
    simp only [Node.due, hl, hj, Option.getD_some, Bool.true_and, decide_eq_true_eq] at hk
    split at hk
    · simp only [Config.probeRounds] at hk; omega
    · omega
  · exact h

theorem Node.counted_kept (n : Node) : n.counted.owner = n.owner ∧ n.counted.slot = n.slot := by
  unfold Node.counted
  split <;> exact ⟨rfl, rfl⟩

/-- A round starts from a list with a node in it. -/
theorem Loop.startRound_sound {l : Loop} (hw : Table.wf l.nodes = true) (hn : ∀ e ∈ l.nodes, e.2.sound = true)
    (he : l.running = !l.nodes.isEmpty) (hr : l.running = true) (hwin : ∀ a, l.winner = some a → l.lists a = true) :
    l.startRound.sound = true := by
  have hl : ∀ a, l.startRound.lists a = l.lists a := fun a => by
    simp only [Loop.lists, Loop.startRound]
    rw [Table.get_map l.nodes Node.counted, Option.isSome_map]
  refine (Loop.sound_iff _).2 ⟨Table.wf_map _ _ hw, fun e he => ?_, ?_, .inl hr, fun _ => nofun, nofun,
    (Loop.phaseListed_iff _).2 fun a ha => ?_⟩
  · obtain ⟨d, hd, rfl⟩ := List.mem_map.1 he
    exact Node.counted_sound (hn d hd)
  · simpa [Loop.startRound] using he
  · rw [hl]
    rcases List.mem_append.1 ha with ha | ha
    · exact hwin a (by simpa using ha)
    · obtain ⟨e, he, rfl⟩ := List.mem_map.1 ha
      exact Loop.lists_of_mem hw (List.mem_filter.1 he).1

theorem Loop.endRound_sound {l : Loop} (h : l.sound = true) : l.endRound.sound = true := by
  obtain ⟨h1, h2, h3, h4, h5, h6, -⟩ := (Loop.sound_iff l).1 h
  have hphase : ({ l with phase := .noRound } : Loop).sound = true :=
    (Loop.sound_iff _).2 ⟨h1, h2, h3, h4.imp id fun h => ⟨rfl, h.2⟩, h5, h6, rfl⟩
  unfold Loop.endRound
  split
  · rename_i ht
    exact startRound_sound h1 h2 h3 (h4.resolve_right fun h => by simp [ht] at h) h6
  · exact hphase
  · exact hphase

theorem Loop.endRound_nodes (l : Loop) (a : Nat) :
    (Table.get l.endRound.nodes a).map (fun n => (n.owner, n.slot)) = (Table.get l.nodes a).map fun n => (n.owner, n.slot) := by
  unfold Loop.endRound
  split
  · simp only [Loop.startRound]
    rw [Table.get_map l.nodes Node.counted, Option.map_map]
    exact congrArg (Option.map · _) (funext fun n => by simp [Node.counted_kept n])
  · rfl
  · rfl

/-! ## Nodes added and removed (R159) -/

theorem Table.erase_isEmpty {α : Type} (t : Table α) (k : Nat) (h : t.isEmpty = true) : (Table.erase t k).isEmpty = true := by
  simp_all [Table.erase]

/-- A node added leaves the loop master sound. -/
theorem addNode_sound {s : State} {a d : Nat} {o : Owner} (hd : d ≤ 15) (h : s.loop.sound = true) :
    (s.addNode a o d).loop.sound = true := by
  obtain ⟨h1, h2, h3, h4, h5, h6, h7⟩ := (Loop.sound_iff _).1 h
  have hwf := Table.wf_set s.loop.nodes a (Node.added o d) h1
  have hs : ∀ e ∈ Table.set s.loop.nodes a (Node.added o d), e.2.sound = true := fun e he => by
    rcases Table.mem_set he with rfl | he
    · exact (Node.sound_iff _).2 ⟨by simp [Node.added], rfl, nofun, hd, by simp [Node.added]⟩
    · exact h2 e he
  have hne : (Table.set s.loop.nodes a (Node.added o d)).isEmpty = false := by
    have := Table.get_set_self s.loop.nodes a (Node.added o d)
    cases ht : Table.set s.loop.nodes a (Node.added o d) with
    | nil => simp [ht] at this
    | cons e t => rfl
  have hmono : ∀ b, s.loop.lists b = true → (Table.get (Table.set s.loop.nodes a (Node.added o d)) b).isSome = true :=
    fun b hb => by
      by_cases hab : b = a
      · subst hab; simp
      · rw [Table.get_set_of_ne _ _ hab]; exact hb
  unfold State.addNode
  dsimp only
  split
  · exact Loop.startRound_sound hwf hs (by simp [hne]) rfl fun b hb => hmono b (h6 b hb)
  · rename_i hc
    have hrun : s.loop.running = true := by
      by_contra hr
      have hr : s.loop.running = false := by simpa using hr
      have hnil : s.loop.nodes = [] := by simpa [hr] using h3
      exact hc ⟨by simp [hnil, Table.set], hr⟩
    refine (Loop.sound_iff _).2 ⟨hwf, hs, by simp [hne, hrun], .inl hrun, h5, fun b hb => hmono b (h6 b hb),
      (Loop.phaseListed_iff _).2 fun b hb => hmono b ((Loop.phaseListed_iff _).1 h7 b hb)⟩

theorem Phase.names_without (p : Phase) (a : Nat) : ∀ b ∈ (p.without a).names, b ≠ a ∧ b ∈ p.names := by
  intro b hb
  cases p with
  | noRound => simp [Phase.without, Phase.names] at hb
  | between todo => simpa [Phase.without, Phase.names, and_comm] using hb
  | exchange c x todo =>
    simp only [Phase.without] at hb
    split at hb
    · simp only [Phase.names, List.mem_filter, bne_iff_ne, ne_eq, List.mem_cons] at hb ⊢
      exact ⟨hb.2, .inr hb.1⟩
    · simp only [Phase.names, List.mem_filter, bne_iff_ne, ne_eq, List.mem_cons] at hb ⊢
      rcases hb with rfl | hb
      · exact ⟨‹_›, .inl rfl⟩
      · exact ⟨hb.2, .inr hb.1⟩
  | calling => simp [Phase.without, Phase.names] at hb

theorem removeNode_sound {s : State} (a : Nat) (h : s.loop.sound = true) : (s.removeNode a).loop.sound = true := by
  obtain ⟨h1, h2, h3, h4, h5, h6, h7⟩ := (Loop.sound_iff _).1 h
  have hwf := Table.wf_erase s.loop.nodes a h1
  have hs : ∀ e ∈ Table.erase s.loop.nodes a, e.2.sound = true := fun e he => h2 e (List.mem_filter.1 he).1
  unfold State.removeNode
  dsimp only
  split
  · rename_i he
    exact (Loop.sound_iff _).2 ⟨hwf, hs, by simp [he], .inr ⟨rfl, rfl, rfl⟩, nofun, nofun, rfl⟩
  · rename_i he
    have hrun : s.loop.running = true := by
      rw [h3, Bool.not_eq_true']
      by_contra hne
      exact he (Table.erase_isEmpty _ a (by simpa using hne))
    have hl : ∀ b, b ≠ a → s.loop.lists b = true → (Table.get (Table.erase s.loop.nodes a) b).isSome = true :=
      fun b hb hlb => by rw [Table.get_erase_of_ne _ hb]; exact hlb
    refine (Loop.sound_iff _).2 ⟨hwf, hs, by simp [hrun, he], .inl hrun, h5, fun b hb => ?_,
      (Loop.phaseListed_iff _).2 fun b hb => ?_⟩
    · obtain ⟨hb1, hb2⟩ := (Option.filter_eq_some_iff).1 hb
      exact hl b (by simpa using hb2) (h6 b hb1)
    · obtain ⟨hne, hb⟩ := Phase.names_without _ _ b hb
      exact hl b hne ((Loop.phaseListed_iff _).1 h7 b hb)

/-- What the node list says of its owners once one has been added. -/
theorem node_addNode (s : State) (a d b : Nat) (o : Owner) :
    ((s.addNode a o d).node? b).map (fun n => (n.owner, n.slot))
      = if b = a then some (o, none) else (s.node? b).map fun n => (n.owner, n.slot) := by
  have hset : (Table.get (Table.set s.loop.nodes a (Node.added o d)) b).map (fun n => (n.owner, n.slot))
      = if b = a then some (o, none) else (s.node? b).map fun n => (n.owner, n.slot) := by
    split
    · subst_vars; simp [Node.added]
    · rw [Table.get_set_of_ne _ _ ‹_›]; rfl
  rw [← hset]
  unfold State.addNode State.node?
  dsimp only
  split
  · simp only [Loop.startRound]
    rw [Table.get_map _ Node.counted, Option.map_map]
    exact congrArg (Option.map · _) (funext fun n => by simp [Node.counted_kept n])
  · rfl

theorem node_removeNode (s : State) (a b : Nat) : (s.removeNode a).node? b = if b = a then none else s.node? b := by
  have key : (s.removeNode a).node? b = Table.get (Table.erase s.loop.nodes a) b := by
    unfold State.removeNode State.node?
    dsimp only
    split <;> rfl
  rw [key]
  split
  · subst_vars; exact Table.get_erase_self _ _
  · exact Table.get_erase_of_ne _ ‹_›

/-- The nodes are those of the loaded owners after one owner has come, moved or gone: its old address has left the list and
its new one, which no other owner held, has joined it. -/
theorem State.nodesOwned.replaced {s t : State} {o : Owner} (hs : s.nodesOwned)
    (hother : ∀ x, x ≠ o → t.addressOf x = s.addressOf x)
    (hfree : ∀ a, t.addressOf o = some a → s.heldByOther a o = false)
    (hnode : ∀ b, (t.node? b).map (fun n => (n.owner, n.slot)) = if t.addressOf o = some b then some (o, none)
      else if s.addressOf o = some b then none else (s.node? b).map fun n => (n.owner, n.slot)) : t.nodesOwned := by
  have howner : ∀ b, (t.node? b).map (fun n => n.owner) = ((t.node? b).map fun n => (n.owner, n.slot)).map Prod.fst :=
    fun b => by rw [Option.map_map]; rfl
  have hmine : ∀ b x, x ≠ o → t.addressOf o = some b → s.addressOf x ≠ some b := fun b x hx hb hsx => by
    obtain ⟨n, hn, hnx⟩ := Option.map_eq_some_iff.1 ((hs.1 b x).2 hsx)
    simpa [State.heldByOther, hn, hnx, hx] using hfree b hb
  refine ⟨fun b x => ?_, fun b n hn => ?_⟩
  · rw [howner, hnode]
    by_cases hb : t.addressOf o = some b
    · by_cases hx : x = o
      · subst hx; simp [hb]
      · simp [hb, hother x hx, hmine b x hx hb, Ne.symm hx]
    · rw [if_neg hb]
      by_cases hsb : s.addressOf o = some b
      · by_cases hx : x = o
        · subst hx; simp [hsb, hb]
        · have hsx : s.addressOf x ≠ some b := fun h => by
            have h1 := (hs.1 b x).2 h
            rw [(hs.1 b o).2 hsb] at h1
            exact hx (Option.some.inj h1).symm
          simp [hsb, hother x hx, hsx]
      · have h1 : ((s.node? b).map fun n => (n.owner, n.slot)).map Prod.fst = (s.node? b).map fun n => n.owner := by
          rw [Option.map_map]; rfl
        rw [if_neg hsb, h1, hs.1 b x]
        by_cases hx : x = o
        · subst hx; simp [hsb, hb]
        · rw [hother x hx]
  · have h := hnode b
    rw [hn, Option.map_some] at h
    split at h
    · have h2 := congrArg Prod.snd (Option.some.inj h)
      simp only at h2
      simp [Node.slotFits, h2]
    · split at h
      · cases h
      · obtain ⟨m, hm, hmn⟩ := Option.map_eq_some_iff.1 h.symm
        have := hs.2 b m hm
        have ho := congrArg Prod.fst hmn
        have hsl := congrArg Prod.snd hmn
        simp only at ho hsl
        rwa [Node.slotFits, ho, hsl] at this

/-- A removal writes the loop master alone. -/
theorem removeNode_eq (s : State) (a : Nat) : s.removeNode a = { s with loop := (s.removeNode a).loop } := by
  unfold State.removeNode
  dsimp only
  split <;> rfl

theorem addressOf_removeNode (s : State) (a : Nat) (o : Owner) : (s.removeNode a).addressOf o = s.addressOf o := by
  rw [removeNode_eq]
  cases o <;> rfl

theorem addressOf_addNode (s : State) (a d : Nat) (p o : Owner) : (s.addNode a p d).addressOf o = s.addressOf o := by
  cases o <;> rfl

/-- A node added. -/
theorem Blocks.addNode {s : State} {a d : Nat} {o : Owner} (hd : d ≤ 15) : Blocks s (s.addNode a o d) where
  tables := fun h => by
    obtain ⟨h1, h2, h3, h4, h5, h6⟩ := (State.tablesAscend_iff _).1 h
    have hw := Table.wf_set s.loop.nodes a (Node.added o d) h6
    refine (State.tablesAscend_iff _).2 ⟨h1, h2, h3, h4, h5, ?_⟩
    unfold State.addNode
    dsimp only
    split
    · exact Table.wf_map _ _ hw
    · exact hw
  loop := addNode_sound hd

/-- A node removed. -/
theorem Blocks.removeNode (s : State) (a : Nat) : Blocks s (s.removeNode a) := by
  have key : ∀ l : Loop, Table.wf l.nodes = Table.wf (s.removeNode a).loop.nodes → l.sound = (s.removeNode a).loop.sound →
      Blocks s { s with loop := l } := fun l hw hl =>
    { tables := fun h => by
        obtain ⟨h1, h2, h3, h4, h5, h6⟩ := (State.tablesAscend_iff _).1 h
        refine (State.tablesAscend_iff _).2 ⟨h1, h2, h3, h4, h5, hw.trans ?_⟩
        unfold State.removeNode
        dsimp only
        split <;> exact Table.wf_erase _ _ h6
      loop := fun h => hl.trans (removeNode_sound a h) }
  rw [removeNode_eq]
  exact key _ rfl rfl

/-- An owner is loaded: its record has been written, its address was free, and its node joins the list. -/
theorem State.nodesOwned.added {s u : State} {a d : Nat} {o : Owner} (hs : s.nodesOwned) (hl : u.loop = s.loop)
    (hother : ∀ x, x ≠ o → u.addressOf x = s.addressOf x) (hold : s.addressOf o = none) (hnew : u.addressOf o = some a)
    (hfree : s.heldByOther a o = false) : (u.addNode a o d).nodesOwned := by
  refine .replaced (o := o) hs (fun x hx => (addressOf_addNode ..).trans (hother x hx)) (fun b hb => ?_) fun b => ?_
  · rw [addressOf_addNode, hnew] at hb
    cases hb; exact hfree
  · have hn : u.node? b = s.node? b := by simp [State.node?, hl]
    rw [node_addNode, addressOf_addNode, hnew, hold, hn]
    simp [eq_comm]

/-- An owner is unloaded: its record has gone, and its node leaves the list. -/
theorem State.nodesOwned.removed {s u : State} {a : Nat} {o : Owner} (hs : s.nodesOwned) (hl : u.loop = s.loop)
    (hother : ∀ x, x ≠ o → u.addressOf x = s.addressOf x) (hold : s.addressOf o = some a) (hnew : u.addressOf o = none) :
    (u.removeNode a).nodesOwned := by
  refine .replaced (o := o) hs (fun x hx => (addressOf_removeNode ..).trans (hother x hx)) (fun b hb => ?_) fun b => ?_
  · rw [addressOf_removeNode, hnew] at hb
    cases hb
  · have hn : u.node? b = s.node? b := by simp [State.node?, hl]
    rw [node_removeNode, addressOf_removeNode, hnew, hold, hn]
    by_cases hb : b = a <;> simp [hb, eq_comm (a := a)]

/-- An owner moves: its record has been written, and its node leaves one address and joins the list at another. -/
theorem State.nodesOwned.moved {s u : State} {a b d : Nat} {o : Owner} (hs : s.nodesOwned) (hl : u.loop = s.loop)
    (hother : ∀ x, x ≠ o → u.addressOf x = s.addressOf x) (hold : s.addressOf o = some a) (hnew : u.addressOf o = some b)
    (hfree : s.heldByOther b o = false) : ((u.removeNode a).addNode b o d).nodesOwned := by
  have haddr : ∀ x, ((u.removeNode a).addNode b o d).addressOf x = u.addressOf x := fun x =>
    (addressOf_addNode ..).trans (addressOf_removeNode ..)
  refine .replaced (o := o) hs (fun x hx => (haddr x).trans (hother x hx)) (fun c hc => ?_) fun c => ?_
  · rw [haddr, hnew] at hc
    cases hc; exact hfree
  · have hn : u.node? c = s.node? c := by simp [State.node?, hl]
    rw [node_addNode, node_removeNode, haddr, hnew, hold, hn]
    simp only [Option.some.injEq, eq_comm (a := b) (b := c), eq_comm (a := a) (b := c)]
    split
    · rfl
    · split <;> rfl

/-- Nodes changed in what is neither owner nor slot. -/
theorem State.nodesOwned.of_nodes {s t : State} (hs : s.nodesOwned) (ha : ∀ o, t.addressOf o = s.addressOf o)
    (hn : ∀ b, (t.node? b).map (fun n => (n.owner, n.slot)) = (s.node? b).map fun n => (n.owner, n.slot)) :
    t.nodesOwned := by
  have key : ∀ u : State, ∀ b, (u.node? b).map (fun n => n.owner) = ((u.node? b).map fun n => (n.owner, n.slot)).map Prod.fst :=
    fun u b => by rw [Option.map_map]; rfl
  refine ⟨fun b x => ?_, fun b n hb => ?_⟩
  · rw [key t, hn, ← key s, ha]
    exact hs.1 b x
  · have h := hn b
    rw [hb, Option.map_some] at h
    obtain ⟨m, hm, hmn⟩ := Option.map_eq_some_iff.1 h.symm
    have := hs.2 b m hm
    have ho := congrArg Prod.fst hmn
    have hsl := congrArg Prod.snd hmn
    simp only at ho hsl
    rwa [Node.slotFits, ho, hsl] at this

end Sys2Proof.Machine
end

section
set_option Elab.async false
/-! PROOFS. The commands of the wind monitor and of the forecast table, among what every command keeps. -/

namespace Sys2Proof.Machine

/-- An address that no other owner holds. -/
theorem heldByOther_of_not {s : State} {node : Byte} {o : Owner} (h : ¬ (node ≠ 0 ∧ s.heldByOther node.toNat o = true))
    (h0 : node.toNat ≠ 0) : s.heldByOther node.toNat o = false := by
  have hn : node ≠ 0 := fun hn => h0 (by simp [hn])
  exact Bool.eq_false_iff.2 fun ht => h ⟨hn, ht⟩

/-! ## Masts (R45 to R49) -/

theorem Mast.loaded_sound (a stale : Nat) : (Mast.loaded a stale).sound = true := by
  simp [Mast.loaded, Mast.sound, atMost]

theorem Mast.staled_sound {m : Mast} (h : m.sound = true) : m.staled.sound = true := by
  obtain ⟨-, -, -, h4, -, -, -, h8, h9, h10, h11, h12⟩ := (Mast.sound_iff m).1 h
  exact (Mast.sound_iff _).2 ⟨by simp [Mast.staled], by simp [Mast.staled], by simp [Mast.staled], h4, nofun, nofun,
    by simp [Mast.staled], h8, h9, h10, h11, h12⟩

/-- A gust count never exceeds 1 (R48). -/
theorem gustNext_count (l : WindLimits) (v : Nat) (on : Bool) (k : Nat) : (gustNext l v on k).2 ≤ 1 := by
  simp only [gustNext]
  generalize (if on = true then decide (v ≤ l.gust - l.hysteresis) else decide (l.gust ≤ v)) = toward
  cases toward with
  | false => simp
  | true =>
    by_cases hk : k = 0
    · simp [hk]
    · simp [hk]

theorem octantNext_le {a p : Option Nat} (d : Option Nat) (ha : ∀ v, a = some v → v ≤ 7) (_hp : ∀ v, p = some v → v ≤ 7) :
    (∀ v, (octantNext a p d).1 = some v → v ≤ 7) ∧ ∀ v, (octantNext a p d).2 = some v → v ≤ 7 := by
  have ho : ∀ d, octantOf d ≤ 7 := fun d => by simp only [octantOf]; omega
  cases d with
  | none => exact ⟨ha, nofun⟩
  | some d =>
    have hod := ho d
    simp only [octantNext]
    split
    · exact ⟨fun v hv => by cases hv; exact hod, nofun⟩
    · split
      · exact ⟨ha, nofun⟩
      · split
        · exact ⟨fun v hv => by cases hv; exact hod, nofun⟩
        · exact ⟨ha, fun v hv => by cases hv; exact hod⟩

theorem tempInRange_clamp (t : Int) : tempInRange (clampInt (-40) 60 t) = true := by
  have h : -40 ≤ clampInt (-40) 60 t ∧ clampInt (-40) 60 t ≤ 60 := by simp only [clampInt]; omega
  simpa [tempInRange, withinInt] using h

theorem ringNext_kept {ring : List Nat} {v : Nat} (hl : ring.length ≤ 4) (hr : ∀ x ∈ ring, x ≤ Config.maxWind)
    (hv : v ≤ Config.maxWind) :
    (ringNext ring v).length ≤ 4 ∧ (∀ x ∈ ringNext ring v, x ≤ Config.maxWind) ∧ ringNext ring v ≠ [] := by
  have hmem : ∀ x ∈ ring ++ [v], x ≤ Config.maxWind := fun x hx => by
    rcases List.mem_append.1 hx with hx | hx
    · exact hr x hx
    · rw [List.mem_singleton.1 hx]; exact hv
  simp only [ringNext]
  split
  · rename_i h5
    refine ⟨by rw [List.length_drop]; omega, fun x hx => hmem x (List.mem_of_mem_drop hx), fun hn => ?_⟩
    have := congrArg List.length hn
    rw [List.length_drop, h5] at this
    simp at this
  · rename_i h5
    refine ⟨?_, hmem, by simp⟩
    simp only [List.length_append, List.length_cons, List.length_nil] at h5 ⊢
    omega

theorem Mast.sampled_sound {m : Mast} (l : WindLimits) (v d rh rain : Nat) (t : Int) (h : m.sound = true) :
    (m.sampled l v d rh rain t).sound = true := by
  obtain ⟨h1, h2, -, -, h5, h6, -⟩ := (Mast.sound_iff m).1 h
  obtain ⟨r1, r2, r3⟩ := ringNext_kept h1 h2 (Nat.min_le_right v Config.maxWind)
  obtain ⟨o1, o2⟩ := octantNext_le (if d < 360 then some d else none) h5 h6
  refine (Mast.sound_iff _).2 ⟨r1, r2, by simpa [Mast.sampled] using r3, fun x hx => ?_, o1, o2, gustNext_count _ _ _ _,
    fun x hx => ?_, fun x hx => ?_, fun x hx => ?_, fun x hx => ?_, fun x hx => ?_⟩
  · cases hx; exact Nat.min_le_right _ _
  · simp only [Mast.sampled, Option.ite_none_right_eq_some, Option.some.injEq] at hx
    omega
  · cases hx; exact Nat.min_le_right _ _
  · cases hx; exact Nat.min_le_right _ _
  · cases hx; exact tempInRange_clamp t
  · cases hx; exact Nat.zero_le _

/-- An address of an owner read from the record that holds it. -/
theorem addressOf_mapMast (s : State) (n : Nat) (f : Mast → Mast)
    (hn : ∀ m, Table.get s.wind.masts n = some m → (f m).node = m.node) (o : Owner) :
    (s.mapMast n f).addressOf o = s.addressOf o := by
  cases o with
  | mast k =>
    simp only [State.addressOf, State.mapMast_masts]
    by_cases hk : k = n
    · subst hk
      rw [Table.get_update_self, Option.map_map]
      cases hg : Table.get s.wind.masts k with
      | none => rfl
      | some m => exact congrArg some (hn m hg)
    · rw [Table.get_update_of_ne _ _ hk]
  | _ => rfl

namespace Held

theorem mapMast {s : State} {n : Nat} {f : Mast → Mast}
    (hn : ∀ m, Table.get s.wind.masts n = some m → (f m).node = m.node)
    (hs : s.weatherSound = true → ∀ m, m.sound = true → (f m).sound = true) : Held s (s.mapMast n f) where
  tables := fun h => by
    obtain ⟨h1, h2, h3, h4⟩ := (State.tablesAscend_iff _).1 h
    exact (State.tablesAscend_iff _).2 ⟨h1, h2, Table.wf_update _ _ _ h3, h4⟩
  weather := fun h => by
    obtain ⟨h1, h2, h3, h4⟩ := (State.weatherSound_iff _).1 h
    refine (State.weatherSound_iff _).2 ⟨fun e he => ?_, h2, h3, h4⟩
    rw [State.mapMast_masts, Table.update_eq_map] at he
    obtain ⟨d, hd, rfl⟩ := List.mem_map.1 he
    refine ⟨(h1 d hd).1, ?_⟩
    dsimp only
    split
    · exact hs h _ (h1 d hd).2
    · exact (h1 d hd).2
  nodes := fun _ h => h.of_nodes (addressOf_mapMast s n f hn) fun _ => rfl

theorem staleMast (s : State) (n : Nat) : Held s (s.staleMast n).1 := by
  unfold State.staleMast
  split
  · exact refl s
  · split
    · exact mapMast (fun _ _ => rfl) fun _ _ h => Mast.staled_sound h
    · exact refl s

theorem takeSample (s : State) (n v d rh rain : Nat) (t : Int) : Held s (s.takeSample n v d rh rain t).1 := by
  unfold State.takeSample
  split
  · exact refl s
  · rename_i m hm
    have h : Held s (s.mapMast n fun _ => m.sampled s.wind.limits v d rh rain t) :=
      mapMast (fun x hx => by cases hm.symm.trans hx; rfl) fun hw _ _ =>
        Mast.sampled_sound _ _ _ _ _ _ (((State.weatherSound_iff _).1 hw).1 _ (Table.mem_of_get hm)).2
    dsimp only
    split
    · exact h.trans (Keeps.raiseWind _).held
    · exact h

theorem reselect (s : State) (m : Mast) : Held s (s.reselect m) := by
  unfold State.reselect
  split
  · exact settled (refl s)
  · exact refl s

end Held

/-- The mast table after a mast has been written or has left. -/
theorem weatherSound_masts {s : State} {ms : Table Mast} (h : s.weatherSound = true)
    (hm : ∀ e ∈ ms, e ∈ s.wind.masts ∨ e.1 < Config.masts ∧ e.2.sound = true) : (s.withMasts ms).weatherSound = true := by
  obtain ⟨h1, h2, h3, h4⟩ := (State.weatherSound_iff _).1 h
  exact (State.weatherSound_iff _).2 ⟨fun e he => (hm e he).elim (h1 e) id, h2, h3, h4⟩

namespace Held

/-- A mast loaded, moved or unloaded: its record and its node change together (R45). -/
theorem takeMast {s : State} {n a stale : Nat} (hn : n < Config.masts) (ha : a ≠ 0 → s.heldByOther a (.mast n) = false) :
    Held s (s.takeMast n a stale) := by
  have hset : Blocks s (s.withMasts (Table.set s.wind.masts n (Mast.loaded a stale))) :=
    { tables := fun h => by
        obtain ⟨h1, h2, h3, h4⟩ := (State.tablesAscend_iff _).1 h
        exact (State.tablesAscend_iff _).2 ⟨h1, h2, Table.wf_set _ _ _ h3, h4⟩
      weather := fun h => weatherSound_masts h fun e he =>
        (Table.mem_set he).elim (fun h => .inr (h ▸ ⟨hn, Mast.loaded_sound a stale⟩)) .inl }
  have hother : ∀ ms : Table Mast, (∀ k, k ≠ n → Table.get ms k = Table.get s.wind.masts k) →
      ∀ o, o ≠ .mast n → (s.withMasts ms).addressOf o = s.addressOf o := fun ms hk o ho => by
    cases o with
    | mast k => simp only [State.addressOf, State.withMasts, hk k fun h => ho (by rw [h])]
    | _ => rfl
  have hsame := hother _ fun k hk => Table.get_set_of_ne s.wind.masts (Mast.loaded a stale) hk
  have hnew : (s.withMasts (Table.set s.wind.masts n (Mast.loaded a stale))).addressOf (.mast n) = some a := by
    simp [State.addressOf, State.withMasts, Mast.loaded]
  unfold State.takeMast
  split
  · rename_i hnone
    split
    · exact refl s
    · rename_i ha0
      exact ⟨hset.trans (.addNode (by decide)), fun _ h => State.nodesOwned.added h rfl hsame (by simp [State.addressOf, hnone]) hnew (ha ha0)⟩
  · rename_i m hm
    have hold : s.addressOf (.mast n) = some m.node := by simp [State.addressOf, hm]
    split
    · refine .trans (t := (s.withMasts (Table.erase s.wind.masts n)).removeNode m.node) ⟨.trans ?_ (.removeNode _ _), fun _ h => State.nodesOwned.removed h rfl
        (hother (Table.erase s.wind.masts n) fun k hk => Table.get_erase_of_ne _ hk)
        hold ?_⟩ (reselect _ _)
      · exact
          { tables := fun h => by
              obtain ⟨h1, h2, h3, h4⟩ := (State.tablesAscend_iff _).1 h
              exact (State.tablesAscend_iff _).2 ⟨h1, h2, Table.wf_erase _ _ h3, h4⟩
            weather := fun h => weatherSound_masts h fun e he => .inl (List.mem_filter.1 he).1 }
      · simp [State.addressOf, State.withMasts]
    · rename_i ha0
      split
      · refine settled (.trans ?_ (staleMast _ _))
        exact mapMast (fun _ _ => rfl) fun _ _ h => h
      · exact .trans ⟨(hset.trans (.removeNode _ _)).trans (.addNode (by decide)), fun _ h =>
          State.nodesOwned.moved h rfl hsame hold hnew (ha ha0)⟩ (reselect _ _)

theorem loadMast (s : State) (mast node : Byte) (stale : Half) : Held s (s.loadMast mast node stale) := by
  unfold State.loadMast
  split
  · exact answer s _ _ _
  · rename_i hok
    split
    · exact answer s _ _ _
    · rename_i hheld
      simp only [mastArgsOk, Bool.not_eq_false, Bool.and_eq_true, decide_eq_true_eq] at hok
      exact ((openEvent s).trans (takeMast hok.1.1 fun h => heldByOther_of_not hheld h)).trans (answer _ _ _ _)

theorem setWindLimits (s : State) (a : WindLimitArgs) : Held s (s.setWindLimits a) := by
  unfold State.setWindLimits
  dsimp only
  split
  · refine .trans (settled (.trans (openEvent s) ?_)) (answer _ _ _ _)
    refine { tables := fun h => ?_, weather := fun h => ?_, nodes := fun _ h => h.of_nodes (fun o => ?_) fun _ => rfl }
    · obtain ⟨h1, h2, h3, h4⟩ := (State.tablesAscend_iff _).1 h
      exact (State.tablesAscend_iff _).2 ⟨h1, h2, Table.wf_map _ _ h3, h4⟩
    · obtain ⟨h1, h2, h3, h4⟩ := (State.weatherSound_iff _).1 h
      refine (State.weatherSound_iff _).2 ⟨fun e he => ?_, h2, h3, h4⟩
      obtain ⟨d, hd, rfl⟩ := List.mem_map.1 he
      refine ⟨(h1 d hd).1, ?_⟩
      obtain ⟨m1, m2, m3, m4, m5, m6, -, m8⟩ := (Mast.sound_iff _).1 (h1 d hd).2
      exact (Mast.sound_iff _).2 ⟨m1, m2, m3, m4, m5, m6, Nat.zero_le _, m8⟩
    · cases o with
      | mast k =>
        simp only [State.addressOf]
        rw [Table.get_map s.openEvent.wind.masts fun m => ({ m with gustCount := 0 } : Mast), Option.map_map]
        rfl
      | _ => rfl
  · exact answer s _ _ _

end Held

/-! ## Forecasts (R62 to R73) -/

/-- Slots follow one another when each stops before every later one starts. -/
theorem slotsFollow_iff (l : List Slot) : slotsFollow l = true ↔ l.Pairwise fun x y => x.stop ≤ y.start := by
  induction l with
  | nil => simp [slotsFollow]
  | cons x l ih =>
    cases l with
    | nil => simp [slotsFollow]
    | cons y l =>
      simp only [slotsFollow, Bool.and_eq_true, decide_eq_true_eq, ih, List.pairwise_cons (a := x)]
      refine ⟨fun ⟨hxy, hl⟩ => ⟨fun z hz => ?_, hl⟩, fun ⟨h, hl⟩ => ⟨h y (by simp), hl⟩⟩
      rcases List.mem_cons.1 hz with rfl | hz
      · exact hxy
      · have := (List.pairwise_cons.1 hl).1 z hz
        simp only [Slot.stop] at *
        omega

theorem mem_insertSlot {x y : Slot} {l : List Slot} (h : y ∈ insertSlot x l) : y = x ∨ y ∈ l := by
  induction l with
  | nil => simpa [insertSlot] using h
  | cons z l ih =>
    simp only [insertSlot] at h
    split at h
    · simpa using h
    · rcases List.mem_cons.1 h with rfl | h
      · simp
      · rcases ih h with h | h <;> simp [h]

theorem insertSlot_length (x : Slot) (l : List Slot) : (insertSlot x l).length = l.length + 1 := by
  induction l with
  | nil => rfl
  | cons z l ih =>
    simp only [insertSlot]
    split <;> simp [*]

/-- A slot inserted among slots it does not overlap keeps them following one another (R60, R68). -/
theorem slotsFollow_insert {x : Slot} {l : List Slot} (hx : 1 ≤ x.length) (hl : slotsFollow l = true)
    (hy : ∀ y ∈ l, 1 ≤ y.length ∧ x.overlaps y = false) : slotsFollow (insertSlot x l) = true := by
  rw [slotsFollow_iff] at hl ⊢
  induction l with
  | nil => simp [insertSlot]
  | cons y l ih =>
    obtain ⟨hyl, hl⟩ := List.pairwise_cons.1 hl
    obtain ⟨hy1, hov⟩ := hy y (by simp)
    have hov : ¬ (x.start < y.stop ∧ y.start < x.stop) := by simpa [Slot.overlaps] using hov
    simp only [Slot.stop] at *
    simp only [insertSlot]
    split
    · refine List.pairwise_cons.2 ⟨fun z hz => ?_, List.pairwise_cons.2 ⟨hyl, hl⟩⟩
      rcases List.mem_cons.1 hz with rfl | hz
      · omega
      · have := hyl z hz; omega
    · refine List.pairwise_cons.2 ⟨fun z hz => ?_, ih hl fun z hz => hy z (List.mem_cons_of_mem _ hz)⟩
      rcases mem_insertSlot hz with rfl | hz
      · omega
      · exact hyl z hz

theorem Slot.inRange_iff (x : Slot) :
    x.inRange = true ↔ (10 ≤ x.length ∧ x.length ≤ 360) ∧ x.stop ≤ Config.two32 ∧ x.wind ≤ Config.maxWind
      ∧ x.gust ≤ Config.maxWind ∧ x.octant ≤ 8 ∧ x.rh ≤ 100 ∧ x.rain ≤ 999 ∧ tempInRange x.temp = true := by
  simp [Slot.inRange, within, and_assoc]

theorem slotOf_inRange {a : ForecastArgs} (h : slotOk (slotOf a) = true) : (slotOf a).inRange = true := by
  simp only [slotOk, Bool.and_eq_true, decide_eq_true_eq] at h
  refine (Slot.inRange_iff _).2 ⟨?_, h.2, Nat.min_le_right _ _, Nat.min_le_right _ _, h.1, Nat.min_le_right _ _,
    Nat.min_le_right _ _, tempInRange_clamp _⟩
  simp only [slotOf, clamp]
  omega

/-- Some of the slots of a sound table, with as many latest issues. -/
theorem Forecast.sound_slots {f : Forecast} {l : List Slot} (h : f.sound = true) (hl : l.Sublist f.slots) :
    ({ f with slots := l } : Forecast).sound = true := by
  obtain ⟨h1, h2, h3, h4, h5⟩ := (Forecast.sound_iff f).1 h
  refine (Forecast.sound_iff _).2 ⟨hl.length_le.trans h1, fun x hx => h2 x (hl.subset hx), ?_, h4, h5⟩
  rw [slotsFollow_iff] at h3 ⊢
  exact h3.sublist hl

theorem Forecast.sound_inserted {f : Forecast} {x : Slot} (h : f.sound = true) (hx : x.inRange = true)
    (hroom : (x.keeps f.slots).length < Config.forecastSlots) : (f.inserted x).sound = true := by
  obtain ⟨h1, h2, h3, h4, h5⟩ := (Forecast.sound_iff f).1 h
  have hk : ∀ y ∈ x.keeps f.slots, y ∈ f.slots ∧ x.overlaps y = false := fun y hy => by simpa [Slot.keeps] using hy
  have hlen : ∀ y : Slot, y.inRange = true → 1 ≤ y.length := fun y hy => by
    have := ((Slot.inRange_iff y).1 hy).1; omega
  refine (Forecast.sound_iff _).2 ⟨?_, fun y hy => ?_, ?_, h4, ?_⟩
  · simp only [Forecast.inserted, insertSlot_length]; omega
  · rcases mem_insertSlot hy with rfl | hy
    · exact hx
    · exact h2 y (hk y hy).1
  · refine slotsFollow_insert (hlen x hx) ?_ fun y hy => ⟨hlen y (h2 y (hk y hy).1), (hk y hy).2⟩
    rw [slotsFollow_iff] at h3 ⊢
    exact h3.sublist List.filter_sublist
  · simp [Forecast.inserted, Forecast.latestAfter, h4, h5]

namespace Held

theorem withForecast {s : State} {f : Forecast} (h : s.forecast.sound = true → f.sound = true) :
    Held s (s.withForecast f) := by
  refine settled (x := ({ s with forecast := f }, [.selectWeather])) { weather := fun hs => ?_ }
  obtain ⟨h1, h2, h3, h4⟩ := (State.weatherSound_iff _).1 hs
  exact (State.weatherSound_iff _).2 ⟨h1, h2, h3, h h4⟩

theorem insertForecast {s : State} {x : Slot} (b : Bool) (hx : x.inRange = true) : Held s (s.insertForecast b x) := by
  have hroomed : s.forecast.sound = true → (s.forecast.roomed s.now x).sound = true := fun h => by
    unfold Forecast.roomed
    split
    · exact h
    · exact Forecast.sound_slots h List.filter_sublist
  unfold State.insertForecast
  dsimp only
  split
  · rename_i hroom
    exact (withForecast fun h => Forecast.sound_inserted (hroomed h) hx hroom).trans (answerUnless _ _ _ _ _)
  · refine .trans ?_ (answerUnless _ _ _ _ _)
    split
    · exact refl s
    · exact withForecast hroomed

theorem postForecast (s : State) (b : Bool) (a : ForecastArgs) : Held s (s.postForecast b a) := by
  unfold State.postForecast
  dsimp only
  split
  · exact answerUnless s _ _ _ _
  · rename_i hok
    split
    · exact answerUnless s _ _ _ _
    · split
      · exact answerUnless s _ _ _ _
      · split
        · exact answerUnless s _ _ _ _
        · exact (openEvent s).trans (insertForecast b (slotOf_inRange (by simpa using hok)))

theorem slotRetirement (s : State) : Held s s.slotRetirement := by
  have h : ∀ s : State, Held s s.retireSlots := fun s => by
    unfold State.retireSlots
    split
    · exact refl s
    · exact (openEvent s).trans (withForecast fun h => Forecast.sound_slots h List.filter_sublist)
  unfold State.slotRetirement
  split
  · refine .trans ?_ (h _)
    exact {}
  · exact refl s

theorem clearForecasts (s : State) : Held s s.clearForecasts := by
  refine .trans ((openEvent s).trans (withForecast fun h => ?_)) (answer _ _ _ _)
  obtain ⟨-, -, -, h4, -⟩ := (Forecast.sound_iff _).1 h
  exact (Forecast.sound_iff _).2 ⟨Nat.zero_le _, nofun, rfl, h4, rfl⟩

theorem setYardCodes (s : State) (c1 c2 c3 c4 : Byte) : Held s (s.setYardCodes c1 c2 c3 c4) := by
  refine .trans ?_ (answer _ _ _ _)
  refine { weather := fun hs => ?_ }
  obtain ⟨h1, h2, h3, h⟩ := (State.weatherSound_iff _).1 hs
  obtain ⟨f1, f2, f3, f4, f5⟩ := (Forecast.sound_iff _).1 h
  exact (State.weatherSound_iff _).2 ⟨h1, h2, h3, (Forecast.sound_iff _).2 ⟨f1, f2, f3, rfl, by
    simp [Forecast.latestRecoded, f4, f5]⟩⟩

end Held

end Sys2Proof.Machine
end

section
set_option Elab.async false
/-! PROOFS. The commands of the order dispatcher and of the cannon controller, among what every command keeps. -/

namespace Sys2Proof.Machine

namespace Held

/-! ## Orders (R78 to R98) -/

theorem placeOrder (s : State) (a : PlaceOrderArgs) : Held s (s.placeOrder a) := by
  unfold State.placeOrder
  split
  · exact answer s _ _ _
  · rename_i hok
    split
    · exact answer s _ _ _
    · split
      · exact answer s _ _ _
      · split
        · exact answer s _ _ _
        · rename_i hf
          simp only [placeOrderArgsOk, Bool.not_eq_false, Bool.and_eq_true, decide_eq_true_eq] at hok
          obtain ⟨⟨⟨⟨⟨-, hp⟩, -⟩, -⟩, -⟩, -⟩ := hok
          have h : Held s (s.openEvent.accept (s.placeRequest a)).1 :=
            (openEvent s).trans (Keeps.accept (s := s.openEvent) (r := s.placeRequest a) hp
              (show s.ordersFull = false by simpa using hf)).held
          exact (settled (x := (_, _)) h).trans (answer _ _ _ _)

theorem suspendOrder (s : State) (i : Half) : Held s (s.suspendOrder i) := by
  unfold State.suspendOrder
  split
  · exact answer s _ _ _
  · split
    · exact answer s _ _ _
    · split
      · exact answer s _ _ _
      · exact (settled ((openEvent s).trans (Keeps.addReason _ _ _).held)).trans (answer _ _ _ _)

theorem resumeOrder (s : State) (i : Half) : Held s (s.resumeOrder i) := by
  unfold State.resumeOrder
  split
  · exact answer s _ _ _
  · split
    · exact answer s _ _ _
    · split
      · exact answer s _ _ _
      · exact (Keeps.dropReason _ _ _).held.trans (answer _ _ _ _)

theorem cancelOrder (s : State) (i : Half) : Held s (s.cancelOrder i) := by
  unfold State.cancelOrder
  split
  · exact answer s _ _ _
  · split
    · exact answer s _ _ _
    · exact (settled ((openEvent s).trans (Keeps.cancel _ _).held)).trans (answer _ _ _ _)

theorem fireVolley (s : State) (b : Bool) (c : Byte) : Held s (s.fireVolley b c) := by
  unfold State.fireVolley State.releaseVolley
  refine .trans ?_ (answerUnless _ _ _ _ _)
  have h : Keeps s { s with dispatch := { s.dispatch with orders := s.dispatch.orders.map fun o => o.afterVolley c.toNat } } :=
    Keeps.orders (d := s.dispatch.due) fun o => by
      unfold Order.afterVolley
      split
      · refine ⟨rfl, fun h => ?_, fun h => h⟩
        obtain ⟨h1, h2, h3, h4, h5, -⟩ := (Order.sound_iff _).1 h
        exact (Order.sound_iff _).2 ⟨h1, h2, h3, h4, h5, .inl (by simp)⟩
      · exact .refl _ o
  dsimp only
  split
  · exact (h.trans (Keeps.occasion _)).held
  · exact h.held

theorem readOrder (s : State) (sel : Byte) (v : Half) : Held s (s.readOrder sel v) := by
  unfold State.readOrder
  split
  · unfold State.readOrderById
    split
    · exact answer s _ _ _
    · refine .trans ?_ (answer _ _ _ _)
      split
      · exact refl s
      · exact (Keeps.freeOrder s _).held
  · unfold State.readOrderAt
    split
    · exact answer s _ _ _
    · split <;> exact answer s _ _ _
  · exact answer s _ _ _

theorem setDispatch (s : State) (l m : Half) (f : Byte) : Held s (s.setDispatch l m f) := by
  unfold State.setDispatch
  dsimp only
  split
  · refine .trans (.trans (settled (.trans (openEvent s) ?_)) (Keeps.occasion _).held) (answer _ _ _ _)
    exact {}
  · exact answer s _ _ _

theorem arbitrateDue (s : State) : Held s s.arbitrateDue := (Keeps.arbitrateDue s).held

end Held

/-! ## Loading and unloading of a cannon (R102, R103) -/

theorem Cannon.loaded_sound (c : CannonConfig) : (Cannon.loaded c).sound = true := by
  simp [Cannon.loaded, Cannon.sound]

theorem countP_set {α : Type} (t : Table α) (k : Nat) (v : α) (p : Nat × α → Bool) (h : p (k, v) = false) :
    (Table.set t k v).countP p ≤ t.countP p := by
  induction t with
  | nil => simp [Table.set, h]
  | cons e t ih =>
    obtain ⟨k', v'⟩ := e
    simp only [Table.set]
    split
    · simp [h]
    · split
      · simp only [List.countP_cons, h]; simp
      · simp only [List.countP_cons]; omega

/-- A cannon without a header slot written in the table. -/
theorem cannonsSound_set {s : State} {n : Nat} {c : Cannon} (hn : n < Config.cannons) (hc : c.sound = true)
    (hh : c.header = none) (h : s.cannonsSound = true) : (s.withCannon n c).cannonsSound = true := by
  obtain ⟨hw, hs, hr, hf⟩ := (State.cannonsSound_iff _).1 h
  have key : ∀ x : Header, ((s.withCannon n c).holders x).length ≤ (s.holders x).length := fun x => by
    simp only [State.holders, List.length_map, State.withCannon_cannons, ← List.countP_eq_length_filter]
    exact countP_set _ _ _ _ (by simp [hh])
  refine (State.cannonsSound_iff _).2 ⟨Table.wf_set _ _ _ hw, fun e he => ?_, (key _).trans hr, (key _).trans hf⟩
  rcases Table.mem_set he with rfl | he
  · exact ⟨hn, hc⟩
  · exact hs e he

/-- Nodes changed in their entries, in what leaves each sound. -/
theorem Blocks.mapNode {s : State} {a : Nat} {f : Node → Node} (h : ∀ n, s.node? a = some n → n.sound = true → (f n).sound = true) :
    Blocks s (s.mapNode a f) where
  tables := fun hs => by
    obtain ⟨h1, h2, h3, h4, h5, h6⟩ := (State.tablesAscend_iff _).1 hs
    exact (State.tablesAscend_iff _).2 ⟨h1, h2, h3, h4, h5, Table.wf_update _ _ _ h6⟩
  loop := fun hs => by
    obtain ⟨h1, h2, h3, h4, h5, h6, h7⟩ := (Loop.sound_iff _).1 hs
    have hl : ∀ b, (s.mapNode a f).loop.lists b = s.loop.lists b := fun b => by
      have := node_mapNode s a b f
      simp only [State.node?] at this
      rw [Loop.lists, Loop.lists, this]
      split <;> simp
    refine (Loop.sound_iff _).2 ⟨Table.wf_update _ _ _ h1, fun e he => ?_, ?_, h4, h5, fun b hb => (hl b).trans (h6 b hb),
      (Loop.phaseListed_iff _).2 fun b hb => (hl b).trans ((Loop.phaseListed_iff _).1 h7 b hb)⟩
    · have he : e ∈ Table.update s.loop.nodes a f := he
      rw [Table.update_eq_map] at he
      obtain ⟨d, hd, rfl⟩ := List.mem_map.1 he
      dsimp only
      split
      · rename_i hda
        exact h d.2 (hda ▸ Table.get_of_mem h1 hd) (h2 d hd)
      · exact h2 d hd
    · exact h3.trans (by simp [State.mapNode, Table.update])

/-- A node changed in what is neither owner nor slot. -/
theorem Held.mapNode {s : State} {a : Nat} {f : Node → Node} (h : ∀ n, s.node? a = some n → n.sound = true → (f n).sound = true)
    (hf : ∀ n, (f n).owner = n.owner ∧ (f n).slot = n.slot) : Held s (s.mapNode a f) where
  toBlocks := .mapNode h
  nodes := fun _ hs => State.nodesOwned.of_nodes hs (fun o => by cases o <;> rfl) fun b => by
    rw [node_mapNode]
    split
    · rw [Option.map_map]
      exact congrArg (Option.map · _) (funext fun n => by simp [hf n])
    · rfl

namespace Held

/-- A new configuration at the same address (R103). -/
theorem recast {s : State} {n : Nat} {c : Cannon} {k : CannonConfig} (hc : s.cannon? n = some c)
    (hk : k.node = c.config.node) : Held s (s.mapCannon n fun c => { c with config := k }) where
  tables := fun h => by
    obtain ⟨h1, h2, h3, h4, h5⟩ := (State.tablesAscend_iff _).1 h
    exact (State.tablesAscend_iff _).2 ⟨h1, h2, h3, Table.wf_update s.cannons n (fun c => { c with config := k }) h4, h5⟩
  cannons := cannonsSound_map (g := fun e => if e.1 = n then { e.2 with config := k } else e.2)
    (by rw [State.mapCannon_cannons, Table.update_eq_map]) fun _ e _ he => by
      split
      · exact ⟨he, .inl rfl⟩
      · exact ⟨he, .inl rfl⟩
  nodes := fun _ h => State.nodesOwned.of_nodes h (fun o => by
    cases o with
    | cannon m =>
      simp only [State.addressOf]
      rw [cannon_mapCannon]
      split
      · subst_vars; simp [hc, hk]
      · rfl
    | _ => rfl) fun _ => rfl

theorem takeLoading {s : State} {n : Nat} {k : CannonConfig} (hn : n < Config.cannons) (hd : k.extraDelay ≤ 15)
    (hfree : s.heldByOther k.node (.cannon n) = false) : Held s (s.takeLoading n k) := by
  have hset : Blocks s (s.withCannon n (Cannon.loaded k)) :=
    { tables := fun h => by
        obtain ⟨h1, h2, h3, h4, h5⟩ := (State.tablesAscend_iff _).1 h
        exact (State.tablesAscend_iff _).2 ⟨h1, h2, h3, Table.wf_set _ _ _ h4, h5⟩
      cannons := cannonsSound_set hn (Cannon.loaded_sound k) rfl }
  have hother : ∀ o, o ≠ .cannon n → (s.withCannon n (Cannon.loaded k)).addressOf o = s.addressOf o := fun o ho => by
    cases o with
    | cannon m =>
      have hm : m ≠ n := fun h => ho (by rw [h])
      simp only [State.addressOf, State.cannon?, State.withCannon_cannons, Table.get_set_of_ne _ _ hm]
    | _ => rfl
  have hnew : (s.withCannon n (Cannon.loaded k)).addressOf (.cannon n) = some k.node := by
    simp [State.addressOf, State.cannon?, Cannon.loaded]
  unfold State.takeLoading
  split
  · rename_i hnone
    exact .trans ⟨hset.trans (.addNode hd), fun _ h =>
      State.nodesOwned.added h rfl hother (by simp [State.addressOf, hnone]) hnew hfree⟩ (Keeps.occasion _).held
  · rename_i c hc
    split
    · refine .trans ?_ (Keeps.occasion _).held
      refine (recast hc ‹_›).trans ?_
      refine mapNode (fun x _ hx => ?_) fun _ => ⟨rfl, rfl⟩
      obtain ⟨h1, h2, h3, -, h5⟩ := (Node.sound_iff x).1 hx
      exact (Node.sound_iff _).2 ⟨h1, h2, h3, hd, h5⟩
    · exact .trans ⟨(hset.trans (.removeNode _ _)).trans (.addNode hd), fun _ h =>
        State.nodesOwned.moved h rfl hother (by simp [State.addressOf, hc]) hnew hfree⟩ (Keeps.occasion _).held

theorem takeUnloading (s : State) (n : Nat) : Held s (s.takeUnloading n) := by
  unfold State.takeUnloading
  split
  · exact refl s
  · rename_i c hc
    have h : Held s (({ s with cannons := Table.erase s.cannons n } : State).removeNode c.config.node) := by
      refine ⟨.trans ?_ (.removeNode _ _), fun _ h => State.nodesOwned.removed (o := .cannon n) h rfl (fun o ho => ?_)
        (by simp [State.addressOf, hc]) (by simp [State.addressOf, State.cannon?])⟩
      · exact
          { tables := fun h => by
              obtain ⟨h1, h2, h3, h4, h5⟩ := (State.tablesAscend_iff _).1 h
              exact (State.tablesAscend_iff _).2 ⟨h1, h2, h3, Table.wf_erase _ _ h4, h5⟩
            cannons := fun h => by
              obtain ⟨h1, h2, h3, h4⟩ := (State.cannonsSound_iff _).1 h
              have key : ∀ x : Header, (({ s with cannons := Table.erase s.cannons n } : State).holders x).length
                  ≤ (s.holders x).length := fun x => by
                simp only [State.holders, List.length_map]
                exact (List.filter_sublist.filter _).length_le
              exact (State.cannonsSound_iff _).2 ⟨Table.wf_erase _ _ h1, fun e he => h2 e (List.mem_filter.1 he).1,
                (key _).trans h3, (key _).trans h4⟩ }
      · cases o with
        | cannon m =>
          have hm : m ≠ n := fun h => ho (by rw [h])
          simp only [State.addressOf, State.cannon?, Table.get_erase_of_ne _ hm]
        | _ => rfl
    dsimp only
    split
    · exact h.trans (Keeps.hand _ _ _).held
    · exact h

theorem loadCannon (s : State) (number node : Byte) (a : CannonArgs) : Held s (s.loadCannon number node a) := by
  unfold State.loadCannon
  split
  · exact answer s _ _ _
  · rename_i hn
    split
    · unfold State.unloadCannon
      split
      · exact answer s _ _ _
      · exact (takeUnloading s _).trans (answer _ _ _ _)
    · split
      · exact answer s _ _ _
      · rename_i k hk
        split
        · exact answer s _ _ _
        · split
          · exact answer s _ _ _
          · rename_i hheld
            obtain ⟨x, -, hx⟩ := Option.bind_eq_some_iff.1 hk
            obtain ⟨hok, hx⟩ := Option.ite_none_right_eq_some.1 hx
            cases hx
            simp only [cannonConfigOk, Bool.and_eq_true, decide_eq_true_eq] at hok
            exact (takeLoading (by omega) hok.1.2 (by simpa using hheld)).trans (answer _ _ _ _)

theorem resetCannon (s : State) (number : Byte) : Held s (s.resetCannon number) := by
  unfold State.resetCannon
  split
  · exact answer s _ _ _
  · split
    · exact answer s _ _ _
    · exact (settled ((openEvent s).trans (Keeps.cannonReset _ _ _).held)).trans (answer _ _ _ _)

end Held

end Sys2Proof.Machine
end

section
set_option Elab.async false
/-! PROOFS. The commands of the water account and of the permit table, among what every command keeps. -/

namespace Sys2Proof.Machine

namespace Held

/-! ## The tank (R125 to R129) -/

/-- A tank record at the same address, and reports to the dispatcher. -/
theorem withTank {s : State} {t t' : Tank} (ht : s.water.tank = some t) (hn : t'.config.node = t.config.node) :
    Held s (s.withTank t') where
  nodes := fun _ h => State.nodesOwned.of_nodes h (fun o => by
    cases o with
    | tank => simp [State.addressOf, State.withTank, ht, hn]
    | _ => rfl) fun _ => rfl

theorem retank {s : State} {t t' : Tank} (ht : s.water.tank = some t) (hn : t'.config.node = t.config.node) :
    Held s (s.retank t t') := by
  have h : Held s ((s.withTank t').report (t.reports t')) := (withTank ht hn).trans (Keeps.report _ _).held
  unfold State.retank
  dsimp only
  split
  · exact h.trans (Keeps.raiseWater _).held
  · exact h

theorem staleGauge (s : State) : Held s s.staleGauge := by
  unfold State.staleGauge
  split
  · exact refl s
  · rename_i t ht
    split
    · refine .trans (.trans ?_ (Keeps.raiseWater _).held) (Keeps.evalTransfer _).held
      exact withTank ht rfl
    · exact refl s

theorem takeReading (s : State) (level turbidity : Nat) (alarm : Bool) : Held s (s.takeReading level turbidity alarm) := by
  unfold State.takeReading
  split
  · exact refl s
  · rename_i t ht
    refine .trans (.trans ?_ (Keeps.occasion _).held) (Keeps.evalTransfer _).held
    exact retank ht rfl

theorem takeTank {s : State} {c : TankConfig} (hfree : s.heldByOther c.node .tank = false) : Held s (s.takeTank c) := by
  have hother : ∀ (w : Option Tank) (o : Owner), o ≠ .tank →
      ({ s with water := { s.water with tank := w } } : State).addressOf o = s.addressOf o := fun w o ho => by
    cases o with
    | tank => exact absurd rfl ho
    | _ => rfl
  have hset : Blocks s (s.withTank (Tank.loaded c)) := {}
  unfold State.takeTank
  split
  · rename_i hnone
    refine .trans ?_ (Keeps.evalTransfer _).held
    exact ⟨hset.trans (.addNode (by decide)), fun _ h =>
      State.nodesOwned.added h rfl (hother _) (by simp [State.addressOf, hnone]) rfl hfree⟩
  · rename_i t ht
    split
    · rename_i hn
      refine (retank ht ?_).trans ((staleGauge _).trans ((Keeps.occasion _).held.trans (Keeps.evalTransfer _).held))
      unfold Tank.reconfigured
      split <;> exact hn
    · refine .trans ?_ (Keeps.evalTransfer _).held
      exact ⟨(hset.trans (.removeNode _ _)).trans (.addNode (by decide)), fun _ h =>
        State.nodesOwned.moved h rfl (hother _) (by simp [State.addressOf, ht]) rfl hfree⟩

theorem unloadTank (s : State) : Held s s.unloadTank := by
  unfold State.unloadTank
  split
  · exact (Keeps.evalTransfer s).held
  · rename_i t ht
    refine .trans (t := s.noTank.removeNode t.config.node) ?_ (Keeps.evalTransfer _).held
    have hset : Blocks s s.noTank := {}
    exact ⟨hset.trans (.removeNode _ _), fun _ h => State.nodesOwned.removed (o := .tank) h rfl (fun o ho => by
      cases o with
      | tank => exact absurd rfl ho
      | _ => rfl) (by simp [State.addressOf, ht]) rfl⟩

theorem loadBasinTank (s : State) (node : Byte) (a : TankArgs) : Held s (s.loadBasinTank node a) := by
  unfold State.loadBasinTank
  split
  · exact answer s _ _ _
  · split
    · exact (unloadTank s).trans (answer _ _ _ _)
    · split
      · exact answer s _ _ _
      · split
        · exact answer s _ _ _
        · rename_i hheld
          exact (takeTank (by simpa [tankConfigOf] using hheld)).trans (answer _ _ _ _)

end Held

/-! ## The pond (R135 to R137) -/

theorem Water.sound_reloaded {w : Water} {p : Pond} (h : w.sound = true) (hv : p.volume ≤ p.capacity)
    (hs : p.spill < Config.two32) : ({ w with pond := p, transfer := w.transfer.reloaded } : Water).sound = true := by
  obtain ⟨-, -, h3, -⟩ := (Water.sound_iff w).1 h
  exact (Water.sound_iff _).2 ⟨hv, hs, h3, .inl rfl, .inl rfl, .inl rfl, .inl rfl, .inr rfl⟩

namespace Held

theorem takePond {s : State} {a : PondArgs} (hfree : a.node.toNat ≠ 0 → s.heldByOther a.node.toNat .pond = false) :
    Held s (s.takePond a) := by
  have hvol : (s.water.pond.loaded a).volume ≤ (s.water.pond.loaded a).capacity := Nat.min_le_right _ _
  unfold State.takePond
  dsimp only
  split
  · rename_i hn
    refine .trans ?_ (Keeps.evalTransfer _).held
    refine { water := fun h => ?_, nodes := fun _ h => State.nodesOwned.of_nodes h (fun o => ?_) fun _ => rfl }
    · obtain ⟨-, h2, h3, h4, h5, h6, h7, h8⟩ := (Water.sound_iff _).1 h
      exact (Water.sound_iff _).2 ⟨hvol, h2, h3, h4, h5, h6, h7, h8.imp (fun h => (congrArg _ hn).trans h) id⟩
    · cases o with
      | pond => exact hn
      | _ => rfl
  · rename_i hn
    refine .trans ?_ (Keeps.evalTransfer _).held
    have hset : Blocks s ((s.mapPond fun p => p.loaded a).mapTransfer Transfer.reloaded) :=
      { water := fun h => Water.sound_reloaded (w := s.water) h hvol ((Water.sound_iff _).1 h).2.1 }
    have hother : ∀ o, o ≠ .pond →
        ((s.mapPond fun p => p.loaded a).mapTransfer Transfer.reloaded).addressOf o = s.addressOf o := fun o ho => by
      cases o with
      | pond => exact absurd rfl ho
      | _ => rfl
    have hnew : ((s.mapPond fun p => p.loaded a).mapTransfer Transfer.reloaded).addressOf .pond = nodeOf a.node.toNat := rfl
    have hnode : ∀ b, nodeOf a.node.toNat = some b → s.heldByOther b .pond = false := fun b hb => by
      unfold nodeOf at hb
      split at hb
      · cases hb
      · rename_i h0
        cases hb; exact hfree h0
    unfold State.renode
    cases hold : s.water.pond.node with
    | none =>
      cases hnw : nodeOf a.node.toNat with
      | none => exact absurd (hnw.trans hold.symm) hn
      | some b =>
        exact ⟨hset.trans (.addNode (by decide)), fun _ h =>
          State.nodesOwned.added h rfl hother hold (hnew.trans hnw) (hnode b hnw)⟩
    | some c =>
      cases hnw : nodeOf a.node.toNat with
      | none => exact ⟨hset.trans (.removeNode _ _), fun _ h => State.nodesOwned.removed h rfl hother hold (hnew.trans hnw)⟩
      | some b =>
        exact ⟨(hset.trans (.removeNode _ _)).trans (.addNode (by decide)), fun _ h =>
          State.nodesOwned.moved h rfl hother hold (hnew.trans hnw) (hnode b hnw)⟩

theorem loadBasinPond (s : State) (a : PondArgs) : Held s (s.loadBasinPond a) := by
  unfold State.loadBasinPond
  split
  · exact answer s _ _ _
  · split
    · exact answer s _ _ _
    · rename_i hheld
      exact (takePond fun h => heldByOther_of_not hheld h).trans (answer _ _ _ _)

theorem setAllowance (s : State) (v : Long) : Held s (s.setAllowance v) := by
  refine .trans ?_ (answer _ _ _ _)
  refine .trans ?_ (Keeps.occasion _).held
  refine .trans ?_ (Keeps.evalSpent _).held
  exact {}

theorem reportInflow (s : State) (l : Long) : Held s (s.reportInflow l) := by
  refine .trans ?_ (answer _ _ _ _)
  split
  · exact refl s
  · exact (Keeps.creditPond s _).held

theorem setPond (s : State) (v : Long) (b : Bool) : Held s (s.setPond v b) := by
  refine .trans (t := (s.mapPond _).evalTransfer) ?_ (answer _ _ _ _)
  refine .trans ?_ (Keeps.evalTransfer _).held
  refine Keeps.held (Keeps.mapPond (fun _ => rfl) fun h => ⟨Nat.min_le_right _ _, ?_⟩)
  dsimp only
  split
  · decide
  · exact ((Water.sound_iff _).1 h).2.1

end Held

/-! ## Permits (R145 to R155) -/

/-- Permits on a pile with one more that does not conflict go together (R145). -/
theorem compatible_append {l : List Permit} {p : Permit} (h : compatible l = true)
    (hcut : p.kind.cuts = true → (l.any fun x => x.kind.cuts) = false)
    (hdoz : p.kind.cuts = false → (l.filter fun x => x.kind == .dozer).length < 2) : compatible (l ++ [p]) = true := by
  simp only [compatible, Bool.and_eq_true, decide_eq_true_eq, List.filter_append, List.length_append] at h ⊢
  have hkind : (p.kind == .dozer) = !p.kind.cuts := by cases p.kind <;> rfl
  cases hk : p.kind.cuts with
  | false =>
    have := hdoz hk
    refine ⟨by simpa [hk] using h.1, ?_⟩
    simp only [List.filter_singleton, hkind, hk, Bool.not_false, cond_true, List.length_singleton]
    omega
  | true =>
    have hnil : l.filter (fun x => x.kind.cuts) = [] := by simpa using hcut hk
    exact ⟨by simp [hnil, hk], by simpa [hkind, hk] using h.2⟩

/-- The permits on any pile go together where those on each permit's pile do. -/
theorem Permits.compatible_on {x : Permits} (h : ∀ p ∈ x.list, compatible (x.list.filter fun q => q.tag == p.tag) = true)
    (tag : Nat) : compatible (x.list.filter fun q => q.tag == tag) = true := by
  cases hl : x.list.filter fun q => q.tag == tag with
  | nil => rfl
  | cons p t =>
    obtain ⟨hp, ht⟩ := List.mem_filter.1 (hl ▸ List.mem_cons_self : p ∈ x.list.filter fun q => q.tag == tag)
    have ht : p.tag = tag := by simpa using ht
    rw [← hl, ← ht]
    exact h p hp

namespace Held

/-- A permit accepted for a machine without one, on a LIVE pile where it does not conflict (R145, R146). -/
theorem acceptPermit {s : State} {m tag slot : Nat} {k : PermitKind} {p : Pile} (hm : 1 ≤ m ∧ m ≤ 63)
    (hp : s.pileAt? tag = some (slot, p)) (hr : s.permitRefusal m tag k p = none) :
    Held s (s.acceptPermit m tag k p).1 := by
  unfold State.permitRefusal at hr
  split at hr
  · cases hr
  rename_i hlife
  split at hr
  · cases hr
  rename_i hmach
  split at hr
  · cases hr
  rename_i hconf
  split at hr
  · cases hr
  rename_i hfull
  have hlive : p.life = .live := by
    cases h : p.life with
    | live => rfl
    | retiring => exact absurd (.inl h) hlife
  have hadd : ∀ st : PermitState, Held s { s with permits := { s.permits with
      list := s.permits.list ++ [⟨freeId 255 (s.permits.list.map Permit.id) (Config.permits + 1) s.permits.nextId, m, k, tag,
        st, s.now, s.now, none⟩]
      nextId := freeId 255 (s.permits.list.map Permit.id) (Config.permits + 1) s.permits.nextId % 255 + 1 } } := fun st => by
    refine { permits := fun h => ?_, onLive := fun h => ?_ }
    · obtain ⟨h1, h2, h3, h4, h5, h6, h7⟩ := (Permits.sound_iff _).1 h
      obtain ⟨f1, f2, f3⟩ := freeId_free (top := 255) (taken := s.permits.list.map Permit.id) (fuel := Config.permits + 1)
        h6 h7 (by rw [List.length_map]; exact Nat.lt_succ_of_le h1) (by decide)
      have hfresh : m ∉ s.permits.list.map Permit.machine := fun hmem => by
        obtain ⟨x, hx, hxm⟩ := List.mem_map.1 hmem
        simp only [State.permit?, Option.isSome_iff_ne_none, ne_eq, not_not, List.find?_eq_none, beq_iff_eq] at hmach
        exact hmach x hx hxm
      refine (Permits.sound_iff _).2 ⟨?_, fun x hx => ?_, ?_, ?_, fun x hx => ?_, by dsimp only; omega, by dsimp only; omega⟩
      · simp only [List.length_append, List.length_cons, List.length_nil]; omega
      · rcases List.mem_append.1 hx with hx | hx
        · exact h2 x hx
        · rw [List.mem_singleton.1 hx]
          exact (Permit.sound_iff _).2 ⟨f2, f3, hm.1, hm.2, .inr rfl⟩
      · rw [List.map_append]
        exact List.nodup_append.2 ⟨h3, by simp, fun a ha b hb => by
          rintro rfl
          rw [List.map_singleton, List.mem_singleton] at hb
          exact f1 (by rwa [hb] at ha)⟩
      · rw [List.map_append]
        exact List.nodup_append.2 ⟨h4, by simp, fun a ha b hb => by
          rintro rfl
          rw [List.map_singleton, List.mem_singleton] at hb
          exact hfresh (by rwa [hb] at ha)⟩
      · have hon := Permits.compatible_on h5 x.tag
        rw [List.filter_append]
        by_cases ht : tag = x.tag
        · subst ht
          simp only [List.filter_singleton, beq_self_eq_true, cond_true]
          simp only [State.conflicts, State.permitsOn] at hconf
          refine compatible_append hon (fun hk => ?_) fun hk => ?_
          · simpa [hk] using hconf
          · simpa [show k.cuts = false from hk] using hconf
        · simpa [ht] using hon
    · obtain ⟨hw, hnd, hl⟩ := (State.permitsOnLive_iff _).1 h
      refine (State.permitsOnLive_iff _).2 ⟨hw, hnd, fun x hx => ?_⟩
      rcases List.mem_append.1 hx with hx | hx
      · exact hl x hx
      · rw [List.mem_singleton.1 hx]
        exact (State.liveTag_iff (s := s) hnd tag).2 ⟨_, (State.pileAt_mem hp).1, (State.pileAt_mem hp).2, hlive⟩
  unfold State.acceptPermit
  dsimp only
  split
  · exact (hadd _).trans (Keeps.enterClearing _ _).held
  · exact hadd _

theorem requestPermit (s : State) (m k : Byte) (tag : Half) : Held s (s.requestPermit m k tag) := by
  unfold State.requestPermit
  split
  · exact answer s _ _ _
  · rename_i hok
    split
    · exact answer s _ _ _
    · rename_i slot p hp
      dsimp only
      split
      · exact answer s _ _ _
      · rename_i hr
        simp only [permitArgsOk, within, Bool.not_eq_false, Bool.and_eq_true, decide_eq_true_eq] at hok
        refine .trans (.trans (.trans (openEvent s) ?_) (Keeps.settle _ _ _).held) (answer _ _ _ _)
        exact acceptPermit (s := s.openEvent) hok.1.1 hp hr

theorem releasePermit (s : State) (a : ReleaseArgs) : Held s (s.releasePermit a) := by
  have hmark : ∀ (s : State) (tag : Nat), Keeps s (s.markEmptied tag) := fun s tag => by
    unfold State.markEmptied
    split
    · exact Keeps.mapPile' (fun _ => rfl) (fun _ => rfl) fun _ _ _ h => h
    · exact .refl s
  unfold State.releasePermit
  split
  · exact answer s _ _ _
  · split
    · exact answer s _ _ _
    · split
      · split
        · exact answer s _ _ _
        · refine .trans ?_ (answer _ _ _ _)
          unfold State.releaseGranted
          dsimp only
          refine .trans ?_ (Keeps.settle _ _ _).held
          split
          · exact (openEvent s).trans (hmark _ _).held
          · exact openEvent s
      · exact ((openEvent s).trans (Keeps.settle _ _ _).held).trans (answer _ _ _ _)

theorem setPermitLimits (s : State) (p : Byte) (x y z : Half) : Held s (s.setPermitLimits p x y z) := by
  unfold State.setPermitLimits
  dsimp only
  split
  · refine .trans (settled (.trans (openEvent s) ?_)) (answer _ _ _ _)
    exact {}
  · exact answer s _ _ _

end Held

end Sys2Proof.Machine
end

section
set_option Elab.async false
/-! PROOFS. The events of the yard loop, among what every command keeps. -/

namespace Sys2Proof.Machine

/-- A change of entries that keeps each owner, and each slot or empties it, leaves the nodes those of the loaded owners. -/
theorem Held.mapNode_slot {s : State} {a : Nat} {f : Node → Node}
    (h : ∀ n, s.node? a = some n → n.sound = true → (f n).sound = true)
    (hf : ∀ n, (f n).owner = n.owner ∧ ((f n).slot = n.slot ∨ (f n).slot = none)) : Held s (s.mapNode a f) where
  toBlocks := .mapNode h
  nodes := fun _ hs => by
    refine ⟨fun b o => ?_, fun b n hn => ?_⟩
    · have haddr : (s.mapNode a f).addressOf o = s.addressOf o := by cases o <;> rfl
      rw [node_mapNode, haddr]
      split
      · rw [Option.map_map, show ((fun n : Node => n.owner) ∘ f) = fun n => n.owner from funext fun n => (hf n).1]
        exact hs.1 b o
      · exact hs.1 b o
    · rw [node_mapNode] at hn
      split at hn
      · obtain ⟨m, hm, rfl⟩ := Option.map_eq_some_iff.1 hn
        have hfit := hs.2 b m hm
        rcases (hf m).2 with hsl | hsl
        · rwa [Node.slotFits, (hf m).1, hsl]
        · simp [Node.slotFits, hsl]
      · exact hs.2 b n hn

theorem satAdd16_le (a b : Nat) : satAdd16 a b ≤ 65535 := by
  simp only [satAdd16, Config.two16]; omega

theorem Node.answered_sound {n : Node} (h : n.sound = true) : n.answered.sound = true := by
  obtain ⟨-, -, -, h4, h5⟩ := (Node.sound_iff n).1 h
  exact (Node.sound_iff _).2 ⟨Nat.zero_le _, rfl, nofun, h4, h5⟩

theorem Node.missed_sound {n : Node} (h : n.sound = true) (ht : n.thirdMiss = false) : n.missed.sound = true := by
  obtain ⟨h1, h2, h3, h4, h5⟩ := (Node.sound_iff n).1 h
  refine (Node.sound_iff _).2 ⟨?_, h2, h3, h4, satAdd16_le _ _⟩
  simp only [Node.thirdMiss, Config.lostMisses, Bool.and_eq_false_iff, Bool.not_eq_false', decide_eq_false_iff_not] at ht
  simp only [Node.missed]
  split
  · exact h1
  · rename_i hl
    rcases ht with ht | ht
    · exact absurd ht hl
    · omega

theorem Node.declared_sound {n : Node} (h : n.sound = true) : n.declared.sound = true := by
  obtain ⟨-, -, -, h4, -⟩ := (Node.sound_iff n).1 h
  exact (Node.sound_iff _).2 ⟨Nat.zero_le _, rfl, fun k hk => by cases hk; decide, h4, satAdd16_le _ _⟩

namespace Held

theorem answered (s : State) (a : Nat) : Held s (s.mapNode a Node.answered) :=
  mapNode (fun _ _ h => Node.answered_sound h) fun _ => ⟨rfl, rfl⟩

/-- A reply handed to the owner of its node (R164). -/
theorem handOn (s : State) (o : Owner) (r : NodeReply) (b : Bool) : Held s (s.handOn o r b).1 := by
  unfold State.handOn
  split
  · exact (Keeps.takeCannonReply s _ _ _).held
  · exact takeSample s _ _ _ _ _ _
  · exact takeReading s _ _ _
  · exact (Keeps.takeTransferReply s _ _ _).held
  · exact refl s

theorem takeReply (s : State) (a : Nat) (n : Node) (m : Sent) (r : NodeReply) : Held s (s.takeReply a n m r) :=
  settled (((answered s a).trans (Keeps.emptySlot _ _ _ _).held).trans (handOn _ _ _ _))

theorem takeMiss {s : State} {a : Nat} {n : Node} (hn : s.node? a = some n) : Held s (s.takeMiss a n) := by
  unfold State.takeMiss
  split
  · refine settled (.trans ?_ (Keeps.ownerLost _ _).held)
    refine mapNode_slot (fun _ _ h => Node.declared_sound h) fun n => ⟨rfl, ?_⟩
    cases hs : n.slot with
    | none => exact .inl (by simp [Node.declared, hs])
    | some c =>
      cases hc : c.stopping with
      | true => exact .inl (by simp [Node.declared, hs, hc])
      | false => exact .inr (by simp [Node.declared, hs, hc])
  · rename_i ht
    exact mapNode (fun m hm h => by
      cases hn.symm.trans hm
      exact Node.missed_sound h (by simpa using ht)) fun _ => ⟨rfl, rfl⟩

/-- The loop master written, the nodes left alone. -/
theorem of_loop {s : State} {l : Loop} (hn : l.nodes = s.loop.nodes) (h : s.loop.sound = true → l.sound = true) :
    Held s { s with loop := l } where
  tables := by
    simp only [State.tablesAscend, hn]
    exact id
  loop := h
  nodes := fun _ hs => State.nodesOwned.of_nodes hs (fun o => by cases o <;> rfl) fun b => by simp [State.node?, hn]

theorem withPhase {s : State} {p : Phase} (hr : s.loop.sound = true → s.loop.running = true)
    (h : s.loop.sound = true → ∀ a ∈ p.names, s.loop.lists a = true) : Held s (s.withPhase p) :=
  of_loop rfl fun hs => by
    obtain ⟨h1, h2, h3, -, h5, h6, -⟩ := (Loop.sound_iff _).1 hs
    exact (Loop.sound_iff _).2 ⟨h1, h2, h3, .inl (hr hs), h5, h6, (Loop.phaseListed_iff _).2 (h hs)⟩

end Held

/-- A loop whose round is under way is RUNNING (R159). -/
theorem Loop.running_of_sound {l : Loop} (h : l.sound = true) (hp : l.phase ≠ .noRound) : l.running = true := by
  obtain ⟨-, -, -, h4, -⟩ := (Loop.sound_iff l).1 h
  exact h4.resolve_right fun h => hp h.1

/-- The addresses a sound loop's round names stand in its list. -/
theorem Loop.names_of_sound {l : Loop} (h : l.sound = true) : ∀ a ∈ l.phase.names, l.lists a = true :=
  (Loop.phaseListed_iff l).1 ((Loop.sound_iff l).1 h).2.2.2.2.2.2

namespace Held

/-- The exchange under way ends: the round goes on to the nodes still to be served. -/
theorem endExchangePhase {s : State} {a : Nat} {m : Sent} {rest : List Nat} (h : s.loop.phase = .exchange a m rest) :
    Held s (s.withPhase (.between rest)) :=
  withPhase (fun hs => Loop.running_of_sound hs (by simp [h])) fun hs b hb =>
    Loop.names_of_sound hs b (by rw [h]; exact List.mem_cons_of_mem _ hb)

theorem endExchange (s : State) (bytes : List Byte) : Held s (s.endExchange bytes) := by
  unfold State.endExchange
  split
  · rename_i a m rest hp
    split
    · rename_i n hn
      split
      · exact (endExchangePhase hp).trans (takeReply _ _ _ _ _)
      · exact (endExchangePhase hp).trans (takeMiss hn)
    · exact refl s
  · exact refl s
  · exact refl s
  · exact refl s

theorem endSilent (s : State) : Held s s.endSilent := by
  unfold State.endSilent
  split
  · rename_i a m rest hp
    split
    · rename_i n hn
      exact (endExchangePhase hp).trans (takeMiss hn)
    · exact refl s
  · exact refl s
  · exact refl s
  · exact refl s

theorem sendMessage (s : State) : Held s s.sendMessage := by
  unfold State.sendMessage
  split
  · rename_i a rest hp
    split
    · rename_i n hn
      refine of_loop rfl fun hs => ?_
      have hr := Loop.running_of_sound hs (by simp [hp])
      have hnames := Loop.names_of_sound hs
      obtain ⟨h1, h2, h3, -, h5, h6, -⟩ := (Loop.sound_iff _).1 hs
      exact (Loop.sound_iff _).2 ⟨h1, h2, h3, .inl hr, h5, h6, (Loop.phaseListed_iff _).2 fun b hb =>
        hnames b (by rw [hp]; exact hb)⟩
    · exact refl s
  all_goals exact refl s

theorem sendCall (s : State) : Held s s.sendCall := by
  unfold State.sendCall
  split
  · rename_i hp
    refine of_loop rfl fun hs => ?_
    have hr := Loop.running_of_sound hs (by simp [hp])
    obtain ⟨h1, h2, h3, -, h5, h6, -⟩ := (Loop.sound_iff _).1 hs
    exact (Loop.sound_iff _).2 ⟨h1, h2, h3, .inl hr, h5, h6, rfl⟩
  all_goals exact refl s

theorem endRound (s : State) : Held s s.endRound where
  tables := fun h => by
    obtain ⟨h1, h2, h3, h4, h5, h6⟩ := (State.tablesAscend_iff _).1 h
    refine (State.tablesAscend_iff _).2 ⟨h1, h2, h3, h4, h5, ?_⟩
    show Table.wf s.loop.endRound.nodes = true
    unfold Loop.endRound
    split
    · exact Table.wf_map _ _ h6
    · exact h6
    · exact h6
  loop := Loop.endRound_sound
  nodes := fun _ hs => State.nodesOwned.of_nodes hs (fun o => by cases o <;> rfl) fun b => Loop.endRound_nodes _ b

theorem endCallSilent (s : State) : Held s s.endCallSilent := by
  unfold State.endCallSilent
  split
  · exact endRound s
  all_goals exact refl s

theorem timerOverrun (s : State) : Held s s.timerOverrun := by
  unfold State.timerOverrun
  split
  · split
    · rename_i hc
      refine of_loop rfl fun hs => ?_
      obtain ⟨h1, h2, h3, -, -, h6, h7⟩ := (Loop.sound_iff _).1 hs
      exact (Loop.sound_iff _).2 ⟨h1, h2, h3, .inl hc.1, fun _ => nofun, h6, h7⟩
    · exact refl s
  all_goals exact refl s

theorem timerStart (s : State) : Held s s.timerStart := by
  unfold State.timerStart
  split
  · rename_i hc
    refine { tables := fun h => ?_, loop := fun h => ?_, nodes := fun _ hs => ?_ }
    · obtain ⟨h1, h2, h3, h4, h5, h6⟩ := (State.tablesAscend_iff _).1 h
      exact (State.tablesAscend_iff _).2 ⟨h1, h2, h3, h4, h5, Table.wf_map _ _ h6⟩
    · obtain ⟨h1, h2, h3, -, -, h6, -⟩ := (Loop.sound_iff _).1 h
      exact Loop.startRound_sound h1 h2 h3 hc.1 h6
    · refine State.nodesOwned.of_nodes hs (fun o => by cases o <;> rfl) fun b => ?_
      simp only [State.node?, Loop.startRound]
      rw [Table.get_map s.loop.nodes Node.counted, Option.map_map]
      exact congrArg (Option.map · _) (funext fun n => by simp [Node.counted_kept n])
  · exact refl s

theorem setLoop (s : State) (p : Half) : Held s (s.setLoop p) := by
  unfold State.setLoop
  split
  · refine .trans ?_ (answer _ _ _ _)
    exact of_loop rfl fun h => h
  · exact answer s _ _ _

end Held

/-! ## The call slot (R167) -/

theorem Table.get_isSome_iff {α : Type} (t : Table α) (k : Nat) : (Table.get t k).isSome = true ↔ k ∈ Table.keys t := by
  induction t with
  | nil => simp [Table.keys]
  | cons e t ih =>
    rw [Table.get_cons, Table.keys, List.map_cons, List.mem_cons]
    split
    · subst_vars; simp
    · rw [ih]; simp [Table.keys, Ne.symm ‹_›]

/-- The place of the round and the addresses in the list, which no owner changes when it takes a reply. -/
structure SameRound (s t : State) : Prop where
  phase : t.loop.phase = s.loop.phase
  keys : Table.keys t.loop.nodes = Table.keys s.loop.nodes

namespace SameRound

theorem trans {s t u : State} (h : SameRound s t) (k : SameRound t u) : SameRound s u :=
  ⟨k.phase.trans h.phase, k.keys.trans h.keys⟩

theorem of_keeps {s t : State} (h : Keeps s t) : SameRound s t where
  phase := skeleton_phase h.skeleton
  keys := by
    have key : ∀ u : State, Table.keys u.loop.nodes
        = Table.keys (u.loop.nodes.map fun e => (e.1, ({ e.2 with slot := none } : Node))) := fun u => by simp
    rw [key t, key s, skeleton_nodes h.skeleton]

theorem of_loop {s t : State} (h : t.loop = s.loop) : SameRound s t := ⟨by rw [h], by rw [h]⟩

theorem handOn (s : State) (o : Owner) (r : NodeReply) (b : Bool) : SameRound s (s.handOn o r b).1 := by
  unfold State.handOn
  split
  · exact of_keeps (Keeps.takeCannonReply s _ _ _)
  · refine of_loop ?_
    unfold State.takeSample
    split
    · rfl
    · dsimp only
      split <;> rfl
  · dsimp only
    unfold State.takeReading
    split
    · exact ⟨rfl, rfl⟩
    · refine trans (of_loop ?_) (of_keeps (Keeps.evalTransfer _))
      unfold State.retank
      dsimp only
      split <;> rfl
  · exact of_keeps (Keeps.takeTransferReply s _ _ _)
  · exact ⟨rfl, rfl⟩

theorem answered (s : State) (a : Nat) : SameRound s (s.mapNode a Node.answered) := ⟨rfl, by simp [State.mapNode]⟩

end SameRound

namespace Held

theorem takeCall {s : State} {a : Nat} {n : Node} (r : NodeReply) (hp : s.loop.phase = .calling) (hn : s.node? a = some n) :
    Held s (s.takeCall a n r) := by
  unfold State.takeCall
  dsimp only
  refine .trans ?_ (endRound _)
  have hheld : Held s (Machine.settled ((s.mapNode a Node.answered).handOn n.owner r n.lost)) :=
    settled ((answered s a).trans (handOn _ _ _ _))
  have hround : SameRound s (Machine.settled ((s.mapNode a Node.answered).handOn n.owner r n.lost)) :=
    ((SameRound.answered s a).trans (SameRound.handOn _ _ _ _)).trans (.of_keeps (Keeps.settle _ _ _))
  refine hheld.trans ?_
  refine of_loop rfl fun hs => ?_
  have hr := Loop.running_of_sound hs (by rw [hround.phase, hp]; nofun)
  obtain ⟨h1, h2, h3, -, h5, -, h7⟩ := (Loop.sound_iff _).1 hs
  refine (Loop.sound_iff _).2 ⟨h1, h2, h3, .inl hr, h5, fun b hb => ?_, h7⟩
  cases hb
  refine (Table.get_isSome_iff _ _).2 ?_
  rw [hround.keys]
  exact (Table.get_isSome_iff _ _).1 (by rw [show Table.get s.loop.nodes a = some n from hn]; rfl)

theorem endCall (s : State) (bytes : List Byte) : Held s (s.endCall bytes) := by
  unfold State.endCall
  split
  · rename_i hp
    split
    · rename_i n hn
      split
      · exact takeCall _ hp hn
      · exact endRound s
    · exact endRound s
  all_goals exact refl s

end Held

end Sys2Proof.Machine
end

section
set_option Elab.async false
/-! PROOFS. The port, the notices, the clock and the resets, among what every command keeps; then every command and every
step. -/

namespace Sys2Proof.Machine

namespace Held

/-! ## Port and notices (R175, R181 to R183) -/

theorem fetchReply (s : State) (n : Nat) : Held s (s.fetchReply n) := {}

theorem readNotices (s : State) : Held s s.readNotices := {}

theorem setMask (s : State) (b : Byte) : Held s (s.setMask b) := {}

theorem readChanges (s : State) (c : Byte) : Held s (s.readChanges c) := by
  unfold State.readChanges
  split
  · exact answer s _ _ _
  · rename_i x hx
    refine .trans ?_ (answer _ _ _ _)
    refine { notices := fun h => ?_ }
    obtain ⟨h1, h2, h3, h4⟩ := (Notices.ascend_iff _).1 h
    cases x with
    | pile => exact (Notices.ascend_iff _).2 ⟨ascending_drop _ _ h1, h2, h3, h4⟩
    | order => exact (Notices.ascend_iff _).2 ⟨h1, ascending_drop _ _ h2, h3, h4⟩
    | cannon => exact (Notices.ascend_iff _).2 ⟨h1, h2, ascending_drop _ _ h3, h4⟩
    | permit => exact (Notices.ascend_iff _).2 ⟨h1, h2, h3, ascending_drop _ _ h4⟩

/-! ## The clock (R176 to R178) -/

/-- Seconds of the clock input pass for the ages and the timers. -/
theorem elapse (s : State) (k : Nat) : Held s (s.elapse k) where
  tables := fun h => by
    obtain ⟨h1, h2, h3, h4, h5⟩ := (State.tablesAscend_iff _).1 h
    exact (State.tablesAscend_iff _).2 ⟨h1, h2, Table.wf_map _ _ h3, Table.wf_map _ _ h4, h5⟩
  clock := fun h => by
    obtain ⟨h1, h2, h3, h4, h5⟩ := (State.clockAndModelInRange_iff _).1 h
    refine (State.clockAndModelInRange_iff _).2 ⟨h1, h2, ?_, ?_, h5⟩
    · simp [stepLeftAfter]
    · simp only [State.elapse_clock, Clock.after_stepLeft, stepLeftAfter]; omega
  water := fun h => by
    obtain ⟨h1, h2, h3, h4, h5, h6, h7, h8⟩ := (Water.sound_iff _).1 h
    refine (Water.sound_iff _).2 ⟨h1, h2, h3, h4.imp (fun h => ?_) id, h5, h6.imp (fun h => ?_) id, h7, h8⟩
    · exact congrArg (leftAfter k) h
    · exact congrArg (leftAfter k) h
  weather := fun h => by
    obtain ⟨h1, h2, h3, h4⟩ := (State.weatherSound_iff _).1 h
    refine (State.weatherSound_iff _).2 ⟨fun e he => ?_, h2, h3, h4⟩
    obtain ⟨d, hd, rfl⟩ := List.mem_map.1 he
    refine ⟨(h1 d hd).1, ?_⟩
    obtain ⟨m1, m2, m3, m4, m5, m6, m7, m8, m9, m10, m11, -⟩ := (Mast.sound_iff _).1 (h1 d hd).2
    refine (Mast.sound_iff _).2 ⟨m1, m2, m3, m4, m5, m6, m7, m8, m9, m10, m11, fun v hv => ?_⟩
    obtain ⟨x, -, rfl⟩ := Option.map_eq_some_iff.1 hv
    exact satAdd16_le _ _
  cannons := cannonsSound_map (g := fun e => { e.2 with
      slew := leftAfter k e.2.slew, closeWait := leftAfter k e.2.closeWait, retry := leftAfter k e.2.retry }) rfl
    fun _ e _ he => ⟨by
      have hl : ∀ x, (leftAfter k x).isNone = x.isNone := fun x => by cases x <;> rfl
      simpa only [Cannon.sound, hl] using he, .inl rfl⟩
  nodes := fun _ h => State.nodesOwned.of_nodes h (fun o => by
    cases o with
    | cannon n =>
      simp only [State.addressOf, State.cannon?, State.elapse]
      rw [Table.get_map s.cannons fun c => ({ c with
        slew := leftAfter k c.slew, closeWait := leftAfter k c.closeWait, retry := leftAfter k c.retry } : Cannon),
        Option.map_map]
      rfl
    | mast n =>
      simp only [State.addressOf, State.elapse]
      rw [Table.get_map s.wind.masts fun m => ({ m with age := ageAfter k m.age } : Mast), Option.map_map]
      rfl
    | tank =>
      simp only [State.addressOf, State.elapse, Option.map_map]
      rfl
    | pond => rfl) fun _ => rfl

theorem withMinute {s : State} {m k : Nat} (hm : s.clockAndModelInRange = true → m < Config.two32) (hk : k ≤ 59) :
    Held s (s.withMinute m k) where
  clock := fun h => by
    have hm := hm h
    obtain ⟨-, -, h3⟩ := (State.clockAndModelInRange_iff _).1 h
    exact (State.clockAndModelInRange_iff _).2 ⟨hm, hk, h3⟩

theorem changeMinute {s : State} {m : Nat} (hm : m < Config.two32) : Held s (s.changeMinute m) :=
  settled ((openEvent s).trans (withMinute (fun _ => hm) (Nat.zero_le _)))

theorem minuteRise (s : State) : Held s s.minuteRise :=
  (elapse s _).trans (changeMinute (Nat.mod_lt _ (by decide)))

theorem secondRise (s : State) : Held s s.secondRise := by
  unfold State.secondRise
  split
  · exact minuteRise s
  · exact (elapse s 1).trans (withMinute (fun h => ((State.clockAndModelInRange_iff _).1 h).1) (by omega))

theorem setClock (s : State) (b : Bool) (m : Long) : Held s (s.setClock b m) := by
  refine .trans ?_ (answerUnless _ _ _ _ _)
  split
  · exact withMinute (fun h => ((State.clockAndModelInRange_iff _).1 h).1) (Nat.zero_le _)
  · exact changeMinute m.isLt

end Held

/-! ## Resets (R185, R186) -/

/-- The reset state has each invariant stated of every step, but for the node list's. -/
theorem reset_sound : State.reset.tablesAscend = true ∧ State.reset.notices.ascend = true
    ∧ State.reset.clockAndModelInRange = true ∧ State.reset.water.sound = true ∧ State.reset.pilesSound = true
    ∧ State.reset.weatherSound = true ∧ State.reset.dispatch.sound = true ∧ State.reset.cannonsSound = true
    ∧ State.reset.permits.sound = true ∧ State.reset.permitsOnLive = true ∧ State.reset.passesBound = true
    ∧ State.reset.zonesHeld = true ∧ State.reset.loop.sound = true := by
  decide

/-- After a reset no owner is loaded and no node listed. -/
theorem reset_nodesOwned : State.reset.nodesOwned :=
  ⟨fun a o => by cases o <;> simp [State.reset, State.node?, State.addressOf, State.cannon?, Pond.initial], nofun⟩

/-- Settles O58, by evaluation of the reset state. -/
theorem resetIsSound : Obligations.ResetIsSound := by
  obtain ⟨h1, h2, h3, h4, h5, h6, h7, h8, h9, h10, h11, h12, h13⟩ := reset_sound
  exact ⟨h1, h2, h3, h4, h5, h6, h7, h8, h9, h10, h11, h12, h13, reset_nodesOwned⟩

namespace Held

theorem powerOn (s : State) (pins : BitVec 4) : Held s (s.powerOn pins) := by
  obtain ⟨h1, h2, h3, h4, h5, h6, h7, h8, h9, h10, h11, h12, h13⟩ := reset_sound
  exact
    { tables := fun _ => h1
      notices := fun _ => h2
      clock := fun _ => h3
      water := fun _ => h4
      piles := fun _ => h5
      weather := fun _ => h6
      dispatch := fun _ => h7
      ended := fun _ _ ho => absurd ho List.not_mem_nil
      cannons := fun _ => h8
      permits := fun _ => h9
      onLive := fun _ => h10
      loop := fun _ => h13
      nodes := fun _ _ => State.nodesOwned.of_nodes (s := State.reset) reset_nodesOwned (fun o => by cases o <;> rfl)
        fun _ => rfl }

/-! ## Reads -/

theorem readPile (s : State) (x : Byte) (v : Half) : Held s (s.readPile x v) := by
  unfold State.readPile
  split
  · split <;> exact answer s _ _ _
  · unfold State.readPileSlot
    split
    · exact answer s _ _ _
    · split <;> exact answer s _ _ _
  · exact answer s _ _ _

theorem rankPiles (s : State) (b : Byte) : Held s (s.rankPiles b) := by
  unfold State.rankPiles
  split <;> exact answer s _ _ _

theorem readForecast (s : State) (x : Byte) (k : Long) : Held s (s.readForecast x k) := by
  unfold State.readForecast
  split
  · split <;> exact answer s _ _ _
  · split
    · exact answer s _ _ _
    · split <;> exact answer s _ _ _
  · exact answer s _ _ _

theorem readCannon (s : State) (n : Byte) : Held s (s.readCannon n) := by
  unfold State.readCannon
  split <;> exact answer s _ _ _

theorem readPermit (s : State) (x k : Byte) : Held s (s.readPermit x k) := by
  unfold State.readPermit
  split
  · unfold State.readPermitOf
    split <;> exact answer s _ _ _
  · unfold State.readPermitAt
    split
    · exact answer s _ _ _
    · split <;> exact answer s _ _ _
  · exact answer s _ _ _

theorem readLoop (s : State) (a : Option Byte) : Held s (s.readLoop a) := by
  unfold State.readLoop
  split
  · exact answer s _ _ _
  · split
    · exact answer s _ _ _
    · split <;> exact answer s _ _ _

/-! ## Every command and every step -/

/-- Every command a frame can carry keeps the invariants. -/
theorem hostCommand (i : Instr) (s : State) : Held s (s.hostCommand i) := by
  cases i with
  | fetchReply n => exact fetchReply s n
  | readIdent => exact answer s _ _ _
  | readNotices => exact readNotices s
  | readChanges c => exact readChanges s c
  | setMask b => exact setMask s b
  | setClock b m => exact setClock s b m
  | readClock => exact answer s _ _ _
  | resetYard pins => exact powerOn s pins
  | loadGrade n a => exact loadGrade s n a
  | openPile a => exact openPile s a
  | amendPile a => exact amendPile s a
  | readPile x v => exact readPile s x v
  | rankPiles b => exact rankPiles s b
  | setMoisture t v => exact setMoisture s t v
  | reportDisturbance t f m => exact reportDisturbance s t f m
  | retirePile t => exact retirePile s t
  | setLead v => exact setLead s v
  | setBands b1 b2 b3 => exact setBands s b1 b2 b3
  | readModel => exact answer s _ _ _
  | loadMast m n l => exact loadMast s m n l
  | setWindLimits a => exact setWindLimits s a
  | readWind => exact answer s _ _ _
  | postForecast b a => exact postForecast s b a
  | setYardCodes c1 c2 c3 c4 => exact setYardCodes s c1 c2 c3 c4
  | readForecast x k => exact readForecast s x k
  | clearForecasts => exact clearForecasts s
  | placeOrder a => exact placeOrder s a
  | suspendOrder i => exact suspendOrder s i
  | resumeOrder i => exact resumeOrder s i
  | cancelOrder i => exact cancelOrder s i
  | volley b c => exact fireVolley s b c
  | readOrder x v => exact readOrder s x v
  | setDispatch l m f => exact setDispatch s l m f
  | readDispatch => exact answer s _ _ _
  | loadCannon n a c => exact loadCannon s n a c
  | resetCannon n => exact resetCannon s n
  | readCannon n => exact readCannon s n
  | loadBasinTank n a => exact loadBasinTank s n a
  | loadBasinPond a => exact loadBasinPond s a
  | setAllowance v => exact setAllowance s v
  | reportInflow l => exact reportInflow s l
  | setPond v b => exact setPond s v b
  | readWater => exact answer s _ _ _
  | requestPermit m k t => exact requestPermit s m k t
  | releasePermit a => exact releasePermit s a
  | setPermitLimits p x y z => exact setPermitLimits s p x y z
  | readPermit x k => exact readPermit s x k
  | setLoop p => exact setLoop s p
  | readLoop a => exact readLoop s a
  | _ => exact refl s

theorem judge (s : State) (pins : BitVec 4) (low : Bool) (bytes : List Byte) : Held s (s.judge pins low bytes) := by
  unfold State.judge
  split
  · exact refl s
  · exact answer s _ _ _
  · exact answer s _ _ _
  · exact hostCommand _ s

/-- Every command keeps the invariants. -/
theorem exec (i : Instr) (s : State) : ∃ t, Machine.exec i s = .next t ∧ Held s t := by
  have host := hostCommand i s
  cases i with
  | powerOnReset pins => exact ⟨_, rfl, powerOn s pins⟩
  | badFrame pins low bytes => exact ⟨_, rfl, judge s pins low bytes⟩
  | modelStep => exact ⟨_, rfl, modelStep s⟩
  | mastStaleExpiry m => exact ⟨_, rfl, settled ((openEvent s).trans (staleMast _ _))⟩
  | slotRetirement => exact ⟨_, rfl, slotRetirement s⟩
  | arbitration => exact ⟨_, rfl, arbitrateDue s⟩
  | orderLapse i => exact ⟨_, rfl, settled ((openEvent s).trans (Keeps.lapseOrder _ _).held)⟩
  | slewTimeout n => exact ⟨_, rfl, settled ((openEvent s).trans (Keeps.slewExpiry _ _).held)⟩
  | blankingTimerExpiry n => exact ⟨_, rfl, settled ((openEvent s).trans (Keeps.blankingExpiry _ _).held)⟩
  | closeWaitExpiry n => exact ⟨_, rfl, settled ((openEvent s).trans (Keeps.closeWaitExpiry _ _).held)⟩
  | retryDelayEnd n => exact ⟨_, rfl, (Keeps.retryEnd s _).held⟩
  | tripCountDecay n => exact ⟨_, rfl, (Keeps.decayTrip s _).held⟩
  | gaugeStaleExpiry => exact ⟨_, rfl, staleGauge s⟩
  | dayRollover => exact ⟨_, rfl, (Keeps.rollOver s).held⟩
  | startWaitExpiry => exact ⟨_, rfl, (Keeps.startWaitExpiry s).held⟩
  | holdOffEnd => exact ⟨_, rfl, (Keeps.holdOffEnd s).held⟩
  | prewetWaitExpiry m => exact ⟨_, rfl, settled ((openEvent s).trans (Keeps.expirePrewet _ _).held)⟩
  | maxHoldLapse m => exact ⟨_, rfl, settled ((openEvent s).trans (Keeps.lapsePermit _ _).held)⟩
  | roundStart => exact ⟨_, rfl, timerStart s⟩
  | roundOverrun => exact ⟨_, rfl, timerOverrun s⟩
  | message => exact ⟨_, rfl, sendMessage s⟩
  | validReply bytes => exact ⟨_, rfl, (openEvent s).trans (endExchange _ bytes)⟩
  | miss => exact ⟨_, rfl, (openEvent s).trans (endSilent _)⟩
  | call => exact ⟨_, rfl, sendCall s⟩
  | callAnswer bytes => exact ⟨_, rfl, (openEvent s).trans (endCall _ bytes)⟩
  | callSlotTimeout => exact ⟨_, rfl, endCallSilent s⟩
  | yardMinuteChange => exact ⟨_, rfl, minuteRise s⟩
  | secondsCountRise => exact ⟨_, rfl, secondRise s⟩
  | _ => exact ⟨_, rfl, host⟩

end Held

/-- A step idles, or carries out the command at the front of the queue. -/
theorem step_cases (s : State) :
    (s.pending = [] ∧ step s = .next s) ∨ ∃ c rest, s.pending = c :: rest ∧ step s = exec c { s with pending := rest } := by
  cases h : s.pending with
  | nil => exact .inl ⟨rfl, by simp [step, h]⟩
  | cons c rest => exact .inr ⟨c, rest, rfl, by simp [step, h]⟩

/-- Every step keeps the invariants. -/
theorem Held.step {s t : State} (h : Machine.step s = .next t) : Held s t := by
  rcases step_cases s with ⟨-, hs⟩ | ⟨c, rest, -, hs⟩
  · rw [hs] at h
    cases h
    exact .refl s
  · obtain ⟨u, hu, hheld⟩ := Held.exec c { s with pending := rest }
    rw [hs, hu] at h
    cases h
    refine .trans ?_ hheld
    exact {}

/-- Settles O54, by what every command keeps (`Held.exec`). -/
theorem everyStepKeepsTheTables : Obligations.EveryStepKeepsTheTables := fun _ _ h =>
  have hk := Held.step h
  ⟨hk.tables, hk.notices, hk.clock, hk.water⟩

/-- Settles O55, by what every command keeps (`Held.exec`). -/
theorem everyStepKeepsPilesAndWeather : Obligations.EveryStepKeepsPilesAndWeather := fun _ _ h =>
  have hk := Held.step h
  ⟨hk.piles, hk.weather⟩

/-- Settles O57, by what every command keeps (`Held.exec`). -/
theorem everyStepKeepsTheLoop : Obligations.EveryStepKeepsTheLoop := fun _ _ h =>
  have hk := Held.step h
  ⟨hk.loop, hk.nodes⟩

end Sys2Proof.Machine
end

section
set_option Elab.async false
/-! PROOFS. Cannons, orders and permits together: what an operation within an event keeps of the bound passes and of the rule
of the zone, packaged once as a preorder `Joins` on states. -/

namespace Sys2Proof.Machine

/-! ## The two rules taken apart -/

/-- The order whose pass is bound to a cannon. -/
def State.boundAt (s : State) (n : Nat) : Option Nat := (s.cannon? n).bind Cannon.bound

/-- The pass of an order is bound to some cannon. -/
def State.BoundTo (s : State) (id : Nat) : Prop := ∃ n, s.boundAt n = some id

/-- The order of an id is ACTIVE. -/
def State.ActiveAt (s : State) (id : Nat) : Prop := ∃ o ∈ s.dispatch.orders, o.id = id ∧ o.state = .active

/-- The order is ACTIVE with a pass on a cannon that has not ended. -/
def Order.RunsOn (o : Order) (n : Nat) : Prop :=
  o.state = .active ∧ ∃ p, o.pass = some p ∧ p.cannon = n ∧ p.state ≠ .closed

/-- The rule of the zone, for one order and one permit (R151). -/
def Order.Yields (o : Order) (x : Permit) : Prop :=
  o.tag = x.tag → x.state ≠ .pendingWet →
    (o.isOpen = true → o.suspension.zone = true) ∧ (x.state = .granted → o.passRuns = false)

/-- Each bound pass is the current pass of an ACTIVE order made on that cannon, and every order keeps to the rule of the
zone. -/
structure Joined (s : State) : Prop where
  numbered : s.dispatch.Numbered
  bound : ∀ n id, s.boundAt n = some id → ∃ o ∈ s.dispatch.orders, o.id = id ∧ o.RunsOn n
  zones : ∀ o ∈ s.dispatch.orders, ∀ x ∈ s.permits.list, o.Yields x

theorem State.boundAt_of_cannon {s : State} {n : Nat} {c : Cannon} (h : s.cannon? n = some c) : s.boundAt n = c.bound := by
  simp [State.boundAt, h]

/-- The order of an id, where no id stands twice. -/
theorem State.order_of_mem {s : State} (hn : (s.dispatch.orders.map Order.id).Nodup) {o : Order} (ho : o ∈ s.dispatch.orders) :
    s.order? o.id = some o := by
  rw [State.order?]
  cases h : s.dispatch.orders.find? (fun x => x.id == o.id) with
  | none => exact absurd (List.find?_eq_none.1 h o ho) (by simp)
  | some x =>
    have hx := List.find?_some h
    rw [List.inj_on_of_nodup_map hn (List.mem_of_find?_eq_some h) ho (by simpa using hx)]

theorem State.order_mem {s : State} {id : Nat} {o : Order} (h : s.order? id = some o) :
    o ∈ s.dispatch.orders ∧ o.id = id :=
  ⟨List.mem_of_find?_eq_some h, by simpa using List.find?_some h⟩

theorem State.passesBound_iff {s : State} (hn : (s.dispatch.orders.map Order.id).Nodup) (hw : Table.wf s.cannons = true) :
    s.passesBound = true ↔ ∀ n id, s.boundAt n = some id → ∃ o ∈ s.dispatch.orders, o.id = id ∧ o.RunsOn n := by
  have key : ∀ n id, ((s.order? id).any fun o => o.state == .active && o.pass.any fun p => p.cannon == n && p.state != .closed) = true
      ↔ ∃ o ∈ s.dispatch.orders, o.id = id ∧ o.RunsOn n := fun n id => by
    constructor
    · intro h
      obtain ⟨o, ho, hp⟩ := (Option.any_eq_true _ _).1 h
      obtain ⟨hm, hid⟩ := State.order_mem ho
      simp only [Bool.and_eq_true, beq_iff_eq, Option.any_eq_true, bne_iff_ne] at hp
      exact ⟨o, hm, hid, hp.1, hp.2⟩
    · rintro ⟨o, hm, rfl, hs, hp⟩
      rw [State.order_of_mem hn hm]
      simpa [hs, Option.any_eq_true] using hp
  simp only [State.passesBound, List.all_eq_true]
  constructor
  · intro h n id hb
    obtain ⟨c, hc, hbc⟩ := Option.bind_eq_some_iff.1 hb
    have := h (n, c) (Table.mem_of_get hc)
    simp only [hbc, Option.all_some] at this
    exact (key n id).1 this
  · intro h e he
    cases hb : e.2.bound with
    | none => rfl
    | some id => exact (key e.1 id).2 (h e.1 id ((State.boundAt_of_cannon (Table.get_of_mem hw he)).trans hb))

theorem State.zonesHeld_iff (s : State) :
    s.zonesHeld = true ↔ ∀ o ∈ s.dispatch.orders, ∀ x ∈ s.permits.list, o.Yields x := by
  have key : ∀ (o : Order) (x : Permit), o.Yields x ↔ (x.state == .pendingWet
      || (o.tag != x.tag || ((!o.isOpen || o.suspension.zone) && (x.state == .clearing || !o.passRuns)))) = true := fun o x => by
    unfold Order.Yields
    by_cases ht : o.tag = x.tag
    · cases x.state <;> simp [ht] <;> cases o.isOpen <;> simp
    · simp [ht]
  simp only [key, State.zonesHeld, List.all_eq_true, Bool.or_eq_true]
  constructor
  · intro h o ho x hx
    exact (h x hx).imp id fun h => by simpa using h o ho
  · intro h x hx
    by_cases hp : (x.state == .pendingWet) = true
    · exact .inl hp
    · exact .inr fun o ho => by simpa [hp] using h o ho x hx

/-- Joined is what the two rules say, where the tables are in order. -/
theorem joined_iff {s : State} (hd : s.dispatch.Numbered) (hw : Table.wf s.cannons = true) :
    Joined s ↔ s.passesBound = true ∧ s.zonesHeld = true := by
  rw [State.passesBound_iff hd.ids hw, State.zonesHeld_iff]
  exact ⟨fun h => ⟨h.bound, h.zones⟩, fun h => ⟨hd, h.1, h.2⟩⟩

namespace Joined

/-- A bound order is ACTIVE. -/
theorem activeAt {s : State} (h : Joined s) {id : Nat} (hb : s.BoundTo id) : s.ActiveAt id := by
  obtain ⟨n, hn⟩ := hb
  obtain ⟨o, ho, hid, hr⟩ := h.bound n id hn
  exact ⟨o, ho, hid, hr.1⟩

/-- The order bound to a cannon runs on it. -/
theorem runsOn {s : State} (h : Joined s) {o : Order} (ho : o ∈ s.dispatch.orders) {n : Nat} (hb : s.boundAt n = some o.id) :
    o.RunsOn n := by
  obtain ⟨x, hx, hid, hr⟩ := h.bound n _ hb
  rwa [List.inj_on_of_nodup_map h.numbered.ids hx ho hid] at hr

/-- An order is bound to one cannon at most. -/
theorem bound_unique {s : State} (h : Joined s) {n k id : Nat} (hn : s.boundAt n = some id) (hk : s.boundAt k = some id) : n = k := by
  obtain ⟨x, hx, rfl, -, p, hp, hc, -⟩ := h.bound n id hn
  obtain ⟨-, q, hq, rfl, -⟩ := h.runsOn hx hk
  rw [hp] at hq
  cases hq
  exact hc.symm

end Joined

/-! ## The preorder -/

/-- What an operation keeps: the two rules, no binding gained, and no ACTIVE order ended. -/
structure Joins (s t : State) : Prop where
  joined : Joined s → Joined t
  free : Joined s → ∀ n id, t.boundAt n = some id → s.boundAt n = some id
  active : Joined s → ∀ id, s.ActiveAt id → t.ActiveAt id

namespace Joins

theorem refl (s : State) : Joins s s := ⟨id, fun _ _ _ h => h, fun _ _ h => h⟩

/-- What is kept may be shown under the two rules. -/
theorem of_joined {s t : State} (h : Joined s → Joins s t) : Joins s t :=
  ⟨fun hs => (h hs).joined hs, fun hs => (h hs).free hs, fun hs => (h hs).active hs⟩

theorem boundTo {s t : State} (h : Joins s t) (hs : Joined s) {id : Nat} (hb : t.BoundTo id) : s.BoundTo id :=
  have ⟨n, hn⟩ := hb
  ⟨n, h.free hs n id hn⟩

theorem trans {s t u : State} (h : Joins s t) (k : Joins t u) : Joins s u :=
  ⟨k.joined ∘ h.joined, fun hs n i hu => h.free hs n i (k.free (h.joined hs) n i hu), fun hs i ha => k.active (h.joined hs) i (h.active hs i ha)⟩

theorem foldl {β : Type} {f : State → β → State} (h : ∀ s b, Joins s (f s b)) (l : List β) (s : State) :
    Joins s (l.foldl f s) := by
  induction l generalizing s with
  | nil => exact refl s
  | cons b l ih => exact (h s b).trans (ih _)

end Joins

/-- Orders changed each in its place, with no binding gained. -/
theorem Joined.of_map {s t : State} {g : Order → Order} (hs : Joined s) (ho : t.dispatch.orders = s.dispatch.orders.map g)
    (hn : t.dispatch.nextId = s.dispatch.nextId) (hb : ∀ n id, t.boundAt n = some id → s.boundAt n = some id)
    (hid : ∀ o ∈ s.dispatch.orders, (g o).id = o.id)
    (hr : ∀ o ∈ s.dispatch.orders, ∀ n, t.boundAt n = some o.id → o.RunsOn n → (g o).RunsOn n)
    (hz : ∀ o ∈ s.dispatch.orders, ∀ x ∈ t.permits.list, (g o).Yields x) : Joined t := by
  refine ⟨⟨?_, ?_, hn ▸ hs.numbered.next⟩, fun n id hi => ?_, fun o hm x hx => ?_⟩
  · rw [ho, List.length_map]; exact hs.numbered.room
  · rw [ho, List.map_map, List.map_congr_left (f := Order.id ∘ g) hid]; exact hs.numbered.ids
  · obtain ⟨o, hm, rfl, hro⟩ := hs.bound n id (hb n id hi)
    exact ⟨g o, ho ▸ List.mem_map_of_mem hm, hid o hm, hr o hm n hi hro⟩
  · obtain ⟨y, hy, rfl⟩ := List.mem_map.1 (ho ▸ hm)
    exact hz y hy x hx

namespace Joins

/-- Orders changed each in its place, with no binding gained and no ACTIVE order ended. -/
theorem of_map {s t : State} {g : Order → Order} (ho : t.dispatch.orders = s.dispatch.orders.map g)
    (hn : t.dispatch.nextId = s.dispatch.nextId) (hb : ∀ n id, t.boundAt n = some id → s.boundAt n = some id)
    (hg : Joined s → ∀ o ∈ s.dispatch.orders, (g o).id = o.id ∧ (o.state = .active → (g o).state = .active)
      ∧ ∀ n, t.boundAt n = some o.id → o.RunsOn n → (g o).RunsOn n)
    (hz : Joined s → ∀ o ∈ s.dispatch.orders, ∀ x ∈ t.permits.list, (g o).Yields x) : Joins s t where
  free := fun _ => hb
  active := fun hs _ ⟨o, hm, hid, ha⟩ =>
    have ⟨h1, h2, _⟩ := hg hs o hm
    ⟨g o, ho ▸ List.mem_map_of_mem hm, h1.trans hid, h2 ha⟩
  joined := fun hs => hs.of_map ho hn hb (fun o h => (hg hs o h).1) (fun o h => (hg hs o h).2.2) (hz hs)

/-- The orders as they were, with no binding gained. -/
theorem of_orders {s t : State} (ho : t.dispatch.orders = s.dispatch.orders) (hn : t.dispatch.nextId = s.dispatch.nextId)
    (hb : ∀ n id, t.boundAt n = some id → s.boundAt n = some id)
    (hz : Joined s → ∀ o ∈ s.dispatch.orders, ∀ x ∈ t.permits.list, o.Yields x) : Joins s t :=
  of_map (g := id) (by simpa using ho) hn hb (fun _ _ _ => ⟨rfl, fun h => h, fun _ _ h => h⟩) hz

/-- An update that leaves orders, bindings and permits alone. -/
theorem same {s t : State} (ho : t.dispatch.orders = s.dispatch.orders := by rfl)
    (hn : t.dispatch.nextId = s.dispatch.nextId := by rfl)
    (hb : ∀ n id, t.boundAt n = some id → s.boundAt n = some id := by exact fun _ _ h => h)
    (hp : t.permits.list = s.permits.list := by rfl) : Joins s t :=
  of_orders ho hn hb fun hs o h x hx => hs.zones o h x (hp ▸ hx)

end Joins

end Sys2Proof.Machine
end

section
set_option Elab.async false
/-! PROOFS. The operations of an event among what keeps the bound passes and the rule of the zone. -/

namespace Sys2Proof.Machine

/-! ## Orders -/

/-- A changed order keeps its pass and its pile, goes on being ACTIVE, is not opened again and does not lose ZONE. -/
structure Order.Mild (o o' : Order) : Prop where
  id : o'.id = o.id := by rfl
  tag : o'.tag = o.tag := by rfl
  pass : o'.pass = o.pass := by rfl
  active : o.state = .active → o'.state = .active := by exact fun h => h
  opened : o'.isOpen = true → o.isOpen = true := by exact fun h => h
  zone : o.suspension.zone = true → o'.suspension.zone = true := by exact fun h => h

namespace Order.Mild

theorem refl (o : Order) : Order.Mild o o := {}

theorem runsOn {o o' : Order} (h : Order.Mild o o') {n : Nat} (hr : o.RunsOn n) : o'.RunsOn n :=
  ⟨h.active hr.1, h.pass ▸ hr.2⟩

theorem yields {o o' : Order} (h : Order.Mild o o') {x : Permit} (hx : o.Yields x) : o'.Yields x := fun ht hs =>
  have ⟨hz, hr⟩ := hx (h.tag ▸ ht) hs
  ⟨fun ho => h.zone (hz (h.opened ho)), fun hg => by rw [Order.passRuns, h.pass]; exact hr hg⟩

theorem withReason (o : Order) (r : Reason) : Order.Mild o (o.withReason r) where
  zone := fun h => by cases r <;> simp [Order.withReason, Suspension.add, h]

/-- An order that is not ACTIVE is ended. -/
theorem ended {o : Order} (h : o.state ≠ .active) (x : OrderOutcome) (now event : Nat) :
    Order.Mild o (o.ended x now event) where
  active := fun ha => absurd ha h
  opened := fun ho => by simp [Order.isOpen, Order.ended] at ho

/-- A reason other than ZONE leaves an order's set. -/
theorem dropReason {o : Order} {r : Reason} (h : r ≠ .zone) :
    Order.Mild o { o with suspension := o.suspension.drop r } where
  zone := fun hz => by cases r <;> simp_all [Suspension.drop]

end Order.Mild

namespace Joins

/-- Orders changed mildly, each in its place. -/
theorem mapOrders {s t : State} {g : Order → Order} (ho : t.dispatch.orders = s.dispatch.orders.map g)
    (hg : Joined s → ∀ o ∈ s.dispatch.orders, Order.Mild o (g o))
    (hn : t.dispatch.nextId = s.dispatch.nextId := by rfl)
    (hb : ∀ n id, t.boundAt n = some id → s.boundAt n = some id := by exact fun _ _ h => h)
    (hp : t.permits.list = s.permits.list := by rfl) : Joins s t :=
  of_map ho hn hb (fun hs o h => have hm := hg hs o h; ⟨hm.id, hm.active, fun _ _ hr => hm.runsOn hr⟩)
    fun hs o h x hx => (hg hs o h).yields (hs.zones o h x (hp ▸ hx))

/-- The order of an id changed mildly. -/
theorem mapOrder {s : State} {i : Nat} {f : Order → Order} (h : ∀ o, s.order? i = some o → Order.Mild o (f o)) :
    Joins s (s.mapOrder i f) :=
  mapOrders rfl fun hs o ho => by
    split
    · rename_i hi
      exact h o (hi ▸ State.order_of_mem hs.numbered.ids ho)
    · exact .refl o

theorem hand (s : State) (c : ChangeSet) (k : Nat) : Joins s (s.hand c k) := same

theorem handPermit (s : State) (q : Option Nat) (m : Nat) : Joins s (s.handPermit q m) := by
  unfold State.handPermit
  split
  · exact refl s
  · exact hand s _ _

theorem occasion (s : State) : Joins s s.occasion := same

theorem evalSpent (s : State) : Joins s s.evalSpent := by
  rw [evalSpent_eq]
  exact same

end Joins

/-! ## Cannons -/

theorem boundAt_mapCannon (s : State) (n k : Nat) (f : Cannon → Cannon) :
    (s.mapCannon n f).boundAt k = if k = n then (s.cannon? n).bind fun c => (f c).bound else s.boundAt k := by
  unfold State.boundAt
  rw [cannon_mapCannon]
  split
  · rename_i h
    subst h
    cases s.cannon? k <;> rfl
  · rfl

namespace Joins

/-- A cannon changed in its entry, its bound pass kept or released. -/
theorem mapCannon {s : State} {n : Nat} {f : Cannon → Cannon} (h : ∀ c, (f c).bound = c.bound ∨ (f c).bound = none) :
    Joins s (s.mapCannon n f) :=
  same (hb := fun k id hk => by
    rw [boundAt_mapCannon] at hk
    split at hk
    · subst_vars
      obtain ⟨c, hc, hb⟩ := Option.bind_eq_some_iff.1 hk
      rcases h c with hf | hf
      · rw [State.boundAt_of_cannon hc, ← hf, hb]
      · simp [hf] at hb
    · exact hk)

theorem placeClose (s : State) (n : Nat) : Joins s (s.placeClose n) := by
  unfold State.placeClose
  split
  · exact same
  · exact refl s

theorem releaseHeader (s : State) (n : Nat) : Joins s (s.releaseHeader n) := by
  rcases releaseHeader_cases s n with ⟨c, -, -, h⟩ | ⟨-, h⟩ <;> rw [h]
  · refine .trans ?_ (occasion _)
    exact mapCannon fun _ => .inl rfl
  · exact refl s

theorem toIdle (s : State) (n : Nat) : Joins s (s.toIdle n) := by
  refine .trans ?_ (occasion _)
  exact mapCannon fun _ => .inl rfl

/-- The controller writes a bound pass: its cannon stays, and it has not ended. -/
theorem mapBoundPass {s : State} {c : Cannon} {f : Pass → Pass} (hb : ∀ id, c.bound = some id → s.BoundTo id)
    (hc : ∀ p, (f p).cannon = p.cannon) (hs : ∀ p, p.state ≠ .closed → (f p).state ≠ .closed) :
    Joins s (s.mapBoundPass c f) := by
  unfold State.mapBoundPass
  split
  · rename_i id hid
    refine of_map rfl rfl (fun _ _ h => h) (fun _ o _ => ?_) fun hj o ho x hx => ?_
    · split
      · refine ⟨rfl, fun h => h, fun n _ ⟨ha, p, hp, hpc, hps⟩ => ⟨ha, f p, ?_, (hc p).trans hpc, hs p hps⟩⟩
        simp [Order.mapPass, hp]
      · exact ⟨rfl, fun h => h, fun _ _ h => h⟩
    · split
      · rename_i hi
        obtain ⟨n, hn⟩ := hb id hid
        obtain ⟨-, p, hp, -, hps⟩ := hj.runsOn ho (hi ▸ hn)
        intro ht hx'
        obtain ⟨hz, hr⟩ := hj.zones o ho x hx ht hx'
        exact ⟨hz, fun hg => by simpa [Order.passRuns, hp, hps] using hr hg⟩
      · exact hj.zones o ho x hx
  · exact refl s

theorem rampDown (s : State) (n : Nat) : Joins s (s.rampDown n) := by
  unfold State.rampDown
  split
  · rename_i c hc
    refine .trans ((placeClose s n).trans (t := s.placeClose n) ?_) (mapBoundPass (fun id hid => ⟨n, ?_⟩) (fun _ => rfl) fun _ _ => ?_)
    · exact mapCannon fun _ => .inl rfl
    · rw [boundAt_mapCannon, if_pos rfl, State.placeClose_cannon, hc]
      exact hid
    · exact PassState.noConfusion
  · exact refl s

end Joins

/-! ## Operations that end passes -/

/-- The order whose pass a telling is to end or settle. -/
def Task.passIds : Task → List Nat
  | .passEnd id _ _ => [id]
  | .passNext id _ => [id]
  | _ => []

/-- The orders whose passes some tellings are to end or settle. -/
def passIds (ts : List Task) : List Nat := ts.flatMap Task.passIds

theorem passIds_append (l k : List Task) : passIds (l ++ k) = passIds l ++ passIds k := List.flatMap_append

theorem passIds_cons (t : Task) (l : List Task) : passIds (t :: l) = t.passIds ++ passIds l := rfl

/-- Tellings of one kind that ends no pass. -/
theorem passIds_map {β : Type} {f : β → Task} (h : ∀ b, (f b).passIds = []) (l : List β) : passIds (l.map f) = [] := by
  simp [passIds, List.flatMap_map, h]

/-- What an operation with its tellings keeps: each pass whose end it tells was bound, and is bound no more. -/
structure Tells (s : State) (x : State × List Task) : Prop where
  joins : Joins s x.1
  once : Joined s → (passIds x.2).Nodup
  bound : Joined s → ∀ id ∈ passIds x.2, s.BoundTo id
  loose : Joined s → ∀ id ∈ passIds x.2, ¬ x.1.BoundTo id

namespace Tells

/-- An operation that ends no pass. -/
theorem of_joins {s : State} {x : State × List Task} (h : Joins s x.1) (hx : passIds x.2 = []) : Tells s x :=
  ⟨h, by simp [hx], by simp [hx], by simp [hx]⟩

theorem refl (s : State) : Tells s (s, []) := of_joins (.refl s) rfl

/-- An operation after one that ends no pass. -/
theorem of_trans {s t : State} {x : State × List Task} (h : Joins s t) (k : Tells t x) : Tells s x :=
  ⟨h.trans k.joins, fun hs => k.once (h.joined hs), fun hs i hi => h.boundTo hs (k.bound (h.joined hs) i hi),
    fun hs => k.loose (h.joined hs)⟩

/-- Two operations one after the other. -/
theorem append {s : State} {x y : State × List Task} (h : Tells s x) (k : Tells x.1 y) : Tells s (y.1, x.2 ++ y.2) where
  joins := h.joins.trans k.joins
  once := fun hs => by
    have hx := h.joins.joined hs
    rw [passIds_append]
    exact List.Nodup.append (h.once hs) (k.once hx) fun i hi hj => h.loose hs i hi (k.bound hx i hj)
  bound := fun hs i hi => by
    rw [passIds_append] at hi
    exact (List.mem_append.1 hi).elim (h.bound hs i) fun hi => h.joins.boundTo hs (k.bound (h.joins.joined hs) i hi)
  loose := fun hs i hi => by
    have hx := h.joins.joined hs
    rw [passIds_append] at hi
    exact (List.mem_append.1 hi).elim (fun hi hb => h.loose hs i hi (k.joins.boundTo hx hb)) (k.loose hx i)

end Tells

theorem Cannon.passIds_passEndTasks (c : Cannon) (k : PassKind) (v : Nat) : passIds (c.passEndTasks k v) = c.bound.toList := by
  unfold Cannon.passEndTasks
  split <;> simp_all [passIds, Task.passIds]

theorem Cannon.passIds_closeTold (c : Cannon) : passIds c.closeTold = [] := by
  unfold Cannon.closeTold
  split
  · exact passIds_map (fun _ => rfl) _
  · rfl

/-- A cannon is released from its pass, whose end is told. -/
theorem Tells.release {s t : State} {n : Nat} {c : Cannon} {ts : List Task} (hc : s.cannon? n = some c) (h : Joins s t)
    (hn : t.boundAt n = none) (ht : passIds ts = c.bound.toList) : Tells s (t, ts) := by
  have hb : ∀ id ∈ passIds ts, s.boundAt n = some id := fun id hid => by
    rw [State.boundAt_of_cannon hc]
    rw [ht] at hid
    exact Option.mem_toList.1 hid
  refine ⟨h, fun _ => ?_, fun _ id hid => ⟨n, hb id hid⟩, fun hs id hid ⟨k, hk⟩ => ?_⟩
  · rw [ht]; cases c.bound <;> simp
  · rw [hs.bound_unique (h.free hs k id hk) (hb id hid), hn] at hk
    cases hk

end Sys2Proof.Machine
end

section
set_option Elab.async false
/-! PROOFS. Every telling of an event keeps the bound passes and the rule of the zone, and so does the whole agenda. -/

namespace Sys2Proof.Machine

/-! ## The controller -/

/-- A cannon changed so that no pass is bound to it any more. -/
theorem boundAt_unbound {s : State} {n : Nat} {f : Cannon → Cannon} (h : ∀ c, (f c).bound = none) :
    (s.mapCannon n f).boundAt n = none := by
  rw [boundAt_mapCannon, if_pos rfl]
  cases s.cannon? n <;> simp [h]

theorem boundAt_releaseHeader (s : State) (n k : Nat) : (s.releaseHeader n).boundAt k = s.boundAt k := by
  unfold State.boundAt
  rw [cannon_releaseHeader]
  split <;> cases s.cannon? k <;> rfl

theorem boundAt_toIdle (s : State) (n k : Nat) : (s.toIdle n).boundAt k = s.boundAt k := by
  show (s.mapCannon n fun c => { c with state := .idle, aimPhase := none }).boundAt k = _
  rw [boundAt_mapCannon]
  split
  · subst_vars; rfl
  · rfl

namespace Tells

theorem closeDown (s : State) (n : Nat) : Tells s (s.closeDown n) := by
  rcases closeDown_cases s n with ⟨h, -⟩ | ⟨c, hc, ⟨-, h⟩ | ⟨-, -, h⟩ | ⟨-, -, h⟩⟩ <;> rw [h]
  · exact refl s
  · exact of_joins (Joins.rampDown s n) rfl
  all_goals
    have hu : Joins s ((s.placeClose n).mapCannon n Cannon.unbound) :=
      (Joins.placeClose s n).trans (.mapCannon fun _ => .inr rfl)
    have hb : ((s.placeClose n).mapCannon n Cannon.unbound).boundAt n = none := boundAt_unbound fun _ => rfl
  · refine release hc (hu.trans (.mapCannon fun _ => .inl rfl)) ?_ (c.passIds_passEndTasks _ _)
    rw [boundAt_mapCannon, if_pos rfl]
    exact hb
  · refine release hc ((hu.trans (.releaseHeader _ n)).trans (.toIdle _ n)) ?_ (c.passIds_passEndTasks _ _)
    rw [boundAt_toIdle, boundAt_releaseHeader]
    exact hb

theorem closePass (s : State) (o : Order) : Tells s (s.closePass o) := by
  rcases closePass_cases s o with ⟨-, h⟩ | ⟨p, -, -, h⟩ <;> rw [h]
  · exact refl s
  · exact closeDown s _

theorem addReason (s : State) (i : Nat) (r : Reason) : Tells s (s.addReason i r) := by
  rcases addReason_cases s i r with ⟨-, h⟩ | ⟨o, -, -, -, h⟩ <;> rw [h]
  · exact refl s
  · exact of_trans (.mapOrder fun o _ => .withReason o r) (closePass _ _)

theorem closePassOf (s : State) (i : Nat) : Tells s (s.closePassOf i) := by
  unfold State.closePassOf
  split
  · exact closePass s _
  · exact refl s

/-- An order that is not ACTIVE ends. -/
theorem endOrder {s : State} {i : Nat} (x : OrderOutcome) (h : ∀ o, s.order? i = some o → o.state ≠ .active) :
    Tells s (s.endOrder i x) :=
  of_joins (.mapOrder fun o ho => .ended (h o ho) _ _ _) rfl

theorem cancel (s : State) (i : Nat) : Tells s (s.cancel i) := by
  unfold State.cancel
  split
  · exact refl s
  · rename_i o ho
    have hend : o.state ≠ .active → Tells s (s.endOrder i .cancelled) := fun h =>
      endOrder _ fun x hx => by rw [ho] at hx; cases hx; exact h
    split
    · exact hend (by simp [*])
    · exact hend (by simp [*])
    · exact refl s
    · split
      · exact refl s
      · exact of_trans (.mapOrder fun _ _ => {}) (closePass _ _)

theorem lapseOrder (s : State) (i : Nat) : Tells s (s.lapseOrder i) := by
  unfold State.lapseOrder
  split
  · rename_i o ho
    split
    · rename_i hl
      refine endOrder _ fun x hx ha => ?_
      rw [ho] at hx
      cases hx
      simp [Order.lapses, ha] at hl
    · exact refl s
  · exact refl s

end Tells

/-! ## Water and piles -/

namespace Joins

theorem placeStopRun (s : State) : Joins s s.placeStopRun := by
  unfold State.placeStopRun
  split
  · exact same
  · exact refl s

theorem startRun (s : State) : Joins s s.startRun := by
  unfold State.startRun
  split
  · split <;> exact same
  · exact refl s

theorem evalTransfer (s : State) : Joins s s.evalTransfer := by
  rcases evalTransfer_cases s with ⟨-, -, -, h⟩ | ⟨-, -, h⟩ | h <;> rw [h]
  · exact startRun s
  · exact (placeStopRun s).trans same
  · exact refl s

theorem creditPond (s : State) (c : Nat) : Joins s (s.creditPond c) := by
  unfold State.creditPond
  refine .trans ?_ (evalTransfer _)
  split <;> exact same

theorem rollOver (s : State) : Joins s s.rollOver := by
  unfold State.rollOver
  split
  · exact refl s
  · refine .trans (.trans ?_ (evalSpent _)) (occasion _)
    exact same

theorem applyGain (s : State) (tag vm : Nat) : Joins s (s.applyGain tag vm).1 := by
  unfold State.applyGain
  split
  · exact refl s
  · split
    · exact refl s
    · split
      · exact refl s
      · dsimp only
        split
        · exact same
        · refine .trans ?_ (creditPond _ _)
          exact same

theorem blendPile (s : State) (tag f : Nat) (mf : Option Nat) : Joins s (s.blendPile tag f mf) := by
  unfold State.blendPile
  split
  · exact refl s
  · split
    · exact same
    · exact refl s

theorem markEstimated (s : State) (tag : Nat) : Joins s (s.markEstimated tag) := by
  unfold State.markEstimated
  split
  · exact refl s
  · split
    · exact refl s
    · exact same

theorem checkRetire (s : State) (tag : Nat) : Joins s (s.checkRetire tag).1 := by
  unfold State.checkRetire
  split
  · exact refl s
  · split
    · exact same
    · exact refl s

theorem checkFree (s : State) (tag : Nat) : Joins s (s.checkFree tag) := by
  unfold State.checkFree
  split
  · exact refl s
  · split
    · exact same
    · exact refl s

/-! ## Weather -/

theorem selectWeather (s : State) : Joins s s.selectWeather.1 := by
  rcases selectWeather_cases s with ⟨-, h⟩ | ⟨-, -, h⟩ | ⟨-, h⟩ <;> rw [h]
  all_goals exact same

theorem dropHold (s : State) : Joins s s.dropHold := by
  have h : Joins s { s with dispatch := { s.dispatch with orders := s.dispatch.orders.map fun o =>
      if o.isOpen then { o with suspension := o.suspension.drop .hold } else o } } :=
    mapOrders rfl fun _ o _ => by
      split
      · exact .dropReason nofun
      · exact .refl o
  unfold State.dropHold
  dsimp only
  split
  · exact h.trans (occasion _)
  · exact h

theorem evalHolds (s : State) : Joins s s.evalHolds.1 := by
  obtain ⟨u, ⟨cut, fr, -, -, hu⟩, h⟩ := evalHolds_cases s
  have hj : Joins s u := by
    rw [hu]
    split <;> exact same
  rcases h with ⟨-, h⟩ | ⟨-, -, h⟩ | ⟨-, -, h⟩ <;> rw [h]
  · exact hj
  · exact hj
  · exact hj.trans (dropHold u)

theorem decayTrips (s : State) : Joins s s.decayTrips :=
  same (hb := fun n id h => by
    unfold State.boundAt State.cannon? State.decayTrips at h
    rw [Table.get_map s.cannons fun c => c.decayed s.now] at h
    unfold State.boundAt State.cannon?
    cases hc : Table.get s.cannons n with
    | none => simp [hc] at h
    | some c =>
      have hd : (c.decayed s.now).bound = c.bound := by unfold Cannon.decayed; split <;> [split; skip] <;> rfl
      simpa [hc, hd] using h)

/-! ## Permits -/

/-- The permits changed each in its place, their piles and states kept. -/
theorem mapPermits {s : State} {c : Permit → Bool} {f : Permit → Permit} (ht : ∀ p, (f p).tag = p.tag)
    (hs : ∀ p, (f p).state = p.state) : Joins s (s.mapPermits c f) := by
  refine of_orders rfl rfl (fun _ _ h => h) fun hj o ho x hx => ?_
  obtain ⟨p, hp, rfl⟩ := List.mem_map.1 hx
  have := hj.zones o ho p hp
  split
  · simpa only [Order.Yields, ht, hs] using this
  · exact this

theorem endPermit (s : State) (q : Option Nat) (m : Nat) (x : PermitOutcome) (w : Bool) :
    Joins s (s.endPermit q m x w).1 := by
  unfold State.endPermit
  split
  · exact refl s
  · refine .trans ?_ (handPermit _ _ _)
    exact of_orders rfl rfl (fun _ _ h => h) fun hj o ho p hp => hj.zones o ho p (List.mem_filter.1 hp).1

theorem askGrant (s : State) (q : Option Nat) (tag : Nat) : Joins s (s.askGrant q tag) := by
  unfold State.askGrant
  split
  · exact refl s
  · rename_i hrun
    refine .trans ?_ (foldl (fun s (p : Permit) => handPermit s q p.machine) _ _)
    refine of_orders rfl rfl (fun _ _ h => h) fun hj o ho x hx => ?_
    obtain ⟨p, hp, rfl⟩ := List.mem_map.1 hx
    have hy := hj.zones o ho p hp
    split
    · rename_i hcl
      obtain ⟨rfl, hps⟩ : p.tag = tag ∧ p.state = .clearing := by simpa [Permit.clearsOn] using hcl
      intro ht _
      refine ⟨(hy ht (by simp [hps])).1, fun _ => ?_⟩
      have hno : ∀ o ∈ s.dispatch.orders, o.tag = p.tag → o.passRuns = false := by
        simp only [State.runningOn, Bool.or_eq_true, List.any_eq_true, not_or, not_exists, not_and, Bool.and_eq_true,
          beq_iff_eq, Bool.not_eq_true] at hrun
        exact fun o ho h => hrun.1 o ho h
      exact hno o ho ht
    · exact hy

end Joins

/-- The open PREWET order found is an order of the table. -/
theorem openPrewet_mem {s : State} {tag : Nat} {o : Order} (h : s.openPrewet? tag = some o) : o ∈ s.dispatch.orders :=
  (List.mem_filter.1 (List.mem_of_find?_eq_some h)).1

namespace Joins

/-- An order found in the table that is not ACTIVE ends. -/
theorem endOrder {s : State} {o : Order} (x : OrderOutcome) (ho : o ∈ s.dispatch.orders) (h : o.state ≠ .active) :
    Joins s (s.endOrder o.id x).1 :=
  mapOrders rfl fun hj y hy => by
    split
    · rename_i hi
      rw [List.inj_on_of_nodup_map hj.numbered.ids hy ho hi]
      exact .ended h _ _ _
    · exact .refl y

theorem passTold (s : State) (q : Option Nat) (tag : Nat) : Joins s (s.passTold q tag).1 := by
  unfold State.passTold
  dsimp only
  split
  · rename_i o ho
    split
    · rename_i h
      exact (askGrant s q tag).trans (endOrder _ (openPrewet_mem ho) (by simp [h.1]))
    · exact askGrant s q tag
  · exact askGrant s q tag

theorem prewetEnded (s : State) (i : Nat) (x : OrderOutcome) : Joins s (s.prewetEnded i x).1 := by
  cases x with
  | done => exact mapPermits (fun _ => rfl) fun _ => rfl
  | _ => exact refl s

theorem orderEnded (s : State) (i : Nat) : Joins s (s.orderEnded i).1 := by
  unfold State.orderEnded
  split
  · exact refl s
  · exact hand _ _ _

theorem expirePrewet (s : State) (m : Nat) : Joins s (s.expirePrewet m).1 := by
  unfold State.expirePrewet
  split
  · split <;> exact refl s
  · exact refl s

theorem lapsePermit (s : State) (m : Nat) : Joins s (s.lapsePermit m).1 := by
  unfold State.lapsePermit
  split
  · split
    · exact (blendPile s _ _ _).trans (markEstimated _ _)
    · exact refl s
  · exact refl s

end Joins

end Sys2Proof.Machine
end

section
set_option Elab.async false
/-! PROOFS. Zone and acceptance, and then the whole agenda, among what keeps the bound passes and the rule of the zone. -/

namespace Sys2Proof.Machine

/-! ## ZONE joins and leaves (R84, R147, R151) -/

/-- Machine ids handed on change the notices alone. -/
theorem handPermits_eq (q : Option Nat) (l : List Permit) (s : State) :
    ∃ n, l.foldl (fun s x => s.handPermit q x.machine) s = { s with notices := n } := by
  induction l generalizing s with
  | nil => exact ⟨_, rfl⟩
  | cons x l ih =>
    have h : ∃ n, s.handPermit q x.machine = { s with notices := n } := by
      unfold State.handPermit
      split
      · exact ⟨_, rfl⟩
      · exact ⟨_, rfl⟩
    obtain ⟨n, hn⟩ := h
    obtain ⟨m, hm⟩ := ih (s.handPermit q x.machine)
    exact ⟨m, by rw [List.foldl_cons, hm, hn]⟩

namespace Joins

/-- ZONE joins the open orders of a pile, some of whose permits clear now. -/
theorem clearing {s t : State} {tag : Nat} (ho : t.dispatch = (s.enterClearing tag).1.dispatch)
    (hb : ∀ n, t.boundAt n = s.boundAt n)
    (hp : ∀ x ∈ t.permits.list, x ∈ s.permits.list ∨ x.tag = tag ∧ x.state = .clearing ∨ x.state = .pendingWet) :
    Joins s t := by
  have hm : ∀ o : Order, Order.Mild o (if o.zoneJoins tag then o.withReason .zone else o) := fun o => by
    split
    · exact .withReason o _
    · exact .refl o
  refine of_map (congrArg Dispatcher.orders ho) ((congrArg Dispatcher.nextId ho).trans rfl) (fun n id h => hb n ▸ h)
    (fun _ o _ => ⟨(hm o).id, (hm o).active, fun _ _ hr => (hm o).runsOn hr⟩) fun hs o ho x hx => ?_
  rcases hp x hx with h | ⟨ht, hc⟩ | h
  · exact (hm o).yields (hs.zones o ho x h)
  · intro htag _
    refine ⟨fun hopen => ?_, fun hg => by rw [hc] at hg; cases hg⟩
    exact (enterClearing_orders s tag).2 _ (List.mem_map_of_mem ho) (htag.trans ht) hopen
  · exact fun _ hne => absurd h hne

theorem tellPile (s : State) (q : Option Nat) (tag : Nat) : Joins s (s.tellPile q tag).1 := by
  unfold State.tellPile
  split
  · exact refl s
  · dsimp only
    split
    · obtain ⟨n, hn⟩ := handPermits_eq q (s.permits.list.filter fun x => x.waitsOn tag)
        (s.mapPermits (fun x => x.waitsOn tag) fun x => { x with state := .clearing, entered := s.now, prewetOrder := none })
      rw [hn]
      generalize hu : ({ s.mapPermits (fun x => x.waitsOn tag) fun x =>
        { x with state := .clearing, entered := s.now, prewetOrder := none } with notices := n } : State) = u
      have hud : u.dispatch = s.dispatch := by rw [← hu]; rfl
      have hub : ∀ k, u.boundAt k = s.boundAt k := fun k => by rw [← hu]; rfl
      have hup : ∀ x ∈ u.permits.list, x ∈ s.permits.list ∨ x.tag = tag ∧ x.state = .clearing := fun x hx => by
        rw [← hu] at hx
        obtain ⟨p, hp, rfl⟩ := List.mem_map.1 hx
        split
        · rename_i hw
          exact .inr ⟨by simpa [Permit.waitsOn] using (Bool.and_eq_true_iff.1 hw).1, rfl⟩
        · exact .inl hp
      have hprewet : (u.endOpenPrewet tag).1.permits = u.permits ∧ (u.endOpenPrewet tag).1.cannons = u.cannons
          ∧ Joins s { s with dispatch := (u.endOpenPrewet tag).1.dispatch } := by
        unfold State.endOpenPrewet
        split
        · rename_i o ho
          split
          · rename_i h
            refine ⟨rfl, rfl, mapOrders (g := fun x => if x.id = o.id then x.ended .done u.now u.events else x)
              (congrArg (fun d : Dispatcher => d.orders.map _) hud) (fun hj y hy => ?_)
              ((congrArg Dispatcher.nextId hud : u.dispatch.nextId = _))⟩
            split
            · rename_i hi
              rw [List.inj_on_of_nodup_map hj.numbered.ids hy (hud ▸ openPrewet_mem ho) hi]
              exact .ended h.1 _ _ _
            · exact .refl y
          · exact ⟨rfl, rfl, same (congrArg Dispatcher.orders hud) (congrArg Dispatcher.nextId hud)⟩
        · exact ⟨rfl, rfl, same (congrArg Dispatcher.orders hud) (congrArg Dispatcher.nextId hud)⟩
      obtain ⟨hp, hc, hj⟩ := hprewet
      refine hj.trans (clearing (tag := tag) rfl (fun k => ?_) fun x hx => ?_)
      · refine Eq.trans ?_ (hub k)
        exact congrArg (fun t => (Table.get t k).bind Cannon.bound) hc
      · exact (hup x (hp ▸ hx)).imp id .inl
    · exact refl s

/-- ZONE leaves an order on a pile that no permit clears or works on. -/
theorem dropZone {u s : State} {i tag : Nat} (hj : Joins u s) (hz : s.zoned tag = false)
    (ht : Joined u → ∀ o ∈ s.dispatch.orders, o.id = i → o.tag = tag) : Joins u (s.dropReason i .zone) :=
  of_joined fun hu => hj.trans <| by
    have hmap : Joins s (s.mapOrder i fun o => { o with suspension := o.suspension.drop .zone }) := by
      refine of_map rfl rfl (fun _ _ h => h) (fun _ o _ => ?_) fun hs o ho x hx => ?_
      · split <;> exact ⟨rfl, fun h => h, fun _ _ h => h⟩
      · split
        · rename_i hi
          intro hxt hxs
          have : s.zoned tag = true := List.any_eq_true.2
            ⟨x, List.mem_filter.2 ⟨hx, by simp [← ht hu o ho hi, ← hxt]⟩, by simpa using hxs⟩
          rw [hz] at this
          cases this
        · exact hs.zones o ho x hx
    unfold State.dropReason
    split
    · exact refl s
    · split
      · dsimp only
        split
        · exact hmap.trans (occasion _)
        · exact hmap
      · exact refl s

end Joins

/-- A reason that leaves an order's set changes no order's id or pile, and no permit. -/
theorem dropReason_keys (s : State) (i : Nat) (r : Reason) :
    (s.dropReason i r).permits = s.permits
      ∧ ∀ y ∈ (s.dropReason i r).dispatch.orders, ∃ x ∈ s.dispatch.orders, x.id = y.id ∧ x.tag = y.tag := by
  have hmap : ∀ y ∈ (s.mapOrder i fun o => { o with suspension := o.suspension.drop r }).dispatch.orders,
      ∃ x ∈ s.dispatch.orders, x.id = y.id ∧ x.tag = y.tag := fun y hy => by
    obtain ⟨x, hx, rfl⟩ := List.mem_map.1 hy
    exact ⟨x, hx, by split <;> exact ⟨rfl, rfl⟩⟩
  unfold State.dropReason
  split
  · exact ⟨rfl, fun y hy => ⟨y, hy, rfl, rfl⟩⟩
  · split
    · dsimp only
      split <;> exact ⟨rfl, hmap⟩
    · exact ⟨rfl, fun y hy => ⟨y, hy, rfl, rfl⟩⟩

namespace Joins

/-- ZONE leaves several orders of such a pile. -/
theorem dropZones {l : List Order} {u s : State} {tag : Nat} (hj : Joins u s) (hz : s.zoned tag = false)
    (ht : Joined u → ∀ o ∈ l, ∀ y ∈ s.dispatch.orders, y.id = o.id → y.tag = tag) :
    Joins u (l.foldl (fun s o => s.dropReason o.id .zone) s) := by
  induction l generalizing s with
  | nil => exact hj
  | cons o l ih =>
    obtain ⟨hp, hk⟩ := dropReason_keys s o.id .zone
    refine ih (s := s.dropReason o.id .zone) (dropZone hj hz fun hu => ht hu o List.mem_cons_self) ?_ fun hu x hx y hy hyx => ?_
    · rwa [State.zoned, State.permitsOn, hp]
    · obtain ⟨z, hz, hzi, hzt⟩ := hk y hy
      rw [← hzt]
      exact ht hu x (List.mem_cons_of_mem o hx) z hz (hzi.trans hyx)

theorem liftZone (s : State) (tag : Nat) : Joins s (s.liftZone tag) := by
  unfold State.liftZone
  split
  · exact refl s
  · split
    · rename_i h
      refine dropZones (refl s) h.2 fun hs o ho y hy hi => ?_
      obtain ⟨hm, hp⟩ := List.mem_filter.1 ho
      rw [List.inj_on_of_nodup_map hs.numbered.ids hy hm hi]
      simpa using (Bool.and_eq_true_iff.1 hp).1
    · exact refl s

/-! ## Acceptance (R80) -/

/-- The entries of ended orders are freed. -/
theorem filterOrders {s t : State} {p : Order → Bool} (ho : t.dispatch.orders = s.dispatch.orders.filter p)
    (hp : Joined s → ∀ o ∈ s.dispatch.orders, o.state = .active → p o = true)
    (hn : t.dispatch.nextId = s.dispatch.nextId := by rfl) (hb : ∀ n, t.boundAt n = s.boundAt n := by exact fun _ => rfl)
    (hx : t.permits.list = s.permits.list := by rfl) : Joins s t where
  free := fun _ n _ h => hb n ▸ h
  active := fun hs i ⟨o, hm, hi, ha⟩ => ⟨o, ho ▸ List.mem_filter.2 ⟨hm, hp hs o hm ha⟩, hi, ha⟩
  joined := fun hs => by
    refine ⟨⟨?_, ?_, hn ▸ hs.numbered.next⟩, fun n i h => ?_, fun o hm x hmx => ?_⟩
    · rw [ho]; exact (List.length_filter_le _ _).trans hs.numbered.room
    · rw [ho]; exact hs.numbered.ids.sublist (List.filter_sublist.map _)
    · obtain ⟨o, hm, hi, hr⟩ := hs.bound n i (hb n ▸ h)
      exact ⟨o, ho ▸ List.mem_filter.2 ⟨hm, hp hs o hm hr.1⟩, hi, hr⟩
    · exact hs.zones o (List.mem_filter.1 (ho ▸ hm)).1 x (hx ▸ hmx)

/-- The entry of an ended order of the table is freed. -/
theorem freeOrder {s : State} {x : Order} (hx : x ∈ s.dispatch.orders) (he : x.state = .ended) :
    Joins s (s.freeOrder x.id) :=
  filterOrders rfl fun hs o ho ha => by
    simp only [bne_iff_ne, ne_eq]
    intro hi
    rw [List.inj_on_of_nodup_map hs.numbered.ids ho hx hi, he] at ha
    cases ha

theorem withRoom (s : State) : Joins s s.withRoom := by
  rcases withRoom_cases s with ⟨-, h⟩ | ⟨o, ho, he, h⟩ | ⟨-, h⟩ <;> rw [h]
  · exact refl s
  · exact freeOrder ho he
  · exact refl s

end Joins

/-- A new order has no pass, and ZONE where its pile is worked on. -/
theorem acceptedOrder_yields (s : State) (r : OrderRequest) {x : Permit} (hx : x ∈ s.withRoom.permits.list) :
    (s.acceptedOrder r).Yields x := by
  have hn : ∀ o : Order, o = s.withRoom.newOrder r s.acceptedId → o.Yields x := fun o ho ht hs => by
    subst ho
    exact ⟨fun _ => List.any_eq_true.2 ⟨x, List.mem_filter.2 ⟨hx, by simp [← ht, State.newOrder]⟩, by simpa using hs⟩, fun _ => rfl⟩
  unfold State.acceptedOrder
  split
  · intro ht hs
    exact ⟨(hn _ rfl ht hs).1 ∘ fun _ => by simp [State.newOrder, Order.isOpen]; split <;> decide, fun _ => rfl⟩
  · exact hn _ rfl

namespace Joins

/-- An order joins the table where it has room. -/
theorem accepted {s : State} {r : OrderRequest} (hf : s.ordersFull = false) : Joins s (s.accepted r) where
  free := fun hs n i h => (withRoom s).free hs n i h
  active := fun hs i ha => by
    obtain ⟨o, ho, h⟩ := (withRoom s).active hs i ha
    exact ⟨o, List.mem_append_left _ ho, h⟩
  joined := fun hs => by
    have hw := (withRoom s).joined hs
    obtain ⟨hfree, hi1, hi2⟩ := acceptedId_free hs.numbered hf
    refine ⟨⟨?_, ?_, by simp [State.accepted], ?_⟩, fun n i h => ?_, fun o ho x hx => ?_⟩
    · have := withRoom_length hf hs.numbered.room
      simp only [State.accepted, List.length_append, List.length_singleton]; omega
    · simp only [State.accepted, List.map_append, List.map_cons, List.map_nil, acceptedOrder_id, List.nodup_append]
      exact ⟨hw.numbered.ids, by simp, fun a ha b hb hab => hfree (by simp only [List.mem_singleton] at hb; rw [← hb, ← hab]; exact ha)⟩
    · have := Nat.mod_lt s.acceptedId (show 0 < 65535 by decide)
      simp only [State.accepted]; omega
    · obtain ⟨o, ho, h⟩ := hw.bound n i h
      exact ⟨o, List.mem_append_left _ ho, h⟩
    · rcases List.mem_append.1 ho with ho | ho
      · exact hw.zones o ho x hx
      · rw [List.mem_singleton.1 ho]
        exact acceptedOrder_yields s r hx

theorem accept {s : State} {r : OrderRequest} (hf : s.ordersFull = false) : Joins s (s.accept r).1 := by
  rw [accept_eq]
  dsimp only
  split
  · exact (accepted hf).trans (occasion _)
  · exact accepted hf

theorem askPrewet (s : State) (tag : Nat) (only : Option Nat) : Joins s (s.askPrewet tag only).1 := by
  rcases askPrewet_cases s tag only with ⟨-, h⟩ | ⟨o, -, h⟩ | ⟨-, -, h⟩ | ⟨slot, p, g, a, -, hf, -, -, ha, h⟩ <;> rw [h]
  · exact refl s
  · exact mapPermits (fun _ => rfl) fun _ => rfl
  · exact refl s
  · subst ha
    exact (accept hf).trans (mapPermits (fun _ => rfl) fun _ => rfl)

end Joins

end Sys2Proof.Machine
end

section
set_option Elab.async false
/-! PROOFS. The agenda of an event and an arbitration keep the bound passes and the rule of the zone. -/

namespace Sys2Proof.Machine

/-! ## Tellings still to be carried out -/

/-- Within an event: the two rules hold, and each pass whose end is still to be told or settled is that of an ACTIVE order no
cannon is bound to. -/
structure Ready (x : State × List Task) : Prop where
  joined : Joined x.1
  once : (passIds x.2).Nodup
  active : ∀ id ∈ passIds x.2, x.1.ActiveAt id
  loose : ∀ id ∈ passIds x.2, ¬ x.1.BoundTo id

namespace Ready

/-- An operation with its tellings, those that waited behind them. -/
theorem andThen {s : State} {ts : List Task} {x : State × List Task} (h : Ready (s, ts)) (k : Tells s x) :
    Ready (x.1, x.2 ++ ts) where
  joined := k.joins.joined h.joined
  once := by
    rw [passIds_append]
    exact List.Nodup.append (k.once h.joined) h.once fun i hi hj => h.loose i hj (k.bound h.joined i hi)
  active := fun i hi => by
    rw [passIds_append] at hi
    refine k.joins.active h.joined i ?_
    exact (List.mem_append.1 hi).elim (fun hi => h.joined.activeAt (k.bound h.joined i hi)) (h.active i)
  loose := fun i hi => by
    rw [passIds_append] at hi
    exact (List.mem_append.1 hi).elim (k.loose h.joined i) fun hi hb => h.loose i hi (k.joins.boundTo h.joined hb)

/-- Something is done that tells nothing. -/
theorem keep {s t : State} {ts : List Task} (h : Ready (s, ts)) (k : Joins s t) : Ready (t, ts) :=
  h.andThen (.of_joins (x := (t, [])) k rfl)

/-- An operation with its tellings. -/
theorem of_tells {s : State} {x : State × List Task} (hs : Joined s) (k : Tells s x) : Ready x := by
  simpa using andThen (ts := []) ⟨hs, List.nodup_nil, nofun, nofun⟩ k

/-- A telling that ends no pass taken from the list. -/
theorem tail {s : State} {t : Task} {ts : List Task} (h : Ready (s, t :: ts)) : Ready (s, ts) := by
  obtain ⟨h1, h2, h3, h4⟩ := h
  simp only [passIds_cons] at h2 h3 h4
  exact ⟨h1, h2.of_append_right, fun i hi => h3 i (List.mem_append_right _ hi), fun i hi => h4 i (List.mem_append_right _ hi)⟩

end Ready

/-! ## The end of a pass (R89, R90) -/

/-- The record of a pass no cannon is bound to any more ends or is dropped. -/
theorem Joins.closePass {s : State} {i : Nat} {f : Order → Order} (hb : ¬ s.BoundTo i)
    (hf : ∀ o, (f o).id = o.id ∧ (f o).tag = o.tag ∧ (f o).state = o.state ∧ (f o).suspension = o.suspension)
    (hp : ∀ o, (f o).passRuns = false) : Joins s (s.mapOrder i f) := by
  refine of_map rfl rfl (fun _ _ h => h) (fun _ o _ => ?_) fun hs o ho x hx => ?_
  · obtain ⟨h1, h2, h3, h4⟩ := hf o
    split
    · rename_i hi
      exact ⟨h1, fun h => h3.trans h, fun n hn => absurd ⟨n, hi ▸ hn⟩ hb⟩
    · exact ⟨rfl, fun h => h, fun _ _ h => h⟩
  · obtain ⟨h1, h2, h3, h4⟩ := hf o
    split
    · intro ht hxs
      obtain ⟨hz, -⟩ := hs.zones o ho x hx (h2 ▸ ht) hxs
      exact ⟨fun hopen => h4 ▸ hz (by rwa [Order.isOpen, h3] at hopen), fun _ => hp o⟩
    · exact hs.zones o ho x hx

/-- An ACTIVE order without a bound pass goes to another state. -/
theorem Joined.leaveActive {s : State} {i : Nat} {f : Order → Order} (hs : Joined s) (hb : ¬ s.BoundTo i) (ha : s.ActiveAt i)
    (hf : ∀ o, (f o).id = o.id ∧ (f o).tag = o.tag ∧ (f o).pass = o.pass ∧ (f o).suspension = o.suspension) :
    Joined (s.mapOrder i f) := by
  refine hs.of_map rfl rfl (fun _ _ h => h) (fun o _ => ?_) (fun o _ n hn hr => ?_) fun o ho x hx => ?_
  · split
    · exact (hf o).1
    · rfl
  · split
    · rename_i hi
      exact absurd ⟨n, hi ▸ hn⟩ hb
    · exact hr
  · obtain ⟨h1, h2, h3, h4⟩ := hf o
    split
    · rename_i hi
      obtain ⟨y, hy, hyi, hya⟩ := ha
      have hopen : o.isOpen = true := by
        rw [List.inj_on_of_nodup_map hs.numbered.ids ho hy (hi.trans hyi.symm), Order.isOpen, hya]
        rfl
      intro ht hxs
      obtain ⟨hz, hr⟩ := hs.zones o ho x hx (h2 ▸ ht) hxs
      exact ⟨fun _ => h4 ▸ hz hopen, fun hg => by rw [Order.passRuns, h3]; exact hr hg⟩
    · exact hs.zones o ho x hx

/-- An order of another id is as it was. -/
theorem activeAt_mapOrder {s : State} {i k : Nat} {f : Order → Order} (hk : k ≠ i) (h : s.ActiveAt k) :
    (s.mapOrder i f).ActiveAt k := by
  obtain ⟨o, ho, rfl, ha⟩ := h
  exact ⟨o, List.mem_map.2 ⟨o, ho, if_neg hk⟩, rfl, ha⟩

namespace Ready

theorem passEnd {s : State} {i : Nat} {k : PassKind} {v : Nat} {ts : List Task} (h : Ready (s, .passEnd i k v :: ts)) :
    Ready ((s.passEnd i k v).1, (s.passEnd i k v).2 ++ ts) := by
  unfold State.passEnd
  split
  · exact h.tail
  · rename_i o _
    have hb : ¬ s.BoundTo i := h.loose i List.mem_cons_self
    have hc : Joins s (s.mapOrder i fun o => o.creditedEnd k v) :=
      .closePass hb (fun _ => ⟨rfl, rfl, rfl, rfl⟩) fun o => by
        cases hp : o.pass <;> simp [Order.passRuns, Order.creditedEnd, hp]
    have hj := hc.trans (.applyGain _ o.tag v)
    have hids : ∀ u : State, passIds (u.applyGain o.tag v).2 = [] := fun u => by
      unfold State.applyGain
      split
      · rfl
      · split
        · rfl
        · split <;> rfl
    have hpass : passIds ((((s.mapOrder i fun o => o.creditedEnd k v).applyGain o.tag v).2 ++ [.passNext i k]) ++ ts)
        = passIds (.passEnd i k v :: ts) := by
      rw [passIds_append, passIds_append, hids]
      rfl
    exact ⟨hj.joined h.joined, hpass ▸ h.once, fun n hn => hj.active h.joined n (h.active n (hpass ▸ hn)),
      fun n hn hbn => h.loose n (hpass ▸ hn) (hj.boundTo h.joined hbn)⟩

theorem passNext {s : State} {i : Nat} {k : PassKind} {ts : List Task} (h : Ready (s, .passNext i k :: ts)) :
    Ready ((s.passNext i k).1, (s.passNext i k).2 ++ ts) := by
  unfold State.passNext
  split
  · exact h.tail
  · rename_i o _
    have hb : ¬ s.BoundTo i := h.loose i List.mem_cons_self
    have hj : Joins s (s.mapOrder i fun o => { o with pass := none }).evalSpent := by
      refine .trans ?_ (.evalSpent _)
      exact .closePass hb (fun _ => ⟨rfl, rfl, rfl, rfl⟩) fun _ => rfl
    obtain ⟨hi, hts⟩ : i ∉ passIds ts ∧ (passIds ts).Nodup := List.nodup_cons.1 h.once
    dsimp only
    generalize (s.mapOrder i fun o => { o with pass := none }).evalSpent = u at hj
    have hu := hj.joined h.joined
    have hub : ¬ u.BoundTo i := fun hb' => hb (hj.boundTo h.joined hb')
    have hua : u.ActiveAt i := hj.active h.joined i (h.active i List.mem_cons_self)
    have hkey : ∀ (f : Order → Order) (new : List Task), Joined (u.mapOrder i f) → passIds new = [] →
        Ready (u.mapOrder i f, new ++ ts) := fun f new hf hnew => by
      have hids : passIds (new ++ ts) = passIds ts := by rw [passIds_append, hnew]; rfl
      refine ⟨hf, hids ▸ hts, fun n hn => ?_, fun n hn hbn => ?_⟩
      · rw [hids] at hn
        exact activeAt_mapOrder (fun he => hi (he ▸ hn))
          (hj.active h.joined n (h.active n (List.mem_cons_of_mem i hn)))
      · rw [hids] at hn
        exact h.loose n (List.mem_cons_of_mem i hn) (hj.boundTo h.joined hbn)
    split
    · exact hkey _ _ (hu.leaveActive hub hua fun _ => ⟨rfl, rfl, rfl, rfl⟩) rfl
    · have hw := hkey (fun o => { o with state := .waiting, lapseRef := s.now }) [.passTold o.tag]
        (hu.leaveActive hub hua fun _ => ⟨rfl, rfl, rfl, rfl⟩) rfl
      exact hw.keep (.occasion _)

end Ready

/-! ## The whole agenda -/

/-- Tellings that end no pass, one by one. -/
theorem passIds_nil {l : List Task} (h : ∀ t ∈ l, t.passIds = []) : passIds l = [] := List.flatMap_eq_nil_iff.2 h

/-- A telling that neither ends nor settles a pass. -/
theorem Tells.doTask (q : Option Nat) (t : Task) (s : State) (h : t.passIds = []) : Tells s (doTask q t s) := by
  cases t with
  | passEnd i k v => cases h
  | passNext i k => cases h
  | addReason i r => exact addReason s i r
  | cancel i => exact cancel s i
  | closePass i => exact closePassOf s i
  | lapseOrder i => exact lapseOrder s i
  | passTold tag =>
    refine of_joins (.passTold s q tag) ?_
    simp only [Machine.doTask, State.passTold]
    split
    · split <;> rfl
    · rfl
  | orderEnded i =>
    refine of_joins (.orderEnded s i) ?_
    simp only [Machine.doTask, State.orderEnded]
    split
    · rfl
    · split <;> rfl
  | prewetEnded i x =>
    refine of_joins (.prewetEnded s i x) ?_
    simp only [Machine.doTask, State.prewetEnded]
    cases x with
    | withdrawn => rfl
    | _ => exact passIds_map (fun _ => rfl) _
  | askPrewet tag only =>
    refine of_joins (.askPrewet s tag only) ?_
    simp only [Machine.doTask]
    rcases askPrewet_cases s tag only with ⟨-, h⟩ | ⟨o, -, h⟩ | ⟨-, -, h⟩ | ⟨slot, p, g, a, -, -, -, -, ha, h⟩ <;> rw [h]
    · rfl
    · rfl
    · rfl
    · rw [ha, accept_eq]
      dsimp only
      split <;> rfl
  | retryPrewets => exact of_joins (.refl s) (passIds_map (fun _ => rfl) _)
  | tellPile tag =>
    refine of_joins (.tellPile s q tag) ?_
    simp only [Machine.doTask, State.tellPile]
    split
    · rfl
    · split
      · rw [passIds_append, State.enterClearing, passIds_append, passIds_map fun _ => rfl]
        simp only [State.endOpenPrewet]
        split
        · split <;> rfl
        · rfl
      · rfl
  | askGrant tag => exact of_joins (.askGrant s q tag) rfl
  | endPermit m x w =>
    refine of_joins (.endPermit s q m x w) ?_
    simp only [Machine.doTask, State.endPermit]
    split
    · rfl
    · dsimp only
      rw [passIds_append, passIds_append, passIds_map fun _ => rfl]
      split <;> rfl
  | checkRetire tag =>
    refine of_joins (.checkRetire s tag) ?_
    simp only [Machine.doTask, State.checkRetire]
    split
    · rfl
    · split
      · rw [passIds_append, passIds_map fun _ => rfl]
        rfl
      · rfl
  | liftZone tag => exact of_joins (.liftZone s tag) rfl
  | checkFree tag => exact of_joins (.checkFree s tag) rfl
  | lapseOrders => exact of_joins (.refl s) (passIds_map (fun _ => rfl) _)
  | expirePrewet m =>
    refine of_joins (.expirePrewet s m) ?_
    simp only [Machine.doTask, State.expirePrewet]
    split
    · split <;> rfl
    · rfl
  | lapsePermit m =>
    refine of_joins (.lapsePermit s m) ?_
    simp only [Machine.doTask, State.lapsePermit]
    split
    · split <;> rfl
    · rfl
  | permitMinute =>
    refine of_joins (.refl s) ?_
    rw [Machine.doTask, State.permitMinute, passIds_append, passIds_append, passIds_map fun _ => rfl, passIds_map fun _ => rfl]
    rfl
  | blendPile tag f mf => exact of_joins (.blendPile s tag f mf) rfl
  | selectWeather =>
    refine of_joins (.selectWeather s) ?_
    simp only [Machine.doTask]
    rcases selectWeather_cases s with ⟨-, h⟩ | ⟨-, -, h⟩ | ⟨-, h⟩ <;> rw [h] <;> rfl
  | evalHolds =>
    refine of_joins (.evalHolds s) ?_
    simp only [Machine.doTask]
    obtain ⟨u, -, ⟨-, h⟩ | ⟨-, -, h⟩ | ⟨-, -, h⟩⟩ := evalHolds_cases s <;> rw [h]
    · rfl
    · exact passIds_map (fun _ => rfl) _
    · rfl
  | decayTrips => exact of_joins (.decayTrips s) rfl
  | rollOver => exact of_joins (.rollOver s) rfl

namespace Ready

/-- A telling carried out, those it brings about put before the rest. -/
theorem doTask {q : Option Nat} {t : Task} {s : State} {ts : List Task} (h : Ready (s, t :: ts)) :
    Ready ((Machine.doTask q t s).1, (Machine.doTask q t s).2 ++ ts) := by
  cases ht : t with
  | passEnd i k v => exact (ht ▸ h).passEnd
  | passNext i k => exact (ht ▸ h).passNext
  | _ => exact ht ▸ h.tail.andThen (Tells.doTask q t s (by rw [ht]; rfl))

theorem runTasks {q : Option Nat} {fuel : Nat} {ts : List Task} {s : State} (h : Ready (s, ts)) :
    Joined (Machine.runTasks q fuel ts s) := by
  induction fuel generalizing ts s with
  | zero => exact h.joined
  | succ fuel ih =>
    cases ts with
    | nil => exact h.joined
    | cons t ts => exact ih h.doTask

end Ready

namespace Joined

theorem settle {s : State} {x : State × List Task} (hs : Joined s) (h : Tells s x) (q : Option Nat) :
    Joined (x.1.settle q x.2) := (Ready.of_tells hs h).runTasks

theorem settled {s : State} {x : State × List Task} (hs : Joined s) (h : Tells s x) : Joined (settled x) := hs.settle h none

end Joined

end Sys2Proof.Machine
end

section
set_option Elab.async false
/-! PROOFS. The controller's events, the loop's and an arbitration keep the bound passes and the rule of the zone. -/

namespace Sys2Proof.Machine

/-- The tellings of a cannon released from its pass and from its close wait. -/
theorem Cannon.passIds_released (c : Cannon) (k : PassKind) (v : Nat) :
    passIds (c.passEndTasks k v ++ c.closeTold) = c.bound.toList := by
  rw [passIds_append, c.passIds_passEndTasks, c.passIds_closeTold, List.append_nil]

theorem boundAt_hand (s : State) (c : ChangeSet) (k n : Nat) : (s.hand c k).boundAt n = s.boundAt n := rfl

/-! ## Trips and timers (R109, R113 to R116) -/

namespace Tells

theorem trip (s : State) (n : Nat) (k : PassKind) : Tells s (s.trip n k) := by
  unfold State.trip
  split
  · exact refl s
  · rename_i c hc
    have h1 : Joins s (((s.placeClose n).mapCannon n fun c => c.afterTrip s.now).hand .cannon n) := by
      refine .trans ?_ (.hand _ _ _)
      exact (Joins.placeClose s n).trans (.mapCannon fun _ => .inl rfl)
    dsimp only
    split
    · exact release hc (h1.trans (.mapCannon fun _ => .inr rfl)) (boundAt_unbound fun _ => rfl) (c.passIds_passEndTasks _ _)
    · refine of_joins (h1.trans (.mapBoundPass (fun id hid => ⟨n, ?_⟩) (fun _ => rfl) fun _ _ => nofun)) rfl
      show ((s.placeClose n).mapCannon n fun c => c.afterTrip s.now).boundAt n = some id
      rw [boundAt_mapCannon, if_pos rfl, State.placeClose_cannon, hc]
      exact hid

theorem slewExpiry (s : State) (n : Nat) : Tells s (s.slewExpiry n) := by
  unfold State.slewExpiry
  split
  · split
    · exact trip s n _
    · exact refl s
  · exact refl s

theorem blankingExpiry (s : State) (n : Nat) : Tells s (s.blankingExpiry n) := by
  unfold State.blankingExpiry
  split
  · split
    · exact trip s n _
    · exact refl s
  · exact refl s

theorem closeWaitExpiry (s : State) (n : Nat) : Tells s (s.closeWaitExpiry n) := by
  unfold State.closeWaitExpiry
  split
  · rename_i c hc
    split
    · refine release hc (.trans ?_ (.hand _ _ _)) ?_ (c.passIds_released _ _)
      · exact .mapCannon fun _ => .inr rfl
      · rw [boundAt_hand]
        exact boundAt_unbound fun _ => rfl
    · exact refl s
  · exact refl s

theorem cannonLost (s : State) (n : Nat) : Tells s (s.cannonLost n) := by
  unfold State.cannonLost
  split
  · exact refl s
  · rename_i c hc
    split
    any_goals exact refl s
    all_goals
      refine release hc (.trans (.trans ?_ (.releaseHeader _ n)) (.hand _ _ _)) ?_ (c.passIds_released _ _)
      · exact .mapCannon fun _ => .inr rfl
      · refine (boundAt_releaseHeader _ n n).trans ?_
        exact boundAt_unbound fun _ => rfl

theorem cannonReset {s : State} {n : Nat} {c : Cannon} (hc : s.cannon? n = some c) : Tells s (s.cannonReset n c) := by
  have h : Joins s ((s.placeClose n).mapCannon n fun c => { c.quiet with state := .resetting }) :=
    (Joins.placeClose s n).trans (.mapCannon fun _ => .inr rfl)
  unfold State.cannonReset
  dsimp only
  split
  · refine release hc (h.trans (.hand _ _ _)) ?_ (c.passIds_released _ _)
    rw [boundAt_hand]
    exact boundAt_unbound fun _ => rfl
  · exact release hc h (boundAt_unbound fun _ => rfl) (c.passIds_released _ _)

end Tells

namespace Joins

theorem retryEnd (s : State) (n : Nat) : Joins s (s.retryEnd n) := by
  unfold State.retryEnd
  split
  · split
    · refine .trans (.trans ?_ (toIdle _ n)) (hand _ _ _)
      exact mapCannon fun _ => .inl rfl
    · exact refl s
  · exact refl s

theorem decayTrip (s : State) (n : Nat) : Joins s (s.decayTrip n) :=
  mapCannon fun c => .inl <| by
    unfold Cannon.decayed
    split
    · split <;> rfl
    · rfl

theorem placeAim (s : State) (n : Nat) (c : Cannon) (o : Order) : Joins s (s.placeAim n c o) := by
  rcases placeAim_cases s n c o with ⟨-, h⟩ | ⟨-, h⟩ <;> rw [h]
  · refine .trans (t := s.placeStart c.config.node (.aim (o.aimArc c).1 (o.aimArc c).2 c.config.sweepRate)) same ?_
    exact mapCannon fun _ => .inl rfl
  · exact mapCannon fun _ => .inl rfl

theorem cannonSlotEmptied (s : State) (n : Nat) : Joins s (s.cannonSlotEmptied n) := by
  rcases cannonSlotEmptied_cases s n with ⟨c, o, p, -, -, -, h⟩ | ⟨-, h⟩ <;> rw [h]
  · exact placeAim s n c o
  · exact refl s

/-! ## A reply of a cannon node (R104) -/

theorem takeLitres (s : State) (h : Header) (l : Nat) : Joins s (s.takeLitres h l) := by
  cases h with
  | reuse => exact refl s
  | fresh =>
    refine .trans ?_ (evalSpent _)
    exact same

theorem routeDelta {s : State} {n : Nat} {c : Cannon} (l : Nat) (hb : s.boundAt n = c.bound) :
    Joins s (s.routeDelta n c l) := by
  have hstray : Joins s (s.mapCannon n fun c => { c with stray := satAdd32 c.stray l }) := mapCannon fun _ => .inl rfl
  have hfed : Joins s (s.mapBoundPass c fun p => p.fed l) :=
    mapBoundPass (fun id hid => ⟨n, hb.trans hid⟩) (fun _ => rfl) fun _ h => h
  have hdelta : ∀ u : State, Joins s u → Joins s (match c.header with | some h => u.takeLitres h l | none => u) :=
    fun u hu => by
      split
      · exact hu.trans (takeLitres u _ l)
      · exact hu
  unfold State.routeDelta
  refine hdelta _ ?_
  split
  · split
    · exact hfed
    · exact hstray
  · exact hstray

theorem meterReply {s : State} {n : Nat} {c : Cannon} {r : NodeReport} {m : Nat} (hc : s.cannon? n = some c) :
    Joins s (s.meterReply n c r m) := by
  have hopen : Joins s (if c.opens r then s.openPass n c else s) ∧ (if c.opens r then s.openPass n c else s).boundAt n = c.bound := by
    split
    · unfold State.openPass
      constructor
      · refine .trans (mapBoundPass (c := c) (f := fun p => { p with meterStart := c.meterLast, state := .spraying })
          (fun id hid => ⟨n, (State.boundAt_of_cannon hc).trans hid⟩) (fun _ => rfl) fun _ _ => PassState.noConfusion) ?_
        exact mapCannon fun _ => .inl rfl
      · have : ∀ (u : State) (f : Pass → Pass), (u.mapBoundPass c f).cannon? n = u.cannon? n := fun u f => by
          unfold State.mapBoundPass; split <;> rfl
        rw [boundAt_mapCannon, if_pos rfl, this, hc]
        rfl
    · exact ⟨refl s, State.boundAt_of_cannon hc⟩
  unfold State.meterReply
  dsimp only
  generalize (if c.opens r then s.openPass n c else s) = u at hopen
  refine hopen.1.trans (.trans (t := u.mapCannon n fun c => { c with report := some r, meterLast := some m }) ?_ (routeDelta _ ?_))
  · exact mapCannon fun _ => .inl rfl
  · rw [boundAt_mapCannon, if_pos rfl]
    exact hopen.2

theorem examineDose (s : State) (n : Nat) : Joins s (s.examineDose n) := by
  unfold State.examineDose
  split
  · split
    · split
      · exact rampDown s n
      · exact refl s
    · exact refl s
  · exact refl s

theorem placeOpen (s : State) (n : Nat) (c : Cannon) : Joins s (s.placeOpen n c) := by
  unfold State.placeOpen
  split
  · rename_i p _
    refine .trans (t := s.placeStart c.config.node (.openValve p.header)) same ?_
    exact mapCannon fun _ => .inl rfl
  · exact refl s

theorem resetComplete (s : State) (n : Nat) : Joins s (s.resetComplete n) := by
  refine .trans (.trans ?_ (releaseHeader _ n)) (toIdle _ n)
  exact mapCannon fun _ => .inl rfl

end Joins

namespace Tells

theorem closedToIdle {s : State} {n : Nat} {c : Cannon} (hc : s.cannon? n = some c) : Tells s (s.closedToIdle n c) := by
  refine release hc (.trans (.trans ?_ (.releaseHeader _ n)) (.toIdle _ n)) ?_ (c.passIds_released _ _)
  · exact .mapCannon fun _ => .inr rfl
  · rw [boundAt_toIdle, boundAt_releaseHeader]
    exact boundAt_unbound fun _ => rfl

theorem closedAfterTrip {s : State} {n : Nat} {c : Cannon} (hc : s.cannon? n = some c) : Tells s (s.closedAfterTrip n c) := by
  refine release hc (.trans ?_ (.releaseHeader _ n)) ?_ (c.passIds_released _ _)
  · exact .mapCannon fun _ => .inr rfl
  · rw [boundAt_releaseHeader]
    exact boundAt_unbound fun _ => rfl

theorem actOnReport (s : State) (n : Nat) (r : NodeReport) (opened : Bool) : Tells s (s.actOnReport n r opened) := by
  unfold State.actOnReport
  split
  · exact refl s
  · rename_i c hc
    split
    · exact refl s
    · split
      · exact of_joins (.placeOpen s n c) rfl
      · exact refl s
    · split
      · exact closedToIdle hc
      · exact of_joins (.examineDose s n) rfl
    · split
      · exact closedToIdle hc
      · exact refl s
    · split
      · exact closedAfterTrip hc
      · exact refl s
    · split
      · exact closedAfterTrip hc
      · exact refl s
    · refine of_joins (.trans ((Joins.placeClose s n).trans (t := s.placeClose n) ?_) (.hand _ _ _)) rfl
      exact .mapCannon fun _ => .inl rfl
    · split
      · exact of_joins (.resetComplete s n) rfl
      · exact refl s

theorem actOnOverload (s : State) (n : Nat) (r : NodeReport) : Tells s (s.actOnOverload n r) := by
  rcases actOnOverload_cases s n r with ⟨c, -, -, ⟨-, -, h⟩ | ⟨-, h⟩⟩ | ⟨-, h⟩ <;> rw [h]
  · exact trip s n _
  · exact of_joins (.mapCannon fun _ => .inl rfl) rfl
  · exact refl s

theorem takeCannonReply (s : State) (n : Nat) (r : NodeReport) (m : Nat) : Tells s (s.takeCannonReply n r m) := by
  unfold State.takeCannonReply
  split
  · exact refl s
  · rename_i c hc
    exact of_trans (.meterReply hc) ((actOnReport _ n r _).append (actOnOverload _ n r))

end Tells

/-! ## The gauge and the transfer station -/

namespace Joins

theorem retank (s : State) (t t' : Tank) : Joins s (s.retank t t') := by
  unfold State.retank
  dsimp only
  split <;> exact same

theorem takeReading (s : State) (l t : Nat) (a : Bool) : Joins s (s.takeReading l t a) := by
  unfold State.takeReading
  split
  · exact refl s
  · exact ((retank s _ _).trans (occasion _)).trans (evalTransfer _)

theorem staleGauge (s : State) : Joins s s.staleGauge := by
  rcases staleGauge_cases s with ⟨t, -, -, -, h⟩ | ⟨-, h⟩ <;> rw [h]
  · refine .trans ?_ (evalTransfer _)
    exact same
  · exact refl s

theorem stopRun (s : State) (e : RunEnd) : Joins s (s.stopRun e) := (placeStopRun s).trans same

theorem debitPond (s : State) (p : Nat) : Joins s (s.debitPond p) := by
  unfold State.debitPond
  split
  · exact same
  · dsimp only
    split
    · refine .trans ?_ (stopRun _ _)
      exact same
    · refine .trans ?_ (stopRun _ _)
      exact same
    · exact same
    · exact same

theorem pumpReport (s : State) (running : Bool) : Joins s (s.pumpReport running) := by
  rcases pumpReport_cases s running with ⟨-, -, h⟩ | ⟨-, -, h⟩ | ⟨-, -, -, h⟩ | ⟨-, -, h⟩ | h <;> rw [h]
  · exact same
  · exact same
  · exact same
  · exact placeStopRun s
  · exact refl s

theorem takeTransferReply (s : State) (running : Bool) (m : Nat) (b : Bool) : Joins s (s.takeTransferReply running m b) := by
  have h : Joins s (((s.mapTransfer fun t => { t with meterLast := some m }).debitPond
      (meterDelta s.water.transfer.meterLast m)).pumpReport running) := by
    refine .trans (.trans ?_ (debitPond _ _)) (pumpReport _ _)
    exact same
  unfold State.takeTransferReply
  dsimp only
  split
  · exact h.trans (evalTransfer _)
  · exact h

theorem transferLost (s : State) : Joins s s.transferLost := by
  unfold State.transferLost
  split
  · exact same
  · refine .trans ?_ (evalTransfer _)
    exact same

theorem transferSlotEmptied (s : State) : Joins s s.transferSlotEmptied := by
  unfold State.transferSlotEmptied
  split
  · exact startRun s
  · exact refl s

theorem startWaitExpiry (s : State) : Joins s s.startWaitExpiry := by
  unfold State.startWaitExpiry
  split
  · refine .trans (stopRun s .startFailed) ?_
    exact same
  · exact refl s

theorem holdOffEnd (s : State) : Joins s s.holdOffEnd := by
  unfold State.holdOffEnd
  split
  · refine .trans ?_ (evalTransfer _)
    exact same
  · exact refl s

/-! ## The yard loop (R162 to R167) -/

theorem slotEmptied (s : State) (o : Owner) : Joins s (s.slotEmptied o) := by
  cases o with
  | cannon n => exact cannonSlotEmptied s n
  | mast => exact refl s
  | tank => exact refl s
  | pond => exact transferSlotEmptied s

theorem emptySlot (s : State) (a : Nat) (o : Owner) (m : Sent) : Joins s (s.emptySlot a o m) := by
  unfold State.emptySlot
  split
  · split
    · refine .trans ?_ (slotEmptied _ o)
      exact same
    · exact refl s
  · exact refl s
  · exact refl s

theorem takeSample (s : State) (n v d rh rain : Nat) (t : Int) : Joins s (s.takeSample n v d rh rain t).1 := by
  unfold State.takeSample
  split
  · exact refl s
  · dsimp only
    split <;> exact same

theorem staleMast (s : State) (n : Nat) : Joins s (s.staleMast n).1 := by
  rcases staleMast_cases s n with ⟨m, -, -, -, h⟩ | ⟨-, h⟩ <;> rw [h]
  · exact same
  · exact refl s

end Joins

namespace Tells

theorem staleMast (s : State) (n : Nat) : Tells s (s.staleMast n) := by
  refine of_joins (.staleMast s n) ?_
  rcases staleMast_cases s n with ⟨m, -, -, -, h⟩ | ⟨-, h⟩ <;> rw [h] <;> rfl

theorem ownerLost (s : State) (o : Owner) : Tells s (s.ownerLost o) := by
  cases o with
  | cannon n => exact cannonLost s n
  | mast => exact refl s
  | tank => exact refl s
  | pond => exact of_joins (.transferLost s) rfl

theorem handOn (s : State) (o : Owner) (r : NodeReply) (b : Bool) : Tells s (s.handOn o r b) := by
  unfold State.handOn
  split
  · exact takeCannonReply s _ _ _
  · refine of_joins (.takeSample s _ _ _ _ _ _) ?_
    unfold State.takeSample
    split <;> rfl
  · exact of_joins (.takeReading s _ _ _) rfl
  · exact of_joins (.takeTransferReply s _ _ _) rfl
  · exact refl s

end Tells

namespace Joined

theorem takeReply {s : State} (h : Joined s) (a : Nat) (n : Node) (m : Sent) (r : NodeReply) : Joined (s.takeReply a n m r) :=
  h.settled (.of_trans (.trans (t := s.mapNode a Node.answered) .same (.emptySlot _ _ _ _)) (.handOn _ _ _ _))

theorem takeMiss {s : State} (h : Joined s) (a : Nat) (n : Node) : Joined (s.takeMiss a n) := by
  unfold State.takeMiss
  split
  · exact h.settled (.of_trans (t := s.mapNode a Node.declared) .same (.ownerLost _ _))
  · exact (Joins.same (t := s.mapNode a Node.missed)).joined h

/-- The rules say nothing of the loop master. -/
theorem withLoop {s : State} (h : Joined s) (l : Loop) : Joined { s with loop := l } :=
  (Joins.same (t := { s with loop := l })).joined h

theorem endExchange {s : State} (h : Joined s) (bytes : List Byte) : Joined (s.endExchange bytes) := by
  unfold State.endExchange
  split
  · split
    · split
      · exact (h.withLoop _).takeReply _ _ _ _
      · exact (h.withLoop _).takeMiss _ _
    · exact h
  all_goals exact h

theorem endSilent {s : State} (h : Joined s) : Joined s.endSilent := by
  unfold State.endSilent
  split
  · split
    · exact (h.withLoop _).takeMiss _ _
    · exact h
  all_goals exact h

theorem takeCall {s : State} (h : Joined s) (a : Nat) (n : Node) (r : NodeReply) : Joined (s.takeCall a n r) :=
  withLoop (s := Machine.settled ((s.mapNode a Node.answered).handOn n.owner r n.lost))
    (h.settled (.of_trans (t := s.mapNode a Node.answered) .same (.handOn _ _ _ _))) _

theorem endCall {s : State} (h : Joined s) (bytes : List Byte) : Joined (s.endCall bytes) := by
  unfold State.endCall
  split
  · split
    · split
      · exact h.takeCall _ _ _
      · exact h.withLoop _
    · exact h.withLoop _
  all_goals exact h

theorem sendMessage {s : State} (h : Joined s) : Joined s.sendMessage := by
  unfold State.sendMessage
  split
  · split
    · exact h.withLoop _
    · exact h
  all_goals exact h

theorem sendCall {s : State} (h : Joined s) : Joined s.sendCall := by
  unfold State.sendCall
  split
  · exact h.withLoop _
  all_goals exact h

theorem endCallSilent {s : State} (h : Joined s) : Joined s.endCallSilent := by
  unfold State.endCallSilent
  split
  · exact h.withLoop _
  all_goals exact h

theorem timerStart {s : State} (h : Joined s) : Joined s.timerStart := by
  unfold State.timerStart
  split
  · exact h.withLoop _
  · exact h

theorem timerOverrun {s : State} (h : Joined s) : Joined s.timerOverrun := by
  unfold State.timerOverrun
  split
  · split
    · exact h.withLoop _
    · exact h
  all_goals exact h

end Joined

end Sys2Proof.Machine
end

section
set_option Elab.async false
/-! PROOFS. An arbitration, and every command, keep the bound passes and the rule of the zone. -/

namespace Sys2Proof.Machine

/-! ## Arbitration (R85 to R88) -/

theorem boundAt_placeAim (s : State) (n k : Nat) (c : Cannon) (o : Order) : (s.placeAim n c o).boundAt k = s.boundAt k := by
  have h : ∀ (u : State) (f : Cannon → Cannon), (∀ c, (f c).bound = c.bound) → (u.mapCannon n f).boundAt k = u.boundAt k :=
    fun u f hf => by
      rw [boundAt_mapCannon]
      split
      · rename_i hk
        subst hk
        simp only [hf]
        rfl
      · rfl
  rcases placeAim_cases s n c o with ⟨-, he⟩ | ⟨-, he⟩ <;> rw [he]
  · refine (h _ _ ?_).trans rfl
    exact fun _ => rfl
  · refine h _ _ ?_
    exact fun _ => rfl

/-- The record of an order the table holds, when its turn comes at an arbitration. -/
def State.awaits (s : State) (o : Order) : Prop := ∃ x ∈ s.dispatch.orders, x.id = o.id ∧ x.eligible = true

theorem Order.eligible_iff (o : Order) :
    o.eligible = true ↔ o.state = .waiting ∧ o.suspension.host = false ∧ o.suspension.hold = false ∧ o.suspension.zone = false := by
  simp [Order.eligible, Suspension.isEmpty, and_assoc]

namespace Joined

/-- A pass is bound: the order waits with an empty set, and the cannon is idle. -/
theorem bindPass {s : State} (hs : Joined s) (hc : s.cannonsSound = true) {o : Order} (hw : s.awaits o) {h : Header} {n : Nat}
    {c : Cannon} (ho : s.offer o = some (h, n, c)) : Joined (s.bindPass o h n c) := by
  obtain ⟨x, hx, hxi, hxe⟩ := hw
  obtain ⟨hxw, -, -, hxz⟩ := (Order.eligible_iff x).1 hxe
  obtain ⟨hmem, hidle, -⟩ := offer_spec ho
  obtain ⟨hwf, hcs, -⟩ := (State.cannonsSound_iff _).1 hc
  have hget : s.cannon? n = some c := Table.get_of_mem hwf hmem
  have huniq : ∀ y ∈ s.dispatch.orders, y.id = o.id → y = x := fun y hy hi =>
    List.inj_on_of_nodup_map hs.numbered.ids hy hx (hi.trans hxi.symm)
  have hbound : ∀ k, (s.bindPass o h n c).boundAt k = if k = n then some o.id else s.boundAt k := fun k => by
    rw [bindPass_eq, evalSpent_eq]
    refine (boundAt_placeAim _ n k c o).trans ?_
    rw [boundAt_mapCannon]
    split
    · exact congrArg (fun x => Option.bind x fun d => (d.boundTo o.id h).bound) hget
    · rfl
  have hpermits : (s.bindPass o h n c).permits = s.permits := by
    rw [bindPass_eq, evalSpent_eq]
    rcases placeAim_cases ((s.mapOrder o.id fun x => x.boundTo n h (x.passDose c)).mapCannon n fun d => d.boundTo o.id h) n c o
      with ⟨-, he⟩ | ⟨-, he⟩ <;> rw [he] <;> rfl
  have hd := bindPass_dispatch s o h n c
  have hmap : ∀ y ∈ s.dispatch.orders, y.id ≠ o.id → y ∈ (s.bindPass o h n c).dispatch.orders := fun y hy hi => by
    rw [hd]
    exact List.mem_map.2 ⟨y, hy, if_neg hi⟩
  refine ⟨?_, fun k i hi => ?_, fun y hy p hp => ?_⟩
  · rw [hd]
    obtain ⟨hl, hn, hx⟩ := hs.numbered
    refine ⟨by simpa using hl, ?_, hx⟩
    show ((s.dispatch.orders.map _).map Order.id).Nodup
    rw [List.map_map, List.map_congr_left (g := Order.id)]
    · exact hn
    · intro y _
      simp only [Function.comp_apply]
      split <;> rfl
  · rw [hbound] at hi
    split at hi
    · cases hi
      subst_vars
      refine ⟨x.boundTo k h (x.passDose c), ?_, hxi, rfl, _, rfl, rfl, nofun⟩
      rw [hd]
      exact List.mem_map.2 ⟨x, hx, if_pos hxi⟩
    · obtain ⟨y, hy, rfl, hr⟩ := hs.bound k i hi
      refine ⟨y, hmap y hy fun he => ?_, rfl, hr⟩
      have := hr.1
      rw [huniq y hy he, hxw] at this
      cases this
  · rw [hd] at hy
    rw [hpermits] at hp
    obtain ⟨z, hz, rfl⟩ := List.mem_map.1 hy
    have hzy := hs.zones z hz p hp
    split
    · rename_i hi
      intro ht hps
      have hzone := (hzy ht hps).1 (by rw [huniq z hz hi, Order.isOpen, hxw]; rfl)
      rw [huniq z hz hi, hxz] at hzone
      cases hzone
    · exact hzy

theorem consider {s : State} (hs : Joined s) (hc : s.cannonsSound = true) {o : Order} (hw : s.awaits o) :
    Joined (s.consider o) := by
  rcases consider_cases s o with ⟨h, n, c, ho, he⟩ | ⟨-, -, -, he⟩ | ⟨-, -, he⟩ <;> rw [he]
  · exact hs.bindPass hc hw ho
  · exact ((Joins.mapOrder fun _ _ => {}).trans (.hand _ _ _)).joined hs
  · exact hs

end Joined

/-- An order in its turn leaves the cannon table sound. -/
theorem consider_cannonsSound {s : State} {o : Order} (hc : s.cannonsSound = true) : (s.consider o).cannonsSound = true := by
  rcases consider_cases s o with ⟨h, n, c, ho, he⟩ | ⟨-, -, -, he⟩ | ⟨-, -, he⟩ <;> rw [he]
  · exact (Keeps.bindPass ho).cannons hc
  · exact hc
  · exact hc

/-- An order in its turn leaves the others waiting as they were. -/
theorem awaits_consider {s : State} {o y : Order} (hy : s.awaits y) (hi : y.id ≠ o.id) : (s.consider o).awaits y := by
  obtain ⟨x, hx, hxi, hxe⟩ := hy
  have hmap : ∀ f : Order → Order, x ∈ (s.mapOrder o.id f).dispatch.orders := fun f =>
    List.mem_map.2 ⟨x, hx, if_neg fun h => hi (hxi.symm.trans h)⟩
  refine ⟨x, ?_, hxi, hxe⟩
  rcases consider_cases s o with ⟨h, n, c, -, he⟩ | ⟨-, -, -, he⟩ | ⟨-, -, he⟩ <;> rw [he]
  · rw [bindPass_dispatch]
    exact hmap _
  · exact hmap _
  · exact hx

/-- The ranked orders are eligible orders of the table, each once. -/
theorem ranked_spec {s : State} (hn : (s.dispatch.orders.map Order.id).Nodup) :
    (∀ o ∈ s.ranked, o ∈ s.dispatch.orders ∧ o.eligible = true) ∧ (s.ranked.map Order.id).Nodup := by
  have hmem : ∀ o ∈ s.ranked, o ∈ s.dispatch.orders ∧ o.eligible = true := fun o ho => by
    obtain ⟨p, -, hm⟩ := List.mem_flatMap.1 ho
    obtain ⟨hm, hp⟩ := List.mem_filter.1 hm
    exact ⟨hm, (Bool.and_eq_true_iff.1 hp).2⟩
  refine ⟨hmem, List.Nodup.map_on (fun x hx y hy h => List.inj_on_of_nodup_map hn (hmem x hx).1 (hmem y hy).1 h) ?_⟩
  refine List.nodup_flatMap.2 ⟨fun p _ => hn.of_map.filter _, ?_⟩
  have hdis : ∀ p q : Nat, p ≠ q → List.Disjoint (s.dispatch.orders.filter fun o => o.priority == p && o.eligible)
      (s.dispatch.orders.filter fun o => o.priority == q && o.eligible) := fun p q hpq o ho hq => by
    have h1 := (Bool.and_eq_true_iff.1 (List.mem_filter.1 ho).2).1
    have h2 := (Bool.and_eq_true_iff.1 (List.mem_filter.1 hq).2).1
    exact hpq ((beq_iff_eq.1 h1).symm.trans (beq_iff_eq.1 h2))
  simp [Function.onFun, hdis]

namespace Joined

theorem consider_foldl {l : List Order} {s : State} (hs : Joined s) (hc : s.cannonsSound = true)
    (hl : (l.map Order.id).Nodup) (hw : ∀ o ∈ l, s.awaits o) : Joined (l.foldl State.consider s) := by
  induction l generalizing s with
  | nil => exact hs
  | cons o l ih =>
    obtain ⟨ho, hl⟩ := List.nodup_cons.1 hl
    exact ih (hs.consider hc (hw o List.mem_cons_self)) (consider_cannonsSound hc) hl fun y hy =>
      awaits_consider (hw y (List.mem_cons_of_mem o hy)) fun h => ho (List.mem_map.2 ⟨y, hy, h⟩)

theorem arbitrateDue {s : State} (hs : Joined s) (hc : s.cannonsSound = true) : Joined s.arbitrateDue := by
  unfold State.arbitrateDue
  split
  · exact hs
  · have h : Joined { s with dispatch := { s.dispatch with due := s.dispatch.due - 1 } } := Joins.joined .same hs
    obtain ⟨hmem, hn⟩ := ranked_spec h.numbered.ids
    exact h.consider_foldl hc hn fun o ho => ⟨o, (hmem o ho).1, rfl, (hmem o ho).2⟩

end Joined

end Sys2Proof.Machine
end

section
set_option Elab.async false
/-! PROOFS. Every command keeps the bound passes and the rule of the zone. -/

namespace Sys2Proof.Machine

/-! ## Replies and events -/

namespace Joins

theorem answer (s : State) (c : Nat) (x : Status) (p : List Byte) : Joins s (s.answer c x p) := same

theorem answerUnless (s : State) (b : Bool) (c : Nat) (x : Status) (p : List Byte) : Joins s (s.answerUnless b c x p) := by
  unfold State.answerUnless
  split
  · exact refl s
  · exact answer s _ _ _

theorem openEvent (s : State) : Joins s s.openEvent := same

theorem mapPile (s : State) (n : Nat) (f : Pile → Pile) : Joins s (s.mapPile n f) := same

/-- A node added to the loop's list. -/
theorem addNode (s : State) (a : Nat) (o : Owner) (d : Nat) : Joins s (s.addNode a o d) := same

/-- A node removed from the loop's list. -/
theorem removeNode (s : State) (a : Nat) : Joins s (s.removeNode a) := by
  unfold State.removeNode
  dsimp only
  split <;> exact same

end Joins

/-- A VOLLEY moves held orders to WAITING. -/
theorem Order.Mild.afterVolley (o : Order) (c : Nat) : Order.Mild o (o.afterVolley c) := by
  unfold Order.afterVolley
  split
  · rename_i hv
    have hs : o.state = .volleyHeld := by simpa [Order.heardVolley] using (Bool.and_eq_true_iff.1 hv).1
    exact { active := fun ha => (by simp [hs] at ha), opened := fun _ => by simp [Order.isOpen, hs] }
  · exact .refl o

namespace Joined

theorem answer {s : State} (h : Joined s) (c : Nat) (x : Status) (p : List Byte) : Joined (s.answer c x p) :=
  (Joins.answer s c x p).joined h

theorem answerUnless {s : State} (h : Joined s) (b : Bool) (c : Nat) (x : Status) (p : List Byte) :
    Joined (s.answerUnless b c x p) := (Joins.answerUnless s b c x p).joined h

/-! ## Piles (spec/01) -/

theorem loadGrade {s : State} (h : Joined s) (n : Byte) (a : GradeArgs) : Joined (s.loadGrade n a) := by
  unfold State.loadGrade
  split
  · exact (h.settled (.of_joins .same (passIds_map (fun _ => rfl) _))).answer _ _ _
  · exact h.answer _ _ _

theorem openPile {s : State} (h : Joined s) (a : OpenPileArgs) : Joined (s.openPile a) := by
  unfold State.openPile
  split
  · exact h.answer _ _ _
  · split
    · exact h.answer _ _ _
    · split
      · exact h.answer _ _ _
      · split
        · exact h.answer _ _ _
        · exact answer (Joins.joined .same h) _ _ _

theorem amendPile {s : State} (h : Joined s) (a : AmendPileArgs) : Joined (s.amendPile a) := by
  have hm : ∀ (n : Nat) (f : Pile → Pile), Joined (s.mapPile n f) := fun n f => (Joins.mapPile s n f).joined h
  unfold State.amendPile
  split
  · exact h.answer _ _ _
  · split
    · exact h.answer _ _ _
    · split
      · exact (hm _ _).answer _ _ _
      · split
        · exact h.answer _ _ _
        · split
          · exact (hm _ _).answer _ _ _
          · exact (h.settled (.of_joins .same rfl)).answer _ _ _

theorem setMoisture {s : State} (h : Joined s) (t v : Half) : Joined (s.setMoisture t v) := by
  unfold State.setMoisture
  split
  · exact h.answer _ _ _
  · exact (h.settled (.of_joins .same rfl)).answer _ _ _

theorem reportDisturbance {s : State} (h : Joined s) (t : Half) (f : Byte) (m : Option Half) :
    Joined (s.reportDisturbance t f m) := by
  unfold State.reportDisturbance
  split
  · exact h.answer _ _ _
  · exact (h.settled (.of_joins ((Joins.openEvent s).trans (.blendPile _ _ _ _)) rfl)).answer _ _ _

theorem retirePile {s : State} (h : Joined s) (t : Half) : Joined (s.retirePile t) := by
  unfold State.retirePile
  split
  · exact h.answer _ _ _
  · split
    · exact h.answer _ _ _
    · split
      · exact h.answer _ _ _
      · refine (h.settled (.of_joins ((Joins.openEvent s).trans (.mapPile _ _ _)) ?_)).answer _ _ _
        rw [passIds_append, passIds_map fun _ => rfl]
        rfl

/-! ## The moisture model (spec/02) -/

theorem withdrawAuto {s : State} (h : Joined s) (tag : Nat) (b : Band) (l : Look) : Joined (s.withdrawAuto tag b l) := by
  unfold State.withdrawAuto
  split
  · rename_i o ho
    split
    · rename_i hc
      refine h.settled (.of_joins (.endOrder _ (List.mem_filter.1 (List.mem_of_find?_eq_some ho)).1 ?_) rfl)
      rw [hc.1]
      nofun
    · exact h
  · exact h

theorem placeAuto {s : State} (h : Joined s) (g : Grade) (p : Pile) (l : Look) : Joined (s.placeAuto g p l).1 := by
  unfold State.placeAuto
  split
  · split
    · split
      · exact h
      · rename_i hf
        refine h.settled (.of_joins (.accept (by simpa using hf)) ?_)
        rw [accept_eq]
        dsimp only
        split <;> rfl
    · exact h
  · exact h

theorem raiseAuto {s : State} (h : Joined s) (o : Order) (b : Band) : Joined (s.raiseAuto o b) := by
  have hr : ∀ p, Joined (s.raiseTo o p) := fun p => by
    have hm : Joins s (s.mapOrder o.id fun o => { o with origin := .autoRisk, priority := p }) := .mapOrder fun _ _ => {}
    unfold State.raiseTo
    dsimp only
    split
    · exact (hm.trans (.occasion _)).joined h
    · exact hm.joined h
  unfold State.raiseAuto
  split
  · split
    · exact hr _
    · exact h
  · exact h

theorem stageAuto {s : State} (h : Joined s) (g : Grade) (p : Pile) (l : Look) : Joined (s.stageAuto g p l).1 := by
  unfold State.stageAuto
  dsimp only
  split
  · exact (h.withdrawAuto _ _ _).raiseAuto _ _
  · exact (h.withdrawAuto _ _ _).placeAuto _ _ _

theorem stepPile {acc : State × Nat} (h : Joined acc.1) (slot : Nat) : Joined (State.stepPile acc slot).1 := by
  unfold State.stepPile
  dsimp only
  split
  · exact h
  · split
    · exact h
    · rename_i p _ _ g _
      have hm : ∀ {u : State} (c : Bool), Joined u → Joined (if c then u else u.hand .pile slot) := fun {u} c hu => by
        split
        · exact hu
        · exact (Joins.hand u _ _).joined hu
      have hm' : ∀ {u : State} (c : Bool), Joined u → Joined (if c then u.hand .pile slot else u) := fun {u} c hu => by
        split
        · exact (Joins.hand u _ _).joined hu
        · exact hu
      have h1 := hm (decide ((stages1to5 acc.1.model acc.1.wind.weather g p).band = p.band))
        ((Joins.mapPile acc.1 slot fun _ => stages1to5 acc.1.model acc.1.wind.weather g p).joined h)
      simp only [decide_eq_true_eq] at h1
      exact hm' _ ((Joins.mapPile _ slot _).joined (h1.stageAuto _ _ _))

theorem takeStep {s : State} (h : Joined s) : Joined s.takeStep := by
  have hf : ∀ (l : List Nat) (acc : State × Nat), Joined acc.1 → Joined (l.foldl State.stepPile acc).1 := fun l => by
    induction l with
    | nil => exact fun _ h => h
    | cons k l ih => exact fun acc h => ih _ (h.stepPile k)
  unfold State.takeStep
  refine settled (Joins.joined .same (hf (Table.keys s.openEvent.piles) (s.openEvent, 0) ((Joins.openEvent s).joined h))) ?_
  exact .of_joins .same (passIds_map (fun _ => rfl) _)

theorem modelStep {s : State} (h : Joined s) : Joined s.modelStep := by
  rcases modelStep_cases s with ⟨x, -, he⟩ | ⟨-, he⟩ <;> rw [he]
  · exact takeStep (Joins.joined .same h)
  · exact h

theorem setBands {s : State} (h : Joined s) (b1 b2 b3 : Byte) : Joined (s.setBands b1 b2 b3) := by
  unfold State.setBands
  split
  · exact answer ((Joins.foldl (fun s k => .hand s _ k) _ _).joined (Joins.joined .same h)) _ _ _
  · exact h.answer _ _ _

/-! ## Weather (spec/03, spec/04) -/

theorem reselect {s : State} (h : Joined s) (m : Mast) : Joined (s.reselect m) := by
  unfold State.reselect
  split
  · exact h.settled (.of_joins (.refl s) rfl)
  · exact h

theorem takeMast {s : State} (h : Joined s) (n a l : Nat) : Joined (s.takeMast n a l) := by
  have hw : ∀ t, Joined (s.withMasts t) := fun t => Joins.joined .same h
  unfold State.takeMast
  split
  · split
    · exact h
    · exact (Joins.addNode _ _ _ _).joined (hw _)
  · split
    · exact ((Joins.removeNode _ _).joined (hw _)).reselect _
    · split
      · exact h.settled (.of_trans .same (.staleMast _ _))
      · exact (((Joins.removeNode _ _).trans (.addNode _ _ _ _)).joined (hw _)).reselect _

theorem loadMast {s : State} (h : Joined s) (m n : Byte) (l : Half) : Joined (s.loadMast m n l) := by
  unfold State.loadMast
  split
  · exact h.answer _ _ _
  · split
    · exact h.answer _ _ _
    · exact (((Joins.openEvent s).joined h).takeMast _ _ _).answer _ _ _

theorem setWindLimits {s : State} (h : Joined s) (a : WindLimitArgs) : Joined (s.setWindLimits a) := by
  unfold State.setWindLimits
  dsimp only
  split
  · exact (h.settled (.of_joins .same rfl)).answer _ _ _
  · exact h.answer _ _ _

theorem withForecast {s : State} (h : Joined s) (f : Forecast) : Joined (s.withForecast f) :=
  h.settled (.of_joins .same rfl)

theorem insertForecast {s : State} (h : Joined s) (b : Bool) (x : Slot) : Joined (s.insertForecast b x) := by
  unfold State.insertForecast
  dsimp only
  split
  · exact (h.withForecast _).answerUnless _ _ _ _
  · refine answerUnless ?_ _ _ _ _
    split
    · exact h
    · exact h.withForecast _

theorem postForecast {s : State} (h : Joined s) (b : Bool) (a : ForecastArgs) : Joined (s.postForecast b a) := by
  unfold State.postForecast
  dsimp only
  split
  · exact h.answerUnless _ _ _ _
  · split
    · exact h.answerUnless _ _ _ _
    · split
      · exact h.answerUnless _ _ _ _
      · split
        · exact h.answerUnless _ _ _ _
        · exact ((Joins.openEvent s).joined h).insertForecast _ _

theorem retireSlots {s : State} (h : Joined s) : Joined s.retireSlots := by
  unfold State.retireSlots
  split
  · exact h
  · exact ((Joins.openEvent s).joined h).withForecast _

theorem slotRetirement {s : State} (h : Joined s) : Joined s.slotRetirement := by
  rcases slotRetirement_cases s with ⟨x, -, he⟩ | ⟨-, he⟩ <;> rw [he]
  · exact retireSlots (Joins.joined .same h)
  · exact h

/-! ## Orders (spec/05) -/

theorem placeOrder {s : State} (h : Joined s) (a : PlaceOrderArgs) : Joined (s.placeOrder a) := by
  unfold State.placeOrder
  split
  · exact h.answer _ _ _
  · split
    · exact h.answer _ _ _
    · split
      · exact h.answer _ _ _
      · split
        · exact h.answer _ _ _
        · rename_i hf
          have hf : s.openEvent.ordersFull = false := Bool.eq_false_iff.2 hf
          refine answer (h.settled (.of_trans (Joins.openEvent s) (.of_joins (.accept hf) ?_))) _ _ _
          rw [accept_eq]
          dsimp only
          split <;> rfl

theorem suspendOrder {s : State} (h : Joined s) (i : Half) : Joined (s.suspendOrder i) := by
  unfold State.suspendOrder
  split
  · exact h.answer _ _ _
  · split
    · exact h.answer _ _ _
    · split
      · exact h.answer _ _ _
      · exact (h.settled (.of_trans (Joins.openEvent s) (.addReason _ _ _))).answer _ _ _

theorem dropHost {s : State} (h : Joined s) (i : Nat) : Joined (s.dropReason i .host) := by
  have hm : Joins s (s.mapOrder i fun o => { o with suspension := o.suspension.drop .host }) :=
    .mapOrder fun _ _ => .dropReason nofun
  unfold State.dropReason
  split
  · exact h
  · split
    · dsimp only
      split
      · exact (hm.trans (.occasion _)).joined h
      · exact hm.joined h
    · exact h

theorem resumeOrder {s : State} (h : Joined s) (i : Half) : Joined (s.resumeOrder i) := by
  unfold State.resumeOrder
  split
  · exact h.answer _ _ _
  · split
    · exact h.answer _ _ _
    · split
      · exact h.answer _ _ _
      · exact (h.dropHost _).answer _ _ _

theorem cancelOrder {s : State} (h : Joined s) (i : Half) : Joined (s.cancelOrder i) := by
  unfold State.cancelOrder
  split
  · exact h.answer _ _ _
  · split
    · exact h.answer _ _ _
    · exact (h.settled (.of_trans (Joins.openEvent s) (.cancel _ _))).answer _ _ _

theorem fireVolley {s : State} (h : Joined s) (b : Bool) (c : Byte) : Joined (s.fireVolley b c) := by
  refine answerUnless ?_ _ _ _ _
  have hm : Joins s { s with dispatch := { s.dispatch with orders := s.dispatch.orders.map fun o => o.afterVolley c.toNat } } :=
    .mapOrders rfl fun _ o _ => .afterVolley o _
  unfold State.releaseVolley
  dsimp only
  split
  · exact (hm.trans (.occasion _)).joined h
  · exact hm.joined h

theorem readOrder {s : State} (h : Joined s) (x : Byte) (v : Half) : Joined (s.readOrder x v) := by
  unfold State.readOrder
  split
  · unfold State.readOrderById
    split
    · exact h.answer _ _ _
    · rename_i o ho
      refine answer ?_ _ _ _
      obtain ⟨hm, hi⟩ := State.order_mem ho
      split
      · exact h
      · rename_i hc
        rw [← hi]
        exact (Joins.freeOrder hm (by simpa [Order.isOpen] using hc)).joined h
  · unfold State.readOrderAt
    split
    · exact h.answer _ _ _
    · split <;> exact h.answer _ _ _
  · exact h.answer _ _ _

theorem setDispatch {s : State} (h : Joined s) (l m : Half) (f : Byte) : Joined (s.setDispatch l m f) := by
  unfold State.setDispatch
  split
  · exact answer ((Joins.occasion _).joined (h.settled (.of_joins .same rfl))) _ _ _
  · exact h.answer _ _ _

end Joined

namespace Joins

/-- A cannon loaded anew: no pass is bound to it. -/
theorem withCannon (s : State) (n : Nat) (k : CannonConfig) : Joins s (s.withCannon n (Cannon.loaded k)) :=
  same (hb := fun m id h => by
    by_cases hm : m = n
    · subst hm
      simp [State.boundAt, State.cannon?, State.withCannon, Cannon.loaded] at h
    · simpa [State.boundAt, State.cannon?, State.withCannon, Table.get_set_of_ne _ _ hm] using h)

/-- A cannon unloaded. -/
theorem eraseCannon (s : State) (n : Nat) : Joins s { s with cannons := Table.erase s.cannons n } :=
  same (hb := fun m id h => by
    by_cases hm : m = n
    · subst hm
      simp [State.boundAt, State.cannon?] at h
    · simpa [State.boundAt, State.cannon?, Table.get_erase_of_ne _ hm] using h)

theorem takeLoading (s : State) (n : Nat) (k : CannonConfig) : Joins s (s.takeLoading n k) := by
  unfold State.takeLoading
  split
  · exact ((withCannon s n k).trans (addNode _ _ _ _)).trans (occasion _)
  · split
    · refine .trans (.trans (t := s.mapCannon n fun c => { c with config := k }) ?_ .same) (occasion _)
      exact mapCannon fun _ => .inl rfl
    · exact (((withCannon s n k).trans (removeNode _ _)).trans (addNode _ _ _ _)).trans (occasion _)

theorem takeUnloading (s : State) (n : Nat) : Joins s (s.takeUnloading n) := by
  unfold State.takeUnloading
  split
  · exact refl s
  · rename_i c _
    have h := (eraseCannon s n).trans (removeNode { s with cannons := Table.erase s.cannons n } c.config.node)
    dsimp only
    split
    · exact h.trans (hand _ _ _)
    · exact h

/-! ## Water (spec/07) -/

theorem takeTank (s : State) (c : TankConfig) : Joins s (s.takeTank c) := by
  have hw : ∀ t, Joins s (s.withTank t) := fun t => same
  unfold State.takeTank
  split
  · exact ((hw _).trans (addNode _ _ _ _)).trans (evalTransfer _)
  · split
    · exact (((retank s _ _).trans (staleGauge _)).trans (occasion _)).trans (evalTransfer _)
    · exact (((hw _).trans (removeNode _ _)).trans (addNode _ _ _ _)).trans (evalTransfer _)

theorem unloadTank (s : State) : Joins s s.unloadTank := by
  have hw : Joins s s.noTank := same
  unfold State.unloadTank
  split
  · exact evalTransfer s
  · exact (hw.trans (removeNode _ _)).trans (evalTransfer _)

theorem renode (s : State) (old new : Option Nat) : Joins s (s.renode old new) := by
  have h1 : Joins s (match old with | some a => s.removeNode a | none => s) := by
    split
    · exact removeNode s _
    · exact refl s
  unfold State.renode
  dsimp only
  split
  · exact h1.trans (addNode _ _ _ _)
  · exact h1

theorem takePond (s : State) (a : PondArgs) : Joins s (s.takePond a) := by
  unfold State.takePond
  dsimp only
  split
  · refine .trans ?_ (evalTransfer _)
    exact same
  · refine .trans (.trans ?_ (renode _ _ _)) (evalTransfer _)
    exact same

end Joins

namespace Joined

theorem loadCannon {s : State} (h : Joined s) (n a : Byte) (c : CannonArgs) : Joined (s.loadCannon n a c) := by
  unfold State.loadCannon
  split
  · exact h.answer _ _ _
  · split
    · unfold State.unloadCannon
      split
      · exact h.answer _ _ _
      · exact ((Joins.takeUnloading s _).joined h).answer _ _ _
    · split
      · exact h.answer _ _ _
      · split
        · exact h.answer _ _ _
        · split
          · exact h.answer _ _ _
          · exact ((Joins.takeLoading s _ _).joined h).answer _ _ _

theorem resetCannon {s : State} (h : Joined s) (n : Byte) : Joined (s.resetCannon n) := by
  unfold State.resetCannon
  split
  · exact h.answer _ _ _
  · split
    · exact h.answer _ _ _
    · rename_i c hc
      have hc' : s.openEvent.cannon? n.toNat = some c := hc
      exact (h.settled (.of_trans (Joins.openEvent s) (.cannonReset hc'))).answer _ _ _

theorem loadBasinTank {s : State} (h : Joined s) (n : Byte) (a : TankArgs) : Joined (s.loadBasinTank n a) := by
  unfold State.loadBasinTank
  split
  · exact h.answer _ _ _
  · split
    · exact ((Joins.unloadTank s).joined h).answer _ _ _
    · split
      · exact h.answer _ _ _
      · split
        · exact h.answer _ _ _
        · exact ((Joins.takeTank s _).joined h).answer _ _ _

theorem loadBasinPond {s : State} (h : Joined s) (a : PondArgs) : Joined (s.loadBasinPond a) := by
  unfold State.loadBasinPond
  split
  · exact h.answer _ _ _
  · split
    · exact h.answer _ _ _
    · exact ((Joins.takePond s _).joined h).answer _ _ _

theorem setAllowance {s : State} (h : Joined s) (v : Long) : Joined (s.setAllowance v) := by
  refine answer ?_ _ _ _
  refine ((Joins.evalSpent _).trans (.occasion _)).joined ?_
  exact Joins.joined .same h

theorem reportInflow {s : State} (h : Joined s) (l : Long) : Joined (s.reportInflow l) := by
  refine answer ?_ _ _ _
  split
  · exact h
  · exact (Joins.creditPond s _).joined h

theorem setPond {s : State} (h : Joined s) (v : Long) (b : Bool) : Joined (s.setPond v b) := by
  refine answer ((Joins.evalTransfer _).joined ?_) _ _ _
  exact Joins.joined .same h

end Joined

/-! ## Permits (spec/08) -/

theorem Tells.acceptPermit (s : State) (m tag : Nat) (k : PermitKind) (p : Pile) : Tells s (s.acceptPermit m tag k p) := by
  unfold State.acceptPermit
  dsimp only
  split
  · rename_i hw
    refine of_joins (.clearing (tag := tag) rfl (fun _ => rfl) fun x hx => ?_) ?_
    · rcases List.mem_append.1 hx with hx | hx
      · exact .inl hx
      · rw [List.mem_singleton.1 hx]
        exact .inr (.inl ⟨rfl, rfl⟩)
    · rw [State.enterClearing, passIds_append, passIds_map fun _ => rfl]
      rfl
  · refine of_joins (.of_orders rfl rfl (fun _ _ h => h) fun hs o ho x hx => ?_) rfl
    rcases List.mem_append.1 hx with hx | hx
    · exact hs.zones o ho x hx
    · rw [List.mem_singleton.1 hx]
      exact fun _ h => absurd rfl h

namespace Joined

theorem requestPermit {s : State} (h : Joined s) (m k : Byte) (t : Half) : Joined (s.requestPermit m k t) := by
  unfold State.requestPermit
  split
  · exact h.answer _ _ _
  · split
    · exact h.answer _ _ _
    · dsimp only
      split
      · exact h.answer _ _ _
      · exact (h.settle (.of_trans (Joins.openEvent s) (.acceptPermit _ _ _ _ _)) _).answer _ _ _

theorem releaseGranted {s : State} (h : Joined s) (p : Permit) (a : ReleaseArgs) : Joined (s.releaseGranted p a) := by
  have h1 : Joins s (if a.emptied then s.openEvent.markEmptied p.tag else s.openEvent) := by
    split
    · unfold State.markEmptied
      split <;> exact .same
    · exact .openEvent s
  unfold State.releaseGranted
  dsimp only
  generalize (if a.emptied then s.openEvent.markEmptied p.tag else s.openEvent) = u at h1
  refine settle (x := (u, _)) h (.of_joins h1 ?_) _
  rw [passIds_append]
  split
  · rw [State.emptiedTasks, passIds_map fun _ => rfl]; rfl
  · rfl

theorem releasePermit {s : State} (h : Joined s) (a : ReleaseArgs) : Joined (s.releasePermit a) := by
  unfold State.releasePermit
  split
  · exact h.answer _ _ _
  · split
    · exact h.answer _ _ _
    · split
      · split
        · exact h.answer _ _ _
        · exact (h.releaseGranted _ _).answer _ _ _
      · exact (h.settle (x := (s.openEvent, _)) (.of_joins (.openEvent s) rfl) _).answer _ _ _

theorem setPermitLimits {s : State} (h : Joined s) (p : Byte) (x y z : Half) : Joined (s.setPermitLimits p x y z) := by
  unfold State.setPermitLimits
  split
  · refine (h.settled (.of_joins (x := (_, s.permits.list.flatMap Permit.limitTask)) .same (passIds_nil fun t ht => ?_))).answer _ _ _
    obtain ⟨q, -, hq⟩ := List.mem_flatMap.1 ht
    unfold Permit.limitTask at hq
    split at hq <;> simp_all [Task.passIds]
  · exact h.answer _ _ _

/-! ## Port and clock (spec/10) -/

theorem readChanges {s : State} (h : Joined s) (c : Byte) : Joined (s.readChanges c) := by
  unfold State.readChanges
  split
  · exact h.answer _ _ _
  · exact answer (Joins.joined .same h) _ _ _

theorem elapse {s : State} (h : Joined s) (k : Nat) : Joined (s.elapse k) :=
  Joins.joined (.same (hb := fun n id hb => by
    unfold State.boundAt State.cannon? State.elapse at hb
    rw [Table.get_map s.cannons fun c => ({ c with
      slew := leftAfter k c.slew, closeWait := leftAfter k c.closeWait, retry := leftAfter k c.retry } : Cannon)] at hb
    unfold State.boundAt State.cannon?
    cases hc : Table.get s.cannons n with
    | none => simp [hc] at hb
    | some c => simpa [hc] using hb)) h

theorem changeMinute {s : State} (h : Joined s) (m : Nat) : Joined (s.changeMinute m) :=
  h.settled (.of_joins .same rfl)

theorem minuteRise {s : State} (h : Joined s) : Joined s.minuteRise := (h.elapse _).changeMinute _

theorem secondRise {s : State} (h : Joined s) : Joined s.secondRise := by
  unfold State.secondRise
  split
  · exact h.minuteRise
  · exact Joins.joined .same (h.elapse 1)

theorem setClock {s : State} (h : Joined s) (b : Bool) (m : Long) : Joined (s.setClock b m) := by
  refine answerUnless ?_ _ _ _ _
  split
  · exact Joins.joined .same h
  · exact h.changeMinute _

end Joined

end Sys2Proof.Machine
end

section
set_option Elab.async false
/-! PROOFS. Every command and every step keep the bound passes and the rule of the zone. -/

namespace Sys2Proof.Machine

/-- The reset state keeps to both rules, at whatever address and with whatever commands waiting. -/
theorem joined_powerOn (s : State) (pins : BitVec 4) : Joined (s.powerOn pins) where
  numbered := .of_sound (show State.reset.dispatch.sound = true from by decide)
  bound := fun n id h => by cases h
  zones := fun _ ho => absurd ho List.not_mem_nil

namespace Joined

/-- Every command a frame can carry keeps the two rules. -/
theorem hostCommand {s : State} (h : Joined s) (i : Instr) : Joined (s.hostCommand i) := by
  cases i with
  | fetchReply n => exact Joins.joined .same h
  | readNotices => exact answer (Joins.joined .same h) _ _ _
  | readChanges c => exact h.readChanges c
  | setMask b => exact answer (Joins.joined .same h) _ _ _
  | setClock b m => exact h.setClock b m
  | resetYard pins => exact joined_powerOn s pins
  | loadGrade n a => exact h.loadGrade n a
  | openPile a => exact h.openPile a
  | amendPile a => exact h.amendPile a
  | setMoisture t v => exact h.setMoisture t v
  | reportDisturbance t f m => exact h.reportDisturbance t f m
  | retirePile t => exact h.retirePile t
  | setLead v => exact answer (Joins.joined .same h) _ _ _
  | setBands b1 b2 b3 => exact h.setBands b1 b2 b3
  | loadMast m n l => exact h.loadMast m n l
  | setWindLimits a => exact h.setWindLimits a
  | postForecast b a => exact h.postForecast b a
  | setYardCodes c1 c2 c3 c4 => exact answer (Joins.joined .same h) _ _ _
  | clearForecasts => exact answer (withForecast ((Joins.openEvent s).joined h) _) _ _ _
  | placeOrder a => exact h.placeOrder a
  | suspendOrder i => exact h.suspendOrder i
  | resumeOrder i => exact h.resumeOrder i
  | cancelOrder i => exact h.cancelOrder i
  | volley b c => exact h.fireVolley b c
  | readOrder x v => exact h.readOrder x v
  | setDispatch l m f => exact h.setDispatch l m f
  | loadCannon n a c => exact h.loadCannon n a c
  | resetCannon n => exact h.resetCannon n
  | loadBasinTank n a => exact h.loadBasinTank n a
  | loadBasinPond a => exact h.loadBasinPond a
  | setAllowance v => exact h.setAllowance v
  | reportInflow l => exact h.reportInflow l
  | setPond v b => exact h.setPond v b
  | requestPermit m k t => exact h.requestPermit m k t
  | releasePermit a => exact h.releasePermit a
  | setPermitLimits p x y z => exact h.setPermitLimits p x y z
  | setLoop p =>
    simp only [State.hostCommand, State.setLoop]
    split
    · exact answer (Joins.joined .same h) _ _ _
    · exact h.answer _ _ _
  | readPile x v =>
    simp only [State.hostCommand, State.readPile, State.readPileSlot]
    repeat' split
    all_goals exact h.answer _ _ _
  | rankPiles b =>
    simp only [State.hostCommand, State.rankPiles]
    split <;> exact h.answer _ _ _
  | readForecast x k =>
    simp only [State.hostCommand, State.readForecast]
    repeat' split
    all_goals exact h.answer _ _ _
  | readCannon n =>
    simp only [State.hostCommand, State.readCannon]
    split <;> exact h.answer _ _ _
  | readPermit x k =>
    simp only [State.hostCommand, State.readPermit, State.readPermitOf, State.readPermitAt]
    repeat' split
    all_goals exact h.answer _ _ _
  | readLoop a =>
    simp only [State.hostCommand, State.readLoop]
    repeat' split
    all_goals exact h.answer _ _ _
  | readIdent => exact h.answer _ _ _
  | readClock => exact h.answer _ _ _
  | readModel => exact h.answer _ _ _
  | readWind => exact h.answer _ _ _
  | readDispatch => exact h.answer _ _ _
  | readWater => exact h.answer _ _ _
  | _ => exact h

theorem judge {s : State} (h : Joined s) (pins : BitVec 4) (low : Bool) (bytes : List Byte) :
    Joined (s.judge pins low bytes) := by
  unfold State.judge
  split
  · exact h
  · exact h.answer _ _ _
  · exact h.answer _ _ _
  · exact h.hostCommand _

/-- Every command keeps the two rules, where the cannon table is sound. -/
theorem exec {s t : State} (h : Joined s) (hc : s.cannonsSound = true) {i : Instr} (he : Machine.exec i s = .next t) :
    Joined t := by
  have hev : Joined s.openEvent := (Joins.openEvent s).joined h
  have host := h.hostCommand i
  cases i with
  | powerOnReset pins => cases he; exact joined_powerOn s pins
  | badFrame pins low bytes => cases he; exact h.judge pins low bytes
  | modelStep => cases he; exact h.modelStep
  | mastStaleExpiry m => cases he; exact hev.settled (.staleMast _ _)
  | slotRetirement => cases he; exact h.slotRetirement
  | arbitration => cases he; exact h.arbitrateDue hc
  | orderLapse i => cases he; exact hev.settled (.lapseOrder _ _)
  | slewTimeout n => cases he; exact hev.settled (.slewExpiry _ _)
  | blankingTimerExpiry n => cases he; exact hev.settled (.blankingExpiry _ _)
  | closeWaitExpiry n => cases he; exact hev.settled (.closeWaitExpiry _ _)
  | retryDelayEnd n => cases he; exact (Joins.retryEnd s _).joined h
  | tripCountDecay n => cases he; exact (Joins.decayTrip s _).joined h
  | gaugeStaleExpiry => cases he; exact (Joins.staleGauge s).joined h
  | dayRollover => cases he; exact (Joins.rollOver s).joined h
  | startWaitExpiry => cases he; exact (Joins.startWaitExpiry s).joined h
  | holdOffEnd => cases he; exact (Joins.holdOffEnd s).joined h
  | prewetWaitExpiry m => cases he; exact hev.settled (.doTask none (.expirePrewet m.toNat) _ rfl)
  | maxHoldLapse m => cases he; exact hev.settled (.doTask none (.lapsePermit m.toNat) _ rfl)
  | roundStart => cases he; exact h.timerStart
  | roundOverrun => cases he; exact h.timerOverrun
  | message => cases he; exact h.sendMessage
  | validReply bytes => cases he; exact hev.endExchange bytes
  | miss => cases he; exact hev.endSilent
  | call => cases he; exact h.sendCall
  | callAnswer bytes => cases he; exact hev.endCall bytes
  | callSlotTimeout => cases he; exact h.endCallSilent
  | yardMinuteChange => cases he; exact h.minuteRise
  | secondsCountRise => cases he; exact h.secondRise
  | _ => cases he; exact host

/-- Every step keeps the two rules, where the cannon table is sound. -/
theorem step {s t : State} (h : Joined s) (hc : s.cannonsSound = true) (hs : Machine.step s = .next t) : Joined t := by
  rcases step_cases s with ⟨-, he⟩ | ⟨c, rest, -, he⟩
  · rw [he] at hs
    cases hs
    exact h
  · rw [he] at hs
    exact exec (s := { s with pending := rest }) (Joins.joined .same h) hc hs

end Joined

/-- Settles O56: the tables by what every command keeps (`Held.step`), the two rules by `Joined.step`. -/
theorem everyStepKeepsOrdersCannonsPermits : Obligations.EveryStepKeepsOrdersCannonsPermits := by
  refine ⟨fun s t h => ?_, fun s t h => ?_, fun s t h hd hc hp hz => ?_⟩
  · have hk := Held.step h
    exact ⟨hk.dispatch, hk.ended⟩
  · have hk := Held.step h
    exact ⟨hk.cannons, hk.permits, hk.onLive⟩
  · have hk := Held.step h
    have hs := (joined_iff (.of_sound hd) ((State.cannonsSound_iff _).1 hc).1).2 ⟨hp, hz⟩
    exact (joined_iff (.of_sound (hk.dispatch hd)) ((State.cannonsSound_iff _).1 (hk.cannons hc)).1).1 (hs.step hc h)

end Sys2Proof.Machine
end

section
set_option Elab.async false
/-! PROOFS. The queue, the whole-part resets, sample frames, FETCH-REPLY, the notices and the plain reads (R172 to R186). -/

namespace Sys2Proof.Machine

/-- Settles O1: the front of the queue is what a step matches on. -/
theorem stepRunsFrontCommand : Obligations.StepRunsFrontCommand := by
  unfold Obligations.StepRunsFrontCommand
  intro c rest s
  rfl

/-- Settles O2: both resets are `State.powerOn`, the reset state with the address sampled and the queue kept. -/
theorem resetsRestoreEveryBlock : Obligations.ResetsRestoreEveryBlock := by
  unfold Obligations.ResetsRestoreEveryBlock
  intro pins s
  refine ⟨s.powerOn pins, exec_powerOnReset pins s, exec_resetYard pins s, ?_⟩
  simp [State.powerOn, State.reset, State.attn, Notices.attn, Categories.none, Expiries.noneDue, Weather.initial,
    WindLimits.initial, Pond.initial, Transfer.initial]

/-- Settles O5, by evaluating the decoder on each frame. -/
theorem sampleFramesDecode : Obligations.SampleFramesDecode := by
  unfold Obligations.SampleFramesDecode
  exact ⟨by simp [crc8, crcByte, crcShift], rfl, rfl, rfl, rfl, rfl, rfl⟩

/-! ## FETCH-REPLY (R175) -/

/-- A reply's frame, byte by byte (R188). -/
theorem Reply.frame_eq (address : Nat) (r : Reply) :
    r.frame address = closeFrame ([BitVec.ofNat 8 address, BitVec.ofNat 8 r.status.code, BitVec.ofNat 8 r.code,
      if r.overrun then 1 else 0, BitVec.ofNat 8 r.payload.length] ++ r.payload) := by
  cases hov : r.overrun <;> simp [Reply.frame, be8, hov, flagByte, bitsToNat]

/-- A reply's frame has six bytes beside the payload (R188). -/
theorem Reply.length_frame (address : Nat) (r : Reply) : (r.frame address).length = r.payload.length + 6 := by
  simp [Reply.frame_eq, closeFrame]

/-- Settles O6, case by case on the pending reply. -/
theorem fetchReplyDrivesAndClears : Obligations.FetchReplyDrivesAndClears := by
  unfold Obligations.FetchReplyDrivesAndClears
  intro n s
  refine ⟨s.fetchReply n, rfl, rfl, fun r hr => ?pending, fun hnone => ?noReply⟩
  case pending =>
    have hframe : s.port.frame = r.frame s.port.address := by simp [Port.frame, hr]
    refine ⟨?_, fun hn => ?_, fun hn => ?_⟩
    · rw [← Reply.frame_eq, ← hframe]
      rfl
    · simp [State.fetchReply, hframe, Reply.length_frame, hn]
    · simp [State.fetchReply, hframe, Reply.length_frame, hn, hr]
  case noReply =>
    have hframe : s.port.frame = closeFrame [BitVec.ofNat 8 s.port.address, 0x12, 0x01, 0, 0] := by
      rw [Port.frame, hnone, Option.getD_none, Reply.frame_eq]
      rfl
    refine ⟨?_, ?_⟩
    · rw [← hframe]
      rfl
    · simp [State.fetchReply, hnone]

/-! ## Change sets (R179) -/

/-- The keys of a set that a key is handed to: that key and those held. -/
theorem mem_insertKey_iff {ks : List Nat} {k j : Nat} : j ∈ insertKey ks k ↔ j = k ∨ j ∈ ks := by
  refine ⟨mem_insertKey, ?_⟩
  induction ks with
  | nil => simp [insertKey]
  | cons a t ih =>
    intro h
    by_cases hj : j ∈ t
    · have hin := ih (.inr hj)
      rw [insertKey]
      split_ifs <;> simp [hj, hin]
    · have hja : j = k ∨ j = a := by simpa [hj] using h
      rw [insertKey]
      rcases hja with rfl | rfl
      · split_ifs with h1 h2 <;> simp_all
      · split_ifs <;> simp

/-- A key already held leaves an ascending set as it was. -/
theorem insertKey_of_mem {ks : List Nat} {k : Nat} (hasc : ascending ks = true) (hk : k ∈ ks) :
    insertKey ks k = ks := by
  rw [ascending_iff_pairwise] at hasc
  induction ks with
  | nil => exact absurd hk List.not_mem_nil
  | cons a t ih =>
    obtain ⟨hlt, ht⟩ := List.pairwise_cons.1 hasc
    rcases List.mem_cons.1 hk with rfl | hkt
    · simp [insertKey]
    · have hak := hlt k hkt
      simp [insertKey, ih ht hkt, hak.le, hak.ne]

/-- A set after a key was handed to it; the others are as they were. -/
theorem Notices.keys_hand (n : Notices) (c d : ChangeSet) (k : Nat) :
    (n.hand c k).keys d = if d = c then insertKey (n.keys c) k else n.keys d := by
  cases c <;> cases d <;> rfl

/-- Settles O10: what is handed goes through `insertKey` into its own set. -/
theorem handedKeyJoinsItsSet : Obligations.HandedKeyJoinsItsSet := by
  unfold Obligations.HandedKeyJoinsItsSet
  intro n c k
  refine ⟨fun j => ?_, fun hasc hk => ?_, fun d hd => ?_, ?_, ?_⟩
  · rw [Notices.keys_hand, if_pos rfl, mem_insertKey_iff]
  · rw [Notices.keys_hand, if_pos rfl, insertKey_of_mem hasc hk]
  · rw [Notices.keys_hand, if_neg hd]
  · cases c <;> rfl
  · cases c <;> rfl

/-! ## SET-MASK (R183) -/

/-- Settles O9: ATTN is read off the six flags and the mask written. -/
theorem setMaskMovesTheLine : Obligations.SetMaskMovesTheLine := by
  unfold Obligations.SetMaskMovesTheLine
  intro bits s
  refine ⟨s.setMask bits, rfl, rfl, rfl, rfl, ?_⟩
  simp [State.attn, Notices.attn, State.setMask, Categories.ofByte, State.answer_eq, or_assoc]

/-! ## READ-NOTICES and READ-CHANGES (R181, R182) -/

/-- A category byte above 3 names no change set. -/
theorem ChangeSet.ofCode_of_lt {n : Nat} (h : 3 < n) : ChangeSet.ofCode n = none := by
  match n, h with
  | n + 4, _ => rfl

theorem readChanges_of_unlisted {s : State} {category : Byte} (h : ChangeSet.ofCode category.toNat = none) :
    s.readChanges category = s.answer Code.readChanges .badArgument [] := by
  simp [State.readChanges, h]

theorem readChanges_of_listed {s : State} {category : Byte} {c : ChangeSet}
    (h : ChangeSet.ofCode category.toNat = some c) :
    s.readChanges category = { s with notices := s.notices.withKeys c ((s.notices.keys c).drop 16) }.answer
      Code.readChanges .ok (counted (((s.notices.keys c).take 16).map (s.keyBytes c))
        ++ flag (!((s.notices.keys c).drop 16).isEmpty)) := by
  simp [State.readChanges, h]

/-- The keys of each set when those of one are replaced. -/
theorem Notices.keys_withKeys (n : Notices) (c d : ChangeSet) (ks : List Nat) :
    (n.withKeys c ks).keys d = if d = c then ks else n.keys d := by
  cases c <;> cases d <;> rfl

/-- A machine id as READ-CHANGES tells it: a flag byte of two bits, then the id, its permit and its outcome. -/
theorem keyBytes_permit (s : State) (k : Nat) :
    s.keyBytes .permit k =
      be8 ((if (s.permit? k).isSome then 1 else 0) + if (Table.get s.permits.outcomes k).isSome then 2 else 0)
        ++ be8 k ++ be8 (((s.permit? k).map fun p => p.state.code).getD 0)
        ++ be8 (((Table.get s.permits.outcomes k).map fun e => e.outcome.code).getD 0) := by
  cases hp : s.permit? k <;> cases ho : Table.get s.permits.outcomes k <;>
    simp [State.keyBytes, hp, ho, pack, opt8, Item.presence, Item.bytes, flagBytes, flagByte, bitsToNat, be8]

/-- Settles O8: READ-CHANGES by what its byte names, its keys told one by one. -/
theorem noticesAndChangesAreRead : Obligations.NoticesAndChangesAreRead := by
  unfold Obligations.NoticesAndChangesAreRead
  intro category s
  refine ⟨⟨s.readNotices, rfl, rfl, rfl, ?notices⟩, fun hcat => ?refused, fun c hc => ?changes⟩
  case notices => rfl
  case refused =>
    rw [show exec (.readChanges category) s = .next (s.readChanges category) from rfl,
      readChanges_of_unlisted (ChangeSet.ofCode_of_lt hcat)]
    rfl
  case changes =>
    refine ⟨s.readChanges category, rfl, ?_⟩
    rw [readChanges_of_listed hc]
    refine ⟨rfl, ?_, ?_, ?_, fun d hd => ?_, fun told htold => ?_⟩
    · exact (Notices.keys_withKeys _ _ _ _).trans (if_pos rfl)
    · cases c <;> rfl
    · cases c <;> rfl
    · exact (Notices.keys_withKeys _ _ _ _).trans (if_neg hd)
    · have hkeys : s.keyBytes c = told := by
        funext k
        rw [htold k]
        cases c with
        | pile => rfl
        | order => rfl
        | cannon => rfl
        | permit =>
          rw [keyBytes_permit]
          cases hp : s.permit? k <;> cases ho : Table.get s.permits.outcomes k <;> rfl
      have hmore : flag (!((s.notices.keys c).drop 16).isEmpty)
          = [if 16 < (s.notices.keys c).length then 1 else 0] := by
        simp [flag]
      rw [hkeys, hmore, counted, List.length_map]
      rfl

/-! ## READ-CLOCK, READ-MODEL and READ-DISPATCH -/

/-- Settles O11: each read is an answer alone. -/
theorem plainReadsAnswerWhatStands : Obligations.PlainReadsAnswerWhatStands := by
  unfold Obligations.PlainReadsAnswerWhatStands
  intro s
  refine ⟨rfl, ?model, ?dispatch⟩
  case model =>
    have hpack : s.readModel = s.answer Code.readModel .ok ([if s.model.lastStep.isSome then 1 else 0]
        ++ be8 s.model.lead ++ be8 s.model.b1 ++ be8 s.model.b2 ++ be8 s.model.b3 ++ be32 (s.model.lastStep.getD 0)
        ++ be8 s.model.stepped ++ be8 s.model.shortfall) := by
      cases h : s.model.lastStep <;>
        simp [State.readModel, pack, opt32, Item.presence, Item.bytes, flagBytes, flagByte, bitsToNat, be8, h]
    exact congrArg Host.Outcome.next hpack
  case dispatch =>
    have hcount : ∀ p : Order → Bool, s.countOrders p = s.dispatch.orders.countP p := fun p => by
      simp [State.countOrders, List.countP_eq_length_filter]
    refine congrArg Host.Outcome.next ?_
    simp only [State.readDispatch, hcount, State.answer_eq]
    rfl

/-! ## A second within the minute (R176, R177) -/

/-- One second of the step timer from each second left. -/
theorem stepLeftAfter_one {left : Nat} (h1 : 1 ≤ left) (h60 : left ≤ 60) :
    stepLeftAfter 1 left = if left = 1 then 60 else left - 1 := by
  unfold stepLeftAfter
  split <;> omega

/-- The step timer expires in the coming second exactly when one second is left. -/
theorem expiriesWithin_one {left : Nat} (h1 : 1 ≤ left) (h60 : left ≤ 60) :
    expiriesWithin 1 left = if left = 1 then 1 else 0 := by
  unfold expiriesWithin
  split <;> omega

/-- One more expiry is due, but for one acted on ahead. -/
theorem Expiries.handed_one (x : Expiries) : x.handed 1 = ⟨x.due + (if x.ahead then 0 else 1), false⟩ := by
  cases h : x.ahead <;> simp [Expiries.handed, h]

/-- Settles O12: within the minute a second is `State.elapse 1` and one more on the count. -/
theorem secondPasses : Obligations.SecondPasses := by
  unfold Obligations.SecondPasses
  intro s hsec
  have hrise : s.secondRise = (s.elapse 1).withMinute s.clock.minute (s.clock.seconds + 1) := by
    rw [State.secondRise, if_neg (by omega)]
  refine ⟨(s.elapse 1).withMinute s.clock.minute (s.clock.seconds + 1), congrArg Host.Outcome.next hrise, rfl, rfl, rfl,
    fun h2 h60 => ?_, fun h => ?_, fun h2 h60 => ?_, fun h => ?_, ?_, rfl, ?_⟩
  · exact (stepLeftAfter_one (by omega) h60).trans (if_neg (by omega))
  · exact (stepLeftAfter_one (by omega) (by omega)).trans (if_pos h)
  · have hnone : expiriesWithin 1 s.clock.stepLeft = 0 :=
      (expiriesWithin_one (by omega) h60).trans (if_neg (by omega))
    constructor <;> simp [State.withMinute, State.elapse, Clock.after, hnone, Expiries.handed]
  · have hone : expiriesWithin 1 s.clock.stepLeft = 1 :=
      (expiriesWithin_one (by omega) (by omega)).trans (if_pos h)
    constructor <;> simp [State.withMinute, State.elapse, Clock.after, hone, Expiries.handed_one]
  · rfl
  · rfl

end Sys2Proof.Machine
end

section
set_option Elab.async false
/-! PROOFS. Transactions judged at CS rising (R172, R173, R187 to R189): what a frame's bytes are, which payloads no layout
admits, and that a good frame has its command carried out. -/

namespace Sys2Proof.Machine

/-! ## The bytes of a frame -/

/-- A frame built from its address byte, its code and its payload. -/
def frameOf (address code : Byte) (payload : List Byte) : List Byte :=
  closeFrame ([address, code, BitVec.ofNat 8 payload.length] ++ payload)

section
variable {address code : Byte} {payload : List Byte}

@[simp] theorem u8_frameOf_address : u8 (frameOf address code payload) 0 = address := rfl

@[simp] theorem u8_frameOf_code : u8 (frameOf address code payload) 1 = code := rfl

@[simp] theorem u8_frameOf_length : u8 (frameOf address code payload) 2 = BitVec.ofNat 8 payload.length := rfl

@[simp] theorem length_frameOf : (frameOf address code payload).length = payload.length + 4 := by
  simp [frameOf, closeFrame]

/-- The bytes a frame's CRC covers. -/
theorem take_frameOf :
    (frameOf address code payload).take (payload.length + 3)
      = [address, code, BitVec.ofNat 8 payload.length] ++ payload := by
  simp [frameOf, closeFrame]

/-- The last byte of a frame is the CRC of those before it. -/
theorem u8_frameOf_crc :
    u8 (frameOf address code payload) (payload.length + 3)
      = crc8 ((frameOf address code payload).take (payload.length + 3)) := by
  rw [take_frameOf]
  simp [u8, frameOf, closeFrame]

/-- The payload stands behind the first three bytes. -/
theorem payload_frameOf : ((frameOf address code payload).drop 3).take payload.length = payload := by
  simp [frameOf, closeFrame]

/-- A payload of at most 60 bytes has its length told as it is. -/
theorem toNat_payloadLength (h : payload.length ≤ 60) : (BitVec.ofNat 8 payload.length).toNat = payload.length := by
  simp
  omega

/-- A built frame is judged by its payload alone (R172). -/
theorem frameLayout_frameOf (b : Bool) (pins : BitVec 4) (h : payload.length ≤ 60) :
    frameLayout b pins (frameOf address code payload) = decodePayload b pins code.toNat payload := by
  have hlen := toNat_payloadLength h
  simp only [frameLayout, u8_frameOf_length, u8_frameOf_code, hlen]
  rw [if_neg, payload_frameOf]
  simp [Config.payload, h, u8_frameOf_crc]

/-- A built frame is a FETCH-REPLY exactly when it has that code and no payload. -/
theorem isFetch_frameOf (h : payload.length ≤ 60) :
    isFetch (frameOf address code payload) = true ↔ code = 0x01 ∧ payload = [] := by
  have hlen : BitVec.ofNat 8 payload.length = 0 ↔ payload = [] := by
    rw [← BitVec.toNat_inj, toNat_payloadLength h]
    simp
  simp only [isFetch, u8_frameOf_code, u8_frameOf_length, Bool.and_eq_true, beq_iff_eq, hlen, and_assoc]
  refine and_congr_right fun _ => ⟨fun hp => hp.1, fun hp => ⟨hp, ?_⟩⟩
  subst hp
  exact u8_frameOf_crc

end

/-! ## The judgement, by the first case of R172 that applies -/

section
variable {own : Nat} {pins : BitVec 4} {bytes : List Byte}

/-- What an addressed frame comes to, by its layout. -/
def addressedVerdict (code : Nat) : Layout → Verdict
  | .command i => .command i
  | .unlisted => .unlisted code
  | .bad => .bad code

/-- What a broadcast frame comes to, by its layout. -/
def broadcastVerdict : Layout → Verdict
  | .command i => .command i
  | .unlisted | .bad => .ignored

theorem decodeFrame_short (h : bytes.length < 4) : decodeFrame own pins false bytes = .ignored := by
  simp [decodeFrame, h]

theorem decodeFrame_foreign (hown : (u8 bytes 0).toNat ≠ own) (hall : u8 bytes 0 ≠ 0xFF) :
    decodeFrame own pins false bytes = .ignored := by
  have h255 : (u8 bytes 0).toNat ≠ 0xFF := fun h => hall (BitVec.eq_of_toNat_eq h)
  unfold decodeFrame
  dsimp only
  rw [if_neg Bool.false_ne_true]
  split <;> rfl

theorem decodeFrame_broadcast (hlen : 4 ≤ bytes.length) (hall : u8 bytes 0 = 0xFF) :
    decodeFrame own pins false bytes = if mayBroadcast (u8 bytes 1).toNat
      then broadcastVerdict (frameLayout true pins bytes) else .ignored := by
  unfold decodeFrame
  dsimp only
  rw [if_neg Bool.false_ne_true, if_neg (by omega), if_pos (by rw [hall]; rfl)]
  cases frameLayout true pins bytes <;> rfl

theorem decodeFrame_addressed (hlen : 4 ≤ bytes.length) (hown : (u8 bytes 0).toNat = own) (h15 : own ≤ 15) :
    decodeFrame own pins false bytes = if isFetch bytes then .command (.fetchReply (bytes.length - 4))
      else addressedVerdict (u8 bytes 1).toNat (frameLayout false pins bytes) := by
  unfold decodeFrame
  dsimp only
  rw [if_neg Bool.false_ne_true, if_neg (by omega), if_neg (by omega), if_neg (by simp [hown])]
  cases frameLayout false pins bytes <;> rfl

/-- A frame whose length, byte count or CRC is wrong has no layout (R172). -/
theorem frameLayout_of_damaged (b : Bool)
    (h : 60 < (u8 bytes 2).toNat ∨ bytes.length ≠ (u8 bytes 2).toNat + 4
      ∨ u8 bytes ((u8 bytes 2).toNat + 3) ≠ crc8 (bytes.take ((u8 bytes 2).toNat + 3))) :
    frameLayout b pins bytes = .bad := by
  unfold frameLayout
  exact if_pos h

end

section
variable {pins : BitVec 4} {code : Byte} {payload : List Byte} {s : State}

/-- The part's own address byte, as a number. -/
theorem toNat_ownAddress (h : s.port.address ≤ 15) : (BitVec.ofNat 8 s.port.address).toNat = s.port.address := by
  simp
  omega

/-- An addressed frame that is no FETCH-REPLY is judged by its payload. -/
theorem judge_addressed (hown : s.port.address ≤ 15) (hlen : payload.length ≤ 60)
    (hfetch : ¬ (code = 0x01 ∧ payload = [])) :
    decodeFrame s.port.address pins false (frameOf (BitVec.ofNat 8 s.port.address) code payload)
      = addressedVerdict code.toNat (decodePayload false pins code.toNat payload) := by
  rw [decodeFrame_addressed (by simp) (by simp only [u8_frameOf_address]; exact toNat_ownAddress hown) hown,
    if_neg (by rwa [isFetch_frameOf hlen]), frameLayout_frameOf _ _ hlen, u8_frameOf_code]

/-- A broadcast frame is judged by its payload when its code may be broadcast, and is ignored otherwise. -/
theorem judge_broadcast (hlen : payload.length ≤ 60) :
    decodeFrame s.port.address pins false (frameOf 0xFF code payload) = if mayBroadcast code.toNat
      then broadcastVerdict (decodePayload true pins code.toNat payload) else .ignored := by
  rw [decodeFrame_broadcast (by simp) u8_frameOf_address, frameLayout_frameOf _ _ hlen, u8_frameOf_code]

theorem judge_of_ignored {resetLow : Bool} {bytes : List Byte}
    (h : decodeFrame s.port.address pins resetLow bytes = .ignored) : s.judge pins resetLow bytes = s := by
  rw [State.judge, h]

theorem judge_of_bad {resetLow : Bool} {bytes : List Byte} {n : Nat}
    (h : decodeFrame s.port.address pins resetLow bytes = .bad n) :
    s.judge pins resetLow bytes = s.answer n .badFrame [] := by
  rw [State.judge, h]

theorem judge_of_unlisted {resetLow : Bool} {bytes : List Byte} {n : Nat}
    (h : decodeFrame s.port.address pins resetLow bytes = .unlisted n) :
    s.judge pins resetLow bytes = s.answer n .badArgument [] := by
  rw [State.judge, h]

theorem judge_of_command {resetLow : Bool} {bytes : List Byte} {i : Instr}
    (h : decodeFrame s.port.address pins resetLow bytes = .command i) :
    s.judge pins resetLow bytes = s.hostCommand i := by
  rw [State.judge, h]

/-- The codes that may be broadcast (R173). -/
theorem mayBroadcast_iff : mayBroadcast code.toNat = true ↔ code = 0x06 ∨ code = 0x30 ∨ code = 0x44 := by
  have hcode (n : Nat) (h : n < 256) : code.toNat = n ↔ code = BitVec.ofNat 8 n := by
    rw [← BitVec.toNat_inj, BitVec.toNat_ofNat, Nat.mod_eq_of_lt h]
  simp only [mayBroadcast, Bool.or_eq_true, beq_iff_eq, or_assoc, hcode _ (by decide : 0x06 < 256),
    hcode _ (by decide : 0x30 < 256), hcode _ (by decide : 0x44 < 256)]
  rfl

end

/-! ## The payloads that a code's layout admits (R187, R189) -/

/-- The codes whose payload has one fixed length, with that length. -/
def fixedLengths : List (Nat × Nat) :=
  [(0x02, 0), (0x03, 0), (0x04, 1), (0x05, 1), (0x06, 4), (0x07, 0), (0x0F, 0), (0x10, 13), (0x11, 18),
    (0x12, 17), (0x13, 3), (0x14, 1), (0x15, 4), (0x16, 6), (0x17, 2), (0x20, 2), (0x21, 3), (0x22, 0), (0x28, 4),
    (0x29, 10), (0x2A, 0), (0x30, 18), (0x31, 4), (0x33, 0), (0x41, 2), (0x42, 2), (0x43, 2), (0x44, 1), (0x45, 3),
    (0x46, 5), (0x47, 0), (0x51, 1), (0x52, 1), (0x59, 4), (0x5A, 4), (0x5B, 5), (0x5C, 0), (0x60, 4), (0x61, 9),
    (0x62, 7), (0x63, 2), (0x68, 2), (0x69, 2)]

/-- The row of a command does what a frame that carries it does. -/
def CarriedOut (i : Instr) : Prop := ∀ s, exec i s = .next (s.hostCommand i)

section
variable {b : Bool} {pins : BitVec 4} {code : Nat} {p : List Byte}

/-- Each code of one fixed length spells one command in it. -/
theorem decodePayload_fixed (b : Bool) (pins : BitVec 4) (p : List Byte) :
    ∀ e ∈ fixedLengths, ∃ i, decodePayload b pins e.1 p = sized e.2 p i ∧ CarriedOut i := by
  unfold fixedLengths
  repeat refine List.forall_mem_cons.2 ⟨⟨_, rfl, fun _ => rfl⟩, ?_⟩
  exact List.forall_mem_nil _

/-- A code of neither fixed nor variable length is not in the catalogue, FETCH-REPLY's apart. -/
theorem decodePayload_unlisted (hfixed : code ∉ fixedLengths.map Prod.fst)
    (hvar : code ∉ [0x01, 0x32, 0x40, 0x50, 0x58]) : decodePayload b pins code p = .bad := by
  have hlisted : code ∉ fixedLengths.map Prod.fst ++ [0x01, 0x32, 0x40, 0x50, 0x58] := fun h =>
    (List.mem_append.1 h).elim hfixed hvar
  unfold decodePayload
  split
  rotate_right
  · rfl
  all_goals exact absurd (by decide) hlisted

theorem sized_bad_iff {n : Nat} {i : Instr} : sized n p i = .bad ↔ p.length ≠ n := by
  unfold sized
  split <;> simp_all

theorem readForecastAt_bad (h : (p.length ≠ 5 ∧ p.length ≠ 2) ∨ (u8 p 0 = 0 ∧ p.length ≠ 5) ∨ (u8 p 0 = 1 ∧ p.length ≠ 2)) :
    readForecastAt p = .bad := by
  unfold readForecastAt
  split_ifs with h5 h2
  · obtain ⟨h5, h1⟩ := h5
    rcases h with h | ⟨_, h⟩ | ⟨h, _⟩
    · exact absurd h5 h.1
    · exact absurd h5 h
    · exact absurd h h1
  · obtain ⟨h2, h0⟩ := h2
    rcases h with h | ⟨h, _⟩ | ⟨_, h⟩
    · exact absurd h2 h.2
    · exact absurd h h0
    · exact absurd h2 h
  · rfl

theorem placeOrderAt_bad (h : ∀ k, k ≤ 8 → p.length ≠ 7 + 6 * k) (hlen : p.length ≤ 60) : placeOrderAt p = .bad := by
  unfold placeOrderAt
  exact if_neg (h _ (by omega))

theorem loadCannonAt_bad (h : p.length ≠ if u8 p 2 = 0 then 3 else 17 + 6 * (u8 p 8).toNat) : loadCannonAt p = .bad := by
  unfold loadCannonAt
  dsimp only
  by_cases h2 : u8 p 2 = 0
  · rw [if_pos h2] at h ⊢
    exact sized_bad_iff.2 h
  · rw [if_neg h2] at h ⊢
    exact if_neg (by omega)

theorem loadBasinAt_bad (h : (p.length ≠ 2 ∧ p.length ≠ 13 ∧ p.length ≠ 19)
    ∨ (u8 p 0 = 0 ∧ p.length ≠ if u8 p 1 = 0 then 2 else 13) ∨ (u8 p 0 = 1 ∧ p.length ≠ 19)) :
    loadBasinAt p = .bad := by
  unfold loadBasinAt
  split_ifs with hnil htank hunload hpond hlisted
  · rfl
  · have : p.length ≠ 2 := by
      rcases h with h | ⟨_, h⟩ | ⟨h, _⟩
      · exact h.1
      · rwa [if_pos hunload] at h
      · rw [htank] at h
        exact absurd h (by decide)
    exact sized_bad_iff.2 this
  · have : p.length ≠ 13 := by
      rcases h with h | ⟨_, h⟩ | ⟨h, _⟩
      · exact h.2.1
      · rwa [if_neg hunload] at h
      · rw [htank] at h
        exact absurd h (by decide)
    exact sized_bad_iff.2 this
  · have : p.length ≠ 19 := by
      rcases h with h | ⟨h, _⟩ | ⟨_, h⟩
      · exact h.2.2
      · exact absurd h htank
      · exact h
    exact sized_bad_iff.2 this
  · rcases h with h | ⟨h, _⟩ | ⟨h, _⟩
    · omega
    · exact absurd h htank
    · exact absurd h hpond
  · rfl

/-- A basin byte above 1 stands for neither row, behind the lengths of the two forms. -/
theorem loadBasinAt_unlisted (hbasin : 1 < (u8 p 0).toNat) (hlen : p.length = 2 ∨ p.length = 13 ∨ p.length = 19) :
    loadBasinAt p = .unlisted := by
  have h0 : u8 p 0 ≠ 0 := fun h => by simp [h] at hbasin
  have h1 : u8 p 0 ≠ 1 := fun h => by simp [h] at hbasin
  rw [loadBasinAt, if_neg (by omega), if_neg h0, if_neg h1, if_pos hlen]

/-! ## What a payload spells is carried out as its row has it -/

theorem carriedOut_of_sized {n : Nat} {i j : Instr} (hi : CarriedOut i) (h : sized n p i = .command j) : CarriedOut j := by
  unfold sized at h
  split at h
  · cases h
    exact hi
  · cases h

theorem carriedOut_of_readForecastAt {j : Instr} (h : readForecastAt p = .command j) : CarriedOut j := by
  unfold readForecastAt at h
  split_ifs at h <;> cases h <;> exact fun _ => rfl

theorem carriedOut_of_placeOrderAt {j : Instr} (h : placeOrderAt p = .command j) : CarriedOut j := by
  unfold placeOrderAt at h
  dsimp only at h
  split_ifs at h
  cases h
  exact fun _ => rfl

theorem carriedOut_of_loadCannonAt {j : Instr} (h : loadCannonAt p = .command j) : CarriedOut j := by
  unfold loadCannonAt at h
  dsimp only at h
  split_ifs at h
  · exact carriedOut_of_sized (fun _ => rfl) h
  · cases h
    exact fun _ => rfl

theorem carriedOut_of_loadBasinAt {j : Instr} (h : loadBasinAt p = .command j) : CarriedOut j := by
  unfold loadBasinAt at h
  split_ifs at h
  · exact carriedOut_of_sized (fun _ => rfl) h
  · exact carriedOut_of_sized (fun _ => rfl) h
  · exact carriedOut_of_sized (fun _ => rfl) h

/-- Every command a payload spells is carried out by its own row. -/
theorem carriedOut_of_decodePayload {j : Instr} (h : decodePayload b pins code p = .command j) : CarriedOut j := by
  by_cases hfixed : code ∈ fixedLengths.map Prod.fst
  · obtain ⟨e, he, rfl⟩ := List.mem_map.1 hfixed
    obtain ⟨i, hi, hrow⟩ := decodePayload_fixed b pins p e he
    exact carriedOut_of_sized hrow (hi ▸ h)
  by_cases hvar : code ∈ [0x01, 0x32, 0x40, 0x50, 0x58]
  · simp only [List.mem_cons, List.not_mem_nil, or_false] at hvar
    rcases hvar with rfl | rfl | rfl | rfl | rfl
    · cases h
    · exact carriedOut_of_readForecastAt h
    · exact carriedOut_of_placeOrderAt h
    · exact carriedOut_of_loadCannonAt h
    · exact carriedOut_of_loadBasinAt h
  · rw [decodePayload_unlisted hfixed hvar] at h
    cases h

end

/-- Settles O4: a built frame is judged by its payload, whose command its row carries out. -/
theorem goodFramesCarryOutTheirCommand : Obligations.GoodFramesCarryOutTheirCommand := by
  unfold Obligations.GoodFramesCarryOutTheirCommand
  intro pins code payload i s hown hlen
  refine ⟨fun hdec => ?addressed, fun hdec hcode => ?broadcast, fun h06 h30 h44 => ?foreign⟩
  case addressed =>
    have hfetch : ¬ (code = 0x01 ∧ payload = []) := by
      rintro ⟨rfl, rfl⟩
      cases hdec
    have hjudged := judge_addressed (pins := pins) hown hlen hfetch
    rw [hdec] at hjudged
    exact (congrArg Host.Outcome.next (judge_of_command hjudged)).trans (carriedOut_of_decodePayload hdec s).symm
  case broadcast =>
    have hjudged := judge_broadcast (pins := pins) (code := code) (s := s) hlen
    rw [if_pos (mayBroadcast_iff.2 hcode), hdec] at hjudged
    exact (congrArg Host.Outcome.next (judge_of_command hjudged)).trans (carriedOut_of_decodePayload hdec s).symm
  case foreign =>
    have hjudged := judge_broadcast (pins := pins) (code := code) (s := s) hlen
    rw [if_neg (by rw [mayBroadcast_iff]; tauto)] at hjudged
    exact congrArg Host.Outcome.next (judge_of_ignored hjudged)

/-- The frame of a FETCH-REPLY is judged on its first four bytes, whatever is clocked behind them (R172). -/
theorem judge_fetchReply {pins : BitVec 4} {s : State} (hown : s.port.address ≤ 15) (clocked : List Byte) :
    s.judge pins false (closeFrame [BitVec.ofNat 8 s.port.address, 0x01, 0] ++ clocked) = s.fetchReply clocked.length := by
  have hown' : (u8 (closeFrame [BitVec.ofNat 8 s.port.address, 0x01, 0] ++ clocked) 0).toNat = s.port.address :=
    toNat_ownAddress hown
  have hfetch : isFetch (closeFrame [BitVec.ofNat 8 s.port.address, 0x01, 0] ++ clocked) = true := by
    simp [isFetch, closeFrame, u8]
  have hjudged := decodeFrame_addressed (pins := pins) (by simp [closeFrame]) hown' hown
  rw [if_pos hfetch] at hjudged
  rw [judge_of_command hjudged]
  simp [State.hostCommand, closeFrame]

/-- Settles O3: what is ignored and what is bad by the branches of `decodeFrame`; a bad length by the layout of its code. -/
theorem badFramesAnsweredOrIgnored : Obligations.BadFramesAnsweredOrIgnored := by
  unfold Obligations.BadFramesAnsweredOrIgnored
  refine ⟨fun pins bytes s hown => ⟨rfl, fun hshort => ?short, fun hforeign hall => ?foreign, fun hdamaged h4 =>
    ⟨fun hall => ?broadcast, fun hmine hfetch => ?damaged⟩⟩,
    fun pins code payload fixed badLength s hown hlen hfixed hbad => ?built⟩
  case short => exact congrArg Host.Outcome.next (judge_of_ignored (decodeFrame_short hshort))
  case foreign => exact congrArg Host.Outcome.next (judge_of_ignored (decodeFrame_foreign hforeign hall))
  case broadcast =>
    have hjudged := decodeFrame_broadcast (own := s.port.address) (pins := pins) h4 hall
    rw [frameLayout_of_damaged true hdamaged] at hjudged
    exact congrArg Host.Outcome.next (judge_of_ignored (hjudged.trans (ite_self _)))
  case damaged =>
    have hjudged := decodeFrame_addressed (pins := pins) h4 hmine hown
    rw [frameLayout_of_damaged false hdamaged, if_neg (by simpa [isFetch, and_assoc] using hfetch)] at hjudged
    exact congrArg Host.Outcome.next (judge_of_bad hjudged)
  case built =>
    have hcode (n : Nat) (h : n < 256) : code.toNat = n ↔ code = BitVec.ofNat 8 n := by
      rw [← BitVec.toNat_inj, BitVec.toNat_ofNat, Nat.mod_eq_of_lt h]
    have hbadLayout (b : Bool) (h : badLength) : decodePayload b pins code.toNat payload = .bad := by
      rcases hbad.1 h with ⟨n, hn, hne⟩ | ⟨rfl, _⟩ | ⟨rfl, h⟩ | ⟨rfl, h⟩ | ⟨rfl, h⟩ | ⟨rfl, h⟩
      · obtain ⟨i, hi, _⟩ := decodePayload_fixed b pins payload _ (hfixed ▸ hn)
        exact hi.trans (sized_bad_iff.2 hne)
      · rfl
      · exact readForecastAt_bad h
      · exact placeOrderAt_bad h hlen
      · exact loadCannonAt_bad h
      · exact loadBasinAt_bad h
    refine ⟨fun h => ?answered, fun h hmay => ?ignored, fun hbasin hform hlisted => ?basin, fun clocked => ?fetch⟩
    case answered =>
      have hlayout : decodePayload false pins code.toNat payload = .bad := by
        rcases h with h | ⟨h1, h2⟩
        · exact hbadLayout false h
        · subst hfixed
          exact decodePayload_unlisted h1 h2
      have hfetch : ¬ (code = 0x01 ∧ payload = []) := by
        rintro ⟨rfl, rfl⟩
        rcases h with h | ⟨_, h2⟩
        · rcases hbad.1 h with ⟨n, hn, _⟩ | ⟨_, h⟩ | ⟨h, _⟩ | ⟨h, _⟩ | ⟨h, _⟩ | ⟨h, _⟩
          · subst hfixed
            simp at hn
          · exact h rfl
          all_goals exact absurd h (by decide)
        · exact h2 (by decide)
      have hjudged := judge_addressed (pins := pins) hown hlen hfetch
      rw [hlayout] at hjudged
      exact congrArg Host.Outcome.next (judge_of_bad hjudged)
    case ignored =>
      have hjudged := judge_broadcast (pins := pins) (code := code) (s := s) hlen
      rw [hbadLayout true h] at hjudged
      exact congrArg Host.Outcome.next (judge_of_ignored (hjudged.trans (ite_self _)))
    case basin =>
      subst hbasin
      have hjudged := judge_addressed (pins := pins) (code := 0x58) hown hlen fun h => absurd h.1 (by decide)
      rw [show decodePayload false pins (0x58 : Byte).toNat payload = .unlisted from
        loadBasinAt_unlisted hform hlisted] at hjudged
      exact congrArg Host.Outcome.next (judge_of_unlisted hjudged)
    case fetch =>
      exact congrArg Host.Outcome.next (judge_fetchReply hown clocked)

end Sys2Proof.Machine
end

section
set_option Elab.async false
/-! PROOFS. A node's reply is parsed back to what it reports (R163, R190). -/

namespace Sys2Proof.Machine

/-- A node's reply is a frame of its address, its kind and its payload. -/
theorem NodeReply.bytes_eq (a : Nat) (r : NodeReply) :
    r.bytes a = frameOf (BitVec.ofNat 8 a) (BitVec.ofNat 8 r.kind.code) r.payload := rfl

theorem NodeReply.length_payload (r : NodeReply) : r.payload.length ≤ 8 := by
  cases r <;> simp [NodeReply.payload]

theorem NodeKind.code_inj {k l : NodeKind} : k.code = l.code ↔ k = l := by
  cases k <;> cases l <;> decide

/-- A built reply is taken exactly for its own address and kind. -/
theorem parseReply_bytes {a b : Nat} (kind : NodeKind) (r : NodeReply) (ha : a ≤ 255) :
    parseReply b kind (r.bytes a) = if a = b ∧ r.kind = kind then replyPayload kind r.payload else none := by
  have haddr : (BitVec.ofNat 8 a).toNat = a := by simp; omega
  have hkind : (BitVec.ofNat 8 r.kind.code).toNat = r.kind.code := by cases r <;> rfl
  have hlen : (BitVec.ofNat 8 r.payload.length).toNat = r.payload.length :=
    toNat_payloadLength (r.length_payload.trans (by decide))
  rw [NodeReply.bytes_eq, parseReply]
  simp only [u8_frameOf_address, u8_frameOf_code, u8_frameOf_length, hlen, length_frameOf, u8_frameOf_crc,
    payload_frameOf, haddr, hkind, NodeKind.code_inj, true_and, and_true]

/-! ## Payload by payload -/

/-- The two bytes of a two-byte field, read together. -/
theorem be16_joined (n : Nat) : BitVec.ofNat 8 (n / 256) ++ BitVec.ofNat 8 n = BitVec.ofNat 16 n := by
  apply BitVec.eq_of_toNat_eq
  rw [BitVec.toNat_append, BitVec.toNat_ofNat, BitVec.toNat_ofNat, BitVec.toNat_ofNat,
    ← Nat.shiftLeft_add_eq_or_of_lt (by omega), Nat.shiftLeft_eq]
  omega

theorem toNat_be16 {n : Nat} (h : n < 65536) : (BitVec.ofNat 8 (n / 256) ++ BitVec.ofNat 8 n).toNat = n := by
  rw [be16_joined, BitVec.toNat_ofNat, Nat.mod_eq_of_lt h]

theorem toNat_be8 {n : Nat} (h : n < 256) : (BitVec.ofNat 8 n).toNat = n := by
  rw [BitVec.toNat_ofNat, Nat.mod_eq_of_lt h]

theorem toInt_be8s {n : Int} (hlo : -128 ≤ n) (hhi : n ≤ 127) : (BitVec.ofInt 8 n).toInt = n := by
  rw [BitVec.toInt_ofInt]
  exact Int.bmod_eq_of_le (by simpa using hlo) (by omega)

/-- The report byte of a cannon node is read back. -/
theorem NodeReport.ofByte_byte (r : NodeReport) : NodeReport.ofByte r.byte = some r := by
  obtain ⟨v, settled, overload, fault⟩ := r
  cases v <;> cases settled <;> cases overload <;> cases fault <;> rfl

theorem replyPayload_cannon (report : NodeReport) {meter : Nat} (h : meter < 65536) :
    replyPayload .cannon (NodeReply.cannon report meter).payload = some (.cannon report meter) := by
  change (NodeReport.ofByte report.byte).map (fun r => NodeReply.cannon r
    (BitVec.ofNat 8 (meter / 256) ++ BitVec.ofNat 8 meter).toNat) = _
  rw [NodeReport.ofByte_byte, toNat_be16 h]
  rfl

theorem replyPayload_mast {speed direction rh rain : Nat} {temp : Int} (hspeed : speed < 65536)
    (hdirection : direction < 65536) (hrh : rh < 256) (hrain : rain < 65536) (hlo : -128 ≤ temp) (hhi : temp ≤ 127) :
    replyPayload .mast (NodeReply.mast speed direction rh rain temp).payload
      = some (.mast speed direction rh rain temp) := by
  change some (NodeReply.mast (BitVec.ofNat 8 (speed / 256) ++ BitVec.ofNat 8 speed).toNat
    (BitVec.ofNat 8 (direction / 256) ++ BitVec.ofNat 8 direction).toNat (BitVec.ofNat 8 rh).toNat
    (BitVec.ofNat 8 (rain / 256) ++ BitVec.ofNat 8 rain).toNat (BitVec.ofInt 8 temp).toInt) = _
  rw [toNat_be16 hspeed, toNat_be16 hdirection, toNat_be8 hrh, toNat_be16 hrain, toInt_be8s hlo hhi]

theorem replyPayload_gauge {level turbidity : Nat} (alarm : Bool) (hlevel : level < 65536) (hturbidity : turbidity < 256) :
    replyPayload .gauge (NodeReply.gauge level turbidity alarm).payload = some (.gauge level turbidity alarm) := by
  change some (NodeReply.gauge (BitVec.ofNat 8 (level / 256) ++ BitVec.ofNat 8 level).toNat
    (BitVec.ofNat 8 turbidity).toNat ((if alarm then 1 else 0 : Byte).getLsbD 0)) = _
  rw [toNat_be16 hlevel, toNat_be8 hturbidity]
  cases alarm <;> rfl

theorem replyPayload_transfer (running : Bool) {meter : Nat} (h : meter < 65536) :
    replyPayload .transfer (NodeReply.transfer running meter).payload = some (.transfer running meter) := by
  change some (NodeReply.transfer ((if running then 1 else 0 : Byte).getLsbD 0)
    (BitVec.ofNat 8 (meter / 256) ++ BitVec.ofNat 8 meter).toNat) = _
  rw [toNat_be16 h]
  cases running <;> rfl

/-- Settles O59: the frame's fields are read back by `parseReply_bytes`, the payload kind by kind. -/
theorem nodeRepliesParseBack : Obligations.NodeRepliesParseBack := by
  unfold Obligations.NodeRepliesParseBack
  intro a b kind r ha hb hrange
  refine ⟨?back, fun hab => ?address, fun hkind => ?kind⟩
  case back =>
    rw [parseReply_bytes _ _ ha, if_pos ⟨rfl, rfl⟩]
    cases r with
    | cannon report meter => exact replyPayload_cannon report hrange
    | mast speed direction rh rain temp =>
      obtain ⟨hspeed, hdirection, hrh, hrain, hlo, hhi⟩ := hrange
      exact replyPayload_mast hspeed hdirection hrh hrain hlo hhi
    | gauge level turbidity alarm => exact replyPayload_gauge alarm hrange.1 hrange.2
    | transfer running meter => exact replyPayload_transfer running hrange
  case address => rw [parseReply_bytes _ _ ha, if_neg fun h => hab h.1.symm]
  case kind => rw [parseReply_bytes _ _ ha, if_neg fun h => hkind h.2.symm]

end Sys2Proof.Machine
end

section
set_option Elab.async false
/-! PROOFS. The rule over all commands: each completes, leaves the queue and the settings it does not own, and makes its own
reply or none (spec/10, sections 10.2 and 10.3). -/

namespace Sys2Proof.Machine

/-! ## The settings, and who owns them -/

/-- The port, the queue, the clock and every setting a command owns. -/
structure Settings where
  port : Port
  pending : List Instr
  clock : Clock
  grades : Table Grade
  model : Model
  forecast : Forecast
  masts : Table Mast
  limits : WindLimits
  mask : Categories
  lapseTime : Nat
  maxDose : Nat
  freshFloor : Nat
  allowance : Nat
  prewetWait : Nat
  maxHold : MaxHold
  period : Nat

def State.settings (s : State) : Settings where
  port := s.port
  pending := s.pending
  clock := s.clock
  grades := s.grades
  model := s.model
  forecast := s.forecast
  masts := s.wind.masts
  limits := s.wind.limits
  mask := s.notices.mask
  lapseTime := s.dispatch.lapseTime
  maxDose := s.dispatch.maxDose
  freshFloor := s.dispatch.freshFloor
  allowance := s.water.allowance
  prewetWait := s.permits.prewetWait
  maxHold := s.permits.maxHold
  period := s.loop.period

/-- Two records of settings differ at most in what a command owns; they have the same port and queue. -/
def Settings.Agree (c : Instr) (x y : Settings) : Prop :=
  x.port = y.port ∧ x.pending = y.pending
    ∧ ((∀ n a, c ≠ .loadGrade n a) → x.grades = y.grades)
    ∧ (c.movesClock = false → x.clock = y.clock)
    ∧ (c.writesModel = false → x.model = y.model)
    ∧ (c.writesForecast = false → x.forecast = y.forecast)
    ∧ (c.writesMasts = false → x.masts = y.masts)
    ∧ ((∀ a, c ≠ .setWindLimits a) → x.limits = y.limits)
    ∧ ((∀ b, c ≠ .setMask b) → x.mask = y.mask)
    ∧ ((∀ l d f, c ≠ .setDispatch l d f) →
      x.lapseTime = y.lapseTime ∧ x.maxDose = y.maxDose ∧ x.freshFloor = y.freshFloor)
    ∧ ((∀ v, c ≠ .setAllowance v) → x.allowance = y.allowance)
    ∧ ((∀ p a b d, c ≠ .setPermitLimits p a b d) → x.prewetWait = y.prewetWait ∧ x.maxHold = y.maxHold)
    ∧ ((∀ p, c ≠ .setLoop p) → x.period = y.period)

/-- What the rule says of a command that leads from one state to another. -/
def Confined (c : Instr) (s t : State) : Prop :=
  t.pending = s.pending
    ∧ (∀ code, c.replyCode = some code → ∃ status payload, t.port = s.replied status code payload)
    ∧ (c.sweeping = false →
        (c.replyCode = none → (∀ n, c ≠ .fetchReply n) → t.port = s.port)
        ∧ ((∀ n a, c ≠ .loadGrade n a) → t.grades = s.grades)
        ∧ (c.movesClock = false → t.clock = s.clock)
        ∧ (c.writesModel = false → t.model = s.model)
        ∧ (c.writesForecast = false → t.forecast = s.forecast)
        ∧ (c.writesMasts = false → t.wind.masts = s.wind.masts)
        ∧ ((∀ a, c ≠ .setWindLimits a) → t.wind.limits = s.wind.limits)
        ∧ ((∀ b, c ≠ .setMask b) → t.notices.mask = s.notices.mask)
        ∧ ((∀ l d f, c ≠ .setDispatch l d f) → t.dispatch.lapseTime = s.dispatch.lapseTime
            ∧ t.dispatch.maxDose = s.dispatch.maxDose ∧ t.dispatch.freshFloor = s.dispatch.freshFloor)
        ∧ ((∀ v, c ≠ .setAllowance v) → t.water.allowance = s.water.allowance)
        ∧ ((∀ p x y z, c ≠ .setPermitLimits p x y z) →
            t.permits.prewetWait = s.permits.prewetWait ∧ t.permits.maxHold = s.permits.maxHold)
        ∧ ((∀ p, c ≠ .setLoop p) → t.loop.period = s.loop.period))

section
variable {c : Instr} {s u : State}

theorem Settings.Agree.of_eq {x y : Settings} (h : x = y) : x.Agree c y := by
  subst h
  simp [Settings.Agree]

theorem Settings.Agree.refl (x : Settings) : x.Agree c x := .of_eq rfl

/-! One lemma for each setting: it may be written by a command that owns it. -/

theorem Settings.Agree.clock (x : Settings) (hc : c.movesClock = true) (v : Clock) :
    ({ x with clock := v } : Settings).Agree c x := by
  simp [Settings.Agree, hc]

theorem Settings.Agree.grades (x : Settings) (hc : ¬ ∀ n a, c ≠ .loadGrade n a) (v : Table Grade) :
    ({ x with grades := v } : Settings).Agree c x := by
  simp only [Settings.Agree, hc, false_implies, implies_true, and_self]

theorem Settings.Agree.model (x : Settings) (hc : c.writesModel = true) (v : Model) :
    ({ x with model := v } : Settings).Agree c x := by
  simp [Settings.Agree, hc]

theorem Settings.Agree.forecast (x : Settings) (hc : c.writesForecast = true) (v : Forecast) :
    ({ x with forecast := v } : Settings).Agree c x := by
  simp [Settings.Agree, hc]

theorem Settings.Agree.masts (x : Settings) (hc : c.writesMasts = true) (v : Table Mast) :
    ({ x with masts := v } : Settings).Agree c x := by
  simp [Settings.Agree, hc]

theorem Settings.Agree.limits (x : Settings) (hc : ¬ ∀ a, c ≠ .setWindLimits a) (v : WindLimits) :
    ({ x with limits := v } : Settings).Agree c x := by
  simp only [Settings.Agree, hc, false_implies, implies_true, and_self]

theorem Settings.Agree.mask (x : Settings) (hc : ¬ ∀ b, c ≠ .setMask b) (v : Categories) :
    ({ x with mask := v } : Settings).Agree c x := by
  simp only [Settings.Agree, hc, false_implies, implies_true, and_self]

theorem Settings.Agree.dispatch (x : Settings) (hc : ¬ ∀ l d f, c ≠ .setDispatch l d f) (l d f : Nat) :
    ({ x with lapseTime := l, maxDose := d, freshFloor := f } : Settings).Agree c x := by
  simp only [Settings.Agree, hc, false_implies, implies_true, and_self]

theorem Settings.Agree.allowance (x : Settings) (hc : ¬ ∀ v, c ≠ .setAllowance v) (v : Nat) :
    ({ x with allowance := v } : Settings).Agree c x := by
  simp only [Settings.Agree, hc, false_implies, implies_true, and_self]

theorem Settings.Agree.permits (x : Settings) (hc : ¬ ∀ p a b d, c ≠ .setPermitLimits p a b d) (w : Nat) (m : MaxHold) :
    ({ x with prewetWait := w, maxHold := m } : Settings).Agree c x := by
  simp only [Settings.Agree, hc, false_implies, implies_true, and_self]

theorem Settings.Agree.period (x : Settings) (hc : ¬ ∀ p, c ≠ .setLoop p) (v : Nat) :
    ({ x with period := v } : Settings).Agree c x := by
  simp only [Settings.Agree, hc, false_implies, implies_true, and_self]

theorem Settings.Agree.trans {x y z : Settings} (h1 : x.Agree c y) (h2 : y.Agree c z) : x.Agree c z := by
  obtain ⟨a1, a2, a3, a4, a5, a6, a7, a8, a9, a10, a11, a12, a13⟩ := h1
  obtain ⟨b1, b2, b3, b4, b5, b6, b7, b8, b9, b10, b11, b12, b13⟩ := h2
  exact ⟨a1.trans b1, a2.trans b2, fun h => (a3 h).trans (b3 h), fun h => (a4 h).trans (b4 h),
    fun h => (a5 h).trans (b5 h), fun h => (a6 h).trans (b6 h), fun h => (a7 h).trans (b7 h),
    fun h => (a8 h).trans (b8 h), fun h => (a9 h).trans (b9 h),
    fun h => ⟨(a10 h).1.trans (b10 h).1, (a10 h).2.1.trans (b10 h).2.1, (a10 h).2.2.trans (b10 h).2.2⟩,
    fun h => (a11 h).trans (b11 h), fun h => ⟨(a12 h).1.trans (b12 h).1, (a12 h).2.trans (b12 h).2⟩,
    fun h => (a13 h).trans (b13 h)⟩

/-- An event that makes no reply. -/
theorem Confined.silent (hc : c.replyCode = none) (h : u.settings.Agree c s.settings) : Confined c s u := by
  obtain ⟨hport, hpending, hrest⟩ := h
  exact ⟨hpending, fun code h => (by rw [hc] at h; cases h), fun _ => ⟨fun _ _ => hport, hrest⟩⟩

/-- A command that is answered under its own code. -/
theorem Confined.answer {code : Nat} (hc : c.replyCode = some code) (status : Status) (payload : List Byte)
    (h : u.settings.Agree c s.settings) : Confined c s (u.answer code status payload) := by
  obtain ⟨hport, hpending, hrest⟩ := h
  have hport : u.port = s.port := hport
  refine ⟨hpending, fun code' h => ?_, fun _ => ⟨fun h => (by rw [hc] at h; cases h), hrest⟩⟩
  rw [hc, Option.some.injEq] at h
  subst h
  exact ⟨status, payload, by simp [State.answer, State.replied, hport]⟩

theorem Confined.refused {code : Nat} (hc : c.replyCode = some code) (status : Status) (payload : List Byte) :
    Confined c s (s.answer code status payload) := .answer hc _ _ (.of_eq rfl)

/-- A command that may come broadcast, and is then not answered. -/
theorem Confined.answerUnless {code : Nat} {b : Bool} (hc : c.replyCode = if b then none else some code) (status : Status)
    (payload : List Byte) (h : u.settings.Agree c s.settings) : Confined c s (u.answerUnless b code status payload) := by
  cases b with
  | true => exact .silent hc h
  | false => exact .answer hc _ _ h

theorem Confined.refusedUnless {code : Nat} {b : Bool} (hc : c.replyCode = if b then none else some code) (status : Status)
    (payload : List Byte) : Confined c s (s.answerUnless b code status payload) := .answerUnless hc _ _ (.of_eq rfl)

/-! ## Settings through the named operations -/

theorem settings_of_skeleton (h : u.skeleton = s.skeleton) : u.settings = s.settings := by
  simp only [State.settings, skeleton_port h, skeleton_pending h, skeleton_clock h, skeleton_grades h, skeleton_model h,
    skeleton_forecast h, skeleton_masts h, skeleton_limits h, skeleton_mask h, skeleton_lapseTime h, skeleton_maxDose h,
    skeleton_freshFloor h, skeleton_allowance h, skeleton_prewetWait h, skeleton_maxHold h, skeleton_period h]

@[simp] theorem settings_openEvent : s.openEvent.settings = s.settings := rfl
@[simp] theorem settings_mapPile (n : Nat) (f : Pile → Pile) : (s.mapPile n f).settings = s.settings := rfl
@[simp] theorem settings_mapOrder (n : Nat) (f : Order → Order) : (s.mapOrder n f).settings = s.settings := rfl
@[simp] theorem settings_mapCannon (n : Nat) (f : Cannon → Cannon) : (s.mapCannon n f).settings = s.settings := rfl
@[simp] theorem settings_mapNode (n : Nat) (f : Node → Node) : (s.mapNode n f).settings = s.settings := rfl
@[simp] theorem settings_mapTransfer (f : Transfer → Transfer) : (s.mapTransfer f).settings = s.settings := rfl
@[simp] theorem settings_mapPond (f : Pond → Pond) : (s.mapPond f).settings = s.settings := rfl
@[simp] theorem settings_withTank (t : Tank) : (s.withTank t).settings = s.settings := rfl
@[simp] theorem settings_noTank : s.noTank.settings = s.settings := rfl
@[simp] theorem settings_withCannon (n : Nat) (c : Cannon) : (s.withCannon n c).settings = s.settings := rfl
@[simp] theorem settings_withPhase (p : Phase) : (s.withPhase p).settings = s.settings := rfl
@[simp] theorem settings_occasion : s.occasion.settings = s.settings := rfl
@[simp] theorem settings_report (k : Nat) : (s.report k).settings = s.settings := rfl
@[simp] theorem settings_raiseWater : s.raiseWater.settings = s.settings := rfl
@[simp] theorem settings_raiseWind : s.raiseWind.settings = s.settings := rfl
@[simp] theorem settings_freeOrder (i : Nat) : (s.freeOrder i).settings = s.settings := rfl
@[simp] theorem settings_hand (x : ChangeSet) (k : Nat) : (s.hand x k).settings = s.settings :=
  settings_of_skeleton (State.hand_skeleton x k)
@[simp] theorem settings_evalSpent : s.evalSpent.settings = s.settings := settings_of_skeleton State.evalSpent_skeleton
@[simp] theorem settings_evalTransfer : s.evalTransfer.settings = s.settings :=
  settings_of_skeleton State.evalTransfer_skeleton
@[simp] theorem settings_creditPond (k : Nat) : (s.creditPond k).settings = s.settings :=
  settings_of_skeleton (State.creditPond_skeleton k)
@[simp] theorem settings_stopRun (e : RunEnd) : (s.stopRun e).settings = s.settings :=
  settings_of_skeleton (State.stopRun_skeleton e)
@[simp] theorem settings_startRun : s.startRun.settings = s.settings := settings_of_skeleton State.startRun_skeleton
@[simp] theorem settings_placeStopRun : s.placeStopRun.settings = s.settings :=
  settings_of_skeleton State.placeStopRun_skeleton
@[simp] theorem settings_placeClose (n : Nat) : (s.placeClose n).settings = s.settings :=
  settings_of_skeleton (State.placeClose_skeleton n)
@[simp] theorem settings_placeStart (n : Nat) (x : LoopCommand) : (s.placeStart n x).settings = s.settings := rfl
@[simp] theorem settings_mapBoundPass (d : Cannon) (f : Pass → Pass) : (s.mapBoundPass d f).settings = s.settings :=
  settings_of_skeleton (State.mapBoundPass_skeleton d f)
@[simp] theorem settings_releaseHeader (n : Nat) : (s.releaseHeader n).settings = s.settings :=
  settings_of_skeleton (State.releaseHeader_skeleton n)
@[simp] theorem settings_toIdle (n : Nat) : (s.toIdle n).settings = s.settings :=
  settings_of_skeleton (State.toIdle_skeleton n)
@[simp] theorem settings_rampDown (n : Nat) : (s.rampDown n).settings = s.settings :=
  settings_of_skeleton (State.rampDown_skeleton n)
@[simp] theorem settings_dropReason (i : Nat) (r : Reason) : (s.dropReason i r).settings = s.settings :=
  settings_of_skeleton (State.dropReason_skeleton i r)
@[simp] theorem settings_addReason (i : Nat) (r : Reason) : (s.addReason i r).1.settings = s.settings :=
  settings_of_skeleton (State.addReason_skeleton i r)
@[simp] theorem settings_cancel (i : Nat) : (s.cancel i).1.settings = s.settings :=
  settings_of_skeleton (State.cancel_skeleton i)
@[simp] theorem settings_accept (r : OrderRequest) : (s.accept r).1.settings = s.settings :=
  settings_of_skeleton (State.accept_skeleton r)
@[simp] theorem settings_endOrder (i : Nat) (x : OrderOutcome) : (s.endOrder i x).1.settings = s.settings :=
  settings_of_skeleton (State.endOrder_skeleton i x)
@[simp] theorem settings_lapseOrder (i : Nat) : (s.lapseOrder i).1.settings = s.settings :=
  settings_of_skeleton (State.lapseOrder_skeleton i)
@[simp] theorem settings_expirePrewet (m : Nat) : (s.expirePrewet m).1.settings = s.settings :=
  settings_of_skeleton (State.expirePrewet_skeleton m)
@[simp] theorem settings_lapsePermit (m : Nat) : (s.lapsePermit m).1.settings = s.settings :=
  settings_of_skeleton (State.lapsePermit_skeleton m)
@[simp] theorem settings_enterClearing (t : Nat) : (s.enterClearing t).1.settings = s.settings := rfl
@[simp] theorem settings_blendPile (t f : Nat) (m : Option Nat) : (s.blendPile t f m).settings = s.settings :=
  settings_of_skeleton (State.blendPile_skeleton t f m)
@[simp] theorem settings_rollOver : s.rollOver.settings = s.settings := settings_of_skeleton State.rollOver_skeleton

/-- No telling of an event changes a setting. -/
@[simp] theorem settings_settle (q : Option Nat) (ts : List Task) : (s.settle q ts).settings = s.settings :=
  settings_of_skeleton (State.settle_skeleton q ts)

@[simp] theorem settings_settled (x : State × List Task) : (settled x).settings = x.1.settings :=
  settings_of_skeleton (settled_skeleton x)

@[simp] theorem settings_addNode (a : Nat) (o : Owner) (d : Nat) : (s.addNode a o d).settings = s.settings := by
  unfold State.addNode
  dsimp only
  split <;> rfl

@[simp] theorem settings_removeNode (a : Nat) : (s.removeNode a).settings = s.settings := by
  unfold State.removeNode
  dsimp only
  split <;> rfl

/-- A fold of steps none of which changes a setting. -/
theorem settings_foldl {β : Type} (f : State → β → State) (h : ∀ s b, (f s b).settings = s.settings) (l : List β)
    (s : State) : (l.foldl f s).settings = s.settings := by
  induction l generalizing s with
  | nil => rfl
  | cons b l ih => rw [List.foldl_cons, ih, h]

end

end Sys2Proof.Machine
end

section
set_option Elab.async false
/-! PROOFS. The rule over all commands, for the commands and events that own a setting. -/

namespace Sys2Proof.Machine

section
variable {c : Instr} {s : State}

theorem confined_setMask (bits : Byte) : Confined (.setMask bits) s (s.setMask bits) :=
  .answer rfl _ _ (.mask s.settings (fun h => h _ rfl) _)

/-! ## The clock -/

theorem agree_changeMinute (minute : Nat) (hc : c.movesClock = true) :
    (s.changeMinute minute).settings.Agree c s.settings := by
  rw [State.changeMinute, settings_settled]
  exact .clock s.settings hc _

theorem agree_elapse (k : Nat) (hclock : c.movesClock = true) (hmasts : c.writesMasts = true) :
    (s.elapse k).settings.Agree c s.settings :=
  .trans (.masts ({ s with clock := s.clock.after k } : State).settings hmasts _) (.clock s.settings hclock _)

theorem confined_setClock (b : Bool) (minute : Long) : Confined (.setClock b minute) s (s.setClock b minute) := by
  unfold State.setClock
  dsimp only
  refine .answerUnless (by cases b <;> rfl) _ _ ?_
  split
  · exact .clock s.settings rfl _
  · exact agree_changeMinute _ rfl

theorem confined_minuteRise (hc : c.replyCode = none) (hclock : c.movesClock = true) (hmasts : c.writesMasts = true) :
    Confined c s s.minuteRise :=
  .silent hc ((agree_changeMinute _ hclock).trans (agree_elapse _ hclock hmasts))

theorem confined_secondRise : Confined .secondsCountRise s s.secondRise := by
  unfold State.secondRise
  split
  · exact confined_minuteRise rfl rfl rfl
  · exact .silent rfl (.trans (.clock (s.elapse 1).settings rfl _) (agree_elapse 1 rfl rfl))

/-! ## Grades and the model -/

theorem confined_loadGrade (number : Byte) (a : GradeArgs) :
    Confined (.loadGrade number a) s (s.loadGrade number a) := by
  unfold State.loadGrade
  split
  · refine .answer rfl _ _ ?_
    rw [settings_settled]
    exact .grades s.settings (fun h => h _ _ rfl) _
  · exact .refused rfl _ _

theorem confined_setLead (value : Half) : Confined (.setLead value) s (s.setLead value) :=
  .answer rfl _ _ (.model s.settings rfl _)

theorem confined_setBands (b1 b2 b3 : Byte) : Confined (.setBands b1 b2 b3) s (s.setBands b1 b2 b3) := by
  unfold State.setBands
  split
  · refine .answer rfl _ _ ?_
    rw [settings_foldl _ fun s k => settings_hand _ _]
    exact .model s.settings rfl _
  · exact .refused rfl _ _

theorem settings_withdrawAuto (tag : Nat) (b : Band) (look : Look) :
    (s.withdrawAuto tag b look).settings = s.settings := by
  unfold State.withdrawAuto
  split
  · split <;> simp
  · rfl

theorem settings_placeAuto (g : Grade) (p : Pile) (look : Look) : (s.placeAuto g p look).1.settings = s.settings := by
  unfold State.placeAuto
  split
  · split
    · split <;> simp
    · rfl
  · rfl

theorem settings_raiseAuto (o : Order) (b : Band) : (s.raiseAuto o b).settings = s.settings := by
  unfold State.raiseAuto
  split
  · split
    · unfold State.raiseTo
      dsimp only
      split <;> simp
    · rfl
  · rfl

theorem settings_stageAuto (g : Grade) (p : Pile) (look : Look) : (s.stageAuto g p look).1.settings = s.settings := by
  unfold State.stageAuto
  dsimp only
  split
  · rw [settings_raiseAuto, settings_withdrawAuto]
  · rw [settings_placeAuto, settings_withdrawAuto]

theorem settings_stepPile (acc : State × Nat) (slot : Nat) : (State.stepPile acc slot).1.settings = acc.1.settings := by
  unfold State.stepPile
  dsimp only
  split
  · rfl
  · split
    · rfl
    · dsimp only
      split <;> simp only [settings_hand, settings_mapPile, settings_stageAuto] <;> split <;> simp

theorem settings_stepPiles (slots : List Nat) (acc : State × Nat) :
    (slots.foldl State.stepPile acc).1.settings = acc.1.settings := by
  induction slots generalizing acc with
  | nil => rfl
  | cons k ks ih => rw [List.foldl_cons, ih, settings_stepPile]

theorem agree_takeStep (hc : c.writesModel = true) : s.takeStep.settings.Agree c s.settings := by
  unfold State.takeStep
  dsimp only
  rw [settings_settled]
  have hsteps := settings_stepPiles (Table.keys s.openEvent.piles) (s.openEvent, 0)
  refine .trans (.model ((Table.keys s.openEvent.piles).foldl State.stepPile (s.openEvent, 0)).1.settings hc _) ?_
  exact .of_eq hsteps

theorem confined_modelStep : Confined .modelStep s s.modelStep := by
  rcases modelStep_cases s with ⟨x, _, h⟩ | ⟨_, h⟩
  · rw [h]
    exact .silent rfl ((agree_takeStep rfl).trans (.clock s.settings rfl _))
  · rw [h]
    exact .silent rfl (.refl _)

/-! ## Forecasts -/

theorem agree_withForecast (f : Forecast) (hc : c.writesForecast = true) :
    (s.withForecast f).settings.Agree c s.settings := by
  rw [State.withForecast, settings_settled]
  exact .forecast s.settings hc _

theorem agree_retireSlots (hc : c.writesForecast = true) : s.retireSlots.settings.Agree c s.settings := by
  unfold State.retireSlots
  split
  · exact .refl _
  · exact agree_withForecast (s := s.openEvent) _ hc

theorem confined_slotRetirement : Confined .slotRetirement s s.slotRetirement := by
  rcases slotRetirement_cases s with ⟨x, _, h⟩ | ⟨_, h⟩
  · rw [h]
    exact .silent rfl ((agree_retireSlots rfl).trans (.clock s.settings rfl _))
  · rw [h]
    exact .silent rfl (.refl _)

theorem confined_postForecast (b : Bool) (a : ForecastArgs) :
    Confined (.postForecast b a) s (s.postForecast b a) := by
  have hcode : (Instr.postForecast b a).replyCode = if b then none else some 0x30 := by cases b <;> rfl
  unfold State.postForecast
  dsimp only
  split_ifs
  · exact .refusedUnless hcode _ _
  · exact .refusedUnless hcode _ _
  · exact .refusedUnless hcode _ _
  split
  · exact .refusedUnless hcode _ _
  · unfold State.insertForecast
    dsimp only
    split
    · exact .answerUnless hcode _ _ (agree_withForecast (s := s.openEvent) _ rfl)
    · refine .answerUnless hcode _ _ ?_
      split
      · exact .refl _
      · exact agree_withForecast (s := s.openEvent) _ rfl

theorem confined_setYardCodes (c1 c2 c3 c4 : Byte) :
    Confined (.setYardCodes c1 c2 c3 c4) s (s.setYardCodes c1 c2 c3 c4) :=
  .answer rfl _ _ (.forecast s.settings rfl _)

theorem confined_clearForecasts : Confined .clearForecasts s s.clearForecasts :=
  .answer rfl _ _ (agree_withForecast (s := s.openEvent) _ rfl)

/-! ## Masts and wind limits -/

theorem agree_mapMast (n : Nat) (f : Mast → Mast) (hc : c.writesMasts = true) :
    (s.mapMast n f).settings.Agree c s.settings := .masts s.settings hc _

theorem agree_withMasts (masts : Table Mast) (hc : c.writesMasts = true) :
    (s.withMasts masts).settings.Agree c s.settings := .masts s.settings hc _

theorem agree_staleMast (n : Nat) (hc : c.writesMasts = true) : (s.staleMast n).1.settings.Agree c s.settings := by
  rcases staleMast_cases s n with ⟨m, _, _, _, h⟩ | ⟨_, h⟩
  · rw [h]
    exact agree_mapMast _ _ hc
  · rw [h]
    exact .refl _

theorem agree_takeSample (n speed direction rh rain : Nat) (temp : Int) (hc : c.writesMasts = true) :
    (s.takeSample n speed direction rh rain temp).1.settings.Agree c s.settings := by
  unfold State.takeSample
  split
  · exact .refl _
  · dsimp only
    split
    · rw [settings_raiseWind]
      exact agree_mapMast n _ hc
    · exact agree_mapMast n _ hc

theorem confined_mastStaleExpiry (mast : Byte) :
    Confined (.mastStaleExpiry mast) s (settled (s.openEvent.staleMast mast.toNat)) := by
  refine .silent rfl ?_
  rw [settings_settled]
  exact agree_staleMast (s := s.openEvent) _ rfl

theorem settings_reselect (m : Mast) : (s.reselect m).settings = s.settings := by
  unfold State.reselect
  split <;> simp

theorem agree_takeMast (n a stale : Nat) (hc : c.writesMasts = true) :
    (s.takeMast n a stale).settings.Agree c s.settings := by
  unfold State.takeMast
  split
  · split
    · exact .refl _
    · rw [settings_addNode]
      exact agree_withMasts _ hc
  · split_ifs
    · rw [settings_reselect, settings_removeNode]
      exact agree_withMasts _ hc
    · rw [settings_settled]
      exact (agree_staleMast _ hc).trans (agree_mapMast _ _ hc)
    · rw [settings_reselect, settings_addNode, settings_removeNode]
      exact agree_withMasts _ hc

theorem confined_loadMast (mast node : Byte) (stale : Half) :
    Confined (.loadMast mast node stale) s (s.loadMast mast node stale) := by
  unfold State.loadMast
  split_ifs
  · exact .refused rfl _ _
  · exact .refused rfl _ _
  · exact .answer rfl _ _ (agree_takeMast (s := s.openEvent) _ _ _ rfl)

theorem confined_setWindLimits (a : WindLimitArgs) : Confined (.setWindLimits a) s (s.setWindLimits a) := by
  unfold State.setWindLimits
  dsimp only
  split
  · refine .answer rfl _ _ ?_
    rw [settings_settled]
    exact .trans (.masts ({ s with wind := { s.wind with limits := windLimitsOf a } } : State).settings rfl _)
      (.limits s.settings (fun h => h _ rfl) _)
  · exact .refused rfl _ _

/-! ## The settings of the dispatcher, the account, the permit table and the loop -/

theorem confined_setDispatch (lapse maxDose : Half) (floor : Byte) :
    Confined (.setDispatch lapse maxDose floor) s (s.setDispatch lapse maxDose floor) := by
  unfold State.setDispatch
  dsimp only
  split
  · refine .answer rfl _ _ ?_
    rw [settings_occasion, settings_settled]
    exact .dispatch s.settings (fun h => h _ _ _ rfl) _ _ _
  · exact .refused rfl _ _

theorem confined_setAllowance (value : Long) : Confined (.setAllowance value) s (s.setAllowance value) := by
  refine .answer rfl _ _ ?_
  rw [settings_occasion, settings_evalSpent]
  exact .allowance s.settings (fun h => h _ rfl) _

theorem confined_setPermitLimits (prewet : Byte) (stacker reclaimer dozer : Half) :
    Confined (.setPermitLimits prewet stacker reclaimer dozer) s (s.setPermitLimits prewet stacker reclaimer dozer) := by
  unfold State.setPermitLimits
  dsimp only
  split
  · refine .answer rfl _ _ ?_
    rw [settings_settled]
    exact .permits s.settings (fun h => h _ _ _ _ rfl) _ _
  · exact .refused rfl _ _

theorem confined_setLoop (period : Half) : Confined (.setLoop period) s (s.setLoop period) := by
  unfold State.setLoop
  split
  · exact .answer rfl _ _ (.period s.settings (fun h => h _ rfl) _)
  · exact .refused rfl _ _

/-! ## Replies of nodes -/

theorem settings_retank (t t' : Tank) : (s.retank t t').settings = s.settings := by
  unfold State.retank
  dsimp only
  split <;> rfl

theorem settings_takeReading (level turbidity : Nat) (alarm : Bool) :
    (s.takeReading level turbidity alarm).settings = s.settings := by
  unfold State.takeReading
  split
  · rfl
  · rw [settings_evalTransfer, settings_occasion, settings_retank]

theorem settings_debitPond (k : Nat) : (s.debitPond k).settings = s.settings := by
  unfold State.debitPond
  split
  · rfl
  · dsimp only
    split <;> simp

theorem settings_pumpReport (running : Bool) : (s.pumpReport running).settings = s.settings := by
  unfold State.pumpReport
  split <;> split <;> simp

theorem settings_takeTransferReply (running : Bool) (meter : Nat) (rejoined : Bool) :
    (s.takeTransferReply running meter rejoined).settings = s.settings := by
  unfold State.takeTransferReply
  dsimp only
  split <;> simp [settings_pumpReport, settings_debitPond]

theorem settings_takeLitres (h : Header) (k : Nat) : (s.takeLitres h k).settings = s.settings := by
  unfold State.takeLitres
  split
  · rfl
  · rw [settings_evalSpent]
    rfl

theorem settings_routeDelta (n : Nat) (d : Cannon) (k : Nat) : (s.routeDelta n d k).settings = s.settings := by
  have hrouted (u : State) (h : u.settings = s.settings) : (match d.header with
      | some x => u.takeLitres x k
      | none => u).settings = s.settings := by
    split <;> simp [settings_takeLitres, h]
  unfold State.routeDelta
  dsimp only
  refine hrouted _ ?_
  split
  · split <;> simp
  · simp

theorem settings_meterReply (n : Nat) (d : Cannon) (r : NodeReport) (meter : Nat) :
    (s.meterReply n d r meter).settings = s.settings := by
  unfold State.meterReply State.openPass
  dsimp only
  rw [settings_routeDelta, settings_mapCannon]
  split <;> simp

theorem settings_trip (n : Nat) (kind : PassKind) : (s.trip n kind).1.settings = s.settings := by
  unfold State.trip
  split
  · rfl
  · dsimp only
    split <;> simp

theorem settings_placeAim (n : Nat) (d : Cannon) (o : Order) : (s.placeAim n d o).settings = s.settings := by
  unfold State.placeAim
  split <;> simp

theorem settings_cannonSlotEmptied (n : Nat) : (s.cannonSlotEmptied n).settings = s.settings := by
  rcases cannonSlotEmptied_cases s n with ⟨d, o, p, _, _, _, h⟩ | ⟨_, h⟩
  · rw [h, settings_placeAim]
  · rw [h]

theorem settings_examineDose (n : Nat) : (s.examineDose n).settings = s.settings := by
  unfold State.examineDose
  split
  · split
    · split <;> simp
    · rfl
  · rfl

theorem settings_placeOpen (n : Nat) (d : Cannon) : (s.placeOpen n d).settings = s.settings := by
  unfold State.placeOpen
  split <;> simp

theorem settings_actOnReport (n : Nat) (r : NodeReport) (opened : Bool) :
    (s.actOnReport n r opened).1.settings = s.settings := by
  have hidle (d : Cannon) : (s.closedToIdle n d).1.settings = s.settings := by simp [State.closedToIdle]
  have htrip (d : Cannon) : (s.closedAfterTrip n d).1.settings = s.settings := by simp [State.closedAfterTrip]
  have hreset : (s.resetComplete n).settings = s.settings := by simp [State.resetComplete]
  unfold State.actOnReport
  split
  · rfl
  · split
    · rfl
    · split <;> simp [settings_placeOpen]
    · split <;> simp [hidle, settings_examineDose]
    · split <;> simp [hidle]
    · split <;> simp [htrip]
    · split <;> simp [htrip]
    · simp
    · split <;> simp [hreset]

theorem settings_actOnOverload (n : Nat) (r : NodeReport) : (s.actOnOverload n r).1.settings = s.settings := by
  unfold State.actOnOverload
  split
  · rfl
  · split_ifs <;> simp [settings_trip]

theorem settings_takeCannonReply (n : Nat) (r : NodeReport) (meter : Nat) :
    (s.takeCannonReply n r meter).1.settings = s.settings := by
  unfold State.takeCannonReply
  split
  · rfl
  · dsimp only
    rw [settings_actOnOverload, settings_actOnReport, settings_meterReply]

theorem agree_handOn (owner : Owner) (r : NodeReply) (rejoined : Bool) (hc : c.writesMasts = true) :
    (s.handOn owner r rejoined).1.settings.Agree c s.settings := by
  unfold State.handOn
  split
  · exact .of_eq (settings_takeCannonReply _ _ _)
  · exact agree_takeSample _ _ _ _ _ _ hc
  · exact .of_eq (settings_takeReading _ _ _)
  · exact .of_eq (settings_takeTransferReply _ _ _)
  · exact .refl _

theorem settings_emptySlot (a : Nat) (owner : Owner) (sent : Sent) : (s.emptySlot a owner sent).settings = s.settings := by
  unfold State.emptySlot
  split
  · split
    · unfold State.slotEmptied State.transferSlotEmptied
      split
      · rw [settings_cannonSlotEmptied, settings_mapNode]
      · split <;> simp
      · rfl
      · rfl
    · rfl
  · rfl
  · rfl

theorem settings_cannonLost (n : Nat) : (s.cannonLost n).1.settings = s.settings := by
  unfold State.cannonLost
  split
  · rfl
  · split <;> simp

theorem settings_transferLost : s.transferLost.settings = s.settings := by
  unfold State.transferLost
  split <;> simp

theorem settings_ownerLost (o : Owner) : (s.ownerLost o).1.settings = s.settings := by
  cases o with
  | cannon n => exact settings_cannonLost n
  | pond => exact settings_transferLost
  | mast n => rfl
  | tank => rfl

theorem settings_takeMiss (a : Nat) (n : Node) : (s.takeMiss a n).settings = s.settings := by
  unfold State.takeMiss
  split
  · rw [settings_settled, settings_ownerLost, settings_mapNode]
  · rfl

theorem agree_takeReply (a : Nat) (n : Node) (sent : Sent) (r : NodeReply) (hc : c.writesMasts = true) :
    (s.takeReply a n sent r).settings.Agree c s.settings := by
  unfold State.takeReply
  rw [settings_settled]
  exact (agree_handOn _ _ _ hc).trans (.of_eq (settings_emptySlot _ _ _))

theorem settings_endRound : s.endRound.settings = s.settings := by
  have h : s.loop.endRound.period = s.loop.period := by
    unfold Loop.endRound
    split <;> rfl
  simp only [State.endRound, State.settings, h]

theorem confined_validReply (bytes : List Byte) : Confined (.validReply bytes) s (s.openEvent.endExchange bytes) := by
  refine .silent rfl ?_
  unfold State.endExchange
  split
  · split
    · split
      · exact agree_takeReply (s := s.openEvent.withPhase _) _ _ _ _ rfl
      · exact .of_eq (settings_takeMiss (s := s.openEvent.withPhase _) _ _)
    · exact .refl _
  all_goals exact .refl _

theorem confined_miss : Confined .miss s s.openEvent.endSilent := by
  refine .silent rfl (.of_eq ?_)
  unfold State.endSilent
  split
  · split
    · exact settings_takeMiss (s := s.openEvent.withPhase _) _ _
    · rfl
  all_goals rfl

theorem agree_takeCall (a : Nat) (n : Node) (r : NodeReply) (hc : c.writesMasts = true) :
    (s.takeCall a n r).settings.Agree c s.settings := by
  unfold State.takeCall
  dsimp only
  rw [settings_endRound]
  change (settled _).settings.Agree c s.settings
  rw [settings_settled]
  exact agree_handOn (s := s.mapNode a Node.answered) _ _ _ hc

theorem confined_callAnswer (bytes : List Byte) : Confined (.callAnswer bytes) s (s.openEvent.endCall bytes) := by
  refine .silent rfl ?_
  unfold State.endCall
  split
  · split
    · split
      · exact agree_takeCall (s := s.openEvent) _ _ _ rfl
      · exact .of_eq (settings_endRound (s := s.openEvent))
    · exact .of_eq (settings_endRound (s := s.openEvent))
  all_goals exact .refl _

end

end Sys2Proof.Machine
end

section
set_option Elab.async false
/-! PROOFS. The rule over all commands, for those that own no setting, and for every command. -/

namespace Sys2Proof.Machine

section
variable {s : State}

/-! ## Piles -/

theorem confined_openPile (a : OpenPileArgs) : Confined (.openPile a) s (s.openPile a) := by
  unfold State.openPile
  split_ifs
  · exact .refused rfl _ _
  · exact .refused rfl _ _
  split
  · exact .refused rfl _ _
  split
  · exact .refused rfl _ _
  · exact .answer rfl _ _ (.refl s.settings)

theorem confined_amendPile (a : AmendPileArgs) : Confined (.amendPile a) s (s.amendPile a) := by
  unfold State.amendPile
  split
  · exact .refused rfl _ _
  split
  · exact .refused rfl _ _
  split
  · exact .answer rfl _ _ (.of_eq (settings_mapPile _ _))
  split
  · exact .refused rfl _ _
  split
  · exact .answer rfl _ _ (.of_eq (settings_mapPile _ _))
  · exact .answer rfl _ _ (.of_eq (by simp))

theorem confined_readPile (selector : Byte) (value : Half) : Confined (.readPile selector value) s (s.readPile selector value) := by
  unfold State.readPile
  split
  · split <;> exact .refused rfl _ _
  · unfold State.readPileSlot
    split
    · exact .refused rfl _ _
    · split <;> exact .refused rfl _ _
  · exact .refused rfl _ _

theorem confined_rankPiles (band : Byte) : Confined (.rankPiles band) s (s.rankPiles band) := by
  unfold State.rankPiles
  split <;> exact .refused rfl _ _

theorem confined_setMoisture (tag value : Half) : Confined (.setMoisture tag value) s (s.setMoisture tag value) := by
  unfold State.setMoisture
  split
  · exact .refused rfl _ _
  · exact .answer rfl _ _ (.of_eq (by simp))

theorem confined_reportDisturbance (tag : Half) (f : Byte) (mf : Option Half) :
    Confined (.reportDisturbance tag f mf) s (s.reportDisturbance tag f mf) := by
  unfold State.reportDisturbance
  split
  · exact .refused rfl _ _
  · exact .answer rfl _ _ (.of_eq (by simp))

theorem confined_retirePile (tag : Half) : Confined (.retirePile tag) s (s.retirePile tag) := by
  unfold State.retirePile
  split
  · exact .refused rfl _ _
  split_ifs
  · exact .refused rfl _ _
  · exact .refused rfl _ _
  · exact .answer rfl _ _ (.of_eq (by simp))

/-! ## Forecasts and orders -/

theorem confined_readForecast (form : Byte) (key : Long) : Confined (.readForecast form key) s (s.readForecast form key) := by
  unfold State.readForecast
  split
  · split <;> exact .refused rfl _ _
  · split
    · exact .refused rfl _ _
    · split <;> exact .refused rfl _ _
  · exact .refused rfl _ _

theorem confined_placeOrder (a : PlaceOrderArgs) : Confined (.placeOrder a) s (s.placeOrder a) := by
  unfold State.placeOrder
  split_ifs
  · exact .refused rfl _ _
  · exact .refused rfl _ _
  · exact .refused rfl _ _
  · exact .refused rfl _ _
  · exact .answer rfl _ _ (.of_eq (by simp))

theorem confined_suspendOrder (id : Half) : Confined (.suspendOrder id) s (s.suspendOrder id) := by
  unfold State.suspendOrder
  split
  · exact .refused rfl _ _
  split_ifs
  · exact .refused rfl _ _
  · exact .refused rfl _ _
  · exact .answer rfl _ _ (.of_eq (by simp))

theorem confined_resumeOrder (id : Half) : Confined (.resumeOrder id) s (s.resumeOrder id) := by
  unfold State.resumeOrder
  split
  · exact .refused rfl _ _
  split_ifs
  · exact .refused rfl _ _
  · exact .refused rfl _ _
  · exact .answer rfl _ _ (.of_eq (by simp))

theorem confined_cancelOrder (id : Half) : Confined (.cancelOrder id) s (s.cancelOrder id) := by
  unfold State.cancelOrder
  split
  · exact .refused rfl _ _
  split_ifs
  · exact .refused rfl _ _
  · exact .answer rfl _ _ (.of_eq (by simp))

theorem confined_volley (b : Bool) (code : Byte) : Confined (.volley b code) s (s.fireVolley b code) := by
  refine .answerUnless (by cases b <;> rfl) _ _ (.of_eq ?_)
  unfold State.releaseVolley
  dsimp only
  split <;> rfl

theorem confined_readOrder (selector : Byte) (value : Half) : Confined (.readOrder selector value) s (s.readOrder selector value) := by
  unfold State.readOrder
  split
  · unfold State.readOrderById
    split
    · exact .refused rfl _ _
    · refine .answer rfl _ _ (.of_eq ?_)
      split <;> rfl
  · unfold State.readOrderAt
    split
    · exact .refused rfl _ _
    · split <;> exact .refused rfl _ _
  · exact .refused rfl _ _

theorem settings_bindPass (o : Order) (h : Header) (n : Nat) (d : Cannon) :
    (s.bindPass o h n d).settings = s.settings := by
  unfold State.bindPass
  rw [settings_evalSpent, settings_placeAim, settings_mapCannon, settings_mapOrder]

theorem settings_consider (o : Order) : (s.consider o).settings = s.settings := by
  rcases consider_cases s o with ⟨h, n, d, _, hx⟩ | ⟨_, _, _, hx⟩ | ⟨_, _, hx⟩
  · rw [hx, settings_bindPass]
  · rw [hx, settings_hand, settings_mapOrder]
  · rw [hx]

theorem settings_arbitrate : s.arbitrate.settings = s.settings :=
  settings_foldl State.consider (fun _ _ => settings_consider _) s.ranked s

theorem confined_arbitration : Confined .arbitration s s.arbitrateDue := by
  unfold State.arbitrateDue
  split
  · exact .silent rfl (.refl _)
  · exact .silent rfl (.of_eq settings_arbitrate)

theorem confined_orderLapse (id : Half) : Confined (.orderLapse id) s (settled (s.openEvent.lapseOrder id.toNat)) :=
  .silent rfl (.of_eq (by simp))

/-! ## Cannons -/

theorem settings_takeLoading (n : Nat) (k : CannonConfig) : (s.takeLoading n k).settings = s.settings := by
  unfold State.takeLoading
  split
  · simp
  · split <;> simp

theorem settings_takeUnloading (n : Nat) : (s.takeUnloading n).settings = s.settings := by
  unfold State.takeUnloading
  split
  · rfl
  · dsimp only
    split
    · rw [settings_hand, settings_removeNode]
      rfl
    · rw [settings_removeNode]
      rfl

theorem confined_loadCannon (number node : Byte) (a : CannonArgs) :
    Confined (.loadCannon number node a) s (s.loadCannon number node a) := by
  unfold State.loadCannon
  split_ifs
  · exact .refused rfl _ _
  · unfold State.unloadCannon
    split
    · exact .refused rfl _ _
    · exact .answer rfl _ _ (.of_eq (settings_takeUnloading _))
  · split <;> exact .refused rfl _ _
  · split
    · exact .refused rfl _ _
    split
    · exact .refused rfl _ _
    · exact .answer rfl _ _ (.of_eq (settings_takeLoading _ _))

theorem confined_slewTimeout (n : Byte) : Confined (.slewTimeout n) s (settled (s.openEvent.slewExpiry n.toNat)) := by
  refine .silent rfl (.of_eq ?_)
  rw [settings_settled]
  unfold State.slewExpiry
  split
  · split <;> simp [settings_trip]
  · rfl

theorem confined_blankingTimerExpiry (n : Byte) :
    Confined (.blankingTimerExpiry n) s (settled (s.openEvent.blankingExpiry n.toNat)) := by
  refine .silent rfl (.of_eq ?_)
  rw [settings_settled]
  unfold State.blankingExpiry
  split
  · split <;> simp [settings_trip]
  · rfl

theorem confined_closeWaitExpiry (n : Byte) :
    Confined (.closeWaitExpiry n) s (settled (s.openEvent.closeWaitExpiry n.toNat)) := by
  refine .silent rfl (.of_eq ?_)
  rw [settings_settled]
  unfold State.closeWaitExpiry
  split
  · split <;> simp
  · rfl

theorem confined_retryDelayEnd (n : Byte) : Confined (.retryDelayEnd n) s (s.retryEnd n.toNat) := by
  refine .silent rfl (.of_eq ?_)
  unfold State.retryEnd
  split
  · split <;> simp
  · rfl

theorem confined_resetCannon (n : Byte) : Confined (.resetCannon n) s (s.resetCannon n) := by
  unfold State.resetCannon
  split
  · exact .refused rfl _ _
  split
  · exact .refused rfl _ _
  · refine .answer rfl _ _ (.of_eq ?_)
    rw [settings_settled]
    unfold State.cannonReset
    dsimp only
    split <;> simp

theorem confined_readCannon (n : Byte) : Confined (.readCannon n) s (s.readCannon n) := by
  unfold State.readCannon
  split <;> exact .refused rfl _ _

/-! ## Water -/

theorem settings_staleGauge : s.staleGauge.settings = s.settings := by
  unfold State.staleGauge
  split
  · rfl
  · split <;> simp

theorem settings_takeTank (k : TankConfig) : (s.takeTank k).settings = s.settings := by
  unfold State.takeTank
  split
  · simp
  · split <;> simp [settings_staleGauge, settings_retank]

theorem settings_unloadTank : s.unloadTank.settings = s.settings := by
  unfold State.unloadTank
  split <;> simp

theorem confined_loadBasinTank (node : Byte) (a : TankArgs) :
    Confined (.loadBasinTank node a) s (s.loadBasinTank node a) := by
  unfold State.loadBasinTank
  split_ifs
  · exact .refused rfl _ _
  · exact .answer rfl _ _ (.of_eq settings_unloadTank)
  · exact .refused rfl _ _
  · exact .refused rfl _ _
  · exact .answer rfl _ _ (.of_eq (settings_takeTank _))

theorem settings_renode (old new : Option Nat) : (s.renode old new).settings = s.settings := by
  unfold State.renode
  cases old <;> cases new <;> simp

theorem settings_takePond (a : PondArgs) : (s.takePond a).settings = s.settings := by
  unfold State.takePond
  dsimp only
  split <;> simp [settings_renode]

theorem confined_loadBasinPond (a : PondArgs) : Confined (.loadBasinPond a) s (s.loadBasinPond a) := by
  unfold State.loadBasinPond
  split_ifs
  · exact .refused rfl _ _
  · exact .refused rfl _ _
  · exact .answer rfl _ _ (.of_eq (settings_takePond _))

theorem confined_reportInflow (litres : Long) : Confined (.reportInflow litres) s (s.reportInflow litres) := by
  refine .answer rfl _ _ (.of_eq ?_)
  split <;> simp

theorem confined_setPond (volume : Long) (clearSpill : Bool) :
    Confined (.setPond volume clearSpill) s (s.setPond volume clearSpill) :=
  .answer rfl _ _ (.of_eq (by simp))

theorem confined_startWaitExpiry : Confined .startWaitExpiry s s.startWaitExpiry := by
  refine .silent rfl (.of_eq ?_)
  unfold State.startWaitExpiry
  split <;> simp

theorem confined_holdOffEnd : Confined .holdOffEnd s s.holdOffEnd := by
  refine .silent rfl (.of_eq ?_)
  unfold State.holdOffEnd
  split <;> simp

/-! ## Permits and the loop -/

theorem settings_acceptPermit (machine tag : Nat) (kind : PermitKind) (p : Pile) :
    (s.acceptPermit machine tag kind p).1.settings = s.settings := by
  unfold State.acceptPermit
  dsimp only
  split <;> rfl

theorem confined_requestPermit (machine kind : Byte) (tag : Half) :
    Confined (.requestPermit machine kind tag) s (s.requestPermit machine kind tag) := by
  unfold State.requestPermit
  split
  · exact .refused rfl _ _
  split
  · exact .refused rfl _ _
  dsimp only
  split
  · exact .refused rfl _ _
  · exact .answer rfl _ _ (.of_eq (by rw [settings_settle, settings_acceptPermit, settings_openEvent]))

theorem confined_releasePermit (a : ReleaseArgs) : Confined (.releasePermit a) s (s.releasePermit a) := by
  unfold State.releasePermit
  split
  · exact .refused rfl _ _
  split
  · exact .refused rfl _ _
  split_ifs
  · exact .refused rfl _ _
  · refine .answer rfl _ _ (.of_eq ?_)
    unfold State.releaseGranted
    dsimp only
    rw [settings_settle]
    split
    · unfold State.markEmptied
      split <;> simp
    · rfl
  · exact .answer rfl _ _ (.of_eq (by simp))

theorem confined_readPermit (form key : Byte) : Confined (.readPermit form key) s (s.readPermit form key) := by
  unfold State.readPermit
  split
  · unfold State.readPermitOf
    split <;> exact .refused rfl _ _
  · unfold State.readPermitAt
    split
    · exact .refused rfl _ _
    · split <;> exact .refused rfl _ _
  · exact .refused rfl _ _

theorem confined_roundStart : Confined .roundStart s s.timerStart := by
  refine .silent rfl (.of_eq ?_)
  unfold State.timerStart
  split <;> rfl

theorem confined_roundOverrun : Confined .roundOverrun s s.timerOverrun := by
  refine .silent rfl (.of_eq ?_)
  unfold State.timerOverrun
  split
  · split <;> rfl
  · rfl
  · rfl

theorem confined_message : Confined .message s s.sendMessage := by
  refine .silent rfl (.of_eq ?_)
  unfold State.sendMessage
  split
  · split <;> rfl
  all_goals rfl

theorem confined_call : Confined .call s s.sendCall := by
  refine .silent rfl (.of_eq ?_)
  unfold State.sendCall
  split <;> rfl

theorem confined_callSlotTimeout : Confined .callSlotTimeout s s.endCallSilent := by
  refine .silent rfl (.of_eq ?_)
  unfold State.endCallSilent
  split
  · exact settings_endRound
  all_goals rfl

theorem confined_readLoop (node : Option Byte) : Confined (.readLoop node) s (s.readLoop node) := by
  unfold State.readLoop
  split
  · exact .refused rfl _ _
  split
  · exact .refused rfl _ _
  · split <;> exact .refused rfl _ _

/-! ## The port -/

theorem confined_fetchReply (n : Nat) : Confined (.fetchReply n) s (s.fetchReply n) :=
  ⟨rfl, nofun, fun _ => ⟨fun _ h => absurd rfl (h n), fun _ => rfl, fun _ => rfl, fun _ => rfl, fun _ => rfl,
    fun _ => rfl, fun _ => rfl, fun _ => rfl, fun _ => ⟨rfl, rfl, rfl⟩, fun _ => rfl, fun _ => ⟨rfl, rfl⟩, fun _ => rfl⟩⟩

theorem confined_readChanges (category : Byte) : Confined (.readChanges category) s (s.readChanges category) := by
  unfold State.readChanges
  split
  · exact .refused rfl _ _
  · refine .answer rfl _ _ (.of_eq ?_)
    rename_i x _
    cases x <;> rfl

/-- A whole-part reset keeps the queue; the rule says no more of it. -/
theorem confined_powerOn {c : Instr} (pins : BitVec 4) (hc : c.replyCode = none) (hsweep : c.sweeping = true) :
    Confined c s (s.powerOn pins) := by
  refine ⟨rfl, fun code h => ?_, fun h => ?_⟩
  · rw [hc] at h
    cases h
  · rw [hsweep] at h
    cases h

end

/-- Every command but a transaction to be judged completes within the rule. -/
theorem confined_exec (c : Instr) (s : State) (h : ∀ p r b, c ≠ .badFrame p r b) :
    ∃ t, exec c s = .next t ∧ Confined c s t := by
  cases c with
  | powerOnReset pins => exact ⟨_, rfl, confined_powerOn pins rfl rfl⟩
  | badFrame p r b => exact absurd rfl (h p r b)
  | fetchReply n => exact ⟨_, rfl, confined_fetchReply n⟩
  | readIdent => exact ⟨_, rfl, .refused rfl _ _⟩
  | readNotices => exact ⟨_, rfl, .answer rfl _ _ (.refl s.settings)⟩
  | readChanges x => exact ⟨_, rfl, confined_readChanges x⟩
  | setMask b => exact ⟨_, rfl, confined_setMask b⟩
  | setClock b m => exact ⟨_, rfl, confined_setClock b m⟩
  | readClock => exact ⟨_, rfl, .refused rfl _ _⟩
  | resetYard pins => exact ⟨_, rfl, confined_powerOn pins rfl rfl⟩
  | loadGrade n a => exact ⟨_, rfl, confined_loadGrade n a⟩
  | openPile a => exact ⟨_, rfl, confined_openPile a⟩
  | amendPile a => exact ⟨_, rfl, confined_amendPile a⟩
  | readPile x v => exact ⟨_, rfl, confined_readPile x v⟩
  | rankPiles b => exact ⟨_, rfl, confined_rankPiles b⟩
  | setMoisture t v => exact ⟨_, rfl, confined_setMoisture t v⟩
  | reportDisturbance t f m => exact ⟨_, rfl, confined_reportDisturbance t f m⟩
  | retirePile t => exact ⟨_, rfl, confined_retirePile t⟩
  | setLead v => exact ⟨_, rfl, confined_setLead v⟩
  | setBands b1 b2 b3 => exact ⟨_, rfl, confined_setBands b1 b2 b3⟩
  | readModel => exact ⟨_, rfl, .refused rfl _ _⟩
  | modelStep => exact ⟨_, rfl, confined_modelStep⟩
  | loadMast m n l => exact ⟨_, rfl, confined_loadMast m n l⟩
  | mastStaleExpiry m => exact ⟨_, rfl, confined_mastStaleExpiry m⟩
  | setWindLimits a => exact ⟨_, rfl, confined_setWindLimits a⟩
  | readWind => exact ⟨_, rfl, .refused rfl _ _⟩
  | postForecast b a => exact ⟨_, rfl, confined_postForecast b a⟩
  | slotRetirement => exact ⟨_, rfl, confined_slotRetirement⟩
  | setYardCodes c1 c2 c3 c4 => exact ⟨_, rfl, confined_setYardCodes c1 c2 c3 c4⟩
  | readForecast f k => exact ⟨_, rfl, confined_readForecast f k⟩
  | clearForecasts => exact ⟨_, rfl, confined_clearForecasts⟩
  | placeOrder a => exact ⟨_, rfl, confined_placeOrder a⟩
  | suspendOrder i => exact ⟨_, rfl, confined_suspendOrder i⟩
  | resumeOrder i => exact ⟨_, rfl, confined_resumeOrder i⟩
  | cancelOrder i => exact ⟨_, rfl, confined_cancelOrder i⟩
  | volley b x => exact ⟨_, rfl, confined_volley b x⟩
  | readOrder x v => exact ⟨_, rfl, confined_readOrder x v⟩
  | setDispatch l d f => exact ⟨_, rfl, confined_setDispatch l d f⟩
  | readDispatch => exact ⟨_, rfl, .refused rfl _ _⟩
  | arbitration => exact ⟨_, rfl, confined_arbitration⟩
  | orderLapse i => exact ⟨_, rfl, confined_orderLapse i⟩
  | loadCannon n d a => exact ⟨_, rfl, confined_loadCannon n d a⟩
  | slewTimeout n => exact ⟨_, rfl, confined_slewTimeout n⟩
  | blankingTimerExpiry n => exact ⟨_, rfl, confined_blankingTimerExpiry n⟩
  | closeWaitExpiry n => exact ⟨_, rfl, confined_closeWaitExpiry n⟩
  | retryDelayEnd n => exact ⟨_, rfl, confined_retryDelayEnd n⟩
  | tripCountDecay n => exact ⟨_, rfl, .silent rfl (.of_eq (settings_mapCannon _ _))⟩
  | resetCannon n => exact ⟨_, rfl, confined_resetCannon n⟩
  | readCannon n => exact ⟨_, rfl, confined_readCannon n⟩
  | loadBasinTank n a => exact ⟨_, rfl, confined_loadBasinTank n a⟩
  | loadBasinPond a => exact ⟨_, rfl, confined_loadBasinPond a⟩
  | gaugeStaleExpiry => exact ⟨_, rfl, .silent rfl (.of_eq settings_staleGauge)⟩
  | setAllowance v => exact ⟨_, rfl, confined_setAllowance v⟩
  | dayRollover => exact ⟨_, rfl, .silent rfl (.of_eq settings_rollOver)⟩
  | reportInflow l => exact ⟨_, rfl, confined_reportInflow l⟩
  | setPond v x => exact ⟨_, rfl, confined_setPond v x⟩
  | startWaitExpiry => exact ⟨_, rfl, confined_startWaitExpiry⟩
  | holdOffEnd => exact ⟨_, rfl, confined_holdOffEnd⟩
  | readWater => exact ⟨_, rfl, .refused rfl _ _⟩
  | requestPermit m k t => exact ⟨_, rfl, confined_requestPermit m k t⟩
  | prewetWaitExpiry m => exact ⟨_, rfl, .silent rfl (.of_eq (by simp))⟩
  | maxHoldLapse m => exact ⟨_, rfl, .silent rfl (.of_eq (by simp))⟩
  | releasePermit a => exact ⟨_, rfl, confined_releasePermit a⟩
  | setPermitLimits p x y z => exact ⟨_, rfl, confined_setPermitLimits p x y z⟩
  | readPermit f k => exact ⟨_, rfl, confined_readPermit f k⟩
  | roundStart => exact ⟨_, rfl, confined_roundStart⟩
  | roundOverrun => exact ⟨_, rfl, confined_roundOverrun⟩
  | message => exact ⟨_, rfl, confined_message⟩
  | validReply b => exact ⟨_, rfl, confined_validReply b⟩
  | miss => exact ⟨_, rfl, confined_miss⟩
  | call => exact ⟨_, rfl, confined_call⟩
  | callAnswer b => exact ⟨_, rfl, confined_callAnswer b⟩
  | callSlotTimeout => exact ⟨_, rfl, confined_callSlotTimeout⟩
  | setLoop p => exact ⟨_, rfl, confined_setLoop p⟩
  | readLoop n => exact ⟨_, rfl, confined_readLoop n⟩
  | yardMinuteChange => exact ⟨_, rfl, confined_minuteRise rfl rfl rfl⟩
  | secondsCountRise => exact ⟨_, rfl, confined_secondRise⟩

/-! ## A transaction to be judged -/

theorem carriedOut_of_frameLayout {b : Bool} {pins : BitVec 4} {bytes : List Byte} {i : Instr}
    (h : frameLayout b pins bytes = .command i) : CarriedOut i := by
  unfold frameLayout at h
  dsimp only at h
  split at h
  · cases h
  · exact carriedOut_of_decodePayload h

/-- What a transaction comes to is carried out by the row of its command. -/
theorem carriedOut_of_decodeFrame {own : Nat} {pins : BitVec 4} {resetLow : Bool} {bytes : List Byte} {i : Instr}
    (h : decodeFrame own pins resetLow bytes = .command i) : CarriedOut i := by
  unfold decodeFrame at h
  dsimp only at h
  split_ifs at h with h1 h2 h3 h4 h5 h6
  · cases hl : frameLayout true pins bytes with
    | command j =>
      rw [hl] at h
      cases h
      exact carriedOut_of_frameLayout hl
    | unlisted => rw [hl] at h; cases h
    | bad => rw [hl] at h; cases h
  · cases h
    exact fun _ => rfl
  · cases hl : frameLayout false pins bytes with
    | command j =>
      rw [hl] at h
      cases h
      exact carriedOut_of_frameLayout hl
    | unlisted => rw [hl] at h; cases h
    | bad => rw [hl] at h; cases h

theorem pending_hostCommand {i : Instr} {s : State} (hi : CarriedOut i) : (s.hostCommand i).pending = s.pending := by
  by_cases hframe : ∃ p r b, i = .badFrame p r b
  · obtain ⟨p, r, b, rfl⟩ := hframe
    rfl
  · obtain ⟨t, ht, hpending, _⟩ := confined_exec i s fun p r b h => hframe ⟨p, r, b, h⟩
    rw [hi s] at ht
    cases ht
    exact hpending

/-- Judging a transaction leaves the queue. -/
theorem pending_judge (s : State) (pins : BitVec 4) (resetLow : Bool) (bytes : List Byte) :
    (s.judge pins resetLow bytes).pending = s.pending := by
  cases h : decodeFrame s.port.address pins resetLow bytes with
  | ignored => rw [judge_of_ignored h]
  | bad code => rw [judge_of_bad h]; rfl
  | unlisted code => rw [judge_of_unlisted h]; rfl
  | command i => rw [judge_of_command h, pending_hostCommand (carriedOut_of_decodeFrame h)]

/-- Settles O60: command by command through the record of the settings; a judged transaction by what it comes to. -/
theorem commandsKeepWhatTheyDoNotOwn : Obligations.CommandsKeepWhatTheyDoNotOwn := by
  unfold Obligations.CommandsKeepWhatTheyDoNotOwn
  intro c s
  by_cases hframe : ∃ p r b, c = .badFrame p r b
  · obtain ⟨p, r, b, rfl⟩ := hframe
    exact ⟨_, rfl, pending_judge s p r b, nofun, nofun⟩
  · exact confined_exec c s fun p r b h => hframe ⟨p, r, b, h⟩

end Sys2Proof.Machine
end

section
set_option Elab.async false
/-! PROOFS. What the tellings of an event leave of the piles: those that bring no litres and blend nothing change a pile's
record in its life alone. -/

namespace Sys2Proof.Machine

variable {s : State}

/-! ## Operations that leave the piles -/

@[simp] theorem piles_evalSpent : s.evalSpent.piles = s.piles := by
  rw [evalSpent_eq]

@[simp] theorem piles_mapBoundPass (c : Cannon) (f : Pass → Pass) : (s.mapBoundPass c f).piles = s.piles := by
  unfold State.mapBoundPass
  split <;> simp

@[simp] theorem piles_placeClose (n : Nat) : (s.placeClose n).piles = s.piles := by
  unfold State.placeClose
  split <;> simp

@[simp] theorem piles_releaseHeader (n : Nat) : (s.releaseHeader n).piles = s.piles := by
  rcases releaseHeader_cases s n with ⟨c, _, _, h⟩ | ⟨_, h⟩ <;> rw [h]
  rfl

@[simp] theorem piles_toIdle (n : Nat) : (s.toIdle n).piles = s.piles := rfl

@[simp] theorem piles_rampDown (n : Nat) : (s.rampDown n).piles = s.piles := by
  unfold State.rampDown
  split <;> simp

@[simp] theorem piles_closeDown (n : Nat) : (s.closeDown n).1.piles = s.piles := by
  unfold State.closeDown
  split
  · rfl
  · split
    case h_1 => dsimp only; split <;> simp
    case h_2 => simp
    all_goals rfl

@[simp] theorem piles_closePass (o : Order) : (s.closePass o).1.piles = s.piles := by
  rcases closePass_cases s o with ⟨_, h⟩ | ⟨p, _, _, h⟩ <;> rw [h]
  exact piles_closeDown _

@[simp] theorem piles_closePassOf (i : Nat) : (s.closePassOf i).1.piles = s.piles := by
  unfold State.closePassOf
  split <;> simp

@[simp] theorem piles_addReason (i : Nat) (r : Reason) : (s.addReason i r).1.piles = s.piles := by
  rcases addReason_cases s i r with ⟨_, h⟩ | ⟨o, _, _, _, h⟩ <;> rw [h]
  simp

@[simp] theorem piles_endOrder (i : Nat) (x : OrderOutcome) : (s.endOrder i x).1.piles = s.piles := rfl

@[simp] theorem piles_cancel (i : Nat) : (s.cancel i).1.piles = s.piles := by
  unfold State.cancel
  split
  · rfl
  · split
    case h_4 => split <;> simp
    all_goals rfl

@[simp] theorem piles_lapseOrder (i : Nat) : (s.lapseOrder i).1.piles = s.piles := by
  unfold State.lapseOrder
  split
  · split <;> rfl
  · rfl

@[simp] theorem piles_dropReason (i : Nat) (r : Reason) : (s.dropReason i r).piles = s.piles := by
  unfold State.dropReason
  split
  · rfl
  · dsimp only
    split
    · split <;> rfl
    · rfl

@[simp] theorem piles_dropHold : s.dropHold.piles = s.piles := by
  unfold State.dropHold
  dsimp only
  split <;> rfl

@[simp] theorem piles_selectWeather : s.selectWeather.1.piles = s.piles := by
  unfold State.selectWeather
  dsimp only
  split <;> rfl

@[simp] theorem piles_evalHolds : s.evalHolds.1.piles = s.piles := by
  unfold State.evalHolds
  dsimp only
  split_ifs <;> simp

@[simp] theorem piles_passNext (i : Nat) (k : PassKind) : (s.passNext i k).1.piles = s.piles := by
  unfold State.passNext
  split
  · rfl
  · dsimp only
    split <;> simp

@[simp] theorem piles_handPermit (q : Option Nat) (m : Nat) : (s.handPermit q m).piles = s.piles := by
  unfold State.handPermit
  split <;> simp

/-- A fold of steps none of which changes a pile. -/
theorem foldl_piles {β : Type} (f : State → β → State) (h : ∀ s b, (f s b).piles = s.piles) (l : List β) (s : State) :
    (l.foldl f s).piles = s.piles := by
  induction l generalizing s with
  | nil => rfl
  | cons b l ih => rw [List.foldl_cons, ih, h]

@[simp] theorem piles_askGrant (q : Option Nat) (tag : Nat) : (s.askGrant q tag).piles = s.piles := by
  unfold State.askGrant
  split
  · rfl
  · exact foldl_piles _ (fun s (x : Permit) => piles_handPermit q x.machine) _ _

@[simp] theorem piles_passTold (q : Option Nat) (tag : Nat) : (s.passTold q tag).1.piles = s.piles := by
  unfold State.passTold
  dsimp only
  split
  · split <;> simp
  · simp

@[simp] theorem piles_endOpenPrewet (tag : Nat) : (s.endOpenPrewet tag).1.piles = s.piles := by
  unfold State.endOpenPrewet
  split
  · split <;> rfl
  · rfl

@[simp] theorem piles_enterClearing (tag : Nat) : (s.enterClearing tag).1.piles = s.piles := rfl

@[simp] theorem piles_tellPile (q : Option Nat) (tag : Nat) : (s.tellPile q tag).1.piles = s.piles := by
  unfold State.tellPile
  split
  · rfl
  · dsimp only
    split
    · simp only [piles_enterClearing, piles_endOpenPrewet]
      exact foldl_piles _ (fun s (x : Permit) => piles_handPermit q x.machine) _ _
    · rfl

@[simp] theorem piles_accept (r : OrderRequest) : (s.accept r).1.piles = s.piles := by
  unfold State.accept
  dsimp only
  cases s.evicted <;> dsimp only <;> split <;> rfl

@[simp] theorem piles_askPrewet (tag : Nat) (only : Option Nat) : (s.askPrewet tag only).1.piles = s.piles := by
  rcases askPrewet_cases s tag only with ⟨_, h⟩ | ⟨o, _, h⟩ | ⟨_, _, h⟩ | ⟨slot, p, g, a, _, _, _, _, ha, h⟩ <;> rw [h]
  · rfl
  · rw [ha]
    exact piles_accept _

@[simp] theorem piles_prewetEnded (i : Nat) (x : OrderOutcome) : (s.prewetEnded i x).1.piles = s.piles := by
  unfold State.prewetEnded
  dsimp only
  split <;> rfl

@[simp] theorem piles_endPermit (q : Option Nat) (m : Nat) (x : PermitOutcome) (w : Bool) :
    (s.endPermit q m x w).1.piles = s.piles := by
  unfold State.endPermit
  split <;> simp

@[simp] theorem piles_liftZone (tag : Nat) : (s.liftZone tag).piles = s.piles := by
  unfold State.liftZone
  split
  · rfl
  · split
    · exact foldl_piles _ (fun s (o : Order) => piles_dropReason o.id .zone) _ _
    · rfl

@[simp] theorem piles_expirePrewet (m : Nat) : (s.expirePrewet m).1.piles = s.piles := by
  unfold State.expirePrewet
  split
  · split <;> rfl
  · rfl

@[simp] theorem piles_rollOver : s.rollOver.piles = s.piles := by
  unfold State.rollOver
  split <;> simp

@[simp] theorem piles_orderEnded (i : Nat) : (s.orderEnded i).1.piles = s.piles := by
  unfold State.orderEnded
  split <;> simp

/-! ## Piles that stand -/

/-- Every pile that is left has its record but for its life, and where no pile is about to leave, all stand as they were. -/
structure PilesStand (s t : State) : Prop where
  records : ∀ k q, Table.get t.piles k = some q → ∃ p, Table.get s.piles k = some p
    ∧ q = { p with life := q.life, retirePending := q.retirePending }
  calm : (∀ e ∈ s.piles, e.2.life = .live ∧ e.2.retirePending = false) → t.piles = s.piles

namespace PilesStand

theorem of_eq {s t : State} (h : t.piles = s.piles) : PilesStand s t :=
  ⟨fun _ q hq => ⟨q, h ▸ hq, rfl⟩, fun _ => h⟩

theorem trans {s t u : State} (h1 : PilesStand s t) (h2 : PilesStand t u) : PilesStand s u where
  records := fun k q hq => by
    obtain ⟨r, hr, hqr⟩ := h2.records k q hq
    obtain ⟨p, hp, hrp⟩ := h1.records k r hr
    refine ⟨p, hp, ?_⟩
    rw [hrp] at hqr
    exact hqr
  calm := fun h => (h2.calm (h1.calm h ▸ h)).trans (h1.calm h)

theorem checkRetire (s : State) (tag : Nat) : PilesStand s (s.checkRetire tag).1 := by
  unfold State.checkRetire
  split
  · exact of_eq rfl
  · rename_i slot p hp
    split
    · rename_i hret
      refine ⟨fun k q hq => ?_, fun h => ?_⟩
      · simp only [State.hand_piles, State.mapPile_piles] at hq
        by_cases hk : k = slot
        · subst hk
          rw [Table.get_update_self] at hq
          obtain ⟨r, hr, rfl⟩ := Option.map_eq_some_iff.1 hq
          exact ⟨r, hr, rfl⟩
        · rw [Table.get_update_of_ne _ _ hk] at hq
          exact ⟨q, hq, rfl⟩
      · have := (h _ (State.pileAt_mem hp).1).2
        rw [hret.2.1] at this
        cases this
    · exact of_eq rfl

theorem checkFree (s : State) (tag : Nat) : PilesStand s (s.checkFree tag) := by
  unfold State.checkFree
  split
  · exact of_eq rfl
  · rename_i slot p hp
    split
    · rename_i hret
      refine ⟨fun k q hq => ?_, fun h => ?_⟩
      · simp only [State.hand_piles] at hq
        by_cases hk : k = slot
        · subst hk
          rw [Table.get_erase_self] at hq
          cases hq
        · rw [Table.get_erase_of_ne _ hk] at hq
          exact ⟨q, hq, rfl⟩
      · have := (h _ (State.pileAt_mem hp).1).1
        rw [hret.1] at this
        cases this
    · exact of_eq rfl

end PilesStand

/-! ## Dry tellings -/

/-- A telling that brings no litres to a pile and blends none. -/
def Task.dry : Task → Bool
  | .passEnd _ _ vm => vm == 0
  | .blendPile _ _ _ => false
  | .lapsePermit _ => false
  | .permitMinute => false
  | _ => true

/-- Tellings all of which are dry. -/
def Dry (ts : List Task) : Prop := ∀ t ∈ ts, t.dry = true

namespace Dry

theorem nil : Dry [] := nofun

theorem cons {t : Task} {ts : List Task} (h : t.dry = true) (hs : Dry ts) : Dry (t :: ts) :=
  List.forall_mem_cons.2 ⟨h, hs⟩

theorem append {l m : List Task} (hl : Dry l) (hm : Dry m) : Dry (l ++ m) :=
  List.forall_mem_append.2 ⟨hl, hm⟩

theorem map {α : Type} {f : α → Task} (h : ∀ x, (f x).dry = true) (l : List α) : Dry (l.map f) := by
  intro t ht
  obtain ⟨x, _, rfl⟩ := List.mem_map.1 ht
  exact h x

theorem passEndTasks (c : Cannon) (kind : PassKind) : Dry (c.passEndTasks kind 0) := by
  unfold Cannon.passEndTasks
  split
  · exact cons rfl nil
  · exact nil

theorem closeDown (s : State) (n : Nat) : Dry (s.closeDown n).2 := by
  unfold State.closeDown
  split
  · exact nil
  · split
    case h_1 => dsimp only; split <;> exact passEndTasks _ _
    all_goals exact nil

theorem closePass (s : State) (o : Order) : Dry (s.closePass o).2 := by
  rcases closePass_cases s o with ⟨_, h⟩ | ⟨p, _, _, h⟩ <;> rw [h]
  · exact nil
  · exact closeDown _ _

theorem accept (s : State) (r : OrderRequest) : Dry (s.accept r).2.2.2 := by
  rw [accept_eq]
  dsimp only
  split
  · exact cons rfl nil
  · exact nil

theorem endOpenPrewet (s : State) (tag : Nat) : Dry (s.endOpenPrewet tag).2 := by
  unfold State.endOpenPrewet
  split
  · split
    · exact cons rfl nil
    · exact nil
  · exact nil

theorem enterClearing (s : State) (tag : Nat) : Dry (s.enterClearing tag).2 :=
  append (map (fun _ => rfl) _) (cons rfl nil)

end Dry

/-- A dry telling leaves the piles standing and brings about dry tellings alone. -/
theorem doTask_dry (q : Option Nat) (t : Task) (s : State) (h : t.dry = true) :
    PilesStand s (doTask q t s).1 ∧ Dry (doTask q t s).2 := by
  cases t with
  | passEnd i k v =>
    have hv : v = 0 := by simpa [Task.dry] using h
    subst hv
    simp only [doTask, State.passEnd]
    split
    · exact ⟨.of_eq rfl, .nil⟩
    · simp only [applyGain_zero]
      exact ⟨.of_eq rfl, .cons rfl .nil⟩
  | blendPile tag f m => cases h
  | lapsePermit m => cases h
  | permitMinute => cases h
  | checkRetire tag =>
    refine ⟨.checkRetire s tag, ?_⟩
    simp only [doTask, State.checkRetire]
    split
    · exact .nil
    · split
      · exact .append (.map (fun _ => rfl) _) (.cons rfl .nil)
      · exact .nil
  | checkFree tag => exact ⟨.checkFree s tag, .nil⟩
  | addReason i r =>
    refine ⟨.of_eq (piles_addReason i r), ?_⟩
    simp only [doTask]
    rcases addReason_cases s i r with ⟨_, h⟩ | ⟨o, _, _, _, h⟩ <;> rw [h]
    · exact .nil
    · exact .closePass _ _
  | cancel i =>
    refine ⟨.of_eq (piles_cancel i), ?_⟩
    simp only [doTask, State.cancel]
    split
    · exact .nil
    · split
      case h_4 =>
        split
        · exact .nil
        · exact .closePass _ _
      case h_3 => exact .nil
      all_goals exact .cons rfl .nil
  | passNext i k =>
    refine ⟨.of_eq (piles_passNext i k), ?_⟩
    simp only [doTask, State.passNext]
    split
    · exact .nil
    · split
      · exact .cons rfl (.cons rfl .nil)
      · exact .cons rfl .nil
  | passTold tag =>
    refine ⟨.of_eq (piles_passTold q tag), ?_⟩
    simp only [doTask, State.passTold]
    split
    · split
      · exact .cons rfl .nil
      · exact .nil
    · exact .nil
  | orderEnded i =>
    refine ⟨.of_eq (piles_orderEnded i), ?_⟩
    simp only [doTask, State.orderEnded]
    split
    · exact .nil
    · refine .cons rfl ?_
      split
      · exact .cons rfl .nil
      · exact .nil
  | prewetEnded i x =>
    refine ⟨.of_eq (piles_prewetEnded i x), ?_⟩
    simp only [doTask, State.prewetEnded]
    cases x with
    | withdrawn => exact .nil
    | _ => exact .map (fun _ => rfl) _
  | askPrewet tag only =>
    refine ⟨.of_eq (piles_askPrewet tag only), ?_⟩
    simp only [doTask]
    rcases askPrewet_cases s tag only with ⟨_, h⟩ | ⟨o, _, h⟩ | ⟨_, _, h⟩ | ⟨slot, p, g, a, _, _, _, _, ha, h⟩ <;> rw [h]
    · exact .nil
    · exact .nil
    · exact .nil
    · rw [ha]
      exact .accept _ _
  | retryPrewets => exact ⟨.of_eq rfl, .map (fun _ => rfl) _⟩
  | tellPile tag =>
    refine ⟨.of_eq (piles_tellPile q tag), ?_⟩
    simp only [doTask, State.tellPile]
    split
    · exact .nil
    · split
      · exact .append (.endOpenPrewet _ _) (.enterClearing _ _)
      · exact .nil
  | closePass i =>
    refine ⟨.of_eq (piles_closePassOf i), ?_⟩
    simp only [doTask, State.closePassOf]
    split
    · exact .closePass _ _
    · exact .nil
  | askGrant tag => exact ⟨.of_eq (piles_askGrant q tag), .nil⟩
  | endPermit m x w =>
    refine ⟨.of_eq (piles_endPermit q m x w), ?_⟩
    simp only [doTask, State.endPermit]
    split
    · exact .nil
    · refine .append (.append (.map (fun _ => rfl) _) (.cons rfl .nil)) ?_
      split
      · exact .nil
      · exact .cons rfl .nil
  | liftZone tag => exact ⟨.of_eq (piles_liftZone tag), .nil⟩
  | lapseOrder i =>
    refine ⟨.of_eq (piles_lapseOrder i), ?_⟩
    simp only [doTask, State.lapseOrder]
    split
    · split
      · exact .cons rfl .nil
      · exact .nil
    · exact .nil
  | lapseOrders => exact ⟨.of_eq rfl, .map (fun _ => rfl) _⟩
  | expirePrewet m =>
    refine ⟨.of_eq (piles_expirePrewet m), ?_⟩
    simp only [doTask, State.expirePrewet]
    split
    · split
      · exact .cons rfl .nil
      · exact .nil
    · exact .nil
  | selectWeather =>
    refine ⟨.of_eq piles_selectWeather, ?_⟩
    simp only [doTask, State.selectWeather]
    split
    · exact .nil
    · exact .cons rfl .nil
  | evalHolds =>
    refine ⟨.of_eq piles_evalHolds, ?_⟩
    simp only [doTask, State.evalHolds]
    split
    · exact .nil
    · split
      · exact .map (fun _ => rfl) _
      · exact .nil
  | decayTrips => exact ⟨.of_eq rfl, .nil⟩
  | rollOver => exact ⟨.of_eq piles_rollOver, .nil⟩

theorem runTasks_dry (q : Option Nat) (fuel : Nat) (ts : List Task) (s : State) (h : Dry ts) :
    PilesStand s (runTasks q fuel ts s) := by
  induction fuel generalizing ts s with
  | zero => exact .of_eq rfl
  | succ n ih =>
    cases ts with
    | nil => exact .of_eq rfl
    | cons t ts =>
      obtain ⟨ht, hts⟩ := List.forall_mem_cons.1 h
      obtain ⟨hstand, hnew⟩ := doTask_dry q t s ht
      exact hstand.trans (ih _ _ (hnew.append hts))

/-- An event of dry tellings leaves the piles standing. -/
theorem settled_dry (s : State) (ts : List Task) (h : Dry ts) : PilesStand s (settled (s, ts)) :=
  runTasks_dry none _ ts s h

end Sys2Proof.Machine
end

section
set_option Elab.async false
/-! PROOFS. The commands that write a pile's record or its grade: LOAD-GRADE, AMEND-PILE, SET-MOISTURE and REPORT-DISTURBANCE
(R7, R8, R11, R12, R15, R16). -/

namespace Sys2Proof.Machine

/-- A tag map that finds a pile finds its record in its slot, changed by what keeps the tag, after a write to the slot. -/
theorem pileAt_mapPile {s : State} {tag slot : Nat} {p : Pile} {f : Pile → Pile}
    (h : s.pileAt? tag = some (slot, p)) (hf : ∀ q, (f q).tag = q.tag) :
    (s.mapPile slot f).pileAt? tag = some (slot, f p) := by
  rw [State.pileAt?, State.mapPile, Table.update_eq_map, List.find?_map]
  have hcomp : ((fun e : Nat × Pile => e.2.tag == tag) ∘ fun e : Nat × Pile => (e.1, if e.1 = slot then f e.2 else e.2))
      = fun e => e.2.tag == tag := by
    funext e
    dsimp only [Function.comp]
    split
    · rw [hf]
    · rfl
  rw [hcomp, show s.piles.find? (fun e => e.2.tag == tag) = some (slot, p) from h]
  simp

/-- A write to a pile's slot whose outcome depends on the pile that stands there alone. -/
theorem Table.update_congr {α : Type} {t : Table α} {k : Nat} {v : α} {f g : α → α} (hw : Table.wf t = true)
    (hv : Table.get t k = some v) (h : f v = g v) : Table.update t k f = Table.update t k g := by
  refine List.map_congr_left fun e he => ?_
  split
  · rename_i hk
    have : e.2 = v := by
      have := Table.get_of_mem hw he
      rw [hk, hv] at this
      exact (Option.some.inj this).symm
    rw [this, h]
  · rfl

/-- The records of the piles after a write to one slot and an event of dry tellings. -/
theorem PilesStand.after_mapPile {s u : State} {slot : Nat} {f : Pile → Pile} (h : PilesStand (s.mapPile slot f) u)
    (hlife : ∀ p, (f p).life = p.life ∧ (f p).retirePending = p.retirePending) :
    (∀ k q, Table.get u.piles k = some q → ∃ r, Table.get s.piles k = some r
        ∧ q = { (if k = slot then f r else r) with life := q.life, retirePending := q.retirePending })
      ∧ ((∀ e ∈ s.piles, e.2.life = .live ∧ e.2.retirePending = false) → u.piles = Table.update s.piles slot f) := by
  refine ⟨fun k q hq => ?_, fun hcalm => h.calm fun e he => ?_⟩
  · obtain ⟨p, hp, hqp⟩ := h.records k q hq
    rw [State.mapPile_piles] at hp
    by_cases hk : k = slot
    · subst hk
      rw [Table.get_update_self] at hp
      obtain ⟨r, hr, rfl⟩ := Option.map_eq_some_iff.1 hp
      exact ⟨r, hr, by rw [if_pos rfl]; exact hqp⟩
    · rw [Table.get_update_of_ne _ _ hk] at hp
      exact ⟨p, hp, by rw [if_neg hk]; exact hqp⟩
  · rw [State.mapPile_piles, Table.update_eq_map] at he
    obtain ⟨d, hd, rfl⟩ := List.mem_map.1 he
    dsimp only
    split
    · rw [(hlife _).1, (hlife _).2]
      exact hcalm d hd
    · exact hcalm d hd

/-- The telling of a pile is dry. -/
theorem dry_tellPile (tag : Nat) : Dry [.tellPile tag] := .cons rfl .nil

/-- Where no permit waits the telling of piles does nothing (R148). -/
theorem settled_tellPiles_quiet {s : State} {ts : List Task} (hts : ∀ t ∈ ts, ∃ tag, t = .tellPile tag)
    (h : ∀ x ∈ s.permits.list, x.state ≠ .pendingWet) : settled (s, ts) = s :=
  settled_quiet ts s fun t ht => by
    obtain ⟨tag, rfl⟩ := hts t ht
    exact tellPile_quiet s none tag h

/-! ## SET-MOISTURE (R15) -/

theorem exec_setMoisture (tag value : Half) (s : State) : exec (.setMoisture tag value) s = .next (s.setMoisture tag value) :=
  rfl

theorem setMoisture_of_unknown {tag value : Half} {s : State} (h : s.pileAt? tag.toNat = none) :
    s.setMoisture tag value = s.answer Code.setMoisture .unknown [] := by
  simp [State.setMoisture, h]

/-- A pile as SET-MOISTURE writes it. -/
def Pile.toldMoisture (p : Pile) (m : Nat) : Pile := { p with m := m, residue := 0, estimated := false }

theorem setMoisture_of_known {tag value : Half} {s : State} {slot : Nat} {p : Pile} {g : Grade}
    (h : s.pileAt? tag.toNat = some (slot, p)) (hg : Table.get s.grades p.grade = some g) :
    s.setMoisture tag value =
      (settled (s.openEvent.mapPile slot fun q => q.toldMoisture (min value.toNat (min 4000 g.msat)),
        [.tellPile tag.toNat])).answer Code.setMoisture .ok (be16 (min value.toNat (min 4000 g.msat))) := by
  have hmsat : s.msatOf p = g.msat := by simp [State.msatOf, State.gradeOf?, hg]
  simp only [State.setMoisture, h, hmsat]
  rfl

/-- Settles O18: the write, then the telling of the pile, which is dry and quiet where no permit waits. -/
theorem setMoistureWritesTheRecord : Obligations.SetMoistureWritesTheRecord := by
  unfold Obligations.SetMoistureWritesTheRecord
  intro tag value s
  simp only [exec_setMoisture]
  refine ⟨fun hnone => ?unknown, fun slot p g hp hg => ?known⟩
  case unknown => rw [setMoisture_of_unknown hnone, State.answer_eq]
  case known =>
    rw [setMoisture_of_known hp hg]
    generalize hm : min value.toNat (min 4000 g.msat) = m
    have hskel := settled_skeleton (s.openEvent.mapPile slot fun q => q.toldMoisture m, [.tellPile tag.toNat])
    obtain ⟨hrecords, hcalm⟩ := (settled_dry (s.openEvent.mapPile slot fun q => q.toldMoisture m) _
      (dry_tellPile tag.toNat)).after_mapPile fun _ => ⟨rfl, rfl⟩
    refine ⟨_, rfl, ?_, (skeleton_clock hskel :), (skeleton_grades hskel :), (skeleton_model hskel :),
      (skeleton_forecast hskel :), (skeleton_phase hskel :), (skeleton_pending hskel :), hrecords, hcalm, fun hquiet => ?_⟩
    · rw [State.answer_eq]
      simp only [State.replied, skeleton_port hskel]
      rfl
    · rw [settled_tellPiles_quiet (by simp) (by exact hquiet)]
      rfl

/-! ## REPORT-DISTURBANCE (R16, R40) -/

/-- A pile with another surface moisture. -/
def Pile.withM (p : Pile) (m : Nat) : Pile := { p with m := m }

theorem exec_reportDisturbance (tag : Half) (f : Byte) (mf : Option Half) (s : State) :
    exec (.reportDisturbance tag f mf) s = .next (s.reportDisturbance tag f mf) := rfl

theorem reportDisturbance_of_unknown {tag : Half} {f : Byte} {mf : Option Half} {s : State}
    (h : s.pileAt? tag.toNat = none) :
    s.reportDisturbance tag f mf = s.answer Code.reportDisturbance .unknown [] := by
  simp [State.reportDisturbance, h]

/-- The blend on a pile that is found by its tag and whose grade is loaded. -/
theorem blendPile_of_known {s : State} {tag slot f : Nat} {mf : Option Nat} {p : Pile} {g : Grade}
    (h : s.pileAt? tag = some (slot, p)) (hg : Table.get s.grades p.grade = some g) :
    s.blendPile tag f mf = s.mapPile slot fun q => blend g f mf q := by
  simp [State.blendPile, h, State.gradeOf?, hg]

/-- The blend writes the moisture alone, and that of the pile that stands in the slot. -/
theorem mapPile_blend {s : State} {slot f : Nat} {mf : Option Nat} {p : Pile} {g : Grade} (hw : Table.wf s.piles = true)
    (hp : Table.get s.piles slot = some p) :
    s.mapPile slot (fun q => blend g f mf q) = s.mapPile slot fun q => q.withM (blend g f mf p).m := by
  rw [State.mapPile, State.mapPile, Table.update_congr hw hp]
  rfl

theorem reportDisturbance_of_known {tag : Half} {f : Byte} {mf : Option Half} {s : State} {slot : Nat} {p : Pile}
    {g : Grade} (h : s.pileAt? tag.toNat = some (slot, p)) (hg : Table.get s.grades p.grade = some g)
    (hw : Table.wf s.piles = true) (m : Nat) (hm : m = (blend g f.toNat (mf.map (·.toNat)) p).m) :
    s.reportDisturbance tag f mf =
      (settled (s.openEvent.mapPile slot fun q => q.withM m, [.tellPile tag.toNat])).answer
        Code.reportDisturbance .ok (be16 m) := by
  subst hm
  have hblend : s.openEvent.blendPile tag.toNat f.toNat (mf.map (·.toNat))
      = s.openEvent.mapPile slot fun q => q.withM (blend g f.toNat (mf.map (·.toNat)) p).m :=
    (blendPile_of_known (s := s.openEvent) h hg).trans
      (mapPile_blend (s := s.openEvent) hw (State.pileAt_get (s := s.openEvent) hw h))
  have hmoist : (s.openEvent.mapPile slot fun q => q.withM (blend g f.toNat (mf.map (·.toNat)) p).m).moistureAt
      tag.toNat = (blend g f.toNat (mf.map (·.toNat)) p).m := by
    rw [State.moistureAt, pileAt_mapPile (s := s.openEvent)
      (f := fun q => q.withM (blend g f.toNat (mf.map (·.toNat)) p).m) h fun _ => rfl]
    rfl
  simp only [State.reportDisturbance, h, hblend, hmoist]

/-- Settles O20, as SET-MOISTURE's: the blend, then the telling of the pile. -/
theorem disturbanceBlendsTheSurface : Obligations.DisturbanceBlendsTheSurface := by
  unfold Obligations.DisturbanceBlendsTheSurface
  intro tag f mf s
  simp only [exec_reportDisturbance]
  refine ⟨fun hnone => ?unknown, fun slot p g hp hg hw => ?known⟩
  case unknown => rw [reportDisturbance_of_unknown hnone, State.answer_eq]
  case known =>
    rw [reportDisturbance_of_known hp hg hw _ rfl]
    generalize hm : (blend g f.toNat (mf.map (·.toNat)) p).m = m
    have hskel := settled_skeleton (s.openEvent.mapPile slot fun q => q.withM m, [.tellPile tag.toNat])
    obtain ⟨hrecords, hcalm⟩ := (settled_dry (s.openEvent.mapPile slot fun q => q.withM m) _
      (dry_tellPile tag.toNat)).after_mapPile fun _ => ⟨rfl, rfl⟩
    refine ⟨_, m, rfl, hm.symm, ?_, fun k q hq => ?_, hcalm, fun hquiet => ?_⟩
    · rw [State.answer_eq]
      simp only [State.replied, skeleton_port hskel]
      rfl
    · obtain ⟨r, hr, hqr⟩ := hrecords k q hq
      refine ⟨r, hr, ?_⟩
      by_cases hk : k = slot
      · simpa [hk, Pile.withM] using hqr
      · simpa [hk] using hqr
    · rw [settled_tellPiles_quiet (by simp) (by exact hquiet)]
      rfl

/-! ## AMEND-PILE (R11, R12) -/

theorem exec_amendPile (a : AmendPileArgs) (s : State) : exec (.amendPile a) s = .next (s.amendPile a) := rfl

/-- The second check of AMEND-PILE fails on a present field that is out of range. -/
theorem amendPileArgsOk_eq_false_iff (a : AmendPileArgs) : amendPileArgsOk a = false ↔
    (∃ n, a.grade = some n ∧ 15 < n.toNat) ∨ a.area = some 0 ∨ ∃ x, a.mcore = some x ∧ 4000 < x.toNat := by
  simp only [amendPileArgsOk, Config.grades, Config.maxMoisture, Bool.and_eq_false_iff, Option.all_eq_false, or_assoc,
    decide_eq_false_iff_not, Nat.not_lt, Nat.not_le, bne_eq_false_iff_eq]
  simp [Nat.succ_le_iff]

section
variable {a : AmendPileArgs} {s : State} {slot : Nat} {p : Pile}

theorem amendPile_of_unknown (h : s.pileAt? a.tag.toNat = none) :
    s.amendPile a = s.answer Code.amendPile .unknown [] := by
  simp [State.amendPile, h]

theorem amendPile_of_badArgs (h : s.pileAt? a.tag.toNat = some (slot, p)) (hargs : amendPileArgsOk a = false) :
    s.amendPile a = s.answer Code.amendPile .badArgument [] := by
  simp [State.amendPile, h, hargs]

theorem amendPile_of_noGrade (h : s.pileAt? a.tag.toNat = some (slot, p)) (hargs : amendPileArgsOk a = true)
    (hgrade : a.grade = none) :
    s.amendPile a = (s.mapPile slot fun q => q.amended a).answer Code.amendPile .ok [] := by
  simp [State.amendPile, h, hargs, hgrade]

theorem amendPile_of_unknownGrade {n : Byte} (h : s.pileAt? a.tag.toNat = some (slot, p)) (hargs : amendPileArgsOk a = true)
    (hgrade : a.grade = some n) (hnone : Table.get s.grades n.toNat = none) :
    s.amendPile a = s.answer Code.amendPile .unknownGrade [] := by
  simp [State.amendPile, h, hargs, hgrade, hnone]

theorem amendPile_of_sameGrade {n : Byte} (h : s.pileAt? a.tag.toNat = some (slot, p)) (hargs : amendPileArgsOk a = true)
    (hgrade : a.grade = some n) (hloaded : (Table.get s.grades n.toNat).isSome = true) (hsame : n.toNat = p.grade) :
    s.amendPile a = (s.mapPile slot fun q => q.amended a).answer Code.amendPile .ok [] := by
  obtain ⟨g, hg⟩ := Option.isSome_iff_exists.1 hloaded
  simp only [State.amendPile, h, hargs, hgrade, hg, if_pos hsame]
  rfl

theorem amendPile_of_newGrade {n : Byte} {g : Grade} (h : s.pileAt? a.tag.toNat = some (slot, p))
    (hargs : amendPileArgsOk a = true) (hgrade : a.grade = some n) (hg : Table.get s.grades n.toNat = some g)
    (hnew : n.toNat ≠ p.grade) :
    s.amendPile a = (settled (s.openEvent.mapPile slot fun q => (q.amended a).regraded n.toNat g,
      [.tellPile a.tag.toNat])).answer Code.amendPile .ok [] := by
  simp [State.amendPile, h, hargs, hgrade, hg, hnew]

end

/-- Settles O16: the checks in their order, each branch by its own equation; a new grade as SET-MOISTURE's write. -/
theorem amendPileWritesPresentFields : Obligations.AmendPileWritesPresentFields := by
  unfold Obligations.AmendPileWritesPresentFields
  intro a s
  simp only [exec_amendPile]
  refine ⟨fun hnone => ?unknown, fun slot p hp => ⟨fun hbad => ?badArgument, fun hgrade harea hcore => ?good⟩⟩
  case unknown => rw [amendPile_of_unknown hnone, State.answer_eq]
  case badArgument => rw [amendPile_of_badArgs hp ((amendPileArgsOk_eq_false_iff a).2 hbad), State.answer_eq]
  case good =>
    have hargs : amendPileArgsOk a = true := by
      rw [← Bool.not_eq_false, amendPileArgsOk_eq_false_iff]
      rintro (⟨n, hn, h⟩ | h | ⟨x, hx, h⟩)
      · exact absurd (hgrade n hn) (by omega)
      · exact harea h
      · exact absurd (hcore x hx) (by omega)
    refine ⟨fun n hn hnone => ?unknownGrade, fun hsame => ?same, fun n g amended hn hg hnew hamended => ?new⟩
    case unknownGrade => rw [amendPile_of_unknownGrade hp hargs hn hnone, State.answer_eq]
    case same =>
      have heq : s.amendPile a = (s.mapPile slot fun q => q.amended a).answer Code.amendPile .ok [] := by
        rcases hsame with hnone | ⟨n, hn, hsame, hloaded⟩
        · exact amendPile_of_noGrade hp hargs hnone
        · exact amendPile_of_sameGrade hp hargs hn hloaded hsame
      rw [heq]
      rfl
    case new =>
      have hf : (fun q : Pile => (q.amended a).regraded n.toNat g) = amended := by
        funext q
        rw [hamended q]
        rfl
      rw [amendPile_of_newGrade hp hargs hn hg hnew, hf]
      have hskel := settled_skeleton (s.openEvent.mapPile slot amended, [.tellPile a.tag.toNat])
      obtain ⟨hrecords, hcalm⟩ := (settled_dry (s.openEvent.mapPile slot amended) _
        (dry_tellPile a.tag.toNat)).after_mapPile fun q => by rw [hamended q]; exact ⟨rfl, rfl⟩
      refine ⟨_, rfl, ?_, hrecords, hcalm, fun hquiet => ?_⟩
      · rw [State.answer_eq]
        simp only [State.replied, skeleton_port hskel]
        rfl
      · rw [settled_tellPiles_quiet (by simp) (by exact hquiet)]
        rfl

/-! ## LOAD-GRADE (R7, R8) -/

theorem exec_loadGrade (number : Byte) (a : GradeArgs) (s : State) :
    exec (.loadGrade number a) s = .next (s.loadGrade number a) := rfl

/-- The check of LOAD-GRADE passes on a record in range and consistent. -/
theorem gradeArgsOk_iff (number : Byte) (a : GradeArgs) : gradeArgsOk number a = true ↔
    number.toNat ≤ 15 ∧ 1 ≤ a.msat.toNat ∧ a.msat.toNat ≤ 4000 ∧ a.kg ≠ 0 ∧ a.gk ≠ 0 ∧ a.dg ≠ 0
      ∧ a.mt.toNat ≤ a.msat.toNat ∧ a.mwork.toNat ≤ a.msat.toNat ∧ a.margin.toNat ≤ 1000 ∧ a.fdef.toNat ≤ 100 := by
  simp only [gradeArgsOk, within, Config.grades, Config.maxMoisture, Bool.and_eq_true, decide_eq_true_eq, bne_iff_ne,
    and_assoc, Nat.lt_succ_iff]

section
variable {number : Byte} {a : GradeArgs} {s : State}

theorem loadGrade_of_refused (h : gradeArgsOk number a = false) :
    s.loadGrade number a = s.answer Code.loadGrade .badArgument [] := by
  simp [State.loadGrade, h]

/-- The grade written and its piles clamped, before the piles are told of. -/
def State.graded (s : State) (number : Nat) (g : Grade) : State :=
  { s with
    grades := Table.set s.grades number g
    piles := s.piles.map fun e => if e.2.grade = number then (e.1, { e.2 with m := min e.2.m g.msat }) else e }

theorem loadGrade_of_taken (h : gradeArgsOk number a = true) :
    s.loadGrade number a = (settled (s.openEvent.graded number.toNat (gradeOf a),
      (s.openEvent.graded number.toNat (gradeOf a)).gradeTold number.toNat)).answer Code.loadGrade .ok [] := by
  simp only [State.loadGrade, h, if_true]
  rfl

theorem tellPiles_gradeTold (n : Nat) : ∀ t ∈ s.gradeTold n, ∃ tag, t = .tellPile tag := by
  intro t ht
  obtain ⟨e, _, rfl⟩ := List.mem_map.1 ht
  exact ⟨_, rfl⟩

theorem get_graded_piles (n : Nat) (g : Grade) (k : Nat) :
    Table.get (s.graded n g).piles k
      = (Table.get s.piles k).map fun p => { p with m := if p.grade = n then min p.m g.msat else p.m } := by
  have hmap : (s.graded n g).piles
      = s.piles.map fun e => (e.1, { e.2 with m := if e.2.grade = n then min e.2.m g.msat else e.2.m }) := by
    refine List.map_congr_left fun e _ => ?_
    split <;> rfl
  rw [hmap]
  exact Table.get_map s.piles (fun p => { p with m := if p.grade = n then min p.m g.msat else p.m }) k

end

/-- Settles O14: the entry and the clamp, then the tellings of the piles, which are dry and quiet where no permit waits. -/
theorem loadGradeWritesAndClamps : Obligations.LoadGradeWritesAndClamps := by
  unfold Obligations.LoadGradeWritesAndClamps
  intro number a s
  simp only [exec_loadGrade]
  refine ⟨fun hbad => ?refused, fun h1 h2 h3 h4 h5 h6 h7 h8 h9 h10 => ?taken⟩
  case refused =>
    have hno : gradeArgsOk number a = false := by
      rw [← Bool.not_eq_true, gradeArgsOk_iff]
      rintro ⟨h1, h2, h3, h4, h5, h6, h7, h8, h9, h10⟩
      rcases hbad with h | h | h | h | h | h | h | h | h | h
      · omega
      · omega
      · omega
      · exact h4 h
      · exact h5 h
      · exact h6 h
      all_goals omega
    rw [loadGrade_of_refused hno, State.answer_eq]
  case taken =>
    rw [loadGrade_of_taken ((gradeArgsOk_iff number a).2 ⟨h1, h2, h3, h4, h5, h6, h7, h8, h9, h10⟩)]
    generalize hu : s.openEvent.graded number.toNat (gradeOf a) = u
    have htold := tellPiles_gradeTold (s := u) number.toNat
    have hskel := settled_skeleton (u, u.gradeTold number.toNat)
    have hstand := settled_dry u (u.gradeTold number.toNat) (.map (fun _ => rfl) _)
    have hgrades := skeleton_grades hskel
    refine ⟨_, rfl, ?_, fun n hn => ?_, ?_, ?_, ?_, ?_, ?_, ?_, ?_, fun k q hq => ?_, fun hcalm => ?_, fun hquiet => ?_⟩
    · rw [State.answer_grades, hgrades, ← hu]
      exact Table.get_set_self _ _ _
    · rw [State.answer_grades, hgrades, ← hu]
      exact Table.get_set_of_ne _ _ hn
    · rw [State.answer_eq]
      simp only [State.replied, skeleton_port hskel]
      rw [← hu]
      rfl
    · exact (skeleton_clock hskel).trans (by rw [← hu]; rfl)
    · exact (skeleton_model hskel).trans (by rw [← hu]; rfl)
    · exact (skeleton_forecast hskel).trans (by rw [← hu]; rfl)
    · exact (skeleton_tank hskel).trans (by rw [← hu]; rfl)
    · exact (skeleton_phase hskel).trans (by rw [← hu]; rfl)
    · exact (skeleton_pending hskel).trans (by rw [← hu]; rfl)
    · obtain ⟨p, hp, hqp⟩ := hstand.records k q hq
      rw [← hu, get_graded_piles] at hp
      obtain ⟨r, hr, rfl⟩ := Option.map_eq_some_iff.1 hp
      exact ⟨r, hr, hqp⟩
    · have hpiles : u.piles = s.piles.map fun e =>
          if e.2.grade = number.toNat then (e.1, { e.2 with m := min e.2.m a.msat.toNat }) else e := by
        rw [← hu]
        rfl
      refine (hstand.calm fun e he => ?_).trans hpiles
      rw [hpiles] at he
      obtain ⟨d, hd, rfl⟩ := List.mem_map.1 he
      split <;> exact hcalm d hd
    · rw [settled_tellPiles_quiet htold (by rw [← hu]; exact hquiet), ← hu]
      rfl

end Sys2Proof.Machine
end

section
set_option Elab.async false
/-! PROOFS. Keys handed one after another; SET-LEAD and SET-BANDS (R41, R42); READ-PILE and RANK-PILES (R13, R14). -/

namespace Sys2Proof.Machine

/-! ## Several keys handed to one set (R179) -/

/-- Keys joined to a set one after another. -/
def insertKeys (l ks : List Nat) : List Nat := ks.foldl insertKey l

theorem mem_insertKeys {l ks : List Nat} {j : Nat} : j ∈ insertKeys l ks ↔ j ∈ l ∨ j ∈ ks := by
  induction ks generalizing l with
  | nil => simp [insertKeys]
  | cons k ks ih =>
    rw [insertKeys, List.foldl_cons, ← insertKeys, ih, mem_insertKey_iff, List.mem_cons]
    tauto

theorem insertKey_isEmpty (l : List Nat) (k : Nat) : (insertKey l k).isEmpty = false := by
  cases l with
  | nil => rfl
  | cons a t =>
    rw [insertKey]
    split_ifs <;> rfl

/-- Keys handed to a change set one after another. -/
def Notices.handAll (n : Notices) (c : ChangeSet) (ks : List Nat) : Notices := ks.foldl (fun n k => n.hand c k) n

theorem Notices.handAll_cons (n : Notices) (c : ChangeSet) (k : Nat) (ks : List Nat) :
    n.handAll c (k :: ks) = (n.hand c k).handAll c ks := rfl

theorem Notices.handAll_pile (n : Notices) (ks : List Nat) : n.handAll .pile ks = { n with
    piles := insertKeys n.piles ks
    flags := { n.flags with pile := n.flags.pile || (n.piles.isEmpty && !ks.isEmpty) } } := by
  induction ks generalizing n with
  | nil => simp [handAll, insertKeys]
  | cons k ks ih =>
    rw [handAll_cons, ih]
    simp [Notices.hand, insertKeys, insertKey_isEmpty]

theorem Notices.handAll_order (n : Notices) (ks : List Nat) : n.handAll .order ks = { n with
    orders := insertKeys n.orders ks
    flags := { n.flags with order := n.flags.order || (n.orders.isEmpty && !ks.isEmpty) } } := by
  induction ks generalizing n with
  | nil => simp [handAll, insertKeys]
  | cons k ks ih =>
    rw [handAll_cons, ih]
    simp [Notices.hand, insertKeys, insertKey_isEmpty]

theorem Notices.handAll_permit (n : Notices) (ks : List Nat) : n.handAll .permit ks = { n with
    permits := insertKeys n.permits ks
    flags := { n.flags with permit := n.flags.permit || (n.permits.isEmpty && !ks.isEmpty) } } := by
  induction ks generalizing n with
  | nil => simp [handAll, insertKeys]
  | cons k ks ih =>
    rw [handAll_cons, ih]
    simp [Notices.hand, insertKeys, insertKey_isEmpty]

/-- Keys handed one by one write the notices alone. -/
theorem foldl_hand (s : State) (c : ChangeSet) (ks : List Nat) :
    ks.foldl (fun s k => s.hand c k) s = { s with notices := s.notices.handAll c ks } := by
  induction ks generalizing s with
  | nil => rfl
  | cons k ks ih =>
    rw [List.foldl_cons, ih]
    rfl

/-! ## SET-LEAD and SET-BANDS (R41, R42) -/

theorem bandsOk_iff (b1 b2 b3 : Byte) :
    bandsOk b1 b2 b3 = true ↔ 1 ≤ b1.toNat ∧ b1.toNat < b2.toNat ∧ b2.toNat < b3.toNat := by
  simp only [bandsOk, Bool.and_eq_true, decide_eq_true_eq, and_assoc]

theorem setBands_of_refused {b1 b2 b3 : Byte} {s : State} (h : bandsOk b1 b2 b3 = false) :
    s.setBands b1 b2 b3 = s.answer Code.setBands .badArgument [] := by
  simp [State.setBands, h]

/-- The model's record with the three limits written. -/
def Model.withBands (l : Model) (b1 b2 b3 : Byte) : Model := { l with b1 := b1.toNat, b2 := b2.toNat, b3 := b3.toNat }

theorem setBands_of_taken {b1 b2 b3 : Byte} {s : State} (h : bandsOk b1 b2 b3 = true) :
    s.setBands b1 b2 b3 = ({ s with
        notices := s.notices.handAll .pile (bandMoves (s.model.withBands b1 b2 b3) s.piles)
        model := s.model.withBands b1 b2 b3
        piles := s.piles.map fun e => (e.1, stageBand (s.model.withBands b1 b2 b3) e.2) } : State).answer Code.setBands .ok
      (be8 (bandMoves (s.model.withBands b1 b2 b3) s.piles).length) := by
  simp only [State.setBands, h, if_true, foldl_hand]
  rfl

/-- Settles O22: the slots of the piles whose band moves are handed one after another. -/
theorem leadAndBandsAreSet : Obligations.LeadAndBandsAreSet := by
  unfold Obligations.LeadAndBandsAreSet
  refine fun s => ⟨fun value => rfl, fun b1 b2 b3 => ⟨fun hbad => ?refused, fun h1 h2 h3 => ?taken⟩⟩
  case refused =>
    have hno : bandsOk b1 b2 b3 = false := by rwa [← Bool.not_eq_true, bandsOk_iff]
    rw [show exec (.setBands b1 b2 b3) s = .next (s.setBands b1 b2 b3) from rfl, setBands_of_refused hno]
    rfl
  case taken =>
    refine ⟨s.setBands b1 b2 b3, bandOf (s.model.withBands b1 b2 b3), rfl, fun r => rfl, ?_⟩
    rw [setBands_of_taken ((bandsOk_iff b1 b2 b3).2 ⟨h1, h2, h3⟩), Notices.handAll_pile]
    refine ⟨rfl, fun k => ?_, ?_⟩
    · simp only [State.answer_eq, mem_insertKeys]
      refine or_congr_right ⟨fun hk => ?_, fun ⟨p, hp, hne⟩ => ?_⟩
      · obtain ⟨e, he, rfl⟩ := List.mem_map.1 hk
        obtain ⟨he, hne⟩ := List.mem_filter.1 he
        exact ⟨e.2, he, by simpa using hne⟩
      · exact List.mem_map.2 ⟨(k, p), List.mem_filter.2 ⟨hp, by simpa using hne⟩, rfl⟩
    · rw [State.answer_eq, bandMoves, List.length_map, ← List.countP_eq_length_filter]
      rfl

/-! ## Flag bytes (R187) -/

theorem testBit_bitsToNat (bs : List Bool) (i : Nat) : (bitsToNat bs).testBit i = bs.getD i false := by
  induction bs generalizing i with
  | nil => simp [bitsToNat]
  | cons b bs ih =>
    rw [bitsToNat, Nat.add_comm]
    cases i with
    | zero =>
      cases b
      · simp
      · simp
    | succ i =>
      rw [Nat.testBit_succ, List.getD_cons_succ, ← ih]
      congr 1
      cases b
      · simp
      · simp
        omega

/-- A flag byte holds its flags, bit 0 first. -/
theorem getLsbD_flagByte (bs : List Bool) (i : Nat) (h : i < 8) : (flagByte bs).getLsbD i = bs.getD i false := by
  rw [flagByte, BitVec.getLsbD_ofNat, testBit_bitsToNat, decide_eq_true h, Bool.true_and]

/-! ## READ-PILE (R13) -/

theorem toNat_be32 {n : Nat} (h : n < 4294967296) :
    ((BitVec.ofNat 8 (n / 65536 / 256) ++ BitVec.ofNat 8 (n / 65536))
      ++ (BitVec.ofNat 8 (n / 256) ++ BitVec.ofNat 8 n)).toNat = n := by
  rw [be16_joined, be16_joined, BitVec.toNat_append, BitVec.toNat_ofNat, BitVec.toNat_ofNat,
    ← Nat.shiftLeft_add_eq_or_of_lt (by omega), Nat.shiftLeft_eq]
  omega

theorem toNat_bandCode (b : Band) : (BitVec.ofNat 8 b.code).toNat = b.code := by cases b <;> rfl

theorem toNat_lifeCode (l : PileLife) : (BitVec.ofNat 8 l.code).toNat = if l = .live then 1 else 2 := by
  cases l <;> rfl

/-- The 34 bytes of READ-PILE, one by one. -/
theorem pileBytes_eq (s : State) (slot : Nat) (p : Pile) : s.pileBytes slot p =
    [BitVec.ofNat 8 slot, BitVec.ofNat 8 p.life.code, BitVec.ofNat 8 (p.tag / 256), BitVec.ofNat 8 p.tag,
      BitVec.ofNat 8 p.grade, BitVec.ofNat 8 (p.area / 256), BitVec.ofNat 8 p.area, p.profile.x0, p.profile.x1,
      p.profile.x2, p.profile.x3, p.profile.x4, p.profile.x5, p.profile.x6, p.profile.x7, BitVec.ofNat 8 (p.m / 256),
      BitVec.ofNat 8 p.m, BitVec.ofNat 8 (p.residue / 256), BitVec.ofNat 8 p.residue, BitVec.ofNat 8 (p.mcore / 256),
      BitVec.ofNat 8 p.mcore, BitVec.ofNat 8 (p.lastWp / 256), BitVec.ofNat 8 p.lastWp,
      BitVec.ofNat 8 (p.lastWgp / 256), BitVec.ofNat 8 p.lastWgp, BitVec.ofNat 8 p.risk, BitVec.ofNat 8 p.band.code,
      flagByte [p.auto, p.estimated, p.degraded, p.retirePending, p.lastWetted.isSome],
      BitVec.ofNat 8 (p.lastWetted.getD 0 / 65536 / 256), BitVec.ofNat 8 (p.lastWetted.getD 0 / 65536),
      BitVec.ofNat 8 (p.lastWetted.getD 0 / 256), BitVec.ofNat 8 (p.lastWetted.getD 0),
      BitVec.ofNat 8 (s.openOn p.tag).length, BitVec.ofNat 8 (s.permitsOn p.tag).length] := rfl

theorem readPile_byTag {s : State} {value : Half} {slot : Nat} {p : Pile} (h : s.pileAt? value.toNat = some (slot, p)) :
    s.readPile 0 value = s.answer Code.readPile .ok (s.pileBytes slot p) := by
  simp [State.readPile, h]

theorem readPile_bySlot {s : State} {value : Half} : s.readPile 1 value = s.readPileSlot value.toNat := rfl

theorem readPile_unlisted {s : State} {selector : Byte} {value : Half} (h : 1 < selector.toNat) :
    s.readPile selector value = s.answer Code.readPile .badArgument [] := by
  unfold State.readPile
  split
  · omega
  · omega
  · rfl

/-! ## RANK-PILES (R14) -/

/-- The order RANK-PILES tells piles in: by falling risk, and by slot among equals. -/
def RanksBefore (x y : Nat × Pile) : Prop := y.2.risk < x.2.risk ∨ (x.2.risk = y.2.risk ∧ x.1 < y.1)

theorem rankInsert_perm (x : Nat × Pile) (l : List (Nat × Pile)) : (rankInsert x l).Perm (x :: l) := by
  induction l with
  | nil => exact .refl _
  | cons y t ih =>
    rw [rankInsert]
    split
    · exact .refl _
    · exact (ih.cons y).trans (.swap x y t)

/-- A pile of a higher slot than those ranked keeps the ranking when it joins. -/
theorem rankInsert_pairwise {x : Nat × Pile} {l : List (Nat × Pile)} (hl : l.Pairwise RanksBefore)
    (hx : ∀ y ∈ l, y.1 < x.1) : (rankInsert x l).Pairwise RanksBefore := by
  induction l with
  | nil => exact List.pairwise_singleton _ _
  | cons y t ih =>
    obtain ⟨hy, ht⟩ := List.pairwise_cons.1 hl
    rw [rankInsert]
    split
    · rename_i hlt
      refine List.pairwise_cons.2 ⟨fun z hz => ?_, hl⟩
      rcases List.mem_cons.1 hz with rfl | hz
      · exact .inl hlt
      · rcases hy z hz with h | ⟨h, _⟩
        · exact .inl (h.trans hlt)
        · exact .inl (h ▸ hlt)
    · rename_i hge
      refine List.pairwise_cons.2 ⟨fun z hz => ?_, ih ht fun z hz => hx z (List.mem_cons_of_mem y hz)⟩
      rcases List.mem_cons.1 ((rankInsert_perm x t).mem_iff.1 hz) with rfl | hz
      · have := hx y List.mem_cons_self
        rcases Nat.lt_or_ge z.2.risk y.2.risk with h | h
        · exact .inl h
        · exact .inr ⟨by omega, this⟩
      · exact hy z hz

theorem rankFold_perm (l acc : List (Nat × Pile)) :
    (l.foldl (fun acc x => rankInsert x acc) acc).Perm (l ++ acc) := by
  induction l generalizing acc with
  | nil => exact .refl _
  | cons x l ih =>
    rw [List.foldl_cons]
    refine (ih _).trans ?_
    exact ((rankInsert_perm x acc).append_left l).trans List.perm_middle

theorem rankFold_pairwise {l acc : List (Nat × Pile)} (hacc : acc.Pairwise RanksBefore)
    (hl : l.Pairwise fun x y => x.1 < y.1) (hcross : ∀ y ∈ acc, ∀ x ∈ l, y.1 < x.1) :
    (l.foldl (fun acc x => rankInsert x acc) acc).Pairwise RanksBefore := by
  induction l generalizing acc with
  | nil => exact hacc
  | cons x l ih =>
    obtain ⟨hx, hl⟩ := List.pairwise_cons.1 hl
    rw [List.foldl_cons]
    refine ih (rankInsert_pairwise hacc fun y hy => hcross y hy x List.mem_cons_self) hl fun y hy z hz => ?_
    rcases List.mem_cons.1 ((rankInsert_perm x acc).mem_iff.1 hy) with rfl | hy
    · exact hx z hz
    · exact hcross y hy z (List.mem_cons_of_mem x hz)

/-- The LIVE piles of a band or a higher one, ranked. -/
def State.rankedFrom (s : State) (b : Band) : List (Nat × Pile) :=
  rankOf (s.piles.filter fun e => e.2.life == .live && decide (b.code ≤ e.2.band.code))

theorem rankPiles_of_band {s : State} {band : Byte} {b : Band} (h : Band.ofCode band.toNat = some b) :
    s.rankPiles band = s.answer Code.rankPiles .ok (be8 (s.rankedFrom b).length
      ++ counted (((s.rankedFrom b).take 16).map fun e => be16 e.2.tag ++ be8 e.2.risk)) := by
  simp only [State.rankPiles, h, State.rankedFrom]

theorem rankPiles_of_unlisted {s : State} {band : Byte} (h : 3 < band.toNat) :
    s.rankPiles band = s.answer Code.rankPiles .badArgument [] := by
  have hnone : Band.ofCode band.toNat = none := by
    generalize band.toNat = n at h
    match n, h with
    | n + 4, _ => rfl
  simp only [State.rankPiles, hnone]

/-- Settles O17: the record byte by byte, and RANK-PILES by the insertion of each pile behind those of a lower slot. -/
theorem pilesAreReadAndRanked : Obligations.PilesAreReadAndRanked := by
  unfold Obligations.PilesAreReadAndRanked
  refine ⟨fun value s => ⟨fun hnone => ?unknown, fun hhigh => ?high, fun selector hsel => ?selector,
    fun hlow hfree => ?free, fun slot p hslot => ⟨fun hp => ?byTag, fun hv hp tag htag => ?bySlot⟩⟩,
    fun band s => ⟨fun hband => ?noBand, fun b hb => ?rank⟩⟩
  case unknown =>
    exact congrArg Host.Outcome.next (show s.readPile 0 value = _ by simp [State.readPile, hnone, State.answer_eq])
  case high =>
    refine congrArg Host.Outcome.next (show s.readPile 1 value = _ from ?_)
    rw [readPile_bySlot, State.readPileSlot, if_pos (show 64 ≤ value.toNat from hhigh), State.answer_eq]
  case selector => exact congrArg Host.Outcome.next (readPile_unlisted hsel)
  case free =>
    refine congrArg Host.Outcome.next (show s.readPile 1 value = _ from ?_)
    rw [readPile_bySlot, State.readPileSlot, if_neg (by simp [Config.pileSlots]; omega), hfree]
    rfl
  case byTag =>
    refine ⟨s.pileBytes slot p, by rw [pileBytes_eq]; rfl, congrArg Host.Outcome.next (readPile_byTag hp), ?_⟩
    rw [pileBytes_eq]
    simp only [u8, u16, u32, profileAt, List.getD_cons_succ, List.getD_cons_zero, Nat.reduceAdd]
    refine ⟨toNat_be8 (by omega), toNat_lifeCode _, fun h => toNat_be16 h, fun h => toNat_be8 h, fun h => toNat_be16 h,
      trivial, fun h => toNat_be16 h, fun h => toNat_be16 h, fun h => toNat_be16 h, fun h => toNat_be16 h,
      fun h => toNat_be16 h, fun h => toNat_be8 h, toNat_bandCode _, getLsbD_flagByte _ 0 (by decide),
      getLsbD_flagByte _ 1 (by decide), getLsbD_flagByte _ 2 (by decide), getLsbD_flagByte _ 3 (by decide),
      getLsbD_flagByte _ 4 (by decide), fun m hm h => ?_, fun h => toNat_be8 h, fun h => toNat_be8 h⟩
    rw [hm]
    exact toNat_be32 h
  case bySlot =>
    refine congrArg Host.Outcome.next (show s.readPile 1 value = s.readPile 0 tag from ?_)
    rw [readPile_bySlot, readPile_byTag htag, State.readPileSlot, if_neg (by simp [Config.pileSlots]; omega), hv, hp]
  case noBand => exact congrArg Host.Outcome.next (rankPiles_of_unlisted hband)
  case rank =>
    refine ⟨s.rankedFrom b, congrArg Host.Outcome.next ?_, ?_, fun hw => ?_⟩
    · rw [rankPiles_of_band hb, State.answer_eq, counted, List.length_map]
    · have hperm := rankFold_perm (s.piles.filter fun e => e.2.life == .live && decide (b.code ≤ e.2.band.code)) []
      rw [List.append_nil] at hperm
      refine hperm.trans (.of_eq (List.filter_congr fun e _ => ?_))
      cases hlive : e.2.life <;> simp
    · exact rankFold_pairwise .nil (((Table.wf_iff_pairwise _).1 hw).filter _) nofun

end Sys2Proof.Machine
end

section
set_option Elab.async false
/-! PROOFS. The agenda run telling by telling; PLACE-ORDER (R78 to R81). -/

namespace Sys2Proof.Machine

/-! ## The agenda telling by telling (log entry 7) -/

/-- Tellings carried out in order, each with all it brings about before the next, in so many steps. -/
inductive Runs (q : Option Nat) : List Task → State → Nat → State → Prop
  | nil (s : State) : Runs q [] s 0 s
  | cons {t : Task} {ts : List Task} {s s1 s2 : State} {n m : Nat} :
      Runs q (doTask q t s).2 (doTask q t s).1 n s1 → Runs q ts s1 m s2 → Runs q (t :: ts) s (n + m + 1) s2

namespace Runs

variable {q : Option Nat} {ts us : List Task} {s s1 s2 : State} {n m : Nat}

/-- A telling that brings about no other. -/
theorem single {t : Task} (h : doTask q t s = (s1, [])) : Runs q [t] s 1 s1 := by
  have : Runs q (doTask q t s).2 (doTask q t s).1 0 s1 := by rw [h]; exact .nil s1
  exact .cons this (.nil s1)

/-- A telling and what it brings about. -/
theorem one {t : Task} (h : doTask q t s = (s1, us)) (hu : Runs q us s1 n s2) : Runs q [t] s (n + 1) s2 := by
  have : Runs q (doTask q t s).2 (doTask q t s).1 n s2 := by rw [h]; exact hu
  exact .cons this (.nil s2)

theorem append (ha : Runs q ts s n s1) (hb : Runs q us s1 m s2) : Runs q (ts ++ us) s (n + m) s2 := by
  induction ha with
  | nil => simpa using hb
  | @cons t ts s s1 s2 n k ht _ _ ih => exact (show n + (k + m) + 1 = n + k + 1 + m by omega) ▸ .cons ht (ih hb)

/-- The agenda carries out the tellings at its front, and goes on. -/
theorem runTasks_append (h : Runs q ts s n s1) (fuel : Nat) (rest : List Task) :
    runTasks q (fuel + n) (ts ++ rest) s = runTasks q fuel rest s1 := by
  induction h generalizing rest fuel with
  | nil => rfl
  | @cons t ts s s1 s2 n m _ _ ihs ihr =>
    rw [List.cons_append, show fuel + (n + m + 1) = fuel + m + n + 1 by omega, runTasks_cons, ihs, ihr]

/-- Tellings that take no more steps than the agenda has are all carried out. -/
theorem settle_eq (h : Runs q ts s n s1) (hn : n ≤ 4096) : s.settle q ts = s1 := by
  have := h.runTasks_append (4096 - n) []
  rw [Nat.sub_add_cancel hn, List.append_nil, runTasks_nil] at this
  exact this

theorem settled_eq (h : Runs none ts s n s1) (hn : n ≤ 4096) : settled (s, ts) = s1 := h.settle_eq hn

end Runs

/-! ## The order that ended first (R80) -/

theorem isOpen_iff {o : Order} : o.isOpen = true ↔ o.state ≠ .ended := by simp [Order.isOpen]

/-- The order that ended first in time, the earlier in the list of equals. -/
theorem endedFirst_spec {l : List Order} {x : Order} (h : endedFirst l = some x) :
    ∃ i, l[i]? = some x ∧ (∀ y : Order, y ∈ l → y.state = .ended → x.endedEvent ≤ y.endedEvent)
      ∧ ∀ (j : Nat) (y : Order), j < i → l[j]? = some y → y.state = .ended → x.endedEvent < y.endedEvent := by
  induction l generalizing x with
  | nil => exact absurd h (by simp [endedFirst])
  | cons o t ih =>
    rw [endedFirst] at h
    cases ht : endedFirst t with
    | none =>
      have hopen := (endedFirst_eq_none_iff t).1 ht
      simp only [ht] at h
      split at h
      · exact absurd h (by simp)
      · obtain rfl : o = x := by simpa using h
        refine ⟨0, rfl, fun y hy he => ?_, fun j y hj => absurd hj (by omega)⟩
        rcases List.mem_cons.1 hy with rfl | hy
        · exact le_refl _
        · exact absurd he (isOpen_iff.1 (hopen y hy))
    | some z =>
      obtain ⟨i, hi, hmin, hfirst⟩ := ih ht
      have later : (o.isOpen = true ∨ z.endedEvent < o.endedEvent) → ∃ i, (o :: t)[i]? = some z
          ∧ (∀ y : Order, y ∈ o :: t → y.state = .ended → z.endedEvent ≤ y.endedEvent)
          ∧ ∀ (j : Nat) (y : Order), j < i → (o :: t)[j]? = some y → y.state = .ended → z.endedEvent < y.endedEvent := by
        refine fun ho => ⟨i + 1, hi, fun y hy he => ?_, fun j y hj hjy he => ?_⟩
        · rcases List.mem_cons.1 hy with rfl | hy
          · exact ho.elim (fun ho => absurd he (isOpen_iff.1 ho)) Nat.le_of_lt
          · exact hmin y hy he
        · cases j with
          | zero =>
            obtain rfl : o = y := by simpa using hjy
            exact ho.elim (fun ho => absurd he (isOpen_iff.1 ho)) id
          | succ j => exact hfirst j y (by omega) hjy he
      simp only [ht] at h
      split_ifs at h with ho hlt
      · obtain rfl : z = x := by simpa using h
        exact later (.inl ho)
      · obtain rfl : z = x := by simpa using h
        exact later (.inr hlt)
      · obtain rfl : o = x := by simpa using h
        refine ⟨0, rfl, fun y hy he => ?_, fun j y hj => absurd hj (by omega)⟩
        rcases List.mem_cons.1 hy with rfl | hy
        · exact le_refl _
        · exact (Nat.le_of_not_lt hlt).trans (hmin y hy he)

/-! ## The advance of a plan (R91) -/

/-- The advance passes the entries with less than the trickle limit remaining, and stops at the first other. -/
theorem advanceFrom_spec (es : List PlanEntry) (fuel i : Nat) (hi : i ≤ es.length) (hf : es.length ≤ i + fuel) :
    i ≤ advanceFrom es fuel i ∧ advanceFrom es fuel i ≤ es.length
      ∧ (∀ j x, i ≤ j → j < advanceFrom es fuel i → es[j]? = some x → x.remaining < 50)
      ∧ ∀ x, es[advanceFrom es fuel i]? = some x → 50 ≤ x.remaining := by
  induction fuel generalizing i with
  | zero =>
    have : i = es.length := by omega
    subst this
    exact ⟨le_refl _, le_refl _, fun j x hj hlt => absurd hlt (Nat.not_lt.2 hj), by simp [advanceFrom]⟩
  | succ fuel ih =>
    rw [advanceFrom]
    cases he : es[i]? with
    | none => exact ⟨le_refl _, hi, fun j x hj hlt => absurd hlt (Nat.not_lt.2 hj), by simp [he]⟩
    | some e =>
      dsimp only
      split_ifs with hr
      · have hlt : i < es.length := (List.getElem?_eq_some_iff.1 he).1
        obtain ⟨h1, h2, h3, h4⟩ := ih (i + 1) hlt (by omega)
        refine ⟨by omega, h2, fun j x hj hj2 hx => ?_, h4⟩
        rcases Nat.eq_or_lt_of_le hj with rfl | hj
        · obtain rfl : e = x := by simpa [he] using hx
          exact hr
        · exact h3 j x hj hj2 hx
      · refine ⟨le_refl _, hi, fun j x hj hlt => absurd hlt (Nat.not_lt.2 hj), fun x hx => ?_⟩
        obtain rfl : e = x := by simpa [he] using hx
        exact Nat.not_lt.1 hr

/-- The advance passes every entry exactly when each has less than the trickle limit remaining. -/
theorem length_le_advanced_iff (es : List PlanEntry) :
    es.length ≤ (Plan.advanced ⟨es, 0⟩).current ↔ ∀ e ∈ es, e.remaining < 50 := by
  obtain ⟨-, hle, hpass, hstop⟩ := advanceFrom_spec es es.length 0 (Nat.zero_le _) (by omega)
  refine ⟨fun h e he => ?_, fun h => Nat.not_lt.1 fun hlt => ?_⟩
  · obtain ⟨i, hi, rfl⟩ := List.getElem_of_mem he
    exact hpass i _ (Nat.zero_le _) (Nat.lt_of_lt_of_le hi h) (List.getElem?_eq_getElem hi)
  · have := hstop _ (List.getElem?_eq_getElem hlt)
    have := h _ (List.getElem_mem hlt)
    omega

/-! ## The checks of PLACE-ORDER (R78, R79) -/

theorem Policy.ofCode_isSome_iff (n : Nat) : (Policy.ofCode n).isSome = true ↔ n ≤ 2 := by
  match n with
  | 0 => simp [Policy.ofCode]
  | 1 => simp [Policy.ofCode]
  | 2 => simp [Policy.ofCode]
  | n + 3 => simp [Policy.ofCode]

theorem Policy.code_ofCode {n : Nat} (h : n ≤ 2) : ((Policy.ofCode n).getD .reuseOnly).code = n := by
  interval_cases n
  · rfl
  · rfl
  · rfl

/-- A plan entry of PLACE-ORDER is out of range. -/
def badPlanEntry (e : PlanEntryArgs) : Prop :=
  (e.cannon ≠ 0xFF ∧ 23 < e.cannon.toNat) ∨ 359 < e.arcStart.toNat ∨ 359 < e.arcEnd.toNat ∨ e.share.toNat = 0

theorem toNat_eq_zero {w : Nat} (x : BitVec w) : x.toNat = 0 ↔ x = 0#w := by
  rw [← BitVec.toNat_inj, BitVec.toNat_ofNat, Nat.zero_mod]

/-- The check of one plan entry. -/
def planEntryOk (e : PlanEntryArgs) : Bool :=
  (e.cannon == 0xFF || decide (e.cannon.toNat < Config.cannons)) && decide (e.arcStart.toNat < 360)
    && decide (e.arcEnd.toNat < 360) && e.share != 0

theorem planEntryOk_iff (e : PlanEntryArgs) : planEntryOk e = true ↔ ¬ badPlanEntry e := by
  simp only [planEntryOk, badPlanEntry, toNat_eq_zero, Bool.and_eq_true, Bool.or_eq_true, beq_iff_eq, decide_eq_true_eq,
    bne_iff_ne, Config.cannons, not_or, not_and, Nat.not_lt, and_assoc]
  refine and_congr ⟨fun h hc => ?_, fun h => ?_⟩ ?_
  · have := h.resolve_left hc
    omega
  · exact or_iff_not_imp_left.2 fun hc => Nat.lt_succ_of_le (h hc)
  · exact and_congr Nat.lt_succ_iff (and_congr Nat.lt_succ_iff Iff.rfl)

theorem placeOrderArgsOk_iff (a : PlaceOrderArgs) : placeOrderArgsOk a = true ↔ ¬ (a.tag = 0 ∨ 3 < a.priority.toNat
    ∨ 2 < a.policy.toNat ∨ (∃ v, a.volley = some v ∧ (v.toNat = 0 ∨ 15 < v.toNat)) ∨ (∃ e ∈ a.plan, badPlanEntry e)
    ∨ (a.plan = [] ∧ a.dose.toNat = 0)) := by
  have hargs : placeOrderArgsOk a = (a.tag != 0 && decide (a.priority.toNat ≤ 3) && (Policy.ofCode a.policy.toNat).isSome
      && (a.volley.all fun v => within 1 15 v.toNat) && a.plan.all planEntryOk && (!a.plan.isEmpty || a.dose != 0)) := rfl
  rw [hargs]
  simp only [Bool.and_eq_true, List.all_eq_true, planEntryOk_iff, Policy.ofCode_isSome_iff, not_or,
    not_exists, not_and, Nat.not_lt, and_assoc, bne_iff_ne, decide_eq_true_eq, Option.all_eq_true, within,
    Bool.or_eq_true, Bool.not_eq_true', List.isEmpty_eq_false_iff, toNat_eq_zero]
  refine and_congr Iff.rfl (and_congr Iff.rfl (and_congr Iff.rfl (and_congr ?_ (and_congr Iff.rfl ?_))))
  · refine forall_congr' fun v => imp_congr_right fun _ => and_congr ?_ Iff.rfl
    rw [Nat.one_le_iff_ne_zero, Ne, toNat_eq_zero]
  · rw [or_iff_not_imp_left, not_not]
    rfl

theorem arcWithin_iff (v : Cover) (x y : Nat) : arcWithin v x y = true ↔
    (x + 360 - v.arcStart % 360) % 360 ≤ (y + 360 - v.arcStart % 360) % 360
      ∧ (y + 360 - v.arcStart % 360) % 360 ≤ (v.arcEnd + 360 - v.arcStart % 360) % 360 := by
  rw [arcWithin, Bool.and_eq_true, decide_eq_true_iff, decide_eq_true_iff]
  rfl

/-- An entry that names a cannon fits that cannon's coverage of the pile. -/
theorem entryFits_iff (s : State) (tag : Nat) (e : PlanEntryArgs) : s.entryFits tag (planEntryOf e) = true ↔
    (e.cannon ≠ 0xFF → ∃ c v, s.cannon? e.cannon.toNat = some c ∧ c.coverOf? tag = some v
      ∧ arcWithin v e.arcStart.toNat e.arcEnd.toNat = true) := by
  rw [State.entryFits, planEntryOf]
  by_cases hc : e.cannon = 0xFF
  · simp [hc]
  · simp only [hc, if_false, ne_eq, not_false_eq_true, forall_const, Option.any_eq_true]
    refine exists_congr fun c => ⟨fun ⟨h, ha⟩ => ?_, fun ⟨v, h, hv, ha⟩ => ⟨h, by rw [Cannon.coversArc, hv]; exact ha⟩⟩
    rw [Cannon.coversArc] at ha
    split at ha
    · rename_i v hv
      exact ⟨v, h, hv, ha⟩
    · exact absurd ha (by simp)

theorem clampShare_unnamed {s : State} {e : PlanEntryArgs} (h : e.cannon = 0xFF ∨ s.cannon? e.cannon.toNat = none) :
    s.clampShare (planEntryOf e) = planEntryOf e := by
  rw [State.clampShare, planEntryOf]
  rcases h with h | h
  · simp [h]
  · by_cases hc : e.cannon = 0xFF
    · simp [hc]
    · simp only [if_neg hc, Option.bind_some, h]

theorem clampShare_named {s : State} {e : PlanEntryArgs} {c : Cannon} (hc : e.cannon ≠ 0xFF)
    (h : s.cannon? e.cannon.toNat = some c) : s.clampShare (planEntryOf e) = { planEntryOf e with
      share := max c.config.minDose (min e.share.toNat c.config.maxDose)
      remaining := max c.config.minDose (min e.share.toNat c.config.maxDose) } := by
  simp only [State.clampShare, planEntryOf, if_neg hc, Option.bind_some, h, clamp]

theorem planOk_iff (s : State) (a : PlaceOrderArgs) : s.planOk a = true ↔
    (∀ e ∈ a.plan, s.entryFits a.tag.toNat (planEntryOf e) = true)
      ∧ (a.plan ≠ [] → (a.plan.map fun e => (s.clampShare (planEntryOf e)).share).sum ≤ s.dispatch.maxDose) := by
  rw [State.planOk, Bool.and_eq_true, List.all_map, List.all_eq_true, Bool.or_eq_true, decide_eq_true_eq,
    List.isEmpty_iff, planDose, State.planOf, List.map_map, List.map_map, or_iff_not_imp_left]
  rfl

theorem ordersFull_iff (s : State) :
    s.ordersFull = true ↔ 32 ≤ s.dispatch.orders.countP fun o => o.state != .ended := by
  rw [State.ordersFull, decide_eq_true_eq, ← List.countP_eq_length_filter]
  rfl

/-- The refusals of PLACE-ORDER in their order. -/
theorem placeOrder_of_badArgument {s : State} {a : PlaceOrderArgs} (h : placeOrderArgsOk a = false) :
    s.placeOrder a = s.answer Code.placeOrder .badArgument [] := by
  simp only [State.placeOrder, h, if_true]

theorem placeOrder_of_unknown {s : State} {a : PlaceOrderArgs} (ha : placeOrderArgsOk a = true)
    (h : s.liveTag a.tag.toNat = false) : s.placeOrder a = s.answer Code.placeOrder .unknown [] := by
  simp [State.placeOrder, ha, h]

theorem placeOrder_of_badPlan {s : State} {a : PlaceOrderArgs} (ha : placeOrderArgsOk a = true)
    (hl : s.liveTag a.tag.toNat = true) (h : s.planOk a = false) :
    s.placeOrder a = s.answer Code.placeOrder .badPlan [] := by
  simp [State.placeOrder, ha, hl, h]

theorem placeOrder_of_full {s : State} {a : PlaceOrderArgs} (ha : placeOrderArgsOk a = true)
    (hl : s.liveTag a.tag.toNat = true) (hp : s.planOk a = true) (h : s.ordersFull = true) :
    s.placeOrder a = s.answer Code.placeOrder .full [] := by
  simp [State.placeOrder, ha, hl, hp, h]

/-- Settles O30: each check of the model against its reading in the statement. -/
theorem placeOrderRefusals : Obligations.PlaceOrderRefusals := by
  unfold Obligations.PlaceOrderRefusals
  intro a bad fails share s hbad hshare hunnamed hfails
  have hargs : placeOrderArgsOk a = true ↔ ¬ bad := by
    rw [placeOrderArgsOk_iff, hbad]
    rfl
  have hsum : ∀ e, (s.clampShare (planEntryOf e)).share = share e := fun e => by
    by_cases hc : e.cannon = 0xFF ∨ s.cannon? e.cannon.toNat = none
    · rw [clampShare_unnamed hc, hunnamed e hc, planEntryOf]
    · obtain ⟨hc, hsome⟩ := not_or.1 hc
      obtain ⟨c, h⟩ := Option.ne_none_iff_exists'.1 hsome
      rw [clampShare_named hc h, hshare e c hc h]
  have hplan : s.planOk a = true ↔ ¬ fails := by
    rw [planOk_iff, hfails, not_or, not_exists, not_and, Nat.not_lt, List.map_congr_left fun e _ => hsum e]
    refine and_congr (forall_congr' fun e => ?_) Iff.rfl
    rw [not_and]
    refine imp_congr_right fun _ => ?_
    rw [entryFits_iff, not_and, not_forall]
    refine imp_congr_right fun _ => exists_congr fun c => ?_
    simp only [not_forall, not_not, exists_prop, arcWithin_iff]
    exact Iff.rfl
  refine ⟨fun hb => ?_, fun hb => ⟨fun hret => ?_, fun slot p hp hlive => ⟨fun hf => ?_, fun hf hfull => ?_⟩⟩⟩
  · exact congrArg Host.Outcome.next (placeOrder_of_badArgument (by rw [← Bool.not_eq_true, hargs, not_not]; exact hb))
  · refine congrArg Host.Outcome.next (placeOrder_of_unknown (hargs.2 hb) ?_)
    rw [State.liveTag, Option.any_eq_false]
    rintro ⟨slot, p⟩ hp
    simp [hret slot p hp]
  · have hl : s.liveTag a.tag.toNat = true := by simp [State.liveTag, hp, hlive]
    exact congrArg Host.Outcome.next (placeOrder_of_badPlan (hargs.2 hb) hl
      (by rw [← Bool.not_eq_true, hplan, not_not]; exact hf))
  · have hl : s.liveTag a.tag.toNat = true := by simp [State.liveTag, hp, hlive]
    exact congrArg Host.Outcome.next
      (placeOrder_of_full (hargs.2 hb) hl (hplan.2 hf) ((ordersFull_iff s).2 hfull))

end Sys2Proof.Machine
end

section
set_option Elab.async false
/-! PROOFS. PLACE-ORDER accepted (R79 to R81). -/

namespace Sys2Proof.Machine

/-! ## Room for an order, and its id (R74, R80) -/

theorem evicted_of_room {s : State} (h : s.dispatch.orders.length < 32) : s.evicted = none := if_pos h

theorem withRoom_of_evicted_none {s : State} (h : s.evicted = none) : s.withRoom = s := by
  rw [State.withRoom, h]

theorem withRoom_of_evicted_some {s : State} {x : Order} (h : s.evicted = some x) : s.withRoom = s.freeOrder x.id := by
  rw [State.withRoom, h]

/-- A full table of which some order has ended has one that ended first. -/
theorem evicted_of_full_table {s : State} (hl : s.dispatch.orders.length = 32) (hf : s.ordersFull = false) :
    ∃ x, s.evicted = some x ∧ endedFirst s.dispatch.orders = some x := by
  have he : s.evicted = endedFirst s.dispatch.orders := if_neg (by rw [hl]; decide)
  rw [he]
  cases h : endedFirst s.dispatch.orders with
  | some x => exact ⟨x, rfl, rfl⟩
  | none =>
    rw [State.ordersFull, List.filter_eq_self.2 ((endedFirst_eq_none_iff _).1 h), hl] at hf
    exact absurd hf (by decide)

theorem withRoom_nextId (s : State) : s.withRoom.dispatch.nextId = s.dispatch.nextId := by
  unfold State.withRoom
  split
  · rfl
  · rfl

/-- The id given is in range, and no order kept has it. -/
theorem acceptedId_fresh {s : State} (hl : s.dispatch.orders.length ≤ 32) (h1 : 1 ≤ s.dispatch.nextId)
    (h2 : s.dispatch.nextId ≤ 65535) (hf : s.ordersFull = false) :
    s.acceptedId ∉ s.withRoom.dispatch.orders.map Order.id ∧ 1 ≤ s.acceptedId ∧ s.acceptedId ≤ 65535 := by
  have hlen := withRoom_length hf hl
  have hnext := withRoom_nextId s
  exact freeId_free (hnext ▸ h1) (hnext ▸ h2) (by simp; omega) (by decide)

/-- The next id is given when no order kept has it. -/
theorem acceptedId_of_free {s : State} (h : s.dispatch.nextId ∉ s.withRoom.dispatch.orders.map Order.id) :
    s.acceptedId = s.dispatch.nextId := by
  rw [State.acceptedId, withRoom_nextId]
  exact freeId_self h

/-- The order accepted is found by its id. -/
theorem order?_accepted {s : State} (r : OrderRequest)
    (h : s.acceptedId ∉ s.withRoom.dispatch.orders.map Order.id) :
    (s.accepted r).order? s.acceptedId = some (s.acceptedOrder r) := by
  rw [State.order?, State.accepted, List.find?_append, List.find?_eq_none.2, Option.none_or]
  · simp [acceptedOrder_id]
  · intro o ho
    simpa using fun he => h (List.mem_map.2 ⟨o, ho, he⟩)

/-! ## What an acceptance leads to -/

/-- A request that leaves something to deliver: one arbitration when the order waits. -/
theorem accept_incomplete {s : State} {r : OrderRequest}
    (hc : (s.withRoom.newOrder r s.acceptedId).complete = false) :
    s.accept r = (if r.volley = none then (s.accepted r).occasion else s.accepted r, s.acceptedId,
      s.evicted.map Order.id, []) := by
  rw [accept_eq, hc]
  cases hv : r.volley <;> simp [State.newOrder, hv]

theorem accept_complete {s : State} {r : OrderRequest} (hc : (s.withRoom.newOrder r s.acceptedId).complete = true) :
    s.accept r = (s.accepted r, s.acceptedId, s.evicted.map Order.id, [.orderEnded s.acceptedId]) := by
  rw [accept_eq, hc]
  rfl

/-- The ending of an order that is no PREWET order, on a pile that is LIVE, hands its id to the ORDER change set alone. -/
theorem runs_orderEnded {q : Option Nat} {s : State} {id : Nat} {o : Order} (ho : s.order? id = some o)
    (horigin : o.origin ≠ .prewet) (hlive : ∀ slot p, s.pileAt? o.tag = some (slot, p) → p.life = .live) :
    Runs q [.orderEnded id] s 2 (s.hand .order id) := by
  refine .one (s1 := s.hand .order id) (us := [.checkFree o.tag]) ?_ (.single ?_)
  · change s.orderEnded id = _
    simp only [State.orderEnded, ho]
    cases horig : o.origin with
    | prewet => exact absurd horig horigin
    | host => rfl
    | autoRisk => rfl
    | autoLookahead => rfl
  · exact congrArg (·, []) (checkFree_quiet _ o.tag hlive)

/-- An order with nothing left to deliver ends within the command, and its id is handed over. -/
theorem settled_orderEnded_accepted {s : State} {r : OrderRequest} (hr : r.origin ≠ .prewet)
    (hfree : s.acceptedId ∉ s.withRoom.dispatch.orders.map Order.id)
    (hlive : ∀ slot p, s.pileAt? r.tag = some (slot, p) → p.life = .live) :
    settled (s.accepted r, [.orderEnded s.acceptedId]) = (s.accepted r).hand .order s.acceptedId := by
  have hrec : (s.acceptedOrder r).origin = r.origin ∧ (s.acceptedOrder r).tag = r.tag := by
    unfold State.acceptedOrder
    split
    · exact ⟨rfl, rfl⟩
    · exact ⟨rfl, rfl⟩
  refine (runs_orderEnded (order?_accepted r hfree) (hrec.1 ▸ hr) fun slot p hp => hlive slot p ?_).settled_eq (by omega)
  rw [← hrec.2, ← hp]
  unfold State.accepted State.withRoom
  split
  · rfl
  · rfl

/-! ## The order PLACE-ORDER asks for (R79) -/

theorem planOf_getElem? (s : State) (a : PlaceOrderArgs) (i : Nat) :
    (s.planOf a)[i]? = (a.plan[i]?).map fun e => s.clampShare (planEntryOf e) := by
  rw [State.planOf, List.map_map, List.getElem?_map]
  rfl

theorem mem_planOf {s : State} {a : PlaceOrderArgs} {x : PlanEntry} :
    x ∈ s.planOf a ↔ ∃ e ∈ a.plan, s.clampShare (planEntryOf e) = x := by
  rw [State.planOf, List.map_map]
  exact List.mem_map

/-- An entry as it is held: its arc as it came, and its share clamped to the doses of the cannon it names. -/
theorem clampShare_spec {s : State} {e : PlanEntryArgs} {x : PlanEntry} (hx : s.clampShare (planEntryOf e) = x) :
    x.arcStart = e.arcStart.toNat ∧ x.arcEnd = e.arcEnd.toNat ∧ x.remaining = x.share
      ∧ (e.cannon = 0xFF → x.cannon = none ∧ x.share = e.share.toNat)
      ∧ (e.cannon ≠ 0xFF → x.cannon = some e.cannon.toNat
        ∧ ∀ c, s.cannon? e.cannon.toNat = some c → x.share = max c.config.minDose (min e.share.toNat c.config.maxDose)) := by
  by_cases hc : e.cannon = 0xFF ∨ s.cannon? e.cannon.toNat = none
  · rw [clampShare_unnamed hc] at hx
    subst hx
    refine ⟨rfl, rfl, rfl, fun h => ⟨if_pos h, rfl⟩, fun h => ⟨if_neg h, fun c hsome => ?_⟩⟩
    rw [hc.resolve_left h] at hsome
    exact absurd hsome (by simp)
  · obtain ⟨hc, hsome⟩ := not_or.1 hc
    obtain ⟨c, h⟩ := Option.ne_none_iff_exists'.1 hsome
    rw [clampShare_named hc h] at hx
    subst hx
    refine ⟨rfl, rfl, rfl, fun hn => absurd hn hc, fun _ => ⟨if_neg hc, fun d hd => ?_⟩⟩
    obtain rfl : c = d := by simpa [h] using hd
    rfl

/-- The first record of the order PLACE-ORDER asks for is complete when no litres worth a pass are left in it. -/
theorem complete_placeRequest {s u : State} {a : PlaceOrderArgs} {id : Nat} (hplan : s.planOk a = true) :
    (u.newOrder (s.placeRequest a) id).complete = true ↔
      (a.plan = [] ∧ (u.newOrder (s.placeRequest a) id).dose < 50) ∨ (a.plan ≠ [] ∧
        ∀ e ∈ a.plan, e.share.toNat < 50 ∧ e.cannon = 0xFF ∨ ∃ c, e.cannon ≠ 0xFF ∧
          s.cannon? e.cannon.toNat = some c ∧ max c.config.minDose (min e.share.toNat c.config.maxDose) < 50) := by
  by_cases hnil : a.plan = []
  · simp [Order.complete, State.newOrder, State.placeRequest, hnil, Order.outstanding, Config.trickle]
  · have hsome : (u.newOrder (s.placeRequest a) id).plan = some (Plan.advanced ⟨s.planOf a, 0⟩) := by
      simp [State.newOrder, State.placeRequest, hnil]
    rw [Order.complete, hsome]
    simp only [hnil, decide_eq_true_eq, false_and, false_or, ne_eq, not_false_eq_true, true_and]
    refine (length_le_advanced_iff (s.planOf a)).trans ?_
    simp only [mem_planOf, forall_exists_index, and_imp, forall_apply_eq_imp_iff₂]
    refine forall_congr' fun e => imp_congr_right fun he => ?_
    obtain ⟨-, -, hrem, hunnamed, hnamed⟩ := clampShare_spec (s := s) (e := e) rfl
    by_cases hc : e.cannon = 0xFF
    · simp [hrem, (hunnamed hc).2, hc]
    · obtain ⟨c, v, h, -⟩ := (entryFits_iff s _ e).1 (((planOk_iff s a).1 hplan).1 e he) hc
      rw [hrem, (hnamed hc).2 c h]
      refine ⟨fun hlt => .inr ⟨c, hc, h, hlt⟩, fun hor => ?_⟩
      rcases hor with ⟨-, hff⟩ | ⟨d, -, hd, hlt⟩
      · exact absurd hff hc
      · obtain rfl : c = d := by simpa [h] using hd
        exact hlt

/-! ## The acceptance in full (R80) -/

theorem newOrder_withRoom (s : State) (r : OrderRequest) (id : Nat) : s.withRoom.newOrder r id = s.newOrder r id := by
  unfold State.withRoom
  split
  · rfl
  · rfl

theorem accepted_eq (s : State) (r : OrderRequest) : s.accepted r = { s with dispatch := { s.dispatch with
    orders := s.withRoom.dispatch.orders ++ [s.acceptedOrder r], nextId := s.acceptedId % 65535 + 1 } } := by
  unfold State.accepted State.withRoom
  split
  · rfl
  · rfl

theorem acceptedOrder_incomplete {s : State} {r : OrderRequest} (hc : (s.newOrder r s.acceptedId).complete = false) :
    s.acceptedOrder r = s.newOrder r s.acceptedId := by
  rw [State.acceptedOrder, newOrder_withRoom, hc]
  exact if_neg (by decide)

theorem acceptedOrder_complete {s : State} {r : OrderRequest} (hc : (s.newOrder r s.acceptedId).complete = true) :
    s.acceptedOrder r = (s.newOrder r s.acceptedId).ended .done s.now s.events := by
  rw [State.acceptedOrder, newOrder_withRoom, hc]
  exact if_pos rfl

/-- What an order keeps of its first record, whether it ends at once or not. -/
structure Order.StartsAs (o n : Order) : Prop where
  id : o.id = n.id
  tag : o.tag = n.tag
  origin : o.origin = n.origin
  priority : o.priority = n.priority
  dose : o.dose = n.dose
  policy : o.policy = n.policy
  volley : o.volley = n.volley
  plan : o.plan = n.plan
  clamped : o.clamped = n.clamped
  delivered : o.delivered = n.delivered
  suspension : o.suspension = n.suspension
  starved : o.starved = n.starved
  cancelPending : o.cancelPending = n.cancelPending
  accepted : o.accepted = n.accepted
  lapseRef : o.lapseRef = n.lapseRef
  passes : o.passes = n.passes
  lastEnd : o.lastEnd = n.lastEnd
  pass : o.pass = n.pass

theorem acceptedOrder_startsAs (s : State) (r : OrderRequest) :
    (s.acceptedOrder r).StartsAs (s.newOrder r s.acceptedId) := by
  cases hc : (s.newOrder r s.acceptedId).complete with
  | false =>
    rw [acceptedOrder_incomplete hc]
    constructor <;> rfl
  | true =>
    rw [acceptedOrder_complete hc]
    constructor <;> rfl

/-- The kept orders and the freed entry: the table as it was while it has room, and without the order that ended first
otherwise. -/
theorem room_spec (s : State) (hf : s.ordersFull = false) :
    (s.dispatch.orders.length < 32 → s.withRoom.dispatch.orders = s.dispatch.orders ∧ s.evicted.map Order.id = none)
      ∧ (s.dispatch.orders.length = 32 → ∃ (i : Nat) (x : Order), s.dispatch.orders[i]? = some x ∧ x.state = .ended
        ∧ s.evicted.map Order.id = some x.id ∧ (∀ y ∈ s.dispatch.orders, y.state = .ended → x.endedEvent ≤ y.endedEvent)
        ∧ (∀ (j : Nat) (y : Order), j < i → s.dispatch.orders[j]? = some y → y.state = .ended →
          x.endedEvent < y.endedEvent)
        ∧ s.withRoom.dispatch.orders = s.dispatch.orders.filter fun y => y.id != x.id) := by
  refine ⟨fun hlt => ?_, fun heq => ?_⟩
  · have he := evicted_of_room hlt
    exact ⟨by rw [withRoom_of_evicted_none he], by rw [he]; rfl⟩
  · obtain ⟨x, he, hfirst⟩ := evicted_of_full_table heq hf
    obtain ⟨i, hi, hmin, hearlier⟩ := endedFirst_spec hfirst
    exact ⟨i, x, hi, (endedFirst_mem hfirst).2, by rw [he]; rfl, hmin, hearlier,
      by rw [withRoom_of_evicted_some he]; rfl⟩

theorem placeOrder_of_accepted {s : State} {a : PlaceOrderArgs} (ha : placeOrderArgsOk a = true)
    (hl : s.liveTag a.tag.toNat = true) (hp : s.planOk a = true) (hf : s.ordersFull = false) :
    s.placeOrder a = let x := s.openEvent.accept (s.placeRequest a)
      let t := settled (x.1, x.2.2.2)
      t.answer Code.placeOrder .ok (pack [.always (be16 x.2.1), .always (be8 (t.orderCode x.2.1)),
        .always (be16 (s.placeRequest a).dose), .always (flag (s.placeRequest a).clamped),
        .always (s.suspensionAt (s.placeRequest a).tag).bytes, opt16 x.2.2.1]) := by
  simp [State.placeOrder, ha, hl, hp, hf]

/-- Up to eight flags stand in one byte. -/
theorem flagBytes_of_length_le {bs : List Bool} (h0 : 0 < bs.length) (h : bs.length ≤ 8) :
    flagBytes bs = [flagByte bs] := by
  rw [flagBytes, show (bs.length + 7) / 8 = 1 by omega, List.range_one, List.map_cons, List.map_nil, Nat.mul_zero,
    List.drop_zero, List.take_of_length_le h]

/-- The reply of an accepted PLACE-ORDER, from the record and the entry freed. -/
theorem pack_placeReply (id code dose : Nat) (clamped : Bool) (x : Suspension) (freed : Option Nat) :
    pack [.always (be16 id), .always (be8 code), .always (be16 dose), .always (flag clamped), .always x.bytes, opt16 freed]
      = [if freed = none then 0 else 1] ++ be16 id ++ be8 code ++ be16 dose ++ [if clamped then 1 else 0] ++ x.bytes
        ++ be16 (freed.getD 0) := by
  rw [pack, flagBytes_of_length_le (by simp [Item.presence, opt16]) (by simp [Item.presence, opt16])]
  cases freed with
  | none =>
    cases clamped
    · rfl
    · rfl
  | some k =>
    cases clamped
    · rfl
    · rfl

/-- The state PLACE-ORDER leaves, but for its reply. -/
def State.placed (s : State) (r : OrderRequest) : State :=
  if (s.newOrder r s.acceptedId).complete then (s.accepted r).hand .order s.acceptedId
  else if r.volley = none then (s.accepted r).occasion else s.accepted r

theorem settled_accept {s : State} {r : OrderRequest} (hr : r.origin ≠ .prewet)
    (hfree : s.acceptedId ∉ s.withRoom.dispatch.orders.map Order.id)
    (hlive : ∀ slot p, s.pileAt? r.tag = some (slot, p) → p.life = .live) :
    settled ((s.accept r).1, (s.accept r).2.2.2) = s.placed r := by
  cases hc : (s.newOrder r s.acceptedId).complete with
  | false =>
    rw [accept_incomplete (by rw [newOrder_withRoom, hc]), settled_nil, State.placed, hc]
    rfl
  | true =>
    rw [accept_complete (by rw [newOrder_withRoom, hc]), settled_orderEnded_accepted hr hfree hlive, State.placed, hc]
    rfl

theorem orderCode_placed {s : State} {r : OrderRequest} (hfree : s.acceptedId ∉ s.withRoom.dispatch.orders.map Order.id) :
    (s.placed r).orderCode s.acceptedId = (s.acceptedOrder r).state.code := by
  have h := order?_accepted r hfree
  have horder : (s.placed r).order? s.acceptedId = (s.accepted r).order? s.acceptedId := by
    unfold State.placed
    split_ifs
    · rfl
    · rfl
    · rfl
  rw [State.orderCode, horder, h]
  rfl

theorem answer_placed (s : State) (r : OrderRequest) (code : Nat) (status : Status) (payload : List Byte) :
    (s.placed r).answer code status payload = { s with
      port := ((s.placed r).answer code status payload).port
      notices := ((s.placed r).answer code status payload).notices
      dispatch := { s.dispatch with
        orders := s.withRoom.dispatch.orders ++ [s.acceptedOrder r], nextId := (s.acceptedOrder r).id % 65535 + 1
        due := ((s.placed r).answer code status payload).dispatch.due } } := by
  rw [acceptedOrder_id]
  unfold State.placed
  rw [accepted_eq]
  split_ifs
  · rfl
  · rfl
  · rfl

theorem port_answer_placed (s : State) (r : OrderRequest) (code : Nat) (status : Status) (payload : List Byte) :
    ((s.placed r).answer code status payload).port = s.replied status code payload := by
  unfold State.placed
  rw [accepted_eq]
  split_ifs
  · rfl
  · rfl
  · rfl

theorem zoned_eq (s : State) (tag : Nat) :
    s.zoned tag = s.permits.list.any fun x => decide (x.tag = tag ∧ x.state ≠ .pendingWet) := by
  rw [State.zoned, State.permitsOn, List.any_filter]
  congr 1
  funext x
  rw [Bool.eq_iff_iff]
  simp

/-- Settles O31: the record is the model's first record of an order, ended at once when it is complete; the order the table
gives up is the one that ended first, and the id is the first free from the next on. -/
theorem placeOrderAccepts : Obligations.PlaceOrderAccepts := by
  unfold Obligations.PlaceOrderAccepts
  intro a s ha hl hp hlen hopen h1 h2
  have hf : s.ordersFull = false := by
    rw [← Bool.not_eq_true, ordersFull_iff]
    omega
  obtain ⟨hfree, hid1, hid2⟩ := acceptedId_fresh (s := s.openEvent) hlen h1 h2 hf
  obtain ⟨hroom, hmade⟩ := room_spec s.openEvent hf
  have hstart := acceptedOrder_startsAs s.openEvent (s.placeRequest a)
  have hlive : ∀ slot p, s.openEvent.pileAt? (s.placeRequest a).tag = some (slot, p) → p.life = .live :=
    fun slot p hslot => by
      have hp : s.pileAt? a.tag.toNat = some (slot, p) := hslot
      simpa [State.liveTag, hp] using hl
  have hsettled := settled_accept (r := s.placeRequest a) Origin.noConfusion hfree hlive
  have hcomplete := complete_placeRequest (u := s.openEvent) (id := s.openEvent.acceptedId) hp
  have hplace : s.placeOrder a = (s.openEvent.placed (s.placeRequest a)).answer Code.placeOrder .ok
      ([if s.openEvent.evicted.map Order.id = none then 0 else 1] ++ be16 (s.openEvent.acceptedOrder (s.placeRequest a)).id
        ++ be8 (s.openEvent.acceptedOrder (s.placeRequest a)).state.code ++ be16 (s.placeRequest a).dose
        ++ [if (s.placeRequest a).clamped then 1 else 0] ++ (s.suspensionAt a.tag.toNat).bytes
        ++ be16 ((s.openEvent.evicted.map Order.id).getD 0)) := by
    rw [placeOrder_of_accepted ha hl hp hf, ← pack_placeReply, acceptedOrder_id, ← orderCode_placed hfree, ← hsettled]
    rfl
  refine ⟨s.placeOrder a, s.openEvent.acceptedOrder (s.placeRequest a), s.openEvent.withRoom.dispatch.orders,
    s.openEvent.evicted.map Order.id, rfl, ?frame, hroom, hmade, fun x hx he => hfree (List.mem_map.2 ⟨x, hx, ?isId⟩),
    (acceptedOrder_id s.openEvent _).symm ▸ hid1, (acceptedOrder_id s.openEvent _).symm ▸ hid2, fun hnext => ?nextId,
    hstart.tag, hstart.origin, hstart.priority, ?policy, hstart.volley, hstart.delivered, hstart.starved,
    hstart.cancelPending, hstart.accepted, hstart.lapseRef, hstart.passes, hstart.lastEnd, hstart.pass, ?suspension,
    fun hnil => ?single, fun hne => ?planned, fun finished hfin => ⟨fun hdone => ?done, fun hdone => ?begun, ?reply⟩⟩
  case frame =>
    rw [hplace]
    exact answer_placed s.openEvent (s.placeRequest a) Code.placeOrder .ok _
  case isId => rw [he, acceptedOrder_id]
  case nextId =>
    rw [acceptedOrder_id]
    refine acceptedId_of_free fun hmem => ?_
    obtain ⟨x, hx, he⟩ := List.mem_map.1 hmem
    exact hnext x hx he
  case policy =>
    rw [hstart.policy]
    obtain ⟨-, hargs⟩ := not_or.1 ((placeOrderArgsOk_iff a).1 ha)
    obtain ⟨-, hargs⟩ := not_or.1 hargs
    exact Policy.code_ofCode (Nat.not_lt.1 (not_or.1 hargs).1)
  case suspension =>
    rw [hstart.suspension]
    exact congrArg (Suspension.mk false _) (zoned_eq s a.tag.toNat)
  case single =>
    rw [hstart.plan, hstart.dose, hstart.clamped]
    simp [State.newOrder, State.placeRequest, hnil]
  case planned =>
    obtain ⟨-, hle, hpass, hstop⟩ :=
      advanceFrom_spec (s.planOf a) (s.planOf a).length 0 (Nat.zero_le _) (Nat.le_add_left _ _)
    have hpl : a.plan.isEmpty = false := by simpa using hne
    rw [hstart.plan, hstart.dose, hstart.clamped]
    simp only [State.newOrder, State.placeRequest, hpl, Bool.false_and, true_and]
    refine ⟨Plan.advanced ⟨s.planOf a, 0⟩, rfl, rfl, by simp [Plan.advanced, State.planOf], hle, fun i e x he hx => ?_,
      fun i x hi hx => hpass i x (Nat.zero_le _) hi hx, hstop⟩
    have hi := planOf_getElem? s a i
    rw [he] at hi
    exact clampShare_spec (Option.some.inj (hi.symm.trans hx))
  case done =>
    have hc := hcomplete.2 (by rw [hfin, hstart.dose] at hdone; exact hdone)
    rw [hplace, acceptedOrder_complete hc, State.placed, if_pos hc, accepted_eq]
    exact ⟨rfl, rfl, rfl, rfl, rfl⟩
  case begun =>
    have hc := Bool.eq_false_iff.2 (mt hcomplete.1 (by rw [hfin, hstart.dose] at hdone; exact hdone))
    rw [hplace, acceptedOrder_incomplete hc, State.placed, hc]
    cases hv : a.volley <;> simp [State.newOrder, State.placeRequest, hv, State.answer_eq, State.occasion, accepted_eq]
  case reply =>
    rw [hplace, hstart.dose, hstart.clamped, hstart.suspension, port_answer_placed]
    rfl

end Sys2Proof.Machine
end

section
set_option Elab.async false
/-! PROOFS. VOLLEY (R95); READ-ORDER's record (R96). -/

namespace Sys2Proof.Machine

/-! ## VOLLEY (R95) -/

theorem heardVolley_iff (o : Order) (code : Nat) :
    o.heardVolley code = true ↔ o.state = .volleyHeld ∧ (code = 0 ∨ o.volley = some code) := by
  simp [Order.heardVolley]

/-- Settles O34: the orders moved are those the model hears the code for. -/
theorem volleyReleasesHeldOrders : Obligations.VolleyReleasesHeldOrders := by
  unfold Obligations.VolleyReleasesHeldOrders
  intro broadcast code heard s hheard
  have hmoved : (fun o : Order => o.heardVolley code.toNat) = heard := by
    funext o
    exact Bool.eq_iff_iff.2 ((heardVolley_iff o code.toNat).trans (hheard o).symm)
  have hafter : (fun o : Order => o.afterVolley code.toNat) =
      fun o => if heard o then { o with state := .waiting, volley := none } else o := by
    funext o
    rw [Order.afterVolley, ← congrFun hmoved o]
  have hfire : s.fireVolley broadcast code = State.answerUnless (s.releaseVolley code.toNat) broadcast Code.volley .ok
      (be8 (s.dispatch.orders.countP heard)) := by
    rw [State.fireVolley, hmoved, List.countP_eq_length_filter]
  have hrelease : s.releaseVolley code.toNat = { s with dispatch := { s.dispatch with
      orders := s.dispatch.orders.map fun o => if heard o then { o with state := .waiting, volley := none } else o
      due := s.dispatch.due + if s.dispatch.orders.any heard then 1 else 0 } } := by
    rw [State.releaseVolley, hafter, hmoved]
    cases s.dispatch.orders.any heard
    · rfl
    · rfl
  refine ⟨s.fireVolley broadcast code, rfl, ?_⟩
  rw [hfire, hrelease]
  cases broadcast
  · exact ⟨rfl, rfl, rfl, rfl⟩
  · exact ⟨rfl, rfl, rfl, rfl⟩

/-! ## Bytes of a payload -/

theorem u8_cons_zero (b : Byte) (l : List Byte) : u8 (b :: l) 0 = b := rfl
theorem u8_cons_succ (b : Byte) (l : List Byte) (i : Nat) : u8 (b :: l) (i + 1) = u8 l i := rfl

/-- A byte that lies past some bytes stands at its offset in the rest. -/
theorem u8_append_right {a b : List Byte} {n : Nat} (h : a.length = n) (k : Nat) : u8 (a ++ b) (n + k) = u8 b k := by
  rw [u8, u8, List.getD_append_right _ _ _ _ (by omega), h, Nat.add_sub_cancel_left]

/-- A byte of a group among groups of one length. -/
theorem u8_flatMap {α : Type} {f : α → List Byte} {n : Nat} (hf : ∀ x, (f x).length = n) {l : List α} {i : Nat} {x : α}
    (hx : l[i]? = some x) {j : Nat} (hj : j < n) : u8 (l.flatMap f) (n * i + j) = u8 (f x) j := by
  induction l generalizing i with
  | nil => exact absurd hx (by simp)
  | cons y l ih =>
    rw [List.flatMap_cons]
    cases i with
    | zero =>
      obtain rfl : y = x := by simpa using hx
      rw [Nat.mul_zero, Nat.zero_add, u8, u8, List.getD_append _ _ _ _ (by rw [hf]; exact hj)]
    | succ i => rw [Nat.mul_succ, show n * i + n + j = n + (n * i + j) by omega, u8_append_right (hf y), ih hx]

theorem toNat_originCode (o : Origin) : (BitVec.ofNat 8 o.code).toNat = o.code := by cases o <;> rfl
theorem toNat_policyCode (o : Policy) : (BitVec.ofNat 8 o.code).toNat = o.code := by cases o <;> rfl
theorem toNat_orderStateCode (o : OrderState) : (BitVec.ofNat 8 o.code).toNat = o.code := by cases o <;> rfl
theorem toNat_passKindCode (o : PassKind) : (BitVec.ofNat 8 o.code).toNat = o.code := by cases o <;> rfl
theorem toNat_outcomeCode (o : OrderOutcome) : (BitVec.ofNat 8 o.code).toNat = o.code := by cases o <;> rfl
theorem toNat_passStateCode (o : PassState) : (BitVec.ofNat 8 o.code).toNat = o.code := by cases o <;> rfl
theorem toNat_headerCode (o : Header) : (BitVec.ofNat 8 o.code).toNat = o.code := by cases o <;> rfl

/-! ## Optional fields that are present -/

theorem toNat_opt8 {x : Option Nat} {v : Nat} (hx : x = some v) (h : v < 256) : (BitVec.ofNat 8 (x.getD 0)).toNat = v := by
  rw [hx]
  exact toNat_be8 h

theorem toNat_opt16 {x : Option Nat} {v : Nat} (hx : x = some v) (h : v < 65536) :
    (BitVec.ofNat 8 (x.getD 0 / 256) ++ BitVec.ofNat 8 (x.getD 0)).toNat = v := by
  rw [hx]
  exact toNat_be16 h

theorem toNat_opt32 {x : Option Nat} {v : Nat} (hx : x = some v) (h : v < 4294967296) :
    ((BitVec.ofNat 8 (x.getD 0 / 65536 / 256) ++ BitVec.ofNat 8 (x.getD 0 / 65536))
      ++ (BitVec.ofNat 8 (x.getD 0 / 256) ++ BitVec.ofNat 8 (x.getD 0))).toNat = v := by
  rw [hx]
  exact toNat_be32 h

/-! ## READ-ORDER (R96) -/

/-- The bytes of an order's record in front of its plan entries. -/
def Order.headBytes (o : Order) : List Byte :=
  [BitVec.ofNat 8 (o.id / 256), BitVec.ofNat 8 o.id, BitVec.ofNat 8 (o.tag / 256), BitVec.ofNat 8 o.tag,
    BitVec.ofNat 8 o.origin.code, BitVec.ofNat 8 o.priority, BitVec.ofNat 8 (o.dose / 256), BitVec.ofNat 8 o.dose,
    BitVec.ofNat 8 (o.delivered / 65536 / 256), BitVec.ofNat 8 (o.delivered / 65536), BitVec.ofNat 8 (o.delivered / 256),
    BitVec.ofNat 8 o.delivered, BitVec.ofNat 8 (o.outstanding / 256), BitVec.ofNat 8 o.outstanding,
    BitVec.ofNat 8 o.policy.code, BitVec.ofNat 8 o.state.code,
    flagByte [o.suspension.host, o.suspension.hold, o.suspension.zone],
    flagByte [o.starved, o.clamped, o.cancelPending, o.volley.isSome, o.lastEnd.isSome, o.pass.isSome,
      o.state == .ended, (o.pass.bind Pass.meterStart).isSome],
    BitVec.ofNat 8 (o.volley.getD 0), BitVec.ofNat 8 (o.accepted / 65536 / 256), BitVec.ofNat 8 (o.accepted / 65536),
    BitVec.ofNat 8 (o.accepted / 256), BitVec.ofNat 8 o.accepted, BitVec.ofNat 8 (o.lapseRef / 65536 / 256),
    BitVec.ofNat 8 (o.lapseRef / 65536), BitVec.ofNat 8 (o.lapseRef / 256), BitVec.ofNat 8 o.lapseRef,
    BitVec.ofNat 8 o.passes, BitVec.ofNat 8 ((o.lastEnd.map PassKind.code).getD 0),
    BitVec.ofNat 8 ((o.outcome.map OrderOutcome.code).getD 0), BitVec.ofNat 8 (o.endedMinute.getD 0 / 65536 / 256),
    BitVec.ofNat 8 (o.endedMinute.getD 0 / 65536), BitVec.ofNat 8 (o.endedMinute.getD 0 / 256),
    BitVec.ofNat 8 (o.endedMinute.getD 0), BitVec.ofNat 8 ((o.pass.map Pass.cannon).getD 0),
    BitVec.ofNat 8 ((o.pass.map fun p => p.header.code).getD 0), BitVec.ofNat 8 ((o.pass.map Pass.dose).getD 0 / 256),
    BitVec.ofNat 8 ((o.pass.map Pass.dose).getD 0), BitVec.ofNat 8 ((o.pass.map Pass.reservation).getD 0 / 256),
    BitVec.ofNat 8 ((o.pass.map Pass.reservation).getD 0), BitVec.ofNat 8 ((o.pass.bind Pass.meterStart).getD 0 / 256),
    BitVec.ofNat 8 ((o.pass.bind Pass.meterStart).getD 0), BitVec.ofNat 8 ((o.pass.map Pass.delivered).getD 0 / 256),
    BitVec.ofNat 8 ((o.pass.map Pass.delivered).getD 0), BitVec.ofNat 8 ((o.pass.map fun p => p.state.code).getD 0),
    BitVec.ofNat 8 (o.meteredSoFar / 65536 / 256), BitVec.ofNat 8 (o.meteredSoFar / 65536),
    BitVec.ofNat 8 (o.meteredSoFar / 256), BitVec.ofNat 8 o.meteredSoFar,
    BitVec.ofNat 8 ((o.plan.map Plan.current).getD 0), BitVec.ofNat 8 o.entries.length]

theorem bytes_eq_headBytes (o : Order) : o.bytes = o.headBytes ++ o.entries.flatMap PlanEntry.bytes := by
  unfold Order.bytes Order.headBytes
  simp only [be8, be16, be32, passBytes, Suspension.bytes, List.cons_append, List.nil_append]

theorem length_headBytes (o : Order) : o.headBytes.length = 51 := rfl

/-- A byte in front of the plan entries. -/
theorem u8_bytes (o : Order) {i : Nat} (h : i < 51) : u8 o.bytes i = u8 o.headBytes i := by
  rw [bytes_eq_headBytes, u8, u8, List.getD_append _ _ _ _ (by rw [length_headBytes]; exact h)]

theorem length_bytes (o : Order) : o.bytes.length = 51 + 8 * o.entries.length := by
  rw [bytes_eq_headBytes, List.length_append, length_headBytes, List.length_flatMap]
  congr 1
  induction o.entries with
  | nil => rfl
  | cons e es ih =>
    rw [List.map_cons, List.sum_cons, ih, List.length_cons]
    change 8 + _ = _
    omega

/-- A byte of a plan entry. -/
theorem u8_bytes_entry {o : Order} {i j : Nat} {e : PlanEntry} (he : o.entries[i]? = some e) (hj : j < 8) :
    u8 o.bytes (51 + (8 * i + j)) = u8 e.bytes j := by
  rw [bytes_eq_headBytes, u8_append_right (length_headBytes o), u8_flatMap (n := 8) (fun _ => rfl) he hj]

/-- Two arcs packed in three bytes are read back. -/
theorem toNat_packedArc {x y : Nat} (hx : x < 360) (hy : y < 360) :
    (BitVec.ofNat 8 (x / 16)).toNat * 16 + (BitVec.ofNat 8 (x % 16 * 16 + y / 256)).toNat / 16 = x
      ∧ (BitVec.ofNat 8 (x % 16 * 16 + y / 256)).toNat % 16 * 256 + (BitVec.ofNat 8 y).toNat = y := by
  simp only [BitVec.toNat_ofNat]
  omega

theorem entries_length (o : Order) : o.entries.length = (o.plan.map fun p => p.entries.length).getD 0 := by
  rw [Order.entries]
  cases o.plan <;> rfl

theorem readOrder_byId_none {s : State} {value : Half} (h : s.order? value.toNat = none) :
    s.readOrder 0 value = s.answer Code.readOrder .unknown [] := by
  change s.readOrderById value.toNat = _
  simp only [State.readOrderById, h]

theorem readOrder_byId_some {s : State} {value : Half} {o : Order} (h : s.order? value.toNat = some o) :
    s.readOrder 0 value =
      (if o.isOpen then s else s.freeOrder value.toNat).answer Code.readOrder .ok o.bytes := by
  change s.readOrderById value.toNat = _
  simp only [State.readOrderById, h]

theorem readOrderAt_of_high {s : State} {i : Nat} (h : 31 < i) :
    s.readOrderAt i = s.answer Code.readOrder .badArgument [] := if_pos h

theorem readOrderAt_of_past {s : State} {i : Nat} (h : i ≤ 31) (hlen : s.dispatch.orders.length ≤ i) :
    s.readOrderAt i = s.answer Code.readOrder .unknown [] := by
  simp only [State.readOrderAt, if_neg (show ¬ Config.orders ≤ i from Nat.not_le.2 (Nat.lt_succ_of_le h)),
    List.getElem?_eq_none hlen]

theorem readOrderAt_of_some {s : State} {i : Nat} {o : Order} (h : i ≤ 31) (ho : s.dispatch.orders[i]? = some o) :
    s.readOrderAt i = s.answer Code.readOrder .ok o.bytes := by
  simp only [State.readOrderAt, if_neg (show ¬ Config.orders ≤ i from Nat.not_le.2 (Nat.lt_succ_of_le h)), ho]

theorem readOrder_unlisted {s : State} {selector : Byte} {value : Half} (h : 1 < selector.toNat) :
    s.readOrder selector value = s.answer Code.readOrder .badArgument [] := by
  unfold State.readOrder
  split
  · omega
  · omega
  · rfl

/-- Settles O37: the record is 51 bytes in front of the plan entries, eight bytes for each, and each field is read back from
its bytes. -/
theorem readOrderAnswersTheRecord : Obligations.ReadOrderAnswersTheRecord := by
  unfold Obligations.ReadOrderAnswersTheRecord
  refine fun value s => ⟨fun h => congrArg Host.Outcome.next (readOrder_byId_none h), fun h => congrArg Host.Outcome.next
    (readOrderAt_of_high h), fun hle hlen => congrArg Host.Outcome.next (readOrderAt_of_past hle hlen),
    fun selector h => congrArg Host.Outcome.next (readOrder_unlisted h), fun o => ⟨o.bytes, fun ho hopen => ?opened,
      fun ho hended => ?freed, fun hle ho => congrArg Host.Outcome.next (readOrderAt_of_some hle ho),
      by rw [length_bytes, entries_length], ?_⟩⟩
  case opened =>
    refine congrArg Host.Outcome.next ((readOrder_byId_some ho).trans ?_)
    rw [if_pos (isOpen_iff.2 hopen)]
    rfl
  case freed =>
    refine congrArg Host.Outcome.next ((readOrder_byId_some ho).trans ?_)
    rw [if_neg (by rw [isOpen_iff, not_not]; exact hended)]
    rfl
  simp (disch := decide) only [u16, u32, u8_bytes, Nat.reduceAdd]
  unfold Order.headBytes
  simp only [u8_cons_zero, u8_cons_succ]
  refine ⟨toNat_be16, toNat_be16, toNat_originCode _, toNat_be8, fun h => ⟨toNat_be16 h, toNat_be16 (by
      rw [Order.outstanding]; omega)⟩, toNat_be32, toNat_policyCode _, toNat_orderStateCode _,
    getLsbD_flagByte _ 0 (by decide), getLsbD_flagByte _ 1 (by decide), getLsbD_flagByte _ 2 (by decide),
    getLsbD_flagByte _ 0 (by decide), getLsbD_flagByte _ 1 (by decide), getLsbD_flagByte _ 2 (by decide),
    getLsbD_flagByte _ 3 (by decide), getLsbD_flagByte _ 4 (by decide), getLsbD_flagByte _ 5 (by decide),
    (getLsbD_flagByte _ 6 (by decide)).trans ?ended, (getLsbD_flagByte _ 7 (by decide)).trans ?opened7,
    fun v hv h => toNat_opt8 hv h, toNat_be32, toNat_be32, toNat_be8, fun k hk => ?lastEnd, fun x hx => ?outcome,
    fun m hm h => toNat_opt32 hm h, fun p hp => ⟨toNat_opt8 (by rw [hp]; rfl), ?header, toNat_opt16 (by rw [hp]; rfl),
      toNat_opt16 (by rw [hp]; rfl), fun m hm => toNat_opt16 (by rw [hp]; exact hm), toNat_opt16 (by rw [hp]; rfl),
      ?passState⟩, fun p hp => toNat_opt32 (by rw [hp]; rfl), fun hp => ?unmetered,
    fun p hp => ⟨toNat_opt8 (by rw [hp]; rfl), ?count, fun i e he h1 h2 h3 h4 => ?entry⟩⟩
  case ended => cases o.state <;> rfl
  case opened7 => cases o.pass <;> rfl
  case lastEnd =>
    rw [hk]
    exact toNat_passKindCode k
  case outcome =>
    rw [hx]
    exact toNat_outcomeCode x
  case header =>
    rw [hp]
    exact toNat_headerCode p.header
  case passState =>
    rw [hp]
    exact toNat_passStateCode p.state
  case unmetered =>
    have hzero : o.meteredSoFar = 0 := by rw [Order.meteredSoFar, hp]; rfl
    rw [hzero]
    exact toNat_be32 (by omega)
  case count =>
    rw [Order.entries, hp]
    exact toNat_be8
  case entry =>
    have hentry : o.entries[i]? = some e := by rw [Order.entries, hp]; exact he
    obtain ⟨hstart, hend⟩ := toNat_packedArc h1 h2
    rw [show 51 + 8 * i = 51 + (8 * i + 0) by omega, show 52 + 8 * i = 51 + (8 * i + 1) by omega,
      show 53 + 8 * i = 51 + (8 * i + 2) by omega, show 54 + 8 * i = 51 + (8 * i + 3) by omega,
      show 55 + 8 * i + 1 = 51 + (8 * i + 5) by omega, show 55 + 8 * i = 51 + (8 * i + 4) by omega,
      show 57 + 8 * i + 1 = 51 + (8 * i + 7) by omega, show 57 + 8 * i = 51 + (8 * i + 6) by omega]
    simp (disch := decide) only [u8_bytes_entry hentry]
    refine ⟨fun n hn h => ?_, fun hn => ?_, hstart, hend, toNat_be16 h3, toNat_be16 h4⟩
    · change (BitVec.ofNat 8 (e.cannon.getD 255)).toNat = n
      rw [hn]
      exact toNat_be8 h
    · change BitVec.ofNat 8 (e.cannon.getD 255) = 255
      rw [hn]
      rfl

end Sys2Proof.Machine
end

section
set_option Elab.async false
/-! PROOFS. The items of a payload at their offsets (R187). -/

namespace Sys2Proof.Machine

/-! ## Flag bytes -/

theorem length_flagBytes (bs : List Bool) : (flagBytes bs).length = (bs.length + 7) / 8 := by
  rw [flagBytes, List.length_map, List.length_range]

/-- A flag is read back from the flag bytes a payload starts with. -/
theorem getLsbD_flagBytes {bs : List Bool} {i : Nat} (h : i < bs.length) (t : List Byte) :
    (u8 (flagBytes bs ++ t) (i / 8)).getLsbD (i % 8) = bs.getD i false := by
  have hlt : i / 8 < (bs.length + 7) / 8 := by omega
  have hget : (flagBytes bs)[i / 8]? = some (flagByte ((bs.drop (8 * (i / 8))).take 8)) := by
    rw [flagBytes, List.getElem?_map, List.getElem?_range hlt]
    rfl
  rw [u8, List.getD_append _ _ _ _ (by rw [length_flagBytes]; exact hlt), List.getD_eq_getElem?_getD, hget,
    Option.getD_some, getLsbD_flagByte _ _ (Nat.mod_lt _ (by decide)), List.getD_eq_getElem?_getD,
    List.getD_eq_getElem?_getD, List.getElem?_take_of_lt (Nat.mod_lt _ (by decide)), List.getElem?_drop,
    Nat.div_add_mod]

/-! ## Entries of a payload: items of one field each -/

/-- An item of one field: one that is always there, or an optional one, in its width. -/
inductive Entry where
  | byte (n : Nat)
  | half (n : Nat)
  | long (n : Nat)
  | sbyte (n : Int)
  | flag (b : Bool)
  | opt8 (x : Option Nat)
  | opt16 (x : Option Nat)
  | opt32 (x : Option Nat)
  | opt8s (x : Option Int)
  | optFlag (x : Option Bool)

namespace Entry

/-- The item of the model that an entry stands for. -/
def item : Entry → Item
  | byte n => .always (be8 n)
  | half n => .always (be16 n)
  | long n => .always (be32 n)
  | sbyte n => .always (be8s n)
  | flag b => .always (Machine.flag b)
  | opt8 x => Machine.opt8 x
  | opt16 x => Machine.opt16 x
  | opt32 x => Machine.opt32 x
  | opt8s x => Machine.opt8s x
  | optFlag x => Machine.optFlag x

/-- The bytes an entry takes. -/
def width : Entry → Nat
  | byte _ | sbyte _ | flag _ | opt8 _ | opt8s _ | optFlag _ => 1
  | half _ | opt16 _ => 2
  | long _ | opt32 _ => 4

/-- The value of an entry that is always there. -/
def plain? : Entry → Option Nat
  | byte n | half n | long n => some n
  | sbyte n => some (n % 256).toNat
  | flag b => some b.toNat
  | _ => none

/-- The value of an optional entry. -/
def optional? : Entry → Option (Option Nat)
  | opt8 x | opt16 x | opt32 x => some x
  | opt8s x => some (x.map fun n => (n % 256).toNat)
  | optFlag x => some (x.map Bool.toNat)
  | _ => none

theorem length_bytes (e : Entry) : e.item.bytes.length = e.width := by cases e <;> rfl

/-- The field of an entry that is always there. -/
theorem fieldAt_plain {e : Entry} {n : Nat} (h : e.plain? = some n) (t : List Byte) :
    fieldAt (e.item.bytes ++ t) 0 e.width = n % 256 ^ e.width := by
  cases e with
  | byte n => exact Option.some.inj h ▸ fieldAt_be8 n t
  | half n => exact Option.some.inj h ▸ fieldAt_be16 n t
  | long n => exact Option.some.inj h ▸ fieldAt_be32 n t
  | sbyte n =>
    obtain rfl := Option.some.inj h
    exact (fieldAt_be8s n t).trans (Nat.mod_eq_of_lt (show _ < 256 by omega)).symm
  | flag b =>
    obtain rfl := Option.some.inj h
    exact (fieldAt_flag b t).trans (by cases b <;> rfl)
  | _ => exact absurd h (by simp [plain?])

/-- The field of an optional entry: its value, or zeros. -/
theorem fieldAt_optional {e : Entry} {x : Option Nat} (h : e.optional? = some x) (t : List Byte) :
    fieldAt (e.item.bytes ++ t) 0 e.width = x.getD 0 % 256 ^ e.width := by
  cases e with
  | opt8 x => exact Option.some.inj h ▸ fieldAt_be8 _ t
  | opt16 x => exact Option.some.inj h ▸ fieldAt_be16 _ t
  | opt32 x => exact Option.some.inj h ▸ fieldAt_be32 _ t
  | opt8s x =>
    obtain rfl := Option.some.inj h
    refine (fieldAt_be8s (x.getD 0) t).trans ?_
    cases x with
    | none => rfl
    | some n => exact (Nat.mod_eq_of_lt (show (n % 256).toNat < 256 by omega)).symm
  | optFlag x =>
    obtain rfl := Option.some.inj h
    refine (fieldAt_flag (x.getD false) t).trans ?_
    cases x with
    | none => rfl
    | some b => cases b <;> rfl
  | _ => exact absurd h (by simp [optional?])

/-- The flag of an entry: none where it is always there. -/
theorem presence_eq (e : Entry) : e.item.presence = e.optional?.toList.map Option.isSome := by
  cases e with
  | opt8s x => cases x <;> rfl
  | optFlag x => cases x <;> rfl
  | _ => rfl

end Entry

/-- The fields always there, each at its offset. -/
def plainLayout : Nat → List Entry → List (Nat × Nat × Nat)
  | _, [] => []
  | off, e :: es => (e.plain?.toList.map fun n => (off, e.width, n)) ++ plainLayout (off + e.width) es

/-- The optional fields, each with the number of its flag and its offset. -/
def optionalLayout : Nat → Nat → List Entry → List (Nat × Nat × Nat × Option Nat)
  | _, _, [] => []
  | bit, off, e :: es => (e.optional?.toList.map fun x => (bit, off, e.width, x))
      ++ optionalLayout (bit + e.optional?.toList.length) (off + e.width) es

/-- The bytes of some entries. -/
def entryBytes (es : List Entry) : List Byte := (es.map Entry.item).flatMap Item.bytes

theorem entryBytes_cons (e : Entry) (es : List Entry) : entryBytes (e :: es) = e.item.bytes ++ entryBytes es := by
  rw [entryBytes, List.map_cons, List.flatMap_cons, entryBytes]

theorem fieldAt_skip {a b : List Byte} {n : Nat} (h : a.length = n) (k width : Nat) :
    fieldAt (a ++ b) (n + k) width = fieldAt b k width := h ▸ fieldAt_append_right a b k width

/-- Entries that stand behind some bytes tell the values that are always there. -/
theorem tells_entryBytes {es : List Entry} {front back : List Byte} {off : Nat} (hoff : front.length = off) :
    tells (front ++ (entryBytes es ++ back)) (plainLayout off es) := by
  induction es generalizing front off with
  | nil => exact fun _ _ _ h => absurd h (by simp [plainLayout])
  | cons e es ih =>
    rw [entryBytes_cons, List.append_assoc]
    intro o w n hmem
    rcases List.mem_append.1 hmem with h | h
    · obtain ⟨v, hv, heq⟩ := List.mem_map.1 h
      obtain ⟨rfl, rfl, rfl⟩ := Prod.mk.injEq .. ▸ heq
      exact (fieldAt_skip hoff 0 e.width).trans (Entry.fieldAt_plain (by simpa using hv) _)
    · have := ih (front := front ++ e.item.bytes) (by rw [List.length_append, hoff, e.length_bytes]) o w n h
      rwa [List.append_assoc] at this

/-- The flags of some entries. -/
def entryFlags (es : List Entry) : List Bool := (es.map Entry.item).flatMap Item.presence

theorem entryFlags_cons (e : Entry) (es : List Entry) :
    entryFlags (e :: es) = e.optional?.toList.map Option.isSome ++ entryFlags es := by
  rw [entryFlags, List.map_cons, List.flatMap_cons, Entry.presence_eq, entryFlags]

/-- Entries that stand behind the flag bytes and more bytes tell their optional values. -/
theorem tellsOptional_entryBytes {es : List Entry} {before after flags : List Bool} {front back : List Byte}
    {bit off : Nat} (hoff : (flagBytes flags ++ front).length = off) (hbit : before.length = bit)
    (hflags : flags = before ++ (entryFlags es ++ after)) :
    tellsOptional (flagBytes flags ++ (front ++ (entryBytes es ++ back))) (optionalLayout bit off es) := by
  induction es generalizing front before bit off with
  | nil => exact fun _ _ _ _ h => absurd h (by simp [optionalLayout])
  | cons e es ih =>
    rw [entryFlags_cons, List.append_assoc] at hflags
    rw [entryBytes_cons, List.append_assoc]
    intro k o w x hmem
    rcases List.mem_append.1 hmem with h | h
    · obtain ⟨v, hv, heq⟩ := List.mem_map.1 h
      obtain ⟨rfl, rfl, rfl, rfl⟩ : bit = k ∧ off = o ∧ e.width = w ∧ v = x := by simpa using heq
      have hsome : e.optional? = some v := by simpa using hv
      refine ⟨?_, ?_⟩
      · have hget : flags.getD bit false = v.isSome := by
          rw [hflags, hsome, ← hbit, List.getD_eq_getElem?_getD, List.getElem?_append_right (le_refl _), Nat.sub_self]
          rfl
        rw [getLsbD_flagBytes (by rw [hflags, hsome, ← hbit]; simp), hget]
      · rw [← List.append_assoc]
        exact (fieldAt_skip hoff 0 e.width).trans (Entry.fieldAt_optional hsome _)
    · have := ih (front := front ++ e.item.bytes) (before := before ++ e.optional?.toList.map Option.isSome)
        (by rw [← List.append_assoc, List.length_append, hoff, e.length_bytes])
        (by rw [List.length_append, hbit, List.length_map]) (by rw [hflags, List.append_assoc]) k o w x h
      rwa [List.append_assoc] at this

/-! ## Payloads made of entries and other items -/

/-- The flags an entry has: one where it is optional. -/
def Entry.flagCount : Entry → Nat
  | byte _ | half _ | long _ | sbyte _ | flag _ => 0
  | opt8 _ | opt16 _ | opt32 _ | opt8s _ | optFlag _ => 1

/-- The flags of a list of items. -/
def flagCount (items : List Item) : Nat := (items.flatMap Item.presence).length

theorem length_presence (e : Entry) : e.item.presence.length = e.flagCount := by cases e <;> rfl

theorem flagCount_entries (es : List Entry) : flagCount (es.map Entry.item) = (es.map Entry.flagCount).sum := by
  rw [flagCount, List.length_flatMap, List.map_map]
  exact congrArg List.sum (List.map_congr_left fun e _ => length_presence e)

/-- What a payload tells of a run of entries in it, whatever items stand in front of them and behind. -/
theorem tells_pack {before after : List Item} {es : List Entry} {off : Nat}
    (hoff : (flagCount before + (es.map Entry.flagCount).sum + flagCount after + 7) / 8
      + (before.flatMap Item.bytes).length = off) :
    tells (pack (before ++ (es.map Entry.item ++ after))) (plainLayout off es) := by
  have hfront : (flagBytes ((before ++ (es.map Entry.item ++ after)).flatMap Item.presence)
      ++ before.flatMap Item.bytes).length = off := by
    rw [List.length_append, length_flagBytes, List.flatMap_append, List.flatMap_append, List.length_append,
      List.length_append, ← hoff, ← flagCount_entries, ← Nat.add_assoc]
    rfl
  have := tells_entryBytes (es := es) (back := after.flatMap Item.bytes) hfront
  rw [pack, List.flatMap_append (f := Item.bytes), List.flatMap_append (f := Item.bytes)]
  rwa [List.append_assoc] at this

theorem tellsOptional_pack {before after : List Item} {es : List Entry} {bit off : Nat} (hbit : flagCount before = bit)
    (hoff : (flagCount before + (es.map Entry.flagCount).sum + flagCount after + 7) / 8
      + (before.flatMap Item.bytes).length = off) :
    tellsOptional (pack (before ++ (es.map Entry.item ++ after))) (optionalLayout bit off es) := by
  have hfront : (flagBytes ((before ++ (es.map Entry.item ++ after)).flatMap Item.presence)
      ++ before.flatMap Item.bytes).length = off := by
    rw [List.length_append, length_flagBytes, List.flatMap_append, List.flatMap_append, List.length_append,
      List.length_append, ← hoff, ← flagCount_entries, ← Nat.add_assoc]
    rfl
  rw [pack, List.flatMap_append (f := Item.bytes), List.flatMap_append (f := Item.bytes)]
  exact tellsOptional_entryBytes (after := after.flatMap Item.presence) hfront hbit
    (by rw [List.flatMap_append, List.flatMap_append, entryFlags])

/-- A payload takes its flag bytes and the bytes of its items. -/
theorem length_pack (items : List Item) :
    (pack items).length = (flagCount items + 7) / 8 + (items.flatMap Item.bytes).length := by
  rw [pack, List.length_append, length_flagBytes, flagCount]

theorem length_entryBytes (es : List Entry) : (entryBytes es).length = (es.map Entry.width).sum := by
  rw [entryBytes, List.length_flatMap, List.map_map]
  exact congrArg List.sum (List.map_congr_left fun e _ => e.length_bytes)

theorem tells_append {b : List Byte} {l m : List (Nat × Nat × Nat)} (hl : tells b l) (hm : tells b m) : tells b (l ++ m) :=
  fun o w n h => (List.mem_append.1 h).elim (hl o w n) (hm o w n)

theorem tellsOptional_append {b : List Byte} {l m : List (Nat × Nat × Nat × Option Nat)} (hl : tellsOptional b l)
    (hm : tellsOptional b m) : tellsOptional b (l ++ m) :=
  fun k o w x h => (List.mem_append.1 h).elim (hl k o w x) (hm k o w x)

end Sys2Proof.Machine
end

section
set_option Elab.async false
/-! PROOFS. READ-WIND's items (R58). -/

namespace Sys2Proof.Machine

/-- Bytes behind a payload stand as one more item of it. -/
theorem pack_append (items : List Item) (t : List Byte) : pack items ++ t = pack (items ++ [.always t]) := by
  simp [pack, Item.presence, Item.bytes]

/-- A payload of entries alone takes its flag bytes and the widths of its entries. -/
theorem length_pack_entries (es : List Entry) :
    (pack (es.map Entry.item)).length = ((es.map Entry.flagCount).sum + 7) / 8 + (es.map Entry.width).sum := by
  rw [length_pack, flagCount_entries, ← entryBytes, length_entryBytes]

/-! ## READ-WIND (R58) -/

/-- The entries of READ-WIND in front of the masts. -/
def Wind.entries (w : Wind) : List Entry :=
  [.half w.weather.speed, .half w.weather.gustSpeed, .byte w.weather.octant, .byte w.weather.rh, .half w.weather.rain,
    .sbyte w.weather.temp, .byte w.weather.source.code, .flag w.cutOut, .flag w.frost, .half w.limits.gust,
    .half w.limits.hysteresis, .half w.limits.cutOut, .half w.limits.release, .sbyte w.limits.frost,
    .sbyte w.limits.frostRelease, .byte 2]

/-- The entries of one mast. -/
def mastEntries (m : Option Mast) : List Entry :=
  [.flag m.isSome, .opt8 (m.map (·.node)), .opt16 (m.map (·.stale)), .optFlag (m.map fun m => !m.fresh),
    .opt8 (m.map fun m => m.ring.length), .opt16 (m.bind Mast.average), .opt16 (m.bind Mast.peak),
    .opt16 (m.bind (·.inst)), .opt8 (m.bind (·.octant)), .opt8 (m.bind (·.pendingOctant)), .optFlag (m.map (·.gust)),
    .opt16 (m.bind (·.direction)), .opt8 (m.bind (·.rh)), .opt16 (m.bind (·.rain)), .opt8s (m.bind (·.temp)),
    .opt16 (m.bind (·.age))]

theorem mastItems_eq (m : Option Mast) : mastItems m = (mastEntries m).map Entry.item := rfl

/-- READ-WIND's payload. -/
theorem readWind_eq (s : State) : s.readWind = s.answer Code.readWind .ok (entryBytes s.wind.entries
    ++ (pack ((mastEntries (Table.get s.wind.masts 0)).map Entry.item)
      ++ pack ((mastEntries (Table.get s.wind.masts 1)).map Entry.item))) := by
  have hbytes : s.wind.bytes ++ be8 2 = entryBytes s.wind.entries := by
    simp [Wind.bytes, Wind.entries, entryBytes, Entry.item, Item.bytes]
  rw [State.readWind, ← hbytes]
  simp [counted, Config.masts, List.range_succ, mastItems_eq]

theorem mastEntries_flagCount (m : Option Mast) : ((mastEntries m).map Entry.flagCount).sum = 15 := by
  simp [mastEntries, Entry.flagCount]
theorem mastEntries_width (m : Option Mast) : ((mastEntries m).map Entry.width).sum = 23 := by
  simp [mastEntries, Entry.width]

theorem length_pack_mast (m : Option Mast) : (pack ((mastEntries m).map Entry.item)).length = 25 := by
  rw [length_pack_entries, mastEntries_flagCount, mastEntries_width]

/-- What the entries of one mast tell, whatever stands behind them. -/
theorem mast_tells (m : Option Mast) (t : List Byte) :
    fieldAt (pack ((mastEntries m).map Entry.item) ++ t) 2 1 = m.isSome.toNat
      ∧ tellsOptional (pack ((mastEntries m).map Entry.item) ++ t) [(0, 3, 1, m.map fun x => x.node), (1, 4, 2, m.map fun x => x.stale),
          (2, 6, 1, m.map fun x => if x.fresh then 0 else 1), (3, 7, 1, m.map fun x => x.ring.length),
          (4, 8, 2, m.bind fun x => if x.ring = [] then none else some (x.ring.sum / x.ring.length)),
          (5, 10, 2, m.bind fun x => if x.ring = [] then none else some (x.ring.foldl max 0)),
          (6, 12, 2, m.bind fun x => x.inst), (7, 14, 1, m.bind fun x => x.octant),
          (8, 15, 1, m.bind fun x => x.pendingOctant), (9, 16, 1, m.map fun x => x.gust.toNat),
          (10, 17, 2, m.bind fun x => x.direction), (11, 19, 1, m.bind fun x => x.rh), (12, 20, 2, m.bind fun x => x.rain),
          (13, 22, 1, m.bind fun x => x.temp.map fun y => (y % 256).toNat), (14, 23, 2, m.bind fun x => x.age)] := by
  have hplain := tells_pack (before := []) (after := [.always t]) (es := mastEntries m) (off := 2) (by simp [mastEntries_flagCount, flagCount, Item.presence])
  have hopt := tellsOptional_pack (before := []) (after := [.always t]) (es := mastEntries m) (bit := 0) (off := 2) rfl
    (by simp [mastEntries_flagCount, flagCount, Item.presence])
  rw [List.nil_append, ← pack_append] at hplain hopt
  refine ⟨(hplain 2 1 _ (List.mem_cons_self ..)).trans (by cases m <;> rfl), ?_⟩
  convert hopt using 1
  cases m with
  | none => rfl
  | some x =>
    have haverage : x.average = if x.ring = [] then none else some (x.ring.sum / x.ring.length) := by
      simp [Mast.average]
    have hpeak : x.peak = if x.ring = [] then none else some (x.ring.foldl max 0) := by simp [Mast.peak]
    have hfresh : (!x.fresh).toNat = if x.fresh then 0 else 1 := by cases x.fresh <;> rfl
    simp only [Option.map_some, Option.bind_some, ← haverage, ← hpeak, ← hfresh]
    rfl

/-- READ-WIND answers every item at its offset. -/
theorem readWind_tells (s : State) :
    ∃ b : List Byte, exec .readWind s = .next { s with port := s.replied .ok 0x2A b } ∧ b.length = 73
    ∧ tells b [(0, 2, s.wind.weather.speed), (2, 2, s.wind.weather.gustSpeed), (4, 1, s.wind.weather.octant),
        (5, 1, s.wind.weather.rh), (6, 2, s.wind.weather.rain), (8, 1, (s.wind.weather.temp % 256).toNat),
        (9, 1, match s.wind.weather.source with | .observed => 0 | .forecast => 1 | .held => 2 | .unset => 3),
        (10, 1, s.wind.cutOut.toNat), (11, 1, s.wind.frost.toNat), (12, 2, s.wind.limits.gust),
        (14, 2, s.wind.limits.hysteresis), (16, 2, s.wind.limits.cutOut), (18, 2, s.wind.limits.release),
        (20, 1, (s.wind.limits.frost % 256).toNat), (21, 1, (s.wind.limits.frostRelease % 256).toNat), (22, 1, 2)]
    ∧ ∀ (n : Nat) (m : Option Mast) (g : List Byte), n < 2 → m = Table.get s.wind.masts n → g = b.drop (23 + 25 * n) →
        fieldAt g 2 1 = m.isSome.toNat
        ∧ tellsOptional g [(0, 3, 1, m.map fun x => x.node), (1, 4, 2, m.map fun x => x.stale),
          (2, 6, 1, m.map fun x => if x.fresh then 0 else 1), (3, 7, 1, m.map fun x => x.ring.length),
          (4, 8, 2, m.bind fun x => if x.ring = [] then none else some (x.ring.sum / x.ring.length)),
          (5, 10, 2, m.bind fun x => if x.ring = [] then none else some (x.ring.foldl max 0)),
          (6, 12, 2, m.bind fun x => x.inst), (7, 14, 1, m.bind fun x => x.octant),
          (8, 15, 1, m.bind fun x => x.pendingOctant), (9, 16, 1, m.map fun x => x.gust.toNat),
          (10, 17, 2, m.bind fun x => x.direction), (11, 19, 1, m.bind fun x => x.rh), (12, 20, 2, m.bind fun x => x.rain),
          (13, 22, 1, m.bind fun x => x.temp.map fun y => (y % 256).toNat), (14, 23, 2, m.bind fun x => x.age)] := by
  have hfront : (entryBytes s.wind.entries).length = 23 := by
    rw [length_entryBytes]
    simp [Wind.entries, Entry.width]
  have hfirst := length_pack_mast (Table.get s.wind.masts 0)
  have hsecond := length_pack_mast (Table.get s.wind.masts 1)
  refine ⟨_, congrArg Host.Outcome.next (readWind_eq s), by simp [hfront, hfirst, hsecond],
    (tells_entryBytes (es := s.wind.entries) (front := []) (off := 0) rfl :), fun n m g hn hm hg => ?_⟩
  subst hm hg
  rw [← List.drop_drop, List.drop_left' hfront]
  obtain rfl | rfl : n = 0 ∨ n = 1 := by omega
  · exact mast_tells _ _
  · rw [List.drop_left' hfirst, ← List.append_nil (pack _)]
    exact mast_tells _ []

end Sys2Proof.Machine
end

section
set_option Elab.async false
/-! PROOFS. Groups of fields in a payload; READ-CANNON's items (R120). -/

namespace Sys2Proof.Machine

/-! ## Groups -/

/-- Bytes of one item stand as two items. -/
theorem pack_split (before after : List Item) (p : Bool) (a b : List Byte) :
    pack (before ++ .optional p (a ++ b) :: after) = pack (before ++ .optional p a :: .always b :: after) := by
  simp [pack, Item.presence, Item.bytes]

theorem pack_split_always (before after : List Item) (a b : List Byte) :
    pack (before ++ .always (a ++ b) :: after) = pack (before ++ .always a :: .always b :: after) := by
  simp [pack, Item.presence, Item.bytes]

/-- The bytes of groups of one width. -/
theorem length_groups {α : Type} {g : α → List Entry} {n : Nat} (hn : ∀ x, ((g x).map Entry.width).sum = n) (l : List α) :
    (l.flatMap fun x => entryBytes (g x)).length = n * l.length := by
  induction l with
  | nil => rfl
  | cons x l ih => rw [List.flatMap_cons, List.length_append, ih, length_entryBytes, hn, List.length_cons, Nat.mul_succ,
      Nat.add_comm]

/-- What a payload tells of one of the groups of an item. -/
theorem tells_group {α : Type} {before after : List Item} {l : List α} {g : α → List Entry} {n off i : Nat} {x : α}
    (hn : ∀ x, ((g x).map Entry.width).sum = n) (hx : l[i]? = some x)
    (hoff : (flagCount before + flagCount after + 7) / 8 + (before.flatMap Item.bytes).length + n * i = off) :
    tells (pack (before ++ .always (l.flatMap fun x => entryBytes (g x)) :: after)) (plainLayout off (g x)) := by
  obtain ⟨hlt, rfl⟩ := List.getElem?_eq_some_iff.1 hx
  have hl : l = l.take i ++ l[i] :: l.drop (i + 1) := by rw [List.cons_getElem_drop_succ, List.take_append_drop]
  have hfront : (flagBytes ((before ++ .always (l.flatMap fun x => entryBytes (g x)) :: after).flatMap Item.presence)
      ++ (before.flatMap Item.bytes ++ (l.take i).flatMap fun x => entryBytes (g x))).length = off := by
    rw [List.length_append, length_flagBytes, List.length_append, length_groups hn, List.length_take_of_le hlt.le, ← hoff,
      ← Nat.add_assoc, List.flatMap_append, List.length_append, List.flatMap_cons]
    rfl
  have := tells_entryBytes (es := g l[i]) (back := ((l.drop (i + 1)).flatMap fun x => entryBytes (g x))
    ++ after.flatMap Item.bytes) hfront
  convert this using 1
  conv_lhs => rw [pack, List.flatMap_append (f := Item.bytes), List.flatMap_cons (f := Item.bytes), Item.bytes]
  conv_lhs => enter [2, 2, 1]; rw [hl, List.flatMap_append, List.flatMap_cons]
  simp only [List.append_assoc]

/-! ## READ-CANNON (R120) -/

/-- The entries of READ-CANNON in front of the coverage list. -/
def configFields (k : Option CannonConfig) : List Entry :=
  [.opt8 (k.map (·.node)), .opt8 (k.map fun k => k.supply.code), .opt16 (k.map (·.minDose)), .opt16 (k.map (·.maxDose)),
    .opt8 (k.map (·.rampTime)), .opt16 (k.map (·.rampAllowance)), .opt8 (k.map (·.sweepRate)),
    .opt8 (k.map (·.slewTimeout)), .opt16 (k.map (·.blanking)), .opt8 (k.map (·.extraDelay))]

/-- Those entries and the count of the coverage list. -/
def configEntries (k : Option CannonConfig) : List Entry := configFields k ++ [.opt8 (k.map fun k => k.coverage.length)]

/-- The fields of one coverage entry. -/
def coverEntries (v : Cover) : List Entry := [.half v.tag, .half v.arcStart, .half v.arcEnd]

/-- The entries of READ-CANNON behind the coverage entries. -/
def dutyEntries (x : Option Cannon) (k : Option CannonConfig) (n : Option Node) (p : Option Pass) : List Entry :=
  [.byte ((x.map fun c => c.state.code).getD 0), .opt8 (x.bind fun c => c.aimPhase.map AimPhase.code),
    .opt8 (x.map fun c => c.tripCount), .opt32 (x.bind fun c => c.lastTrip), .opt16 (x.bind fun c => c.meterLast),
    .opt8 (x.bind fun c => c.report.map fun r =>
      r.valve.code + 4 * r.settled.toNat + 8 * r.overload.toNat + 16 * r.valveFault.toNat),
    .opt8 (x.bind fun c => c.header.map Header.code), .opt32 (x.map fun c => c.stray),
    .opt8 (k.map fun _ => (n.any fun y => y.lost).toNat), .opt8 (n.bind fun y => y.slot.map LoopCommand.code),
    .opt16 (x.bind fun c => c.bound), .opt8 (p.map fun y => y.header.code), .opt16 (p.map fun y => y.dose),
    .opt16 (p.bind fun y => y.meterStart), .opt16 (p.map fun y => y.delivered),
    .opt8 (x.bind fun c => if c.bound = none then none else c.slew.or c.closeWait)]

theorem configEntries_flagCount (k : Option CannonConfig) : ((configEntries k).map Entry.flagCount).sum = 11 := by
  simp [configEntries, configFields, Entry.flagCount]

theorem configEntries_width (k : Option CannonConfig) : ((configEntries k).map Entry.width).sum = 15 := by
  simp [configEntries, configFields, Entry.width]

theorem coverEntries_width (v : Cover) : ((coverEntries v).map Entry.width).sum = 6 := by
  simp [coverEntries, Entry.width]

theorem dutyEntries_flagCount (x : Option Cannon) (k : Option CannonConfig) (n : Option Node) (p : Option Pass) :
    ((dutyEntries x k n p).map Entry.flagCount).sum = 15 := by
  simp [dutyEntries, Entry.flagCount]

theorem dutyEntries_width (x : Option Cannon) (k : Option CannonConfig) (n : Option Node) (p : Option Pass) :
    ((dutyEntries x k n p).map Entry.width).sum = 27 := by
  simp [dutyEntries, Entry.width]

/-- The pass bound to a cannon, as READ-CANNON finds it. -/
def State.passOf (s : State) (x : Option Cannon) : Option Pass :=
  x.bind fun c => c.bound.bind fun id => (s.order? id).bind fun o => o.pass

theorem boundPass_map_snd (s : State) (x : Option Cannon) : (x.bind s.boundPass?).map Prod.snd = s.passOf x := by
  cases x with
  | none => rfl
  | some c =>
    simp only [State.passOf, Option.bind_some, State.boundPass?]
    cases c.bound with
    | none => rfl
    | some id =>
      simp only [Option.bind_some]
      cases s.order? id with
      | none => rfl
      | some o => cases ho : o.pass <;> simp [ho]

/-- A flag told as an item is the number it stands for. -/
theorem optFlag_eq (x : Option Bool) : optFlag x = opt8 (x.map Bool.toNat) := by
  cases x with
  | none => rfl
  | some b => cases b <;> rfl

/-- The items behind the coverage list. -/
theorem dutyItems (s : State) (x : Option Cannon) :
    [.always (be8 ((x.map fun c => c.state.code).getD 0)), opt8 ((x.bind (·.aimPhase)).map AimPhase.code),
      opt8 (x.map (·.tripCount)), opt32 (x.bind (·.lastTrip)), opt16 (x.bind (·.meterLast)),
      .optional (x.bind (·.report)).isSome [((x.bind (·.report)).map NodeReport.byte).getD 0],
      opt8 ((x.bind (·.header)).map Header.code), opt32 (x.map (·.stray)),
      optFlag ((x.map Cannon.config).map fun k => s.nodeLost k.node),
      opt8 (((x.map Cannon.config).bind fun k => s.slot? k.node).map LoopCommand.code), opt16 (x.bind (·.bound)),
      opt8 (((x.bind s.boundPass?).map Prod.snd).map fun p => p.header.code),
      opt16 (((x.bind s.boundPass?).map Prod.snd).map Pass.dose),
      opt16 (((x.bind s.boundPass?).map Prod.snd).bind Pass.meterStart),
      opt16 (((x.bind s.boundPass?).map Prod.snd).map Pass.delivered), opt8 (x.bind Cannon.timeLeft)]
      = (dutyEntries x (x.map Cannon.config) ((x.map Cannon.config).bind fun k => s.node? k.node) (s.passOf x)).map
        Entry.item := by
  have hlost : optFlag ((x.map Cannon.config).map fun k => s.nodeLost k.node) = opt8 ((x.map Cannon.config).map fun _ =>
      (((x.map Cannon.config).bind fun k => s.node? k.node).any fun y => y.lost).toNat) := by
    rw [optFlag_eq]
    cases x with
    | none => rfl
    | some c =>
      simp only [State.nodeLost, Option.map_some, Option.bind_some]
      cases s.node? c.config.node <;> rfl
  have hslot : ((x.map Cannon.config).bind fun k => s.slot? k.node).map LoopCommand.code
      = ((x.map Cannon.config).bind fun k => s.node? k.node).bind fun y => y.slot.map LoopCommand.code := by
    cases x with
    | none => rfl
    | some c =>
      simp only [State.slot?, Option.map_some, Option.bind_some]
      cases s.node? c.config.node <;> rfl
  have htime : x.bind Cannon.timeLeft = x.bind fun c => if c.bound = none then none else c.slew.or c.closeWait := by
    cases x with
    | none => rfl
    | some c =>
      simp only [Option.bind_some, Cannon.timeLeft]
      cases c.bound <;> cases c.slew <;> rfl
  have hreport : Item.optional (x.bind (·.report)).isSome [((x.bind (·.report)).map NodeReport.byte).getD 0]
      = opt8 (x.bind fun c => c.report.map fun r =>
        r.valve.code + 4 * r.settled.toNat + 8 * r.overload.toNat + 16 * r.valveFault.toNat) := by
    cases x with
    | none => rfl
    | some c =>
      simp only [Option.bind_some]
      cases c.report <;> rfl
  rw [boundPass_map_snd, hlost, hslot, htime, hreport]
  cases x <;> rfl

/-- READ-CANNON's payload in its runs of entries. -/
theorem pack_cannonItems (s : State) (x : Option Cannon) :
    pack (s.cannonItems x) = pack ((configEntries (x.map Cannon.config)).map Entry.item
      ++ .always ((((x.map Cannon.config).map (·.coverage)).getD []).flatMap fun v => entryBytes (coverEntries v))
      :: (dutyEntries x (x.map Cannon.config) ((x.map Cannon.config).bind fun k => s.node? k.node) (s.passOf x)).map
        Entry.item) := by
  have hcover : coverageBytes (((x.map Cannon.config).map (·.coverage)).getD [])
      = be8 (((x.map Cannon.config).map fun k => k.coverage.length).getD 0)
        ++ (((x.map Cannon.config).map (·.coverage)).getD []).flatMap fun v => entryBytes (coverEntries v) := by
    cases x with
    | none => rfl
    | some c =>
      simp [coverageBytes, counted, List.flatMap, coverEntries, entryBytes, Entry.item, Item.bytes]
  have hitems : s.cannonItems x = (configFields (x.map Cannon.config)).map Entry.item
      ++ .optional (x.map Cannon.config).isSome (be8 (((x.map Cannon.config).map fun k => k.coverage.length).getD 0)
        ++ (((x.map Cannon.config).map (·.coverage)).getD []).flatMap fun v => entryBytes (coverEntries v))
      :: (dutyEntries x (x.map Cannon.config) ((x.map Cannon.config).bind fun k => s.node? k.node) (s.passOf x)).map
        Entry.item := by
    rw [State.cannonItems, hcover, ← dutyItems]
    rfl
  rw [hitems, pack_split, configEntries, List.map_append, List.append_assoc, ← Option.isSome_map]
  rfl

theorem readCannon_of_high {s : State} {number : Byte} (h : 23 < number.toNat) :
    s.readCannon number = s.answer Code.readCannon .badArgument [] := if_pos h

theorem readCannon_of_low {s : State} {number : Byte} (h : number.toNat ≤ 23) :
    s.readCannon number = s.answer Code.readCannon .ok (pack (s.cannonItems (s.cannon? number.toNat))) :=
  if_neg (show ¬ 24 ≤ number.toNat by omega)

/-- What READ-CANNON's payload tells, run by run. -/
theorem cannonItems_tell (s : State) (x : Option Cannon) {k : Option CannonConfig} (hk : k = x.map fun c => c.config)
    {cover : List Cover} (hc : cover = (k.map fun k => k.coverage).getD []) {e : Nat} (he : e = 19 + 6 * cover.length)
    {n : Option Node} (hn : n = k.bind fun k => s.node? k.node) {p : Option Pass} (hp : p = s.passOf x) :
    (pack (s.cannonItems x)).length = e + 27
      ∧ tellsOptional (pack (s.cannonItems x)) (optionalLayout 0 4 (configEntries k))
      ∧ tellsOptional (pack (s.cannonItems x)) (optionalLayout 11 e (dutyEntries x k n p))
      ∧ tells (pack (s.cannonItems x)) (plainLayout e (dutyEntries x k n p))
      ∧ ∀ (i : Nat) (v : Cover), cover[i]? = some v →
        tells (pack (s.cannonItems x)) (plainLayout (19 + 6 * i) (coverEntries v)) := by
  have hitems := pack_cannonItems s x
  rw [← show k = x.map Cannon.config from hk, ← hc, ← hn, ← hp] at hitems
  have hlen := length_groups coverEntries_width cover
  have hflags : flagCount ((configEntries k).map Entry.item) = 11 := by rw [flagCount_entries, configEntries_flagCount]
  have hduty : flagCount ((dutyEntries x k n p).map Entry.item) = 15 := by rw [flagCount_entries, dutyEntries_flagCount]
  have hwidth : (((configEntries k).map Entry.item).flatMap Item.bytes).length = 15 := by
    rw [← entryBytes, length_entryBytes, configEntries_width]
  have hwidth2 : (((dutyEntries x k n p).map Entry.item).flatMap Item.bytes).length = 27 := by
    rw [← entryBytes, length_entryBytes, dutyEntries_width]
  have hcons : ∀ t b, flagCount (Item.always t :: b) = flagCount b := fun t b => rfl
  have happend : ∀ a b : List Item, flagCount (a ++ b) = flagCount a + flagCount b := fun a b => by
    simp [flagCount]
  have hnil : flagCount [] = 0 := rfl
  have hbehind : (configEntries k).map Entry.item ++ Item.always (cover.flatMap fun v => entryBytes (coverEntries v))
      :: (dutyEntries x k n p).map Entry.item
      = ((configEntries k).map Entry.item ++ [.always (cover.flatMap fun v => entryBytes (coverEntries v))])
        ++ ((dutyEntries x k n p).map Entry.item ++ []) := by simp
  have hoff : (flagCount ((configEntries k).map Entry.item
      ++ [Item.always (cover.flatMap fun v => entryBytes (coverEntries v))]) + ((dutyEntries x k n p).map Entry.flagCount).sum
      + flagCount [] + 7) / 8 + (((configEntries k).map Entry.item
      ++ [Item.always (cover.flatMap fun v => entryBytes (coverEntries v))]).flatMap Item.bytes).length = e := by
    rw [happend, hcons, hnil, hflags, dutyEntries_flagCount, List.flatMap_append, List.length_append, hwidth,
      List.flatMap_singleton, Item.bytes.eq_def, hlen, he]
    omega
  rw [hitems]
  refine ⟨?length, ?config, ?duty, ?state, fun i v hv => ?cover⟩
  case length =>
    rw [length_pack, happend, hcons, hflags, hduty, List.flatMap_append, List.length_append, hwidth, List.flatMap_cons,
      List.length_append, hwidth2, Item.bytes, hlen, he]
    omega
  case config =>
    exact tellsOptional_pack (before := []) rfl (by rw [configEntries_flagCount, hcons, hduty]; rfl)
  case duty =>
    rw [hbehind]
    exact tellsOptional_pack (by rw [happend, hcons, hflags, hnil]) hoff
  case state =>
    rw [hbehind]
    exact tells_pack hoff
  case cover => exact tells_group coverEntries_width hv (by rw [hflags, hduty, hwidth])

/-- READ-CANNON: the refusal, and every item at its offset. -/
theorem readCannon_tells (number : Byte) (s : State) :
    (23 < number.toNat → exec (.readCannon number) s = .next { s with port := s.replied .badArgument 0x51 [] })
    ∧ ∀ (x : Option Cannon) (k : Option CannonConfig) (p : Option Pass) (n : Option Node) (cover : List Cover) (e : Nat),
      number.toNat ≤ 23 → x = s.cannon? number.toNat → k = x.map (fun c => c.config) →
      p = (x.bind fun c => c.bound.bind fun id => (s.order? id).bind fun o => o.pass) →
      n = (k.bind fun k => s.node? k.node) → cover = (k.map fun k => k.coverage).getD [] → e = 19 + 6 * cover.length →
      ∃ b : List Byte, exec (.readCannon number) s = .next { s with port := s.replied .ok 0x51 b } ∧ b.length = e + 27
        ∧ tellsOptional b [(0, 4, 1, k.map fun k => k.node),
          (1, 5, 1, k.map fun k => match k.supply with | .reuse => 0 | .fresh => 1 | .both => 2),
          (2, 6, 2, k.map fun k => k.minDose), (3, 8, 2, k.map fun k => k.maxDose), (4, 10, 1, k.map fun k => k.rampTime),
          (5, 11, 2, k.map fun k => k.rampAllowance), (6, 13, 1, k.map fun k => k.sweepRate),
          (7, 14, 1, k.map fun k => k.slewTimeout), (8, 15, 2, k.map fun k => k.blanking),
          (9, 17, 1, k.map fun k => k.extraDelay), (10, 18, 1, k.map fun k => k.coverage.length),
          (11, e + 1, 1, x.bind fun c => c.aimPhase.map fun y => match y with | .slewing => 0 | .opening => 1),
          (12, e + 2, 1, x.map fun c => c.tripCount), (13, e + 3, 4, x.bind fun c => c.lastTrip),
          (14, e + 7, 2, x.bind fun c => c.meterLast),
          (15, e + 9, 1, x.bind fun c => c.report.map fun r => (match r.valve with
            | .closed => 0 | .moving => 1 | .opened => 2)
            + 4 * r.settled.toNat + 8 * r.overload.toNat + 16 * r.valveFault.toNat),
          (16, e + 10, 1, x.bind fun c => c.header.map fun h => match h with | .reuse => 0 | .fresh => 1),
          (17, e + 11, 4, x.map fun c => c.stray), (18, e + 15, 1, k.map fun _ => (n.any fun y => y.lost).toNat),
          (19, e + 16, 1, n.bind fun y => y.slot.map fun z => match z with
            | .aim _ _ _ => 0 | .openValve _ => 1 | .close => 2 | .run => 0 | .stop => 1),
          (20, e + 17, 2, x.bind fun c => c.bound),
          (21, e + 19, 1, p.map fun y => match y.header with | .reuse => 0 | .fresh => 1),
          (22, e + 20, 2, p.map fun y => y.dose), (23, e + 22, 2, p.bind fun y => y.meterStart),
          (24, e + 24, 2, p.map fun y => y.delivered),
          (25, e + 26, 1, x.bind fun c => if c.bound = none then none else c.slew.or c.closeWait)]
        ∧ fieldAt b e 1 = (match x.map (fun c => c.state) with
          | none => 0 | some .idle => 1 | some .aiming => 2 | some .spraying => 3 | some .rampDown => 4
          | some .tripped => 5 | some .locked => 6 | some .lost => 7 | some .resetting => 8)
        ∧ ∀ (i : Nat) (v : Cover), cover[i]? = some v →
          tells b [(19 + 6 * i, 2, v.tag), (21 + 6 * i, 2, v.arcStart), (23 + 6 * i, 2, v.arcEnd)] := by
  refine ⟨fun h => congrArg Host.Outcome.next (readCannon_of_high h), fun x k p n cover e hlow hx hk hp hn hc he => ?_⟩
  obtain ⟨hlength, hconfig, hduty, hstate, hcover⟩ := cannonItems_tell s x hk hc he hn hp
  refine ⟨pack (s.cannonItems x), ?_, hlength, (tellsOptional_append hconfig hduty :), ?_, fun i v hv => ?_⟩
  · subst hx
    exact congrArg Host.Outcome.next (readCannon_of_low hlow)
  · refine (hstate e 1 _ (List.mem_cons_self ..)).trans ?_
    cases x with
    | none => rfl
    | some c => cases hs : c.state <;> simp [hs, CannonState.code]
  · have hi := hcover i v hv
    rw [show 21 + 6 * i = 19 + 6 * i + 2 by omega, show 23 + 6 * i = 19 + 6 * i + 2 + 2 by omega]
    exact hi

end Sys2Proof.Machine
end

section
set_option Elab.async false
/-! PROOFS. READ-WATER's and READ-LOOP's items (R142, R170). -/

namespace Sys2Proof.Machine

/-! ## Counting what stands in front of a run -/

theorem flagCount_append (a b : List Item) : flagCount (a ++ b) = flagCount a + flagCount b := by simp [flagCount]
theorem flagCount_always (t : List Byte) (b : List Item) : flagCount (.always t :: b) = flagCount b := rfl
theorem flagCount_nil : flagCount [] = 0 := rfl

theorem length_itemBytes_append (a b : List Item) :
    ((a ++ b).flatMap Item.bytes).length = (a.flatMap Item.bytes).length + (b.flatMap Item.bytes).length := by
  rw [List.flatMap_append, List.length_append]

theorem length_itemBytes_always (t : List Byte) (b : List Item) :
    ((.always t :: b : List Item).flatMap Item.bytes).length = t.length + (b.flatMap Item.bytes).length := by
  rw [List.flatMap_cons, List.length_append, Item.bytes.eq_def]

theorem length_itemBytes_entries (es : List Entry) :
    ((es.map Entry.item).flatMap Item.bytes).length = (es.map Entry.width).sum := by
  rw [← entryBytes, length_entryBytes]

/-- A group of single bytes. -/
theorem counted_bytes (l : List Nat) : counted (l.map be8) = be8 l.length ++ l.flatMap fun n => entryBytes [.byte n] := by
  rw [counted, List.length_map, List.flatMap]
  congr 3

/-! ## READ-WATER (R142) -/

theorem nodeLost_eq_any (s : State) (a : Nat) : s.nodeLost a = (s.node? a).any fun n => n.lost := by
  rw [State.nodeLost]
  cases s.node? a <;> rfl

/-- The entries of the tank. -/
def State.tankEntries (s : State) (w : Option Tank) (c : Option TankConfig) (r : Option Reading) : List Entry :=
  [.flag w.isSome, .opt8 (c.map fun c => c.node), .opt16 (c.map fun c => c.capacity), .opt16 (c.map fun c => c.low),
    .opt16 (c.map fun c => c.high), .opt16 (c.map fun c => c.hysteresis), .opt8 (c.map fun c => c.turbidityLimit),
    .opt16 (c.map fun c => c.stale), .opt16 (r.map fun r => r.level), .opt8 (r.map fun r => r.turbidity),
    .opt8 (r.map fun r => r.alarm.toNat), .opt8 (w.map fun w => w.nearEmpty.toNat), .opt8 (w.map fun w => w.nearFull.toNat),
    .opt8 (w.map fun w => w.qualityHold.toNat), .opt8 (w.map fun w => w.qualityCount),
    .opt8 (w.map fun w => if w.fresh then 0 else 1), .opt16 (w.bind fun w => w.age),
    .opt8 (c.map fun c => ((s.node? c.node).any fun n => n.lost).toNat)]

theorem tankItems_eq (s : State) : s.tankItems = (s.tankEntries s.water.tank (s.water.tank.map Tank.config)
    (s.water.tank.bind Tank.reading)).map Entry.item := by
  have hfresh : (fun t : Tank => (!t.fresh).toNat) = fun t => if t.fresh then 0 else 1 := by
    funext t
    cases t.fresh <;> rfl
  have hlost : (fun c : TankConfig => ((s.node? c.node).any fun n => n.lost).toNat)
      = Bool.toNat ∘ fun c => s.nodeLost c.node := by
    funext c
    exact congrArg Bool.toNat (nodeLost_eq_any s c.node).symm
  rw [State.tankEntries, hlost, ← hfresh]
  simp only [State.tankItems, optFlag_eq, Option.map_map]
  rfl

/-- The entries of the headers behind their slots: REUSE's figures, then FRESH's. -/
def State.reuseEntries (s : State) (j : Nat) : List Entry := [.long (s.committed .reuse), .long s.reuseAvailable, .byte j]

/-- The entries of FRESH and of the pond. -/
def State.pondEntries (s : State) : List Entry :=
  [.long s.water.allowance, .long s.water.usedToday, .long (s.committed .fresh), .long s.freshAvailable,
    .flag s.water.spent, .long s.water.pond.capacity, .long s.water.pond.startMark, .long s.water.pond.stopMark,
    .long s.water.pond.volume, .long s.water.pond.spill, .opt8 s.water.pond.node, .byte s.water.transfer.state.code,
    .opt16 s.water.transfer.meterLast, .opt8 (s.water.transfer.lastEnd.map RunEnd.code),
    .opt8 (s.water.transfer.startWait.or s.water.transfer.holdOff),
    .opt8 (s.water.pond.node.map fun a => ((s.node? a).any fun n => n.lost).toNat)]

theorem headerItems_pondItems (s : State) : s.headerItems ++ s.pondItems =
    .always (be8 (s.holders .reuse).length ++ (s.holders .reuse).flatMap fun n => entryBytes [.byte n])
      :: .always (be32 (s.committed .reuse)) :: .always (be32 s.reuseAvailable)
      :: .always (be8 (s.holders .fresh).length ++ (s.holders .fresh).flatMap fun n => entryBytes [.byte n])
      :: s.pondEntries.map Entry.item := by
  have hlost : optFlag (s.water.pond.node.map s.nodeLost)
      = opt8 (s.water.pond.node.map fun a => ((s.node? a).any fun n => n.lost).toNat) := by
    rw [optFlag_eq]
    cases s.water.pond.node with
    | none => rfl
    | some a => exact congrArg (fun b : Bool => opt8 (some b.toNat)) (nodeLost_eq_any s a)
  have htime : s.water.transfer.timeLeft = s.water.transfer.startWait.or s.water.transfer.holdOff := by
    rw [Transfer.timeLeft]
    cases s.water.transfer.startWait <;> rfl
  rw [State.headerItems, State.pondItems, counted_bytes, counted_bytes]
  simp only [hlost, htime]
  rfl

/-- READ-WATER's items in their runs. -/
def State.waterItems (s : State) : List Item :=
  (s.tankEntries s.water.tank (s.water.tank.map Tank.config) (s.water.tank.bind Tank.reading)
      ++ [Entry.byte (s.holders .reuse).length]).map Entry.item
    ++ .always ((s.holders .reuse).flatMap fun n => entryBytes [.byte n])
    :: ((s.reuseEntries (s.holders .fresh).length).map Entry.item
      ++ Item.always ((s.holders .fresh).flatMap fun n => entryBytes [.byte n]) :: s.pondEntries.map Entry.item)

theorem readWater_eq (s : State) : s.readWater = s.answer Code.readWater .ok (pack s.waterItems) := by
  have hfirst := pack_split_always s.tankItems
    (.always (be32 (s.committed .reuse)) :: .always (be32 s.reuseAvailable)
      :: .always (be8 (s.holders .fresh).length ++ (s.holders .fresh).flatMap fun n => entryBytes [.byte n])
      :: s.pondEntries.map Entry.item)
    (be8 (s.holders .reuse).length) ((s.holders .reuse).flatMap fun n => entryBytes [.byte n])
  have hsecond := pack_split_always (s.tankItems ++ [.always (be8 (s.holders .reuse).length),
      .always ((s.holders .reuse).flatMap fun n => entryBytes [.byte n]), .always (be32 (s.committed .reuse)),
      .always (be32 s.reuseAvailable)]) (s.pondEntries.map Entry.item)
    (be8 (s.holders .fresh).length) ((s.holders .fresh).flatMap fun n => entryBytes [.byte n])
  rw [State.readWater, List.append_assoc, headerItems_pondItems, hfirst]
  rw [List.append_assoc, List.append_assoc] at hsecond
  refine congrArg (s.answer Code.readWater .ok) (hsecond.trans (congrArg pack ?_))
  rw [tankItems_eq, State.waterItems, List.map_append, List.append_assoc]
  rfl

theorem tankEntries_flagCount (s : State) (w : Option Tank) (c : Option TankConfig) (r : Option Reading) (k : Nat) :
    ((s.tankEntries w c r ++ [Entry.byte k]).map Entry.flagCount).sum = 17 := by
  simp [State.tankEntries, Entry.flagCount]

theorem tankEntries_width (s : State) (w : Option Tank) (c : Option TankConfig) (r : Option Reading) (k : Nat) :
    ((s.tankEntries w c r ++ [Entry.byte k]).map Entry.width).sum = 26 := by
  simp [State.tankEntries, Entry.width]

theorem reuseEntries_flagCount (s : State) (j : Nat) : ((s.reuseEntries j).map Entry.flagCount).sum = 0 := by
  simp [State.reuseEntries, Entry.flagCount]

theorem reuseEntries_width (s : State) (j : Nat) : ((s.reuseEntries j).map Entry.width).sum = 9 := by
  simp [State.reuseEntries, Entry.width]

theorem pondEntries_flagCount (s : State) : (s.pondEntries.map Entry.flagCount).sum = 5 := by
  simp [State.pondEntries, Entry.flagCount]

theorem pondEntries_width (s : State) : (s.pondEntries.map Entry.width).sum = 44 := by
  simp [State.pondEntries, Entry.width]

theorem byteEntries_width (n : Nat) : (([.byte n] : List Entry).map Entry.width).sum = 1 := rfl

/-- A payload of three runs of entries with a group behind each of the first two. -/
theorem runs_tell {A B C : List Entry} {l m : List Nat} {a b c wa wb wc f : Nat}
    (ha : (A.map Entry.flagCount).sum = a) (hb : (B.map Entry.flagCount).sum = b) (hc : (C.map Entry.flagCount).sum = c)
    (hwa : (A.map Entry.width).sum = wa) (hwb : (B.map Entry.width).sum = wb) (hwc : (C.map Entry.width).sum = wc)
    (hf : (a + b + c + 7) / 8 = f) {p : List Byte}
    (hp : p = pack (A.map Entry.item ++ .always (l.flatMap fun n => entryBytes [.byte n])
      :: (B.map Entry.item ++ .always (m.flatMap fun n => entryBytes [.byte n]) :: C.map Entry.item))) :
    p.length = l.length + m.length + (f + wa + wb + wc)
      ∧ tellsOptional p (optionalLayout 0 f A)
      ∧ tellsOptional p (optionalLayout (a + b) (l.length + m.length + (f + wa + wb)) C)
      ∧ tells p (plainLayout f A) ∧ tells p (plainLayout (l.length + (f + wa)) B)
      ∧ tells p (plainLayout (l.length + m.length + (f + wa + wb)) C)
      ∧ (∀ (i n : Nat), l[i]? = some n → tells p [(f + wa + i, 1, n)])
      ∧ ∀ (i n : Nat), m[i]? = some n → tells p [(l.length + (f + wa + wb) + i, 1, n)] := by
  subst hp
  have hl : (l.flatMap fun n => entryBytes [.byte n]).length = l.length := by
    rw [length_groups byteEntries_width, Nat.one_mul]
  have hm : (m.flatMap fun n => entryBytes [.byte n]).length = m.length := by
    rw [length_groups byteEntries_width, Nat.one_mul]
  have hsecond : ∀ x y : List Byte, (A.map Entry.item ++ Item.always x :: (B.map Entry.item ++ .always y :: C.map Entry.item))
      = (A.map Entry.item ++ [.always x]) ++ (B.map Entry.item ++ (.always y :: C.map Entry.item)) := fun x y => by simp
  have hthird : ∀ x y : List Byte, (A.map Entry.item ++ Item.always x :: (B.map Entry.item ++ .always y :: C.map Entry.item))
      = (A.map Entry.item ++ .always x :: (B.map Entry.item ++ [.always y])) ++ (C.map Entry.item ++ []) := fun x y => by
    simp
  have hgroup : ∀ x y : List Byte, (A.map Entry.item ++ Item.always x :: (B.map Entry.item ++ .always y :: C.map Entry.item))
      = (A.map Entry.item ++ .always x :: B.map Entry.item) ++ .always y :: C.map Entry.item := fun x y => by simp
  refine ⟨?length, ?optA, ?optC, ?plainA, ?plainB, ?plainC, fun i n hn => ?groupL, fun i n hn => ?groupM⟩
  case length =>
    simp only [length_pack, flagCount_append, flagCount_always, flagCount_entries, length_itemBytes_append,
      length_itemBytes_always, length_itemBytes_entries, ha, hb, hc, hwa, hwb, hwc, hl, hm, ← hf]
    omega
  case optA =>
    refine tellsOptional_pack (before := []) rfl ?_
    simp only [flagCount_append, flagCount_always, flagCount_entries, flagCount_nil, ha, hb, hc, ← hf, List.flatMap_nil,
      List.length_nil]
    omega
  case plainA =>
    refine tells_pack (before := []) ?_
    simp only [flagCount_append, flagCount_always, flagCount_entries, flagCount_nil, ha, hb, hc, ← hf, List.flatMap_nil,
      List.length_nil]
    omega
  case plainB =>
    rw [hsecond]
    refine tells_pack ?_
    simp only [flagCount_append, flagCount_always, flagCount_entries, flagCount_nil, ha, hb, hc, ← hf,
      length_itemBytes_append, length_itemBytes_always, length_itemBytes_entries, hwa, hl, List.flatMap_nil,
      List.length_nil]
    omega
  case optC =>
    rw [hthird]
    refine tellsOptional_pack ?_ ?_
    · simp only [flagCount_append, flagCount_always, flagCount_entries, flagCount_nil, ha, hb]
      omega
    · simp only [flagCount_append, flagCount_always, flagCount_entries, flagCount_nil, ha, hb, hc, ← hf,
        length_itemBytes_append, length_itemBytes_always, length_itemBytes_entries, hwa, hwb, hl, hm, List.flatMap_nil,
        List.length_nil]
      omega
  case plainC =>
    rw [hthird]
    refine tells_pack ?_
    simp only [flagCount_append, flagCount_always, flagCount_entries, flagCount_nil, ha, hb, hc, ← hf,
      length_itemBytes_append, length_itemBytes_always, length_itemBytes_entries, hwa, hwb, hl, hm, List.flatMap_nil,
      List.length_nil]
    omega
  case groupL =>
    refine (tells_group byteEntries_width hn ?_ :)
    simp only [flagCount_append, flagCount_always, flagCount_entries, ha, hb, hc, ← hf, length_itemBytes_entries, hwa]
    omega
  case groupM =>
    rw [hgroup]
    refine (tells_group byteEntries_width hn ?_ :)
    simp only [flagCount_append, flagCount_always, flagCount_entries, ha, hb, hc, ← hf,
      length_itemBytes_append, length_itemBytes_always, length_itemBytes_entries, hwa, hwb, hl]
    omega

theorem committed_eq (s : State) (h : Header) : s.committed h = (s.dispatch.orders.map fun o => match o.pass with
    | some p => if o.state = .active ∧ p.header = h then p.reservation - p.delivered else 0
    | none => 0).sum := by
  refine congrArg List.sum (List.map_congr_left fun o _ => ?_)
  rw [committedOf]
  cases ho : o.state <;> cases hp : o.pass <;> simp

theorem reuseAvailable_eq (s : State) : s.reuseAvailable = match s.water.tank.map (fun w => w.config),
    (s.water.tank.bind fun w => w.reading) with
    | some c, some r => (r.level - c.low) * 100 - s.committed .reuse
    | _, _ => 0 := by
  rw [State.reuseAvailable]
  cases s.water.tank with
  | none => rfl
  | some t => cases hr : t.reading <;> simp [hr]

/-- READ-WATER: every item at its offset. -/
theorem readWater_tells : ∀ (s : State) (w : Option Tank) (c : Option TankConfig) (r : Option Reading)
      (reuse fresh : List Nat) (committed : Header → Nat) (k j : Nat),
    w = s.water.tank → c = w.map (fun w => w.config) → r = (w.bind fun w => w.reading) →
    reuse = (s.cannons.filter fun e => e.2.header == some .reuse).map (fun e => e.1) →
    fresh = (s.cannons.filter fun e => e.2.header == some .fresh).map (fun e => e.1) → k = reuse.length → j = fresh.length →
    (∀ h, committed h = (s.dispatch.orders.map fun o => match o.pass with
      | some p => if o.state = .active ∧ p.header = h then p.reservation - p.delivered else 0
      | none => 0).sum) →
    ∃ b : List Byte, exec .readWater s = .next { s with port := s.replied .ok 0x5C b } ∧ b.length = 82 + k + j
      ∧ tellsOptional b [(0, 4, 1, c.map fun c => c.node), (1, 5, 2, c.map fun c => c.capacity),
        (2, 7, 2, c.map fun c => c.low), (3, 9, 2, c.map fun c => c.high), (4, 11, 2, c.map fun c => c.hysteresis),
        (5, 13, 1, c.map fun c => c.turbidityLimit), (6, 14, 2, c.map fun c => c.stale), (7, 16, 2, r.map fun r => r.level),
        (8, 18, 1, r.map fun r => r.turbidity), (9, 19, 1, r.map fun r => r.alarm.toNat),
        (10, 20, 1, w.map fun w => w.nearEmpty.toNat), (11, 21, 1, w.map fun w => w.nearFull.toNat),
        (12, 22, 1, w.map fun w => w.qualityHold.toNat), (13, 23, 1, w.map fun w => w.qualityCount),
        (14, 24, 1, w.map fun w => if w.fresh then 0 else 1), (15, 25, 2, w.bind fun w => w.age),
        (16, 27, 1, c.map fun c => ((s.node? c.node).any fun n => n.lost).toNat),
        (17, 75 + k + j, 1, s.water.pond.node), (18, 77 + k + j, 2, s.water.transfer.meterLast),
        (19, 79 + k + j, 1, s.water.transfer.lastEnd.map fun x => match x with
          | .stopCondition => 0 | .pondEmpty => 1 | .pumpStopped => 2 | .startFailed => 3 | .nodeLost => 4 | .reloaded => 5),
        (20, 80 + k + j, 1, s.water.transfer.startWait.or s.water.transfer.holdOff),
        (21, 81 + k + j, 1, s.water.pond.node.map fun a => ((s.node? a).any fun n => n.lost).toNat)]
      ∧ tells b [(3, 1, w.isSome.toNat), (28, 1, k), (29 + k, 4, committed .reuse),
        (33 + k, 4, (match c, r with | some c, some r => (r.level - c.low) * 100 - committed .reuse | _, _ => 0)),
        (37 + k, 1, j), (38 + k + j, 4, s.water.allowance), (42 + k + j, 4, s.water.usedToday),
        (46 + k + j, 4, committed .fresh),
        (50 + k + j, 4, s.water.allowance - s.water.usedToday - committed .fresh), (54 + k + j, 1, s.water.spent.toNat),
        (55 + k + j, 4, s.water.pond.capacity), (59 + k + j, 4, s.water.pond.startMark),
        (63 + k + j, 4, s.water.pond.stopMark), (67 + k + j, 4, s.water.pond.volume), (71 + k + j, 4, s.water.pond.spill),
        (76 + k + j, 1, match s.water.transfer.state with | .stopped => 0 | .starting => 1 | .running => 2 | .stopping => 3)]
      ∧ (∀ (i n : Nat), reuse[i]? = some n → fieldAt b (29 + i) 1 = n % 256)
      ∧ ∀ (i n : Nat), fresh[i]? = some n → fieldAt b (38 + k + i) 1 = n % 256 := by
  intro s w c r reuse fresh committed k j hw hc hr hreuse hfresh hk hj hcommitted
  have hcommit : committed = s.committed := funext fun h => (hcommitted h).trans (committed_eq s h).symm
  have havailable := reuseAvailable_eq s
  subst hcommit hr hc hw hreuse hfresh
  obtain ⟨hlength, hoptA, hoptC, hplainA, hplainB, hplainC, hgroupL, hgroupM⟩ := runs_tell
    (tankEntries_flagCount s _ _ _ _) (reuseEntries_flagCount s _) (pondEntries_flagCount s) (tankEntries_width s _ _ _ _)
    (reuseEntries_width s _) (pondEntries_width s) (f := 3) (by decide) (p := pack s.waterItems) rfl
  have hnear : ∀ n, n + k + j = k + j + n := fun n => by omega
  have hlow : ∀ n, n + k = k + n := fun n => by omega
  refine ⟨pack s.waterItems, congrArg Host.Outcome.next (readWater_eq s), ?_, ?_, ?_, fun i n hn => ?_, fun i n hn => ?_⟩
  · rw [hlength, hnear, hk, hj]
    rfl
  · simp only [hnear]
    rw [hk, hj]
    exact (tellsOptional_append hoptA hoptC :)
  · simp only [hnear, hlow 29, hlow 33, hlow 37, ← havailable]
    rw [hk, hj]
    exact (tells_append hplainA (tells_append hplainB hplainC) :)
  · exact hgroupL i n hn (29 + i) 1 n (List.mem_singleton_self _)
  · have := hgroupM i n hn _ 1 n (List.mem_singleton_self _)
    rw [Nat.add_comm 38 k, hk]
    exact this

end Sys2Proof.Machine
end

section
set_option Elab.async false
/-! PROOFS. READ-LOOP's, READ-PERMIT's and READ-FORECAST's items (R170, R156, R72). -/

namespace Sys2Proof.Machine

theorem tells_cons {b : List Byte} {f : Nat × Nat × Nat} {l : List (Nat × Nat × Nat)} :
    tells b (f :: l) ↔ fieldAt b f.1 f.2.1 = f.2.2 % 256 ^ f.2.1 ∧ tells b l := by
  refine ⟨fun h => ⟨h _ _ _ (List.mem_cons_self ..), fun o w v hm => h o w v (List.mem_cons_of_mem _ hm)⟩,
    fun ⟨h, hl⟩ o w v hm => ?_⟩
  rcases List.mem_cons.1 hm with rfl | hm
  · exact h
  · exact hl o w v hm

/-! ## READ-LOOP (R170) -/

def Loop.entries (l : Loop) : List Entry :=
  [.flag l.running, .half l.period, .long l.roundCount, .half l.overruns, .opt8 l.winner, .byte l.nodes.length]

/-- The fields of one node in the list. -/
def nodeFields (e : Nat × Node) : List Entry := [.byte e.1, .byte e.2.owner.kind.code, .flag e.2.lost]

theorem loopBytes_eq (l : Loop) : l.bytes = pack (l.entries.map Entry.item
    ++ [.always (l.nodes.flatMap fun e => entryBytes (nodeFields e))]) := by
  have hcounted : counted (l.nodes.map fun e => be8 e.1 ++ be8 e.2.owner.kind.code ++ flag e.2.lost)
      = be8 l.nodes.length ++ l.nodes.flatMap fun e => entryBytes (nodeFields e) := by
    simp [counted, List.flatMap, nodeFields, entryBytes, Entry.item, Item.bytes]
  rw [Loop.bytes, hcounted]
  exact pack_split_always ([.flag l.running, .half l.period, .long l.roundCount, .half l.overruns,
    .opt8 l.winner] |>.map Entry.item) [] _ _

theorem loopEntries_flagCount (l : Loop) : (l.entries.map Entry.flagCount).sum = 1 := by
  simp [Loop.entries, Entry.flagCount]

theorem loopEntries_width (l : Loop) : (l.entries.map Entry.width).sum = 11 := by
  simp [Loop.entries, Entry.width]

theorem nodeFields_width (e : Nat × Node) : ((nodeFields e).map Entry.width).sum = 3 := rfl

/-- READ-LOOP without an address: every item at its offset. -/
theorem readLoop_tells (s : State) : ∃ b : List Byte,
      exec (.readLoop none) s = .next { s with port := s.replied .ok 0x69 b } ∧ b.length = 12 + 3 * s.loop.nodes.length
      ∧ tellsOptional b [(0, 10, 1, s.loop.winner)]
      ∧ tells b [(1, 1, s.loop.running.toNat), (2, 2, s.loop.period), (4, 4, s.loop.roundCount), (8, 2, s.loop.overruns),
        (11, 1, s.loop.nodes.length)]
      ∧ ∀ (i a : Nat) (n : Node), s.loop.nodes[i]? = some (a, n) →
        tells b [(12 + 3 * i, 1, a), (14 + 3 * i, 1, n.lost.toNat),
          (13 + 3 * i, 1, match n.owner with | .cannon _ => 0 | .mast _ => 1 | .tank => 2 | .pond => 3)] := by
  have hitems := loopBytes_eq s.loop
  refine ⟨s.loop.bytes, rfl, ?_, ?_, ?_, fun i a n hn => ?_⟩
  · rw [hitems, length_pack, flagCount_append, flagCount_always, flagCount_nil, flagCount_entries, loopEntries_flagCount,
      length_itemBytes_append, length_itemBytes_entries, loopEntries_width, length_itemBytes_always,
      length_groups nodeFields_width, List.flatMap_nil, List.length_nil]
    omega
  · rw [hitems]
    exact (tellsOptional_pack (before := []) (after := [.always _]) (es := s.loop.entries) (bit := 0) (off := 1) rfl
      (by simp [loopEntries_flagCount, flagCount, Item.presence]) :)
  · rw [hitems]
    exact (tells_pack (before := []) (after := [.always _]) (es := s.loop.entries) (off := 1)
      (by simp [loopEntries_flagCount, flagCount, Item.presence]) :)
  · have hgroup := tells_group (before := s.loop.entries.map Entry.item) (after := []) nodeFields_width hn
      (off := 12 + 3 * i) (by
        rw [flagCount_entries, loopEntries_flagCount, flagCount_nil, length_itemBytes_entries, loopEntries_width])
    rw [← hitems] at hgroup
    obtain ⟨haddress, hgroup⟩ := tells_cons.1 (show tells _ (_ :: _) from hgroup)
    obtain ⟨hkind, hgroup⟩ := tells_cons.1 (show tells _ (_ :: _) from hgroup)
    obtain ⟨hlost, -⟩ := tells_cons.1 (show tells _ (_ :: _) from hgroup)
    rw [show 14 + 3 * i = 12 + 3 * i + 1 + 1 by omega, show 13 + 3 * i = 12 + 3 * i + 1 by omega]
    refine tells_cons.2 ⟨haddress, tells_cons.2 ⟨hlost, tells_cons.2 ⟨hkind.trans ?_, fun _ _ _ h => nomatch h⟩⟩⟩
    cases n.owner <;> rfl

/-- The entries of READ-LOOP with an address. -/
def nodeEntries (a : Nat) (n : Node) : List Entry :=
  [.byte a, .byte n.owner.kind.code, .byte n.owner.block, .opt8 n.owner.number, .byte n.extraDelay,
    .opt8 (n.slot.map LoopCommand.code), .byte n.misses, .flag n.lost, .opt8 n.countdown, .half n.totalMisses]

/-- READ-LOOP with an address: the refusals, and every item at its offset. -/
theorem readLoopNode_tells (s : State) (node : Byte) :
      ((node = 0 ∨ 31 < node.toNat) →
        exec (.readLoop (some node)) s = .next { s with port := s.replied .badArgument 0x69 [] })
      ∧ (node ≠ 0 → node.toNat ≤ 31 →
          (s.node? node.toNat = none →
            exec (.readLoop (some node)) s = .next { s with port := s.replied .unknown 0x69 [] })
          ∧ ∀ n, s.node? node.toNat = some n → ∃ b : List Byte,
            exec (.readLoop (some node)) s = .next { s with port := s.replied .ok 0x69 b } ∧ b.length = 12
            ∧ tells b [(1, 1, node.toNat), (5, 1, n.extraDelay), (7, 1, n.misses), (8, 1, n.lost.toNat),
              (10, 2, n.totalMisses), (2, 1, match n.owner with | .cannon _ => 0 | .mast _ => 1 | .tank => 2 | .pond => 3),
              (3, 1, match n.owner with | .cannon _ => 0 | .mast _ => 1 | .tank => 2 | .pond => 2)]
            ∧ tellsOptional b [(0, 4, 1, match n.owner with | .cannon k => some k | .mast k => some k | _ => none),
              (1, 6, 1, n.slot.map fun x => match x with
                | .aim _ _ _ => 0 | .openValve _ => 1 | .close => 2 | .run => 0 | .stop => 1),
              (2, 9, 1, n.countdown)]) := by
  refine ⟨fun h => congrArg Host.Outcome.next (if_pos h), fun h0 h31 => ?_⟩
  have hok : ¬ (node = 0 ∨ 31 < node.toNat) := fun h => h.elim h0 (by omega)
  refine ⟨fun hnone => congrArg Host.Outcome.next ?_, fun n hn => ?_⟩
  · simp only [State.readLoop, if_neg hok, hnone]
    rfl
  · have hflags : ((nodeEntries node.toNat n).map Entry.flagCount).sum = 3 := by simp [nodeEntries, Entry.flagCount]
    have hwidth : ((nodeEntries node.toNat n).map Entry.width).sum = 11 := by simp [nodeEntries, Entry.width]
    have hplain := tells_pack (before := []) (after := []) (es := nodeEntries node.toNat n) (off := 1) (by rw [hflags]; rfl)
    have hopt := tellsOptional_pack (before := []) (after := []) (es := nodeEntries node.toNat n) (bit := 0) (off := 1) rfl
      (by rw [hflags]; rfl)
    rw [List.nil_append, List.append_nil] at hplain hopt
    refine ⟨pack ((nodeEntries node.toNat n).map Entry.item), congrArg Host.Outcome.next ?_, ?_, ?_, ?_⟩
    · simp only [State.readLoop, if_neg hok, hn]
      rfl
    · rw [length_pack_entries, hflags, hwidth]
    · obtain ⟨h1, hplain⟩ := tells_cons.1 (show tells _ (_ :: _) from hplain)
      obtain ⟨h2, hplain⟩ := tells_cons.1 (show tells _ (_ :: _) from hplain)
      obtain ⟨h3, hplain⟩ := tells_cons.1 (show tells _ (_ :: _) from hplain)
      obtain ⟨h5, hplain⟩ := tells_cons.1 (show tells _ (_ :: _) from hplain)
      obtain ⟨h7, hplain⟩ := tells_cons.1 (show tells _ (_ :: _) from hplain)
      obtain ⟨h8, hplain⟩ := tells_cons.1 (show tells _ (_ :: _) from hplain)
      obtain ⟨h10, -⟩ := tells_cons.1 (show tells _ (_ :: _) from hplain)
      refine tells_cons.2 ⟨h1, tells_cons.2 ⟨h5, tells_cons.2 ⟨h7, tells_cons.2 ⟨h8, tells_cons.2 ⟨h10,
        tells_cons.2 ⟨h2.trans ?_, tells_cons.2 ⟨h3.trans ?_, fun _ _ _ h => nomatch h⟩⟩⟩⟩⟩⟩⟩
      · cases n.owner <;> rfl
      · cases n.owner <;> rfl
    · convert hopt using 1
      cases ho : n.owner <;> simp only [nodeEntries, ho] <;> rfl

end Sys2Proof.Machine
end

section
set_option Elab.async false
/-! PROOFS. READ-PERMIT's and READ-FORECAST's items (R156, R72); the read-back commands together. -/

namespace Sys2Proof.Machine

/-- What a payload of entries alone tells. -/
theorem entries_tell {es : List Entry} {f w : Nat} (hf : ((es.map Entry.flagCount).sum + 7) / 8 = f)
    (hw : (es.map Entry.width).sum = w) :
    (pack (es.map Entry.item)).length = f + w ∧ tells (pack (es.map Entry.item)) (plainLayout f es)
      ∧ tellsOptional (pack (es.map Entry.item)) (optionalLayout 0 f es) := by
  have hoff : (flagCount [] + (es.map Entry.flagCount).sum + flagCount [] + 7) / 8 + (([] : List Item).flatMap Item.bytes).length
      = f := by
    rw [flagCount_nil, Nat.zero_add, Nat.add_zero, hf]
    rfl
  have hplain := tells_pack hoff
  have hopt := tellsOptional_pack (bit := 0) rfl hoff
  rw [List.nil_append, List.append_nil] at hplain hopt
  exact ⟨by rw [length_pack_entries, hf, hw], hplain, hopt⟩

theorem tellsOptional_cons {b : List Byte} {f : Nat × Nat × Nat × Option Nat} {l : List (Nat × Nat × Nat × Option Nat)} :
    tellsOptional b (f :: l) ↔ ((u8 b (f.1 / 8)).getLsbD (f.1 % 8) = f.2.2.2.isSome
      ∧ fieldAt b f.2.1 f.2.2.1 = f.2.2.2.getD 0 % 256 ^ f.2.2.1) ∧ tellsOptional b l := by
  refine ⟨fun h => ⟨h _ _ _ _ (List.mem_cons_self ..), fun k o w v hm => h k o w v (List.mem_cons_of_mem _ hm)⟩,
    fun ⟨h, hl⟩ k o w v hm => ?_⟩
  rcases List.mem_cons.1 hm with rfl | hm
  · exact h
  · exact hl k o w v hm

/-! ## READ-PERMIT (R156) -/

/-- The entries of READ-PERMIT. -/
def State.permitEntries (s : State) (x : Option Permit) (e : Option OutcomeEntry) (o : Option Order) : List Entry :=
  [.opt8 (x.map fun x => x.id), .opt8 (x.map fun x => x.machine), .opt8 (x.map fun x => x.kind.code),
    .opt16 (x.map fun x => x.tag), .opt8 (x.map fun x => x.state.code), .opt32 (x.map fun x => x.requested),
    .opt32 (x.map fun x => x.entered), .opt16 (x.bind fun x => x.prewetOrder), .opt8 (e.map fun e => e.outcome.code),
    .long ((e.map fun e => e.minute).getD 0), .half ((e.map fun e => e.tag).getD 0),
    .byte ((e.map fun e => e.permitId).getD 0), .opt16 (e.bind fun e => e.m),
    .opt8 (x.bind fun x => if x.state = .pendingWet then
      some (s.permits.prewetWait - (s.clock.minute - x.entered)) else none),
    .opt8 (o.map fun o => o.state.code),
    .opt8 (o.map fun o => o.suspension.host.toNat + 2 * o.suspension.hold.toNat + 4 * o.suspension.zone.toNat),
    .opt8 (o.map fun o => o.starved.toNat),
    .opt8 (x.bind fun x => if x.state = .clearing then
      some (s.dispatch.orders.countP fun o => o.tag == x.tag && o.pass.any fun p => p.state != .closed) else none),
    .opt16 (x.bind fun x => if x.state = .granted then
      some (s.permits.maxHold.of x.kind - (s.clock.minute - x.entered)) else none),
    .byte s.permits.list.length, .byte s.permits.prewetWait, .half s.permits.maxHold.stacker,
    .half s.permits.maxHold.reclaimer, .half s.permits.maxHold.dozer]

theorem passesOn_eq (s : State) (tag : Nat) : s.passesOn tag =
    s.dispatch.orders.countP fun o => o.tag == tag && o.pass.any fun p => p.state != .closed := by
  rw [State.passesOn, ← List.countP_eq_length_filter]
  refine List.countP_congr fun o _ => ?_
  rw [Order.passRuns]
  cases o.pass <;> rfl

/-- The outcome entry's four fields stand under one flag. -/
theorem pack_outcomeItems (before after : List Item) (e : Option OutcomeEntry) :
    pack (before ++ outcomeItems e ++ after) = pack (before ++ [opt8 (e.map fun e => e.outcome.code),
      .always (be32 ((e.map fun e => e.minute).getD 0)), .always (be16 ((e.map fun e => e.tag).getD 0)),
      .always (be8 ((e.map fun e => e.permitId).getD 0)), opt16 (e.bind fun e => e.m)] ++ after) := by
  cases e with
  | none => simp [pack, outcomeItems, Item.presence, Item.bytes, opt8, opt16]
  | some e => simp [pack, outcomeItems, Item.presence, Item.bytes, opt8, opt16]

theorem pack_permitItems (s : State) (x : Option Permit) (machine : Nat) : pack (s.permitItems x machine) =
    pack ((s.permitEntries x (Table.get s.permits.outcomes machine)
      (x.bind fun x => x.prewetOrder.bind fun id => s.order? id)).map Entry.item) := by
  have horder : (x.bind fun p => p.prewetOrder).bind s.order? = x.bind fun x => x.prewetOrder.bind fun id => s.order? id := by
    cases x <;> rfl
  have hsuspension : ∀ o : Option Order,
      Item.optional o.isSome ((o.map Order.suspension).getD Suspension.none).bytes = opt8 (o.map fun o =>
        o.suspension.host.toNat + 2 * o.suspension.hold.toNat + 4 * o.suspension.zone.toNat) := fun o => by
    cases o with
    | none => rfl
    | some o => cases h1 : o.suspension.host <;> cases h2 : o.suspension.hold <;> cases h3 : o.suspension.zone <;>
        simp [opt8, Suspension.bytes, h1, h2, h3, flagByte, bitsToNat, be8]
  have hpasses : (fun p : Permit => p.inState .clearing (s.passesOn p.tag)) = fun x => if x.state = .clearing then
      some (s.dispatch.orders.countP fun o => o.tag == x.tag && o.pass.any fun p => p.state != .closed) else none := by
    funext p
    rw [Permit.inState, passesOn_eq]
  rw [State.permitItems, pack_outcomeItems]
  simp only [horder, hsuspension, hpasses, optFlag_eq, Option.map_map]
  rfl

theorem permitEntries_flagCount (s : State) (x : Option Permit) (e : Option OutcomeEntry) (o : Option Order) :
    ((s.permitEntries x e o).map Entry.flagCount).sum = 16 := by
  simp [State.permitEntries, Entry.flagCount]

theorem permitEntries_width (s : State) (x : Option Permit) (e : Option OutcomeEntry) (o : Option Order) :
    ((s.permitEntries x e o).map Entry.width).sum = 41 := by
  simp [State.permitEntries, Entry.width]

theorem readPermit_byMachine {s : State} {form key : Byte} (hform : form.toNat = 0) (h1 : 1 ≤ key.toNat)
    (h63 : key.toNat ≤ 63) : s.readPermit form key =
      s.answer Code.readPermit .ok (pack (s.permitItems (s.permit? key.toNat) key.toNat)) := by
  have hw : within 1 63 key.toNat = true := by simp [within, h1, h63]
  simp [State.readPermit, hform, State.readPermitOf, hw]

theorem readPermit_byPosition {s : State} {form key : Byte} (hform : form.toNat = 1) (hkey : key.toNat ≤ 15) {x : Permit}
    (hx : s.permits.list[key.toNat]? = some x) : s.readPermit form key =
      s.answer Code.readPermit .ok (pack (s.permitItems (some x) x.machine)) := by
  have hle : ¬ Config.permits ≤ key.toNat := Nat.not_le.2 (Nat.lt_succ_of_le hkey)
  simp only [State.readPermit, hform, State.readPermitAt, if_neg hle, hx]

theorem readPermit_of_bad {s : State} {form key : Byte} (h : 1 < form.toNat
    ∨ (form.toNat = 0 ∧ (key.toNat = 0 ∨ 63 < key.toNat)) ∨ (form.toNat = 1 ∧ 15 < key.toNat)) :
    s.readPermit form key = s.answer Code.readPermit .badArgument [] := by
  rcases h with h | ⟨h, hkey⟩ | ⟨h, hkey⟩
  · unfold State.readPermit
    split
    · omega
    · omega
    · rfl
  · have hw : within 1 63 key.toNat = false := by
      rw [← Bool.not_eq_true, within, Bool.and_eq_true, decide_eq_true_eq, decide_eq_true_eq]
      omega
    simp [State.readPermit, h, State.readPermitOf, hw]
  · simp only [State.readPermit, h, State.readPermitAt, if_pos (show Config.permits ≤ key.toNat from hkey)]

/-- What READ-PERMIT's payload tells. -/
theorem permitItems_tell (s : State) (x : Option Permit) (machine : Nat) {e : Option OutcomeEntry}
    (he : e = Table.get s.permits.outcomes machine) {o : Option Order}
    (ho : o = (x.bind fun x => x.prewetOrder.bind fun id => s.order? id)) {b : List Byte}
    (hb : b = pack (s.permitItems x machine)) : b.length = 43
        ∧ tellsOptional b [(0, 2, 1, x.map fun x => x.id), (1, 3, 1, x.map fun x => x.machine),
          (2, 4, 1, x.map fun x => match x.kind with | .stacker => 0 | .reclaimer => 1 | .dozer => 2),
          (3, 5, 2, x.map fun x => x.tag),
          (4, 7, 1, x.map fun x => match x.state with | .pendingWet => 0 | .clearing => 1 | .granted => 2),
          (5, 8, 4, x.map fun x => x.requested), (6, 12, 4, x.map fun x => x.entered),
          (7, 16, 2, x.bind fun x => x.prewetOrder),
          (8, 18, 1, e.map fun e => match e.outcome with
            | .grantedEnd => 0 | .released => 1 | .lapsed => 2 | .refusedTooDry => 3 | .refusedRetired => 4),
          (8, 19, 4, e.map fun e => e.minute), (8, 23, 2, e.map fun e => e.tag), (8, 25, 1, e.map fun e => e.permitId),
          (9, 26, 2, e.bind fun e => e.m),
          (10, 28, 1, x.bind fun x => if x.state = .pendingWet then
            some (s.permits.prewetWait - (s.clock.minute - x.entered)) else none),
          (11, 29, 1, o.map fun o => match o.state with | .volleyHeld => 0 | .waiting => 1 | .active => 2 | .ended => 3),
          (12, 30, 1, o.map fun o =>
            o.suspension.host.toNat + 2 * o.suspension.hold.toNat + 4 * o.suspension.zone.toNat),
          (13, 31, 1, o.map fun o => o.starved.toNat),
          (14, 32, 1, x.bind fun x => if x.state = .clearing then
            some (s.dispatch.orders.countP fun o => o.tag == x.tag && o.pass.any fun p => p.state != .closed) else none),
          (15, 33, 2, x.bind fun x => if x.state = .granted then
            some ((match x.kind with
              | .stacker => s.permits.maxHold.stacker | .reclaimer => s.permits.maxHold.reclaimer
              | .dozer => s.permits.maxHold.dozer) - (s.clock.minute - x.entered)) else none)]
        ∧ tells b [(35, 1, s.permits.list.length), (36, 1, s.permits.prewetWait), (37, 2, s.permits.maxHold.stacker),
          (39, 2, s.permits.maxHold.reclaimer), (41, 2, s.permits.maxHold.dozer)] := by
  obtain ⟨hlength, hplain, hopt⟩ := entries_tell (f := 2) (w := 41) (es := s.permitEntries x e o)
    (by rw [permitEntries_flagCount]) (permitEntries_width s x e o)
  have hitems : pack ((s.permitEntries x e o).map Entry.item) = b := by rw [hb, pack_permitItems, he, ho]
  rw [hitems] at hlength hplain hopt
  have hentry : tells b ((plainLayout 2 (s.permitEntries x e o)).take 3) := fun _ _ _ h => hplain _ _ _ (List.mem_of_mem_take h)
  have hrest : tells b ((plainLayout 2 (s.permitEntries x e o)).drop 3) := fun _ _ _ h => hplain _ _ _ (List.mem_of_mem_drop h)
  have hfront : tellsOptional b ((optionalLayout 0 2 (s.permitEntries x e o)).take 9) :=
    fun _ _ _ _ h => hopt _ _ _ _ (List.mem_of_mem_take h)
  have hback : tellsOptional b ((optionalLayout 0 2 (s.permitEntries x e o)).drop 9) :=
    fun _ _ _ _ h => hopt _ _ _ _ (List.mem_of_mem_drop h)
  have hflag : (u8 b (8 / 8)).getLsbD (8 % 8) = e.isSome :=
    (hopt 8 18 1 (e.map fun e => e.outcome.code) (List.mem_of_getElem? (i := 8) rfl)).1.trans Option.isSome_map
  obtain ⟨hminute, hentry⟩ := tells_cons.1 (show tells b (_ :: _) from hentry)
  obtain ⟨htag, hentry⟩ := tells_cons.1 (show tells b (_ :: _) from hentry)
  obtain ⟨hid, -⟩ := tells_cons.1 (show tells b (_ :: _) from hentry)
  have hunder : tellsOptional b [(8, 19, 4, e.map fun e => e.minute), (8, 23, 2, e.map fun e => e.tag),
      (8, 25, 1, e.map fun e => e.permitId)] := by
    refine tellsOptional_cons.2 ⟨⟨hflag.trans Option.isSome_map.symm, hminute⟩, tellsOptional_cons.2 ⟨⟨hflag.trans
      Option.isSome_map.symm, htag⟩, tellsOptional_cons.2 ⟨⟨hflag.trans Option.isSome_map.symm, hid⟩, ?_⟩⟩⟩
    exact fun _ _ _ _ h => nomatch h
  exact ⟨hlength, (tellsOptional_append hfront (tellsOptional_append hunder hback) :), hrest⟩

theorem readPermit_unknown {s : State} {form key : Byte} (hform : form.toNat = 1) (hkey : key.toNat ≤ 15)
    (hx : s.permits.list[key.toNat]? = none) : s.readPermit form key = s.answer Code.readPermit .unknown [] := by
  have hle : ¬ Config.permits ≤ key.toNat := Nat.not_le.2 (Nat.lt_succ_of_le hkey)
  simp only [State.readPermit, hform, State.readPermitAt, if_neg hle, hx]

/-! ## READ-FORECAST (R72) -/

/-- The entries of every READ-FORECAST reply. -/
def State.tableEntries (s : State) (c1 c2 c3 c4 : Nat) (l0 l1 l2 l3 l4 : Option Nat) : List Entry :=
  [.byte s.forecast.slots.length, .byte c1, .byte c2, .byte c3, .byte c4, .opt16 l0, .opt16 l1, .opt16 l2, .opt16 l3,
    .opt16 l4, .long s.clock.minute]

/-- The entries of a slot found, and its index or whether it has ended. -/
def slotEntries (x : Slot) (mark : Nat) : List Entry :=
  [.byte x.code, .half x.issue, .long x.start, .half x.length, .half x.wind, .half x.gust, .byte x.octant, .byte x.rh,
    .half x.rain, .sbyte x.temp, .byte mark]

section
variable {s : State} {c1 c2 c3 c4 : Nat} {l0 l1 l2 l3 l4 : Option Nat} (hcodes : s.forecast.codes = [c1, c2, c3, c4])
  (hlatest : s.forecast.latest = [l0, l1, l2, l3, l4])
include hcodes hlatest

theorem pack_forecastItems :
    pack s.forecastItems = pack ((s.tableEntries c1 c2 c3 c4 l0 l1 l2 l3 l4).map Entry.item) := by
  simp [pack, State.forecastItems, hcodes, hlatest, State.tableEntries, Item.presence, Item.bytes, Entry.item, opt16,
    State.now]

theorem pack_slotItems (x : Slot) (mark : Nat) : pack (.always (x.bytes ++ be8 mark) :: s.forecastItems)
    = pack ((slotEntries x mark ++ s.tableEntries c1 c2 c3 c4 l0 l1 l2 l3 l4).map Entry.item) := by
  simp [pack, State.forecastItems, hcodes, hlatest, State.tableEntries, slotEntries, Slot.bytes, Item.presence, Item.bytes,
    Entry.item, opt16, State.now]

end

theorem tableEntries_flagCount (s : State) (c1 c2 c3 c4 : Nat) (l0 l1 l2 l3 l4 : Option Nat) :
    ((s.tableEntries c1 c2 c3 c4 l0 l1 l2 l3 l4).map Entry.flagCount).sum = 5 := by
  simp [State.tableEntries, Entry.flagCount]

theorem tableEntries_width (s : State) (c1 c2 c3 c4 : Nat) (l0 l1 l2 l3 l4 : Option Nat) :
    ((s.tableEntries c1 c2 c3 c4 l0 l1 l2 l3 l4).map Entry.width).sum = 19 := by
  simp [State.tableEntries, Entry.width]

theorem slotEntries_flagCount (x : Slot) (mark : Nat) : ((slotEntries x mark).map Entry.flagCount).sum = 0 := by
  simp [slotEntries, Entry.flagCount]

theorem slotEntries_width (x : Slot) (mark : Nat) : ((slotEntries x mark).map Entry.width).sum = 19 := by
  simp [slotEntries, Entry.width]

theorem covers_iff (x : Slot) (t : Nat) : x.covers t = true ↔ x.start ≤ t ∧ t < x.start + x.length := by
  rw [Slot.covers, Bool.and_eq_true, decide_eq_true_iff, decide_eq_true_iff]
  rfl

theorem lookupIndexed_none {f : Forecast} {t : Nat}
    (h : ∀ x ∈ f.slots, ¬ (x.start ≤ t ∧ t < x.start + x.length)) : f.lookupIndexed t = none := by
  rw [Forecast.lookupIndexed, List.findIdx?_eq_none_iff.2 fun x hx => Bool.eq_false_iff.2 (mt (covers_iff x t).1 (h x hx))]
  rfl

/-- The first slot that covers a minute is found with its index. -/
theorem lookupIndexed_some {f : Forecast} {t i : Nat} {x : Slot} (hx : f.slots[i]? = some x)
    (hcover : x.start ≤ t ∧ t < x.start + x.length)
    (hfirst : ∀ (j : Nat) (y : Slot), j < i → f.slots[j]? = some y → ¬ (y.start ≤ t ∧ t < y.start + y.length)) :
    f.lookupIndexed t = some (i, x) := by
  obtain ⟨hlt, rfl⟩ := List.getElem?_eq_some_iff.1 hx
  have hidx : f.slots.findIdx? (fun x => x.covers t) = some i :=
    List.findIdx?_eq_some_iff_getElem.2 ⟨hlt, (covers_iff _ t).2 hcover, fun j hj => fun hc =>
      hfirst j _ hj (List.getElem?_eq_getElem (hj.trans hlt)) ((covers_iff _ t).1 hc)⟩
  rw [Forecast.lookupIndexed, hidx, Option.bind_some, hx]
  rfl

theorem readForecast_of_bad {s : State} {form : Byte} {key : Long} (h : 1 < form.toNat ∨ (form.toNat = 1 ∧ 47 < key.toNat)) :
    s.readForecast form key = s.answer Code.readForecast .badArgument [] := by
  rcases h with h | ⟨h, hkey⟩
  · unfold State.readForecast
    split
    · omega
    · omega
    · rfl
  · simp only [State.readForecast, h, if_pos (show Config.forecastSlots ≤ key.toNat from hkey)]

theorem readForecast_of_none {s : State} {form : Byte} {key : Long}
    (h : (form.toNat = 0 ∧ ∀ x ∈ s.forecast.slots, ¬ (x.start ≤ key.toNat ∧ key.toNat < x.start + x.length))
      ∨ (form.toNat = 1 ∧ key.toNat ≤ 47 ∧ s.forecast.slots[key.toNat]? = none)) :
    s.readForecast form key = s.answer Code.readForecast .unknown (pack s.forecastItems) := by
  rcases h with ⟨h, hno⟩ | ⟨h, hkey, hno⟩
  · simp only [State.readForecast, h, lookupIndexed_none hno]
  · simp only [State.readForecast, h, if_neg (show ¬ Config.forecastSlots ≤ key.toNat from Nat.not_le.2
      (Nat.lt_succ_of_le hkey)), hno]

theorem readForecast_of_some {s : State} {form : Byte} {key : Long} {i mark : Nat} {x : Slot}
    (hx : s.forecast.slots[i]? = some x)
    (h : (form.toNat = 0 ∧ x.start ≤ key.toNat ∧ key.toNat < x.start + x.length ∧ mark = i
            ∧ ∀ j y, j < i → s.forecast.slots[j]? = some y → ¬ (y.start ≤ key.toNat ∧ key.toNat < y.start + y.length))
          ∨ (form.toNat = 1 ∧ key.toNat ≤ 47 ∧ i = key.toNat
            ∧ mark = if x.start + x.length ≤ s.clock.minute then 1 else 0)) :
    s.readForecast form key =
      s.answer Code.readForecast .ok (pack (.always (x.bytes ++ be8 mark) :: s.forecastItems)) := by
  rcases h with ⟨h, hstart, hend, rfl, hfirst⟩ | ⟨h, hkey, rfl, rfl⟩
  · simp only [State.readForecast, h, lookupIndexed_some hx ⟨hstart, hend⟩ hfirst]
  · have hflag : flag (x.endedAt s.now) = be8 (if x.start + x.length ≤ s.clock.minute then 1 else 0) := by
      by_cases hle : x.start + x.length ≤ s.clock.minute
      · rw [if_pos hle, Slot.endedAt, show decide (x.stop ≤ s.now) = true from decide_eq_true hle]
        rfl
      · rw [if_neg hle, Slot.endedAt, show decide (x.stop ≤ s.now) = false from decide_eq_false hle]
        rfl
    simp only [State.readForecast, h, if_neg (show ¬ Config.forecastSlots ≤ key.toNat from Nat.not_le.2
      (Nat.lt_succ_of_le hkey)), hx, hflag]

/-- Settles O53: each reply is a run of entries, and the groups among them, whose fields are read back at their offsets. -/
theorem readsAnswerTheirItems : Obligations.ReadsAnswerTheirItems := by
  unfold Obligations.ReadsAnswerTheirItems
  refine ⟨readWind_tells, readCannon_tells, readWater_tells, fun s => ⟨readLoop_tells s, readLoopNode_tells s⟩,
    fun form key s => ⟨fun h => congrArg Host.Outcome.next (readPermit_of_bad h), fun h1 hkey hx => congrArg Host.Outcome.next
      (readPermit_unknown h1 hkey hx), fun x e o machine hform he ho => ?permit⟩,
    fun form key s => ⟨fun h => congrArg Host.Outcome.next (readForecast_of_bad h),
      fun c1 c2 c3 c4 l0 l1 l2 l3 l4 hcodes hlatest => ⟨fun hnone => ?none, fun i mark x hx hfound => ?found⟩⟩⟩
  case permit =>
    refine ⟨pack (s.permitItems x machine), congrArg Host.Outcome.next ?_, permitItems_tell s x machine he ho rfl⟩
    rcases hform with ⟨hform, h1, h63, rfl, rfl⟩ | ⟨hform, h15, hx, y, rfl, rfl⟩
    · exact readPermit_byMachine hform h1 h63
    · exact readPermit_byPosition hform h15 hx.symm
  case none =>
    obtain ⟨hlength, hplain, hopt⟩ := entries_tell (f := 1) (es := s.tableEntries c1 c2 c3 c4 l0 l1 l2 l3 l4)
      (by rw [tableEntries_flagCount]) (tableEntries_width ..)
    rw [← pack_forecastItems hcodes hlatest] at hlength hplain hopt
    exact ⟨pack s.forecastItems, congrArg Host.Outcome.next (readForecast_of_none hnone), hlength, hplain, hopt⟩
  case found =>
    obtain ⟨hlength, hplain, hopt⟩ := entries_tell (f := 1) (w := 38)
      (es := slotEntries x mark ++ s.tableEntries c1 c2 c3 c4 l0 l1 l2 l3 l4)
      (by rw [List.map_append, List.sum_append, slotEntries_flagCount, tableEntries_flagCount])
      (by rw [List.map_append, List.sum_append, slotEntries_width, tableEntries_width])
    rw [← pack_slotItems hcodes hlatest] at hlength hplain hopt
    exact ⟨pack (.always (x.bytes ++ be8 mark) :: s.forecastItems), congrArg Host.Outcome.next (readForecast_of_some hx hfound),
      hlength, hplain, hopt⟩

end Sys2Proof.Machine
end

section
set_option Elab.async false
/-! PROOFS. Events counted by steps; orders that end one after another; lapses and SET-DISPATCH (R94, R98). -/

namespace Sys2Proof.Machine

/-! ## The agenda within so many steps -/

/-- Tellings carried out with all they bring about, in at most so many steps. -/
def Reaches (q : Option Nat) (ts : List Task) (s : State) (k : Nat) (s' : State) : Prop := ∃ n ≤ k, Runs q ts s n s'

namespace Reaches

variable {q : Option Nat} {ts us : List Task} {s s1 s2 : State} {k m : Nat}

theorem nil (s : State) : Reaches q [] s 0 s := ⟨0, le_refl _, .nil s⟩

/-- A telling that brings about no other. -/
theorem single {t : Task} (h : doTask q t s = (s1, [])) : Reaches q [t] s 1 s1 := ⟨1, le_refl _, .single h⟩

/-- A telling and what it brings about. -/
theorem one {t : Task} (h : doTask q t s = (s1, us)) (hu : Reaches q us s1 k s2) : Reaches q [t] s (k + 1) s2 :=
  have ⟨n, hn, hr⟩ := hu
  ⟨n + 1, by omega, .one h hr⟩

theorem append (ha : Reaches q ts s k s1) (hb : Reaches q us s1 m s2) : Reaches q (ts ++ us) s (k + m) s2 :=
  have ⟨i, hi, hr⟩ := ha
  have ⟨j, hj, hs⟩ := hb
  ⟨i + j, by omega, hr.append hs⟩

theorem cons {t : Task} (ha : Reaches q [t] s k s1) (hb : Reaches q us s1 m s2) : Reaches q (t :: us) s (k + m) s2 :=
  ha.append hb

theorem mono (h : Reaches q ts s k s1) (hk : k ≤ m) : Reaches q ts s m s1 :=
  have ⟨n, hn, hr⟩ := h
  ⟨n, hn.trans hk, hr⟩

/-- An event whose tellings take no more steps than the agenda has. -/
theorem settle_eq (h : Reaches q ts s k s1) (hk : k ≤ 4096) : s.settle q ts = s1 :=
  have ⟨_, hn, hr⟩ := h
  hr.settle_eq (hn.trans hk)

theorem settled_eq (h : Reaches none ts s k s1) (hk : k ≤ 4096) : settled (s, ts) = s1 := h.settle_eq hk

end Reaches

/-! ## Orders that end -/

theorem doTask_orderEnded {q : Option Nat} {s : State} {id : Nat} {o : Order} (ho : s.order? id = some o)
    (h : o.origin ≠ .prewet ∨ o.outcome = none) :
    doTask q (.orderEnded id) s = (s.hand .order id, [.checkFree o.tag]) := by
  change s.orderEnded id = _
  simp only [State.orderEnded, ho]
  cases horigin : o.origin with
  | prewet =>
    cases hx : o.outcome with
    | none => rfl
    | some x => exact (h.elim (absurd horigin) fun hn => by simp [hx] at hn)
  | _ => rfl

theorem doTask_orderEnded_prewet {q : Option Nat} {s : State} {id : Nat} {o : Order} {x : OrderOutcome}
    (ho : s.order? id = some o) (horigin : o.origin = .prewet) (hx : o.outcome = some x) :
    doTask q (.orderEnded id) s = (s.hand .order id, [.checkFree o.tag, .prewetEnded id x]) := by
  change s.orderEnded id = _
  simp only [State.orderEnded, ho, horigin, hx]

/-- A PREWET order that no waiting permit names ends without a word to the permit table. -/
theorem doTask_prewetEnded_unnamed {q : Option Nat} {s : State} {id : Nat} {x : OrderOutcome} (hx : x ≠ .done)
    (h : ∀ p ∈ s.permits.list, p.names id = false) : doTask q (.prewetEnded id x) s = (s, []) := by
  have hnone : (s.permits.list.filter fun p => p.names id) = [] := List.filter_eq_nil_iff.2 fun p hp => by simp [h p hp]
  change s.prewetEnded id x = _
  cases x with
  | done => exact absurd rfl hx
  | withdrawn => rfl
  | _ => simp only [State.prewetEnded, hnone, List.map_nil]

/-- The ending of an order is told to its pile and, when it is a PREWET order, to the permits that name it: where the pile
is not RETIRING, or has open orders left, and no permit names it, its id goes to the ORDER change set and no more. -/
theorem reaches_orderEnded {q : Option Nat} {s : State} {id : Nat} {o : Order} (ho : s.order? id = some o)
    (hprewet : o.origin = .prewet → o.outcome ≠ some .done ∧ ∀ x ∈ s.permits.list, x.names id = false)
    (hfree : (s.hand .order id).checkFree o.tag = s.hand .order id) :
    Reaches q [.orderEnded id] s 3 (s.hand .order id) := by
  have hcheck : Reaches q [.checkFree o.tag] (s.hand .order id) 1 (s.hand .order id) :=
    .single (congrArg (·, ([] : List Task)) hfree)
  by_cases h : o.origin ≠ .prewet ∨ o.outcome = none
  · exact (Reaches.one (doTask_orderEnded ho h) hcheck).mono (by omega)
  · obtain ⟨horigin, hout⟩ := not_or.1 h
    obtain ⟨x, hx⟩ := Option.ne_none_iff_exists'.1 hout
    obtain ⟨hdone, hnames⟩ := hprewet (not_not.1 horigin)
    have hquiet := doTask_prewetEnded_unnamed (q := q) (s := s.hand .order id) (x := x)
      (fun hd => hdone (by rw [hx, hd])) hnames
    exact .one (doTask_orderEnded_prewet ho (not_not.1 horigin) hx) (hcheck.cons (.single hquiet))

/-- The orders of some ids ended, and their ids handed over in turn. -/
def State.endAll (s : State) (ids : List Nat) (x : OrderOutcome) : State := { s with
  notices := s.notices.handAll .order ids
  dispatch := { s.dispatch with
    orders := s.dispatch.orders.map fun o => if o.id ∈ ids then o.ended x s.now s.events else o } }

theorem endAll_nil (s : State) (x : OrderOutcome) : s.endAll [] x = s := by
  simp [State.endAll, Notices.handAll]

/-- One more order ended and handed over. -/
theorem endAll_snoc (s : State) (ids : List Nat) (x : OrderOutcome) {id : Nat} (h : id ∉ ids) :
    ((s.endAll ids x).mapOrder id fun o => o.ended x s.now s.events).hand .order id = s.endAll (ids ++ [id]) x := by
  simp only [State.endAll, State.mapOrder, State.hand, List.map_map, Notices.handAll, List.foldl_append, List.foldl_cons,
    List.foldl_nil]
  congr 2
  refine List.map_congr_left fun o _ => ?_
  by_cases hid : o.id = id
  · simp [hid, h]
  · by_cases hmem : o.id ∈ ids
    · simp [hmem, Order.ended, hid]
    · simp [hmem, hid]

theorem order?_map {l : List Order} {f : Order → Order} (hf : ∀ o, (f o).id = o.id) (id : Nat) :
    (l.map f).find? (fun o => o.id == id) = (l.find? fun o => o.id == id).map f := by
  rw [List.find?_map]
  congr 2
  funext o
  simp [hf]

theorem order?_endAll (s : State) (ids : List Nat) (x : OrderOutcome) (id : Nat) :
    (s.endAll ids x).order? id = (s.order? id).map fun o => if o.id ∈ ids then o.ended x s.now s.events else o :=
  order?_map (fun o => by split <;> rfl) id

theorem order?_endAll_of_not_mem {s : State} {ids : List Nat} {x : OrderOutcome} {id : Nat} (h : id ∉ ids) :
    (s.endAll ids x).order? id = s.order? id := by
  rw [order?_endAll]
  cases ho : s.order? id with
  | none => rfl
  | some o => rw [Option.map_some, if_neg (by rw [(State.order_mem ho).2]; exact h)]

/-- A run of tellings, each of which ends its order or does nothing: those orders end, one after another. -/
theorem reaches_endAll {q : Option Nat} {T : Nat → Task} {x : OrderOutcome} {c : Nat → Bool} {s : State} {l : List Nat}
    (hnodup : l.Nodup)
    (hends : ∀ done id, (∀ j ∈ done, j ∈ l) → id ∈ l → id ∉ done → c id = true →
      doTask q (T id) (s.endAll done x) = (s.endAll done x).endOrder id x)
    (hskips : ∀ done id, (∀ j ∈ done, j ∈ l) → id ∈ l → id ∉ done → c id = false →
      doTask q (T id) (s.endAll done x) = (s.endAll done x, []))
    (htold : ∀ done id, (∀ j ∈ done, j ∈ l) → id ∈ l → id ∉ done → c id = true →
      Reaches q [.orderEnded id] ((s.endAll done x).mapOrder id fun o => o.ended x s.now s.events) 3
        (s.endAll (done ++ [id]) x)) :
    Reaches q (l.map T) s (4 * l.length) (s.endAll (l.filter c) x) := by
  suffices h : ∀ m pre, l = pre ++ m → Reaches q (m.map T) (s.endAll (pre.filter c) x) (4 * m.length)
      (s.endAll (l.filter c) x) by
    have := h l [] rfl
    rwa [List.filter_nil, endAll_nil] at this
  intro m
  induction m with
  | nil =>
    intro pre hl
    rw [hl, List.append_nil]
    exact .nil _
  | cons id m ih =>
    intro pre hl
    have hmem : id ∈ l := by rw [hl]; simp
    have hsub : ∀ j ∈ pre.filter c, j ∈ l := fun j hj => by rw [hl]; exact List.mem_append_left _ (List.mem_of_mem_filter hj)
    have hnot : id ∉ pre.filter c := fun hj => by
      rw [hl] at hnodup
      exact (List.nodup_append.1 hnodup).2.2 id (List.mem_of_mem_filter hj) id List.mem_cons_self rfl
    have hrest := ih (pre ++ [id]) (by rw [hl, List.append_assoc]; rfl)
    rw [List.filter_append] at hrest
    have hlen : 4 + 4 * m.length = 4 * (id :: m).length := by rw [List.length_cons]; omega
    rw [List.map_cons, ← hlen]
    cases hc : c id with
    | true =>
      rw [List.filter_cons_of_pos hc, List.filter_nil] at hrest
      exact (Reaches.one (hends _ id hsub hmem hnot hc) (htold _ id hsub hmem hnot hc)).cons hrest
    | false =>
      rw [List.filter_cons_of_neg (by rw [hc]; decide), List.filter_nil, List.append_nil] at hrest
      exact ((Reaches.single (hskips _ id hsub hmem hnot hc)).mono (by omega)).cons hrest

theorem order?_mapOrder_self {s : State} {id : Nat} {o : Order} {f : Order → Order} (ho : s.order? id = some o)
    (hf : ∀ o, (f o).id = o.id) : (s.mapOrder id f).order? id = some (f o) := by
  rw [order_mapOrder s id id f hf, if_pos rfl, ho]
  rfl

/-! ## Lapses (R94) and SET-DISPATCH (R98) -/

theorem lapses_iff (o : Order) (now lapseTime : Nat) :
    o.lapses now lapseTime = true ↔ (o.state = .volleyHeld ∨ o.state = .waiting) ∧ o.lapseRef + lapseTime < now := by
  rw [Order.lapses, Bool.and_eq_true, Bool.or_eq_true, beq_iff_eq, beq_iff_eq, decide_eq_true_eq, minutesSince]
  refine and_congr_right fun _ => ?_
  omega

theorem doTask_lapseOrder_late {q : Option Nat} {s : State} {id : Nat} {o : Order} (ho : s.order? id = some o)
    (h : o.lapses s.now s.dispatch.lapseTime = true) : doTask q (.lapseOrder id) s = s.endOrder id .lapsed := by
  change s.lapseOrder id = _
  simp only [State.lapseOrder, ho, if_pos h]

/-- In a yard of LIVE piles no ending frees a slot. -/
theorem checkFree_of_live {s : State} (h : ∀ e ∈ s.piles, e.2.life = .live) (tag : Nat) : s.checkFree tag = s :=
  checkFree_quiet s tag fun _ _ hp => h _ (State.pileAt_mem hp).1

theorem mem_of_mem_map_id {s : State} {id : Nat} (h : id ∈ s.dispatch.orders.map fun o => o.id) : ∃ o, s.order? id = some o := by
  obtain ⟨o, ho, rfl⟩ := List.mem_map.1 h
  exact Option.isSome_iff_exists.1 (List.find?_isSome.2 ⟨o, ho, by simp⟩)

/-- The lapses of every order of a yard of host and auto orders on LIVE piles. -/
theorem reaches_lapseOrders {q : Option Nat} {s : State} (horigin : ∀ o ∈ s.dispatch.orders, o.origin ≠ .prewet)
    (hlive : ∀ e ∈ s.piles, e.2.life = .live) (hnodup : (s.dispatch.orders.map fun o => o.id).Nodup) :
    Reaches q [.lapseOrders] s (4 * s.dispatch.orders.length + 1) (s.endAll
      ((s.dispatch.orders.map fun o => o.id).filter fun id => (s.order? id).any fun o => o.lapses s.now s.dispatch.lapseTime)
      .lapsed) := by
  have htasks : doTask q .lapseOrders s = (s, (s.dispatch.orders.map fun o => o.id).map Task.lapseOrder) := by
    rw [List.map_map]
    rfl
  have hrun := reaches_endAll (q := q) (T := Task.lapseOrder) (x := .lapsed) (s := s)
    (c := fun id => (s.order? id).any fun o => o.lapses s.now s.dispatch.lapseTime) hnodup
    (fun done id _ hid hnot hc => ?ends) (fun done id _ hid hnot hc => ?skips) (fun done id _ hid hnot hc => ?told)
  · rw [List.length_map] at hrun
    exact .one htasks hrun
  case ends =>
    obtain ⟨o, ho⟩ := mem_of_mem_map_id hid
    rw [ho] at hc
    exact doTask_lapseOrder_late (o := o) ((order?_endAll_of_not_mem hnot).trans ho) hc
  case skips =>
    refine lapseOrder_quiet _ id fun o ho => ?_
    rw [order?_endAll_of_not_mem hnot] at ho
    rw [ho] at hc
    exact hc
  case told =>
    obtain ⟨o, ho⟩ := mem_of_mem_map_id hid
    rw [← endAll_snoc s done .lapsed hnot]
    refine reaches_orderEnded (order?_mapOrder_self ((order?_endAll_of_not_mem hnot).trans ho) fun _ => rfl)
      (fun h => absurd h (horigin o (State.order_mem ho).1)) (by
        refine checkFree_of_live ?_ _
        exact hlive)

/-- The orders that satisfy a condition ended, and their ids handed over in turn. -/
def State.endWhere (s : State) (c : Order → Bool) (x : OrderOutcome) : State := { s with
  notices := s.notices.handAll .order ((s.dispatch.orders.filter c).map fun o => o.id)
  dispatch := { s.dispatch with
    orders := s.dispatch.orders.map fun o => if c o then o.ended x s.now s.events else o } }

/-- An order is found by its id where no id stands twice. -/
theorem order?_of_mem {s : State} (hnodup : (s.dispatch.orders.map fun o => o.id).Nodup) {o : Order}
    (ho : o ∈ s.dispatch.orders) : s.order? o.id = some o := by
  obtain ⟨p, hp⟩ := mem_of_mem_map_id (List.mem_map_of_mem (f := fun o : Order => o.id) ho)
  obtain ⟨hmem, hid⟩ := State.order_mem hp
  rw [hp, List.inj_on_of_nodup_map hnodup hmem ho hid]

/-- Ending by ids and by a condition on the orders is one where no id stands twice. -/
theorem endAll_eq_endWhere {s : State} (hnodup : (s.dispatch.orders.map fun o => o.id).Nodup) (c : Order → Bool)
    (x : OrderOutcome) :
    s.endAll ((s.dispatch.orders.map fun o => o.id).filter fun id => (s.order? id).any c) x = s.endWhere c x := by
  have hids : (s.dispatch.orders.map fun o => o.id).filter (fun id => (s.order? id).any c)
      = (s.dispatch.orders.filter c).map fun o => o.id := by
    rw [List.filter_map]
    congr 1
    refine List.filter_congr fun o ho => ?_
    rw [Function.comp, order?_of_mem hnodup ho]
    rfl
  have horders : (s.dispatch.orders.map fun o => if o.id ∈ (s.dispatch.orders.filter c).map (fun o => o.id) then
      o.ended x s.now s.events else o) = s.dispatch.orders.map fun o => if c o then o.ended x s.now s.events else o := by
    refine List.map_congr_left fun o ho => ?_
    have hiff : o.id ∈ (s.dispatch.orders.filter c).map (fun o => o.id) ↔ c o = true := by
      rw [List.mem_map]
      refine ⟨fun ⟨p, hp, hid⟩ => ?_, fun h => ⟨o, List.mem_filter.2 ⟨ho, h⟩, rfl⟩⟩
      obtain ⟨hp, hc⟩ := List.mem_filter.1 hp
      rwa [← List.inj_on_of_nodup_map hnodup hp ho hid]
    simp only [hiff]
  rw [hids, State.endAll, horders, State.endWhere]

/-- All lapses evaluated in one event. -/
theorem settled_lapseOrders {s : State} (horigin : ∀ o ∈ s.dispatch.orders, o.origin ≠ .prewet)
    (hlive : ∀ e ∈ s.piles, e.2.life = .live) (hnodup : (s.dispatch.orders.map fun o => o.id).Nodup)
    (hlen : s.dispatch.orders.length ≤ 32) :
    settled (s, [.lapseOrders]) = s.endWhere (fun o => o.lapses s.now s.dispatch.lapseTime) .lapsed := by
  rw [← endAll_eq_endWhere hnodup]
  exact (reaches_lapseOrders horigin hlive hnodup).settled_eq (by omega)

/-- The orders that lapse in an event are told by their number, where none ended in an event still to come. -/
theorem lapsedNow_endWhere {s : State} {c : Order → Bool} (h : ∀ o ∈ s.dispatch.orders, o.endedEvent < s.events) :
    (s.endWhere c .lapsed).lapsedNow = s.dispatch.orders.countP c := by
  rw [State.lapsedNow, ← List.countP_eq_length_filter, State.endWhere, List.countP_map]
  refine List.countP_congr fun o ho => ?_
  cases hc : c o with
  | true => simp [Function.comp, hc, Order.ended]
  | false =>
    have := h o ho
    simp [Function.comp, hc]
    omega

/-- A key handed for each of some orders joins the ORDER set. -/
theorem mem_orders_endWhere {s : State} {c : Order → Bool} {x : OrderOutcome} {k : Nat} :
    k ∈ (s.endWhere c x).notices.orders ↔ k ∈ s.notices.orders ∨ ∃ o ∈ s.dispatch.orders, c o = true ∧ o.id = k := by
  rw [State.endWhere, Notices.handAll_order, mem_insertKeys, List.mem_map]
  simp only [List.mem_filter, and_assoc]

theorem setDispatch_of_refused {lapse maxDose : Half} {floor : Byte} {s : State}
    (h : dispatchArgsOk lapse maxDose floor = false) :
    s.setDispatch lapse maxDose floor = s.answer Code.setDispatch .badArgument [] := by
  simp [State.setDispatch, h]

/-- The dispatcher's record with the three settings written. -/
def State.withDispatch (s : State) (lapse maxDose floor : Nat) : State :=
  { s with dispatch := { s.dispatch with lapseTime := lapse, maxDose := maxDose, freshFloor := floor } }

theorem setDispatch_of_taken {lapse maxDose : Half} {floor : Byte} {s t : State}
    (h : dispatchArgsOk lapse maxDose floor = true)
    (ht : settled (s.openEvent.withDispatch lapse.toNat maxDose.toNat floor.toNat, [.lapseOrders]) = t) :
    s.setDispatch lapse maxDose floor = t.occasion.answer Code.setDispatch .ok
      (be16 lapse.toNat ++ be16 maxDose.toNat ++ be8 floor.toNat ++ be8 t.lapsedNow) := by
  simp only [State.setDispatch, h, if_true, ← ht]
  rfl

theorem dispatchArgsOk_iff (lapse maxDose : Half) (floor : Byte) : dispatchArgsOk lapse maxDose floor = true ↔
    10 ≤ lapse.toNat ∧ lapse.toNat ≤ 1440 ∧ 100 ≤ maxDose.toNat ∧ floor.toNat ≤ 4 := by
  simp only [dispatchArgsOk, within, Bool.and_eq_true, decide_eq_true_eq, and_assoc]

/-- Settles O35: the lapses are evaluated one after another, each ending its order or leaving the state as it was. -/
theorem lapsesAndDispatchSettings : Obligations.LapsesAndDispatchSettings := by
  unfold Obligations.LapsesAndDispatchSettings
  intro late s hlate hyard hlive
  have horigin : ∀ o ∈ s.dispatch.orders, o.origin ≠ .prewet := fun o ho => (hyard o ho).1
  have hlapses : ∀ k o, Order.lapses o s.clock.minute k = late k o := fun k o =>
    Bool.eq_iff_iff.2 ((lapses_iff o s.clock.minute k).trans (by rw [hlate]))
  refine ⟨fun id hnone => ?_, fun id o ho hl => ?_, fun lapse maxDose floor => ⟨fun hbad => ?_, fun h1 h2 h3 h4 hnodup hlen => ?_⟩⟩
  · refine congrArg Host.Outcome.next ((congrArg settled (lapseOrder_quiet s.openEvent id.toNat fun o ho => ?_)).trans
      (settled_nil _))
    exact (hlapses _ o).trans (hnone o ho)
  · have hend : s.openEvent.lapseOrder id.toNat = s.openEvent.endOrder id.toNat .lapsed :=
      doTask_lapseOrder_late (q := none) (s := s.openEvent) ho ((hlapses _ o).trans hl)
    have hrun := reaches_orderEnded (q := none) (s := s.openEvent.mapOrder id.toNat fun o => o.ended .lapsed s.now (s.events + 1))
      (order?_mapOrder_self (s := s.openEvent) ho fun _ => rfl)
      (fun h => absurd h (horigin o (State.order_mem ho).1)) (by
        refine checkFree_of_live ?_ _
        exact hlive)
    exact congrArg Host.Outcome.next ((congrArg settled hend).trans (hrun.settled_eq (by omega)))
  · refine congrArg Host.Outcome.next (setDispatch_of_refused ?_)
    rw [← Bool.not_eq_true, dispatchArgsOk_iff]
    omega
  · have hcond : (fun o : Order => o.lapses s.clock.minute lapse.toNat) = late lapse.toNat := funext fun o => hlapses _ o
    have hsettled := settled_lapseOrders (s := s.openEvent.withDispatch lapse.toNat maxDose.toNat floor.toNat)
      horigin hlive hnodup hlen
    have hcount := lapsedNow_endWhere (s := s.openEvent.withDispatch lapse.toNat maxDose.toNat floor.toNat)
      (c := late lapse.toNat) fun o ho => Nat.lt_succ_of_le (hyard o ho).2
    refine ⟨_, congrArg Host.Outcome.next (setDispatch_of_taken ((dispatchArgsOk_iff ..).2 ⟨h1, h2, h3, h4⟩)
      (hsettled.trans (congrArg (fun c => State.endWhere _ c .lapsed) hcond))), ?_, rfl, fun k => ?_, ?_⟩
    · rw [State.endWhere, Notices.handAll_order]
      rfl
    · exact mem_orders_endWhere (x := .lapsed) (s := s.openEvent.withDispatch lapse.toNat maxDose.toNat floor.toNat)
    · rw [hcount]
      rfl

end Sys2Proof.Machine
end

section
set_option Elab.async false
/-! PROOFS. SUSPEND-ORDER, RESUME-ORDER and CANCEL-ORDER on an order without a pass; PREWET orders that end with their
permits (R82, R83, R93, R149). -/

namespace Sys2Proof.Machine

/-! ## Suspension (R82, R83) -/

theorem addReason_none {s : State} {id : Nat} {r : Reason} {o : Order} (ho : s.order? id = some o)
    (hopen : o.state ≠ .ended) (hr : o.suspension.has r = false) :
    s.addReason id r = (s.mapOrder id fun o => o.withReason r).closePass o := by
  have : ¬ (o.isOpen = false ∨ o.suspension.has r = true) := by simp [isOpen_iff.2 hopen, hr]
  simp only [State.addReason, ho, if_neg this]

theorem closePass_none {s : State} {o : Order} (h : o.pass = none) : s.closePass o = (s, []) := by
  simp only [State.closePass, h]

theorem pack_suspensionReply (code : Nat) (x : Suspension) (p : Option Nat) :
    pack [.always (be8 code), .always x.bytes, opt8 p] = [if p = none then 0 else 1] ++ be8 code ++ x.bytes ++ be8 (p.getD 0) := by
  rw [pack, flagBytes_of_length_le (by simp [Item.presence, opt8]) (by simp [Item.presence, opt8])]
  cases p with
  | none => rfl
  | some k => rfl

theorem suspensionReply_of_some {s : State} {id : Nat} {o : Order} (h : s.order? id = some o) :
    s.suspensionReply id = [if o.pass = none then 0 else 1] ++ be8 o.state.code ++ o.suspension.bytes
      ++ be8 ((o.pass.map fun p => p.state.code).getD 0) := by
  simp only [State.suspensionReply, h, pack_suspensionReply]
  cases o.pass with
  | none => rfl
  | some p => rfl

theorem suspendOrder_of_unknown {s : State} {id : Half} (h : s.order? id.toNat = none) :
    s.suspendOrder id = s.answer Code.suspendOrder .unknown [] := by
  simp only [State.suspendOrder, h]

theorem suspendOrder_of_ended {s : State} {id : Half} {o : Order} (h : s.order? id.toNat = some o) (ho : o.state = .ended) :
    s.suspendOrder id = s.answer Code.suspendOrder .notOpen [] := by
  simp [State.suspendOrder, h, Order.isOpen, ho]

theorem suspendOrder_of_held {s : State} {id : Half} {o : Order} (h : s.order? id.toNat = some o) (ho : o.state ≠ .ended)
    (hh : o.suspension.host = true) : s.suspendOrder id = s.answer Code.suspendOrder .already [] := by
  simp [State.suspendOrder, h, isOpen_iff.2 ho, hh]

theorem suspendOrder_of_taken {s t : State} {id : Half} {o : Order} (h : s.order? id.toNat = some o)
    (ho : o.state ≠ .ended) (hh : o.suspension.host = false) (ht : settled (s.openEvent.addReason id.toNat .host) = t) :
    s.suspendOrder id = t.answer Code.suspendOrder .ok (t.suspensionReply id.toNat) := by
  simp [State.suspendOrder, h, isOpen_iff.2 ho, hh, ht]

theorem resumeOrder_of_unknown {s : State} {id : Half} (h : s.order? id.toNat = none) :
    s.resumeOrder id = s.answer Code.resumeOrder .unknown [] := by
  simp only [State.resumeOrder, h]

theorem resumeOrder_of_ended {s : State} {id : Half} {o : Order} (h : s.order? id.toNat = some o) (ho : o.state = .ended) :
    s.resumeOrder id = s.answer Code.resumeOrder .notOpen [] := by
  simp [State.resumeOrder, h, Order.isOpen, ho]

theorem resumeOrder_of_free {s : State} {id : Half} {o : Order} (h : s.order? id.toNat = some o) (ho : o.state ≠ .ended)
    (hh : o.suspension.host = false) : s.resumeOrder id = s.answer Code.resumeOrder .notSuspended [] := by
  simp [State.resumeOrder, h, isOpen_iff.2 ho, hh]

theorem resumeOrder_of_taken {s : State} {id : Half} {o : Order} (h : s.order? id.toNat = some o) (ho : o.state ≠ .ended)
    (hh : o.suspension.host = true) : s.resumeOrder id = (s.dropReason id.toNat .host).answer Code.resumeOrder .ok
      ((s.dropReason id.toNat .host).suspensionReply id.toNat) := by
  simp [State.resumeOrder, h, isOpen_iff.2 ho, hh]

/-- HOST leaves an open order's set; one arbitration is occasioned when that empties the set of a waiting order. -/
theorem dropReason_host {s : State} {id : Nat} {o : Order} (h : s.order? id = some o) (ho : o.state ≠ .ended)
    (hh : o.suspension.host = true) : s.dropReason id .host = { s with dispatch := { s.dispatch with
      orders := s.dispatch.orders.map fun x => if x.id = id then { x with suspension := { x.suspension with host := false } } else x
      due := s.dispatch.due + if o.state = .waiting ∧ o.suspension.hold = false ∧ o.suspension.zone = false then 1 else 0 } } := by
  have hhas : (o.isOpen && o.suspension.has .host) = true := by simp [isOpen_iff.2 ho, Suspension.has, hh]
  have hempty : (o.suspension.drop .host).isEmpty = true ↔ o.suspension.hold = false ∧ o.suspension.zone = false := by
    simp [Suspension.drop, Suspension.isEmpty]
  simp only [State.dropReason, h, hhas, if_true, hempty]
  split_ifs
  · rfl
  · rfl

/-! ## Cancellation (R93) -/

theorem cancelOrder_of_unknown {s : State} {id : Half} (h : s.order? id.toNat = none) :
    s.cancelOrder id = s.answer Code.cancelOrder .unknown [] := by
  simp only [State.cancelOrder, h]

theorem cancelOrder_of_ended {s : State} {id : Half} {o : Order} (h : s.order? id.toNat = some o) (ho : o.state = .ended) :
    s.cancelOrder id = s.answer Code.cancelOrder .notOpen [] := by
  simp [State.cancelOrder, h, Order.isOpen, ho]

theorem cancelOrder_of_open {s t : State} {id : Half} {o : Order} (h : s.order? id.toNat = some o) (ho : o.state ≠ .ended)
    (ht : settled (s.openEvent.cancel id.toNat) = t) : s.cancelOrder id =
      t.answer Code.cancelOrder .ok (be8 (t.orderCode id.toNat) ++ be32 (t.deliveredOf id.toNat)) := by
  simp [State.cancelOrder, h, isOpen_iff.2 ho, ht]

/-- The reply's bytes from the record CANCEL-ORDER leaves. -/
theorem cancelReply_of_some {t : State} {id : Nat} {o : Order} (h : t.order? id = some o) :
    be8 (t.orderCode id) ++ be32 (t.deliveredOf id) = be8 o.state.code ++ be32 o.delivered := by
  rw [State.orderCode, State.deliveredOf, h]
  rfl

theorem cancel_of_inert {s : State} {id : Nat} {o : Order} (h : s.order? id = some o)
    (ho : o.state = .waiting ∨ o.state = .volleyHeld) : s.cancel id = s.endOrder id .cancelled := by
  rcases ho with ho | ho
  · simp only [State.cancel, h, ho]
  · simp only [State.cancel, h, ho]

theorem cancel_of_pending {s : State} {id : Nat} {o : Order} (h : s.order? id = some o) (ho : o.state = .active)
    (hp : o.cancelPending = true) : s.cancel id = (s, []) := by
  simp [State.cancel, h, ho, hp]

theorem cancel_of_active {s : State} {id : Nat} {o : Order} (h : s.order? id = some o) (ho : o.state = .active)
    (hp : o.cancelPending = false) :
    s.cancel id = (s.mapOrder id fun o => { o with cancelPending := true }).closePass o := by
  simp [State.cancel, h, ho, hp]

/-! ## Permits that end with their PREWET order (R147, R149) -/

/-- Some permits refused as too dry, in turn: gone from the list, each with its outcome entry, their machines handed over. -/
def State.refuseAll (s : State) (gone : List Permit) : State := { s with
  notices := s.notices.handAll .permit (gone.map fun x => x.machine)
  permits := { s.permits with
    list := s.permits.list.filter fun y => !(gone.any fun x => x.machine == y.machine)
    outcomes := gone.foldl (fun acc x => Table.set acc x.machine ⟨.refusedTooDry, s.now, x.tag, x.id, none⟩)
      s.permits.outcomes } }

theorem refuseAll_nil (s : State) : s.refuseAll [] = s := by
  simp [State.refuseAll, Notices.handAll]

/-- A permit is found by its machine where no machine holds two. -/
theorem permit?_of_mem {s : State} (hnodup : (s.permits.list.map fun x => x.machine).Nodup) {x : Permit}
    (hx : x ∈ s.permits.list) : s.permit? x.machine = some x := by
  obtain ⟨y, hy⟩ := Option.isSome_iff_exists.1 (List.find?_isSome (p := fun y : Permit => y.machine == x.machine).2
    ⟨x, hx, by simp⟩)
  have hmachine : y.machine = x.machine := by simpa using List.find?_some hy
  rw [State.permit?, hy, List.inj_on_of_nodup_map hnodup (List.mem_of_find?_eq_some hy) hx hmachine]

/-- A permit by itself ends REFUSED-TOO-DRY: the PREWET order it names, when that has ended, is left alone. -/
theorem doTask_endPermit_tooDry {s : State} {x : Permit} (hx : s.permit? x.machine = some x) (hstate : x.state = .pendingWet)
    (horder : ∀ id, x.prewetOrder = some id → (s.order? id).any Order.isOpen = false) :
    doTask none (.endPermit x.machine .refusedTooDry false) s = (s.refuseAll [x], [.checkRetire x.tag]) := by
  have horphan : s.orphanPrewet? x = none := by
    rw [State.orphanPrewet?, if_pos hstate]
    cases hp : x.prewetOrder with
    | none => rfl
    | some id => simp [Option.filter, horder id hp]
  have hlist : (s.permits.list.filter fun y => y.machine != x.machine)
      = s.permits.list.filter fun y => !([x].any fun z => z.machine == y.machine) := by
    refine List.filter_congr fun y _ => ?_
    simp [bne, Bool.beq_comm (a := y.machine)]
  change s.endPermit none x.machine .refusedTooDry false = _
  simp only [State.endPermit, hx, horphan, if_pos hstate, hlist]
  rfl

theorem refuseAll_snoc (s : State) (gone : List Permit) (x : Permit) :
    (s.refuseAll gone).refuseAll [x] = s.refuseAll (gone ++ [x]) := by
  simp only [State.refuseAll, Notices.handAll, List.map_append, List.foldl_append, List.filter_filter, List.any_append]
  congr 2
  · refine List.filter_congr fun y _ => ?_
    simp [Bool.and_comm]

/-- Waiting permits end one after another, where the PREWET orders they name have ended and their piles do not retire. -/
theorem reaches_refuseAll {s : State} {gone : List Permit} (hmem : ∀ x ∈ gone, x ∈ s.permits.list)
    (hmachines : (s.permits.list.map fun x => x.machine).Nodup) (hgone : (gone.map fun x => x.machine).Nodup)
    (hstate : ∀ x ∈ gone, x.state = .pendingWet)
    (horder : ∀ x ∈ gone, ∀ id, x.prewetOrder = some id → (s.order? id).any Order.isOpen = false)
    (hpile : ∀ x ∈ gone, ∀ slot p, s.pileAt? x.tag = some (slot, p) → p.retirePending = false) :
    Reaches none (gone.map fun x => .endPermit x.machine .refusedTooDry false) s (2 * gone.length) (s.refuseAll gone) := by
  suffices h : ∀ m pre, gone = pre ++ m → Reaches none (m.map fun x => .endPermit x.machine .refusedTooDry false)
      (s.refuseAll pre) (2 * m.length) (s.refuseAll gone) by
    have := h gone [] rfl
    rwa [refuseAll_nil] at this
  intro m
  induction m with
  | nil =>
    intro pre hl
    rw [hl, List.append_nil]
    exact .nil _
  | cons x m ih =>
    intro pre hl
    have hx : x ∈ gone := by rw [hl]; simp
    have hnot : ∀ y ∈ pre, y.machine ≠ x.machine := fun y hy he => by
      rw [hl, List.map_append] at hgone
      exact (List.nodup_append.1 hgone).2.2 _ (List.mem_map_of_mem hy) _ (List.mem_map_of_mem List.mem_cons_self) he
    have hfind : (s.refuseAll pre).permit? x.machine = some x := by
      have hin : x ∈ (s.refuseAll pre).permits.list := by
        refine List.mem_filter.2 ⟨hmem x hx, ?_⟩
        simpa using hnot
      exact permit?_of_mem (hmachines.sublist (List.filter_sublist.map _)) hin
    have hrest := ih (pre ++ [x]) (by rw [hl, List.append_assoc]; rfl)
    rw [← refuseAll_snoc] at hrest
    have htask := doTask_endPermit_tooDry hfind (hstate x hx) (horder x hx)
    have hquiet : Reaches none [.checkRetire x.tag] ((s.refuseAll pre).refuseAll [x]) 1 ((s.refuseAll pre).refuseAll [x]) :=
      .single (checkRetire_quiet _ x.tag (hpile x hx))
    rw [List.map_cons, show 2 * (x :: m).length = 1 + 1 + 2 * m.length by rw [List.length_cons]; omega]
    exact (Reaches.one htask hquiet).cons hrest

/-- A PREWET order ends, and with it the permits that wait on it: its id goes to the ORDER change set, and each of them ends
REFUSED-TOO-DRY. -/
theorem reaches_prewetGone {s : State} {id : Nat} {o : Order} {why : OrderOutcome} (ho : s.order? id = some o)
    (hended : o.state = .ended) (horigin : o.origin = .prewet) (hwhy : o.outcome = some why)
    (hkind : why = .cancelled ∨ why = .lapsed ∨ why = .failed)
    (hlive : ∀ slot p, s.pileAt? o.tag = some (slot, p) → p.life = .live) (hlen : s.permits.list.length ≤ 16)
    (hmachines : (s.permits.list.map fun x => x.machine).Nodup)
    (hpile : ∀ x ∈ s.permits.list.filter (fun p => p.names id), ∀ slot p, s.pileAt? x.tag = some (slot, p) →
      p.retirePending = false) :
    Reaches none [.orderEnded id] s 36 ((s.hand .order id).refuseAll (s.permits.list.filter fun p => p.names id)) := by
  have hcheck : doTask none (.checkFree o.tag) (s.hand .order id) = (s.hand .order id, []) :=
    congrArg (·, ([] : List Task)) (checkFree_quiet _ _ hlive)
  have htold : doTask none (.prewetEnded id why) (s.hand .order id) = (s.hand .order id,
      (s.permits.list.filter fun p => p.names id).map fun x => .endPermit x.machine .refusedTooDry false) := by
    rcases hkind with rfl | rfl | rfl
    · rfl
    · rfl
    · rfl
  have hrun := reaches_refuseAll (s := s.hand .order id) (gone := s.permits.list.filter fun p => p.names id)
    (fun x hx => List.mem_of_mem_filter hx) hmachines (hmachines.sublist (List.filter_sublist.map _))
    (fun x hx => by
      have := (List.mem_filter.1 hx).2
      simp only [Permit.names, Bool.and_eq_true, beq_iff_eq] at this
      exact this.1)
    (fun x hx k hk => by
      have hnames := (List.mem_filter.1 hx).2
      simp only [Permit.names, Bool.and_eq_true, beq_iff_eq] at hnames
      obtain rfl : id = k := by simpa [hk] using hnames.2.symm
      rw [show (s.hand .order id).order? id = some o from ho]
      simp [Order.isOpen, hended])
    hpile
  have hcount : (s.permits.list.filter fun p => p.names id).length ≤ 16 := (List.length_filter_le _ _).trans hlen
  exact (Reaches.one (doTask_orderEnded_prewet ho horigin hwhy) (Reaches.cons (.single hcheck)
    (.one htold hrun))).mono (by omega)

theorem withReason_eq (o : Order) (r : Reason) : o.withReason r = { o with
    suspension := o.suspension.add r, starved := if o.state = .waiting then false else o.starved } := by
  rw [Order.withReason]
  cases o.state <;> simp

theorem names_eq (x : Permit) (id : Nat) : x.names id = decide (x.state = .pendingWet ∧ x.prewetOrder = some id) := by
  rw [Bool.eq_iff_iff]
  simp [Permit.names]

/-- A waiting or held PREWET order ends, and takes the permits that name it along. -/
theorem settled_endOrder_prewet {s : State} {id : Nat} {o : Order} {why : OrderOutcome} (ho : s.order? id = some o)
    (horigin : o.origin = .prewet) (hkind : why = .cancelled ∨ why = .lapsed ∨ why = .failed)
    (hlive : ∀ slot p, s.pileAt? o.tag = some (slot, p) → p.life = .live) (hlen : s.permits.list.length ≤ 16)
    (hmachines : (s.permits.list.map fun x => x.machine).Nodup)
    (hpile : ∀ x ∈ s.permits.list.filter (fun p => p.names id), ∀ slot p, s.pileAt? x.tag = some (slot, p) →
      p.retirePending = false) :
    settled (s.endOrder id why) = ((s.mapOrder id fun o => o.ended why s.now s.events).hand .order id).refuseAll
      (s.permits.list.filter fun p => p.names id) :=
  (reaches_prewetGone (order?_mapOrder_self (f := fun o => o.ended why s.now s.events) ho fun _ => rfl) rfl horigin rfl hkind
    hlive hlen hmachines hpile).settled_eq (by omega)

/-- What the refusals leave of the notices: the PERMIT set and its flag alone are written. -/
theorem refuseAll_notices (s : State) (gone : List Permit) : (s.refuseAll gone).notices = { s.notices with
    permits := insertKeys s.notices.permits (gone.map fun x => x.machine)
    flags := { s.notices.flags with permit := s.notices.flags.permit
      || (s.notices.permits.isEmpty && !(gone.map fun x => x.machine).isEmpty) } } :=
  Notices.handAll_permit _ _

/-- Where no machine holds two permits, some of them are gone exactly by being among those. -/
theorem filter_not_any_machine {l : List Permit} (hnodup : (l.map fun x => x.machine).Nodup) (c : Permit → Bool) :
    (l.filter fun y => !((l.filter c).any fun x => x.machine == y.machine)) = l.filter fun y => !c y := by
  refine List.filter_congr fun y hy => congrArg not ?_
  rw [Bool.eq_iff_iff, List.any_eq_true]
  refine ⟨fun ⟨x, hx, hm⟩ => ?_, fun h => ⟨y, List.mem_filter.2 ⟨hy, h⟩, by simp⟩⟩
  obtain ⟨hx, hc⟩ := List.mem_filter.1 hx
  rwa [← List.inj_on_of_nodup_map hnodup hx hy (by simpa using hm)]

/-- Settles O32: an order without a pass takes or loses HOST and no more; its cancellation is its ending, and that of a PREWET
order takes the permits that name it along. -/
theorem waitingOrdersSuspendResumeCancel : Obligations.WaitingOrdersSuspendResumeCancel := by
  unfold Obligations.WaitingOrdersSuspendResumeCancel
  refine ⟨fun id s => ⟨fun hnone => ⟨congrArg Host.Outcome.next (suspendOrder_of_unknown hnone),
      congrArg Host.Outcome.next (resumeOrder_of_unknown hnone)⟩, fun o ho => ⟨fun he =>
      ⟨congrArg Host.Outcome.next (suspendOrder_of_ended ho he), congrArg Host.Outcome.next (resumeOrder_of_ended ho he)⟩,
      fun hne hh => congrArg Host.Outcome.next (suspendOrder_of_held ho hne hh),
      fun hne hh => congrArg Host.Outcome.next (resumeOrder_of_free ho hne hh),
      fun hne hh hpass hnodup => ?suspend, fun hne hh hnodup => ?resume⟩⟩,
    fun id s => ⟨fun hnone => congrArg Host.Outcome.next (cancelOrder_of_unknown hnone), fun o ho =>
      ⟨fun he => congrArg Host.Outcome.next (cancelOrder_of_ended ho he), fun ha hp => ?pending,
      fun hw horigin hlive => ?cancel⟩⟩, fun id o gone s ho hw horigin hlive hgone hlen hmachines hpile cmd why hcmd => ?prewet⟩
  case suspend =>
    have hsettled : settled (s.openEvent.addReason id.toNat .host) = s.openEvent.mapOrder id.toNat fun o => o.withReason .host := by
      rw [addReason_none (s := s.openEvent) (r := .host) ho hne hh, closePass_none hpass, settled_nil]
    have hfound : (s.openEvent.mapOrder id.toNat fun o => o.withReason .host).order? id.toNat = some (o.withReason .host) :=
      order?_mapOrder_self (s := s.openEvent) ho fun _ => rfl
    have hpass' : (o.withReason .host).pass = none := hpass
    refine congrArg Host.Outcome.next ((suspendOrder_of_taken ho hne hh hsettled).trans ?_)
    rw [suspensionReply_of_some hfound, hpass']
    simp only [withReason_eq]
    rfl
  case resume =>
    have hfound : (s.dropReason id.toNat .host).order? id.toNat =
        some { o with suspension := { o.suspension with host := false } } := by
      rw [dropReason_host ho hne hh]
      exact order?_mapOrder_self (f := fun x => { x with suspension := { x.suspension with host := false } }) ho fun _ => rfl
    refine ⟨_, congrArg Host.Outcome.next (resumeOrder_of_taken ho hne hh), ?_⟩
    rw [suspensionReply_of_some hfound, dropReason_host ho hne hh]
    exact ⟨rfl, rfl, rfl, rfl⟩
  case pending =>
    have hsettled : settled (s.openEvent.cancel id.toNat) = s.openEvent := by
      rw [cancel_of_pending (s := s.openEvent) ho ha hp, settled_nil]
    refine congrArg Host.Outcome.next ((cancelOrder_of_open ho (by rw [ha]; decide) hsettled).trans ?_)
    rw [cancelReply_of_some (t := s.openEvent) ho, ha]
    rfl
  case cancel =>
    have hfound := order?_mapOrder_self (s := s.openEvent) (f := fun o => o.ended .cancelled s.now (s.events + 1)) ho
      fun _ => rfl
    have hrun := reaches_orderEnded (q := none) hfound (fun h => absurd (horigin.symm.trans h) (by decide))
      (checkFree_quiet _ _ hlive)
    have hsettled := (congrArg settled (cancel_of_inert (s := s.openEvent) ho hw)).trans (hrun.settled_eq (by omega))
    refine congrArg Host.Outcome.next ((cancelOrder_of_open ho (by rcases hw with hw | hw <;> rw [hw] <;> decide) hsettled).trans ?_)
    rw [cancelReply_of_some (by exact hfound)]
    rfl
  case prewet =>
    have hnames : (fun x : Permit => x.names id.toNat)
        = fun x => decide (x.state = .pendingWet ∧ x.prewetOrder = some id.toNat) := funext fun x => names_eq x id.toNat
    have hsettled : ∀ why, (why = .cancelled ∨ why = .lapsed ∨ why = .failed) →
        settled (s.openEvent.endOrder id.toNat why) = ((s.openEvent.mapOrder id.toNat fun o =>
          o.ended why s.clock.minute (s.events + 1)).hand .order id.toNat).refuseAll gone := fun why hwhy => by
      rw [hgone, ← hnames]
      exact settled_endOrder_prewet (s := s.openEvent) ho horigin hwhy hlive hlen hmachines
        fun x hx slot p hp => (hpile x (by rw [hgone, ← hnames]; exact hx) slot p hp).2
    have hlist : (s.permits.list.filter fun y => !(gone.any fun x => x.machine == y.machine))
        = s.permits.list.filter fun x => decide (¬ (x.state = .pendingWet ∧ x.prewetOrder = some id.toNat)) := by
      rw [hgone, filter_not_any_machine hmachines]
      exact List.filter_congr fun x _ => by rw [decide_not]
    have hstate : ∀ (why : OrderOutcome) (n : Notices), n = (((s.openEvent.mapOrder id.toNat fun o =>
        o.ended why s.clock.minute (s.events + 1)).hand .order id.toNat).refuseAll gone).notices →
        n.orders = insertKey s.notices.orders id.toNat
          ∧ (∀ i, i ∈ n.permits ↔ i ∈ s.notices.permits ∨ ∃ x ∈ gone, x.machine = i)
          ∧ n.piles = s.notices.piles ∧ n.cannons = s.notices.cannons := fun why n hn => by
      rw [hn, refuseAll_notices]
      refine ⟨rfl, fun i => ?_, rfl, rfl⟩
      rw [mem_insertKeys, List.mem_map]
      rfl
    have hafter : ∀ why, ((s.openEvent.mapOrder id.toNat fun o => o.ended why s.clock.minute (s.events + 1)).hand .order
        id.toNat).refuseAll gone = { s with
          events := s.events + 1
          notices := (((s.openEvent.mapOrder id.toNat fun o => o.ended why s.clock.minute (s.events + 1)).hand .order
            id.toNat).refuseAll gone).notices
          dispatch := { s.dispatch with orders := s.dispatch.orders.map fun x => if x.id = id.toNat then { x with
            state := .ended, outcome := some why, endedMinute := some s.clock.minute
            endedEvent := s.events + 1, starved := false } else x }
          permits := { s.permits with
            list := s.permits.list.filter fun x => decide (¬ (x.state = .pendingWet ∧ x.prewetOrder = some id.toNat))
            outcomes := gone.foldl (fun acc x => Table.set acc x.machine
              ⟨.refusedTooDry, s.clock.minute, x.tag, x.id, none⟩) s.permits.outcomes } } := fun why => by
      rw [← hlist]
      rfl
    rcases hcmd with ⟨rfl, rfl⟩ | ⟨rfl, rfl, hlate⟩
    · have hfound : (((s.openEvent.mapOrder id.toNat fun o => o.ended .cancelled s.clock.minute (s.events + 1)).hand .order
          id.toNat).refuseAll gone).order? id.toNat = some (o.ended .cancelled s.clock.minute (s.events + 1)) :=
        order?_mapOrder_self (s := s.openEvent) ho fun _ => rfl
      refine ⟨_, congrArg Host.Outcome.next (cancelOrder_of_open ho (by rcases hw with hw | hw <;> rw [hw] <;> decide)
        ((congrArg settled (cancel_of_inert (s := s.openEvent) ho hw)).trans (hsettled _ (.inl rfl)))), ?_,
        hstate .cancelled _ rfl⟩
      rw [cancelReply_of_some hfound, if_pos rfl]
      exact congrArg (fun x : State => x.answer Code.cancelOrder .ok _) (hafter .cancelled)
    · have hlapse : s.openEvent.lapseOrder id.toNat = s.openEvent.endOrder id.toNat .lapsed :=
        doTask_lapseOrder_late (q := none) (s := s.openEvent) ho ((lapses_iff ..).2 ⟨hw.symm, hlate⟩)
      refine ⟨_, congrArg Host.Outcome.next ((congrArg settled hlapse).trans (hsettled _ (.inr (.inl rfl)))), ?_,
        hstate .lapsed _ rfl⟩
      rw [if_neg (by decide)]
      exact hafter .lapsed

end Sys2Proof.Machine
end

section
set_option Elab.async false
/-! PROOFS. Permits told of a pile: ZONE on its orders, clearing and grant (R17, R148, R151). -/

namespace Sys2Proof.Machine

/-- The machines of some permits that are handed to the PERMIT change set: all but the one whose own command it is (R157). -/
def heard (q : Option Nat) (l : List Permit) : List Nat := (l.map fun x => x.machine).filter fun m => decide (q ≠ some m)

theorem mem_heard {q : Option Nat} {l : List Permit} {m : Nat} :
    m ∈ heard q l ↔ (∃ x ∈ l, x.machine = m) ∧ q ≠ some m := by
  rw [heard, List.mem_filter, List.mem_map, decide_eq_true_eq]

theorem foldl_handPermit (q : Option Nat) (l : List Permit) (s : State) :
    l.foldl (fun s x => s.handPermit q x.machine) s = { s with notices := s.notices.handAll .permit (heard q l) } := by
  induction l generalizing s with
  | nil => rfl
  | cons x l ih =>
    rw [List.foldl_cons, ih]
    by_cases h : q = some x.machine
    · rw [State.handPermit, if_pos h, heard, heard, List.map_cons, List.filter_cons_of_neg (by simp [h])]
    · rw [State.handPermit, if_neg h, heard, heard, List.map_cons, List.filter_cons_of_pos (by simp [h])]
      rfl

/-! ## The grant (R151) -/

/-- A permit that clears on the pile of a tag is granted. -/
def Permit.grantedOn (x : Permit) (tag now : Nat) : Permit :=
  if x.clearsOn tag then { x with state := .granted, entered := now } else x

/-- A permit that waits on the pile of a tag clears. -/
def Permit.clearedOn (x : Permit) (tag now : Nat) : Permit :=
  if x.waitsOn tag then { x with state := .clearing, entered := now, prewetOrder := none } else x

/-- The permits that clear on a pile granted, and their machines handed over. -/
def State.granting (s : State) (q : Option Nat) (tag : Nat) : State := { s with
  notices := s.notices.handAll .permit (heard q (s.permits.list.filter fun x => x.clearsOn tag))
  permits := { s.permits with list := s.permits.list.map fun x => x.grantedOn tag s.now } }

/-- The permits that wait on a pile cleared, and their machines handed over. -/
def State.clearing (s : State) (q : Option Nat) (tag : Nat) : State := { s with
  notices := s.notices.handAll .permit (heard q (s.permits.list.filter fun x => x.waitsOn tag))
  permits := { s.permits with list := s.permits.list.map fun x => x.clearedOn tag s.now } }

theorem askGrant_of_running {s : State} {tag : Nat} (q : Option Nat) (h : s.runningOn tag = true) : s.askGrant q tag = s := by
  rw [State.askGrant, if_pos h]

theorem askGrant_of_idle {s : State} {tag : Nat} (q : Option Nat) (h : s.runningOn tag = false) :
    s.askGrant q tag = s.granting q tag := by
  rw [State.askGrant, if_neg (by rw [h]; decide), foldl_handPermit]
  rfl

/-- Nothing runs on a pile: no order on it has a pass, and no cannon that covers it waits to close without one. -/
theorem runningOn_of_still {s : State} {tag : Nat} (horders : ∀ o ∈ s.dispatch.orders, o.tag = tag → o.pass = none)
    (hcannons : ∀ e ∈ s.cannons, (∃ v ∈ e.2.config.coverage, v.tag = tag) → e.2.bound = none → e.2.closeWait = none) :
    s.runningOn tag = false := by
  rw [State.runningOn, Bool.or_eq_false_iff]
  refine ⟨List.any_eq_false.2 fun o ho => ?_, List.any_eq_false.2 fun e he h => ?_⟩
  · by_cases htag : o.tag = tag
    · simp [Order.passRuns, horders o ho htag]
    · simp [htag]
  · simp only [Cannon.coverOf?, Bool.and_eq_true, List.find?_isSome, beq_iff_eq, Option.isNone_iff_eq_none] at h
    rw [hcannons e he h.1.1 h.1.2] at h
    exact absurd h.2 (by decide)

/-! ## ZONE joins the orders of a pile (R82, R151) -/

/-- An order once ZONE has joined the open orders of a pile. -/
def Order.zonedOn (o : Order) (tag : Nat) : Order := if o.zoneJoins tag then o.withReason .zone else o

@[simp] theorem id_zonedOn (o : Order) (tag : Nat) : (o.zonedOn tag).id = o.id := by
  unfold Order.zonedOn; split <;> rfl

@[simp] theorem tag_zonedOn (o : Order) (tag : Nat) : (o.zonedOn tag).tag = o.tag := by
  unfold Order.zonedOn; split <;> rfl

@[simp] theorem pass_zonedOn (o : Order) (tag : Nat) : (o.zonedOn tag).pass = o.pass := by
  unfold Order.zonedOn; split <;> rfl

theorem zonedOn_of_other {o : Order} {tag : Nat} (h : o.tag ≠ tag) : o.zonedOn tag = o := by
  simp [Order.zonedOn, Order.zoneJoins, h]

/-- ZONE on the open orders of a pile. -/
def State.zoning (s : State) (tag : Nat) : State :=
  { s with dispatch := { s.dispatch with orders := s.dispatch.orders.map fun o => o.zonedOn tag } }

theorem zoning_of_none {s : State} {tag : Nat} (h : ∀ o ∈ s.dispatch.orders, o.tag ≠ tag) : s.zoning tag = s := by
  have : (s.dispatch.orders.map fun o => o.zonedOn tag) = s.dispatch.orders :=
    (List.map_congr_left fun o ho => zonedOn_of_other (h o ho)).trans (List.map_id _)
  rw [State.zoning, this]

theorem enterClearing_eq (s : State) (tag : Nat) : s.enterClearing tag = (s.zoning tag,
    ((s.dispatch.orders.filter fun o => o.zoneJoins tag).map fun o => Task.closePass o.id) ++ [.askGrant tag]) := rfl

/-! ## The telling of a pile at its working moisture (R17, R148) -/

theorem workable_iff {s : State} {p : Pile} {g : Grade} (hg : Table.get s.grades p.grade = some g) :
    s.workable p = decide (g.mwork ≤ p.m) := by
  simp only [State.workable, State.gradeOf?, hg]

/-- A LIVE pile without orders at its working moisture: the permits that wait on it clear, and are considered for the grant. -/
theorem tellPile_of_workable {q : Option Nat} {s : State} {tag slot : Nat} {p : Pile} (hp : s.pileAt? tag = some (slot, p))
    (hlive : p.life = .live) (hwork : s.workable p = true) (hwaits : (s.permits.list.filter fun x => x.waitsOn tag) ≠ [])
    (hprewet : s.openPrewet? tag = none) : s.tellPile q tag = (s.clearing q tag).enterClearing tag := by
  have hnone : (s.clearing q tag).openPrewet? tag = none := hprewet
  have hcleared : (s.permits.list.filter fun x => x.waitsOn tag).foldl (fun s x => s.handPermit q x.machine)
      (s.mapPermits (fun x => x.waitsOn tag) fun x =>
        { x with state := .clearing, entered := s.now, prewetOrder := none }) = s.clearing q tag := by
    rw [foldl_handPermit]
    rfl
  have hend : (s.clearing q tag).endOpenPrewet tag = (s.clearing q tag, []) := by
    simp only [State.endOpenPrewet, hnone]
  simp only [State.tellPile, hp]
  rw [if_pos ⟨hlive, hwork, hwaits⟩, hcleared, hend]
  rfl

theorem clearsOn_iff (x : Permit) (tag : Nat) : x.clearsOn tag = true ↔ x.tag = tag ∧ x.state = .clearing := by
  simp [Permit.clearsOn]

theorem waitsOn_iff (x : Permit) (tag : Nat) : x.waitsOn tag = true ↔ x.tag = tag ∧ x.state = .pendingWet := by
  simp [Permit.waitsOn]

@[simp] theorem machine_clearedOn (x : Permit) (tag now : Nat) : (x.clearedOn tag now).machine = x.machine := by
  unfold Permit.clearedOn; split <;> rfl

/-- A permit through CLEARING to GRANTED. -/
theorem grantedOn_clearedOn (x : Permit) (tag now : Nat) : (x.clearedOn tag now).grantedOn tag now =
    if x.tag = tag ∧ x.state = .pendingWet then { x with state := .granted, entered := now, prewetOrder := none }
    else if x.tag = tag ∧ x.state = .clearing then { x with state := .granted, entered := now } else x := by
  by_cases hwaits : x.tag = tag ∧ x.state = .pendingWet
  · rw [if_pos hwaits, Permit.clearedOn, if_pos ((waitsOn_iff x tag).2 hwaits), Permit.grantedOn]
    exact if_pos (by simp [Permit.clearsOn, hwaits.1])
  · rw [if_neg hwaits, Permit.clearedOn, if_neg (mt (waitsOn_iff x tag).1 hwaits), Permit.grantedOn]
    simp only [clearsOn_iff]

/-- A permit that clears after the waiting ones have cleared was not granted before. -/
theorem clearsOn_clearedOn (x : Permit) (tag now : Nat) :
    (x.clearedOn tag now).clearsOn tag = true ↔ x.tag = tag ∧ (x.state = .pendingWet ∨ x.state = .clearing) := by
  by_cases hwaits : x.tag = tag ∧ x.state = .pendingWet
  · rw [Permit.clearedOn, if_pos ((waitsOn_iff x tag).2 hwaits), clearsOn_iff]
    exact ⟨fun _ => ⟨hwaits.1, .inl hwaits.2⟩, fun _ => ⟨hwaits.1, rfl⟩⟩
  · rw [Permit.clearedOn, if_neg (mt (waitsOn_iff x tag).1 hwaits), clearsOn_iff]
    exact ⟨fun h => ⟨h.1, .inr h.2⟩, fun h => ⟨h.1, h.2.resolve_left fun hs => hwaits ⟨h.1, hs⟩⟩⟩

/-- Settles O19: the permits that wait clear, no order joins ZONE, and nothing runs that would keep the grant off. -/
theorem workingMoistureGrantsWaitingPermits : Obligations.WorkingMoistureGrantsWaitingPermits := by
  unfold Obligations.WorkingMoistureGrantsWaitingPermits
  intro tag value slot p g s hp hg hlive hwf hwork horders hcannons hwaiting
  have hp' : (s.openEvent.mapPile slot fun q => q.toldMoisture (min value.toNat (min 4000 g.msat))).pileAt? tag.toNat
      = some (slot, p.toldMoisture (min value.toNat (min 4000 g.msat))) :=
    pileAt_mapPile (s := s.openEvent) hp fun _ => rfl
  set u := s.openEvent.mapPile slot fun q => q.toldMoisture (min value.toNat (min 4000 g.msat)) with hu
  have hwaits : (u.permits.list.filter fun x => x.waitsOn tag.toNat) ≠ [] := fun hnil => by
    obtain ⟨x, hx, hon⟩ := hwaiting
    exact List.filter_eq_nil_iff.1 hnil x hx ((waitsOn_iff ..).2 hon)
  have hprewet : u.openPrewet? tag.toNat = none := by
    refine List.find?_eq_none.2 fun o ho => ?_
    have ho := List.mem_filter.1 ho
    simp only [Bool.and_eq_true, beq_iff_eq] at ho
    exact absurd ho.2.1 (horders o ho.1)
  have htell := tellPile_of_workable (q := none) hp' hlive
    ((workable_iff (s := u) (p := p.toldMoisture _) (g := g) hg).trans (decide_eq_true hwork)) hwaits hprewet
  have hzoning : (u.clearing none tag.toNat).zoning tag.toNat = u.clearing none tag.toNat := zoning_of_none horders
  have hstill : (u.clearing none tag.toNat).runningOn tag.toNat = false :=
    runningOn_of_still (fun o ho htag => absurd htag (horders o ho)) hcannons
  have hfilter : ((u.clearing none tag.toNat).dispatch.orders.filter fun o => o.zoneJoins tag.toNat) = [] :=
    List.filter_eq_nil_iff.2 fun o ho => by simp [Order.zoneJoins, horders o ho]
  have hsettled : settled (u, [.tellPile tag.toNat]) = (u.clearing none tag.toNat).granting none tag.toNat := by
    refine Reaches.settled_eq (k := 2) (.one (htell.trans (enterClearing_eq _ _)) ?_) (by omega)
    rw [hzoning, hfilter]
    exact .single (congrArg (·, ([] : List Task)) (askGrant_of_idle none hstill))
  have hexec : exec (.setMoisture tag value) s = .next (((u.clearing none tag.toNat).granting none tag.toNat).answer
      Code.setMoisture .ok (be16 (min value.toNat (min 4000 g.msat)))) :=
    congrArg Host.Outcome.next (by rw [setMoisture_of_known hp hg, ← hu, hsettled])
  refine ⟨_, hexec, ?_, ?_, fun k => ?_⟩
  · rw [State.granting, State.clearing]
    simp only [Notices.handAll_permit]
    rfl
  · change (s.permits.list.map _).map _ = _
    rw [List.map_map]
    exact List.map_congr_left fun x _ => grantedOn_clearedOn x _ _
  · change k ∈ (Notices.handAll _ _ _).permits ↔ _
    rw [Notices.handAll_permit, mem_insertKeys, State.clearing, Notices.handAll_permit, mem_insertKeys, mem_heard, mem_heard]
    constructor
    · rintro ((h | ⟨⟨x, hx, rfl⟩, -⟩) | ⟨⟨x, hx, rfl⟩, -⟩)
      · exact .inl h
      · obtain ⟨hx, hw⟩ := List.mem_filter.1 hx
        obtain ⟨ht, hs⟩ := (waitsOn_iff ..).1 hw
        exact .inr ⟨x, hx, rfl, ht, by rw [hs]; decide⟩
      · obtain ⟨hx, hw⟩ := List.mem_filter.1 hx
        obtain ⟨y, hy, rfl⟩ := List.mem_map.1 hx
        obtain ⟨ht, hs⟩ := (clearsOn_clearedOn ..).1 hw
        exact .inr ⟨y, hy, (machine_clearedOn ..).symm, ht, by rcases hs with hs | hs <;> rw [hs] <;> decide⟩
    · rintro (h | ⟨x, hx, rfl, ht, hs⟩)
      · exact .inl (.inl h)
      · refine .inr ⟨⟨x.clearedOn tag.toNat u.now, List.mem_filter.2 ⟨List.mem_map_of_mem hx, ?_⟩, machine_clearedOn ..⟩,
          by simp⟩
        refine (clearsOn_clearedOn ..).2 ⟨ht, ?_⟩
        cases hstate : x.state with
        | pendingWet => exact .inl rfl
        | clearing => exact .inr rfl
        | granted => exact absurd hstate hs

end Sys2Proof.Machine
end

section
set_option Elab.async false
/-! PROOFS. A running pass that is closed down: ramp-down from SPRAYING, abandonment from AIMING (R82, R89, R93, R111). -/

namespace Sys2Proof.Machine

/-! ## What the evaluation of spent leaves -/

section
variable (s : State)
@[simp] theorem dispatch_evalSpent : s.evalSpent.dispatch = s.dispatch := by rw [evalSpent_eq]
@[simp] theorem cannons_evalSpent : s.evalSpent.cannons = s.cannons := by rw [evalSpent_eq]
@[simp] theorem grades_evalSpent : s.evalSpent.grades = s.grades := by rw [evalSpent_eq]
@[simp] theorem permits_evalSpent : s.evalSpent.permits = s.permits := by rw [evalSpent_eq]
@[simp] theorem loop_evalSpent : s.evalSpent.loop = s.loop := by rw [evalSpent_eq]
@[simp] theorem clock_evalSpent : s.evalSpent.clock = s.clock := by rw [evalSpent_eq]
@[simp] theorem events_evalSpent : s.evalSpent.events = s.events := by rw [evalSpent_eq]
@[simp] theorem port_evalSpent : s.evalSpent.port = s.port := by rw [evalSpent_eq]
@[simp] theorem orderSet_evalSpent : s.evalSpent.notices.orders = s.notices.orders := by rw [evalSpent_eq]
@[simp] theorem order?_evalSpent (id : Nat) : s.evalSpent.order? id = s.order? id := by
  rw [State.order?, dispatch_evalSpent, ← State.order?]
end

/-! ## What an answer leaves -/

section
variable (s : State) (code : Nat) (x : Status) (b : List Byte)
@[simp] theorem order?_answer (id : Nat) : (s.answer code x b).order? id = s.order? id := rfl
@[simp] theorem cannon?_answer (n : Nat) : (s.answer code x b).cannon? n = s.cannon? n := rfl
@[simp] theorem node?_answer (a : Nat) : (s.answer code x b).node? a = s.node? a := rfl
theorem port_answer : (s.answer code x b).port = s.replied x code b := rfl
end

/-! ## CLOSE sent and the cannon moved (R110, R111) -/

/-- CLOSE in a node's slot, and a cannon moved. -/
def State.closing (s : State) (n a : Nat) (f : Cannon → Cannon) : State := (s.placeStop a .close).mapCannon n f

theorem cannon_closing_self {s : State} {n a : Nat} {f : Cannon → Cannon} {c : Cannon} (hc : s.cannon? n = some c) :
    (s.closing n a f).cannon? n = some (f c) := by
  rw [State.closing, cannon_mapCannon, if_pos rfl, show (s.placeStop a .close).cannon? n = some c from hc]
  rfl

theorem cannon_closing_of_ne {s : State} {n a k : Nat} {f : Cannon → Cannon} (h : k ≠ n) :
    (s.closing n a f).cannon? k = s.cannon? k := by
  rw [State.closing, cannon_mapCannon, if_neg h]
  rfl

theorem node_closing_self {s : State} {n a : Nat} {f : Cannon → Cannon} {x : Node} (hx : s.node? a = some x) :
    (s.closing n a f).node? a = some { x with slot := some .close } := by
  refine (node_mapNode s a a _).trans ?_
  rw [if_pos rfl, hx]
  rfl

theorem node_closing_of_ne {s : State} {n a k : Nat} {f : Cannon → Cannon} (h : k ≠ a) :
    (s.closing n a f).node? k = s.node? k :=
  (node_mapNode s a k _).trans (if_neg h)

theorem placeClose_of_some {s : State} {n : Nat} {c : Cannon} (hc : s.cannon? n = some c) :
    s.placeClose n = s.placeStop c.config.node .close := by
  simp only [State.placeClose, hc]

/-- A spraying cannon once its pass ramps down. -/
def Cannon.ramping (c : Cannon) : Cannon :=
  { c with state := .rampDown, closeWait := c.closeWaitStart, blankingOn := false }

/-- An aiming cannon whose pass has been abandoned before OPEN was sent. -/
def Cannon.slewedOff (c : Cannon) : Cannon := { c.unbound with header := none, state := .idle, aimPhase := none }

/-- An aiming cannon whose pass has been abandoned after OPEN was sent. -/
def Cannon.openedOff (c : Cannon) : Cannon :=
  { c.unbound with state := .rampDown, aimPhase := none, closeWait := c.closeWaitStart }

/-- A pass that ramps down. -/
def Pass.ramping (p : Pass) : Pass := { p with state := .rampDown }

theorem rampDown_of_bound {s : State} {n id : Nat} {c : Cannon} (hc : s.cannon? n = some c) (hb : c.bound = some id) :
    s.rampDown n = (s.closing n c.config.node Cannon.ramping).mapOrder id fun o => o.mapPass Pass.ramping := by
  simp only [State.rampDown, hc, placeClose_of_some hc, State.mapBoundPass, hb]
  rfl

theorem closeDown_of_spraying {s : State} {n id : Nat} {c : Cannon} (hc : s.cannon? n = some c) (hs : c.state = .spraying)
    (hb : c.bound = some id) : s.closeDown n =
      ((s.closing n c.config.node Cannon.ramping).mapOrder id fun o => o.mapPass Pass.ramping, []) := by
  simp only [State.closeDown, hc, hs, rampDown_of_bound hc hb]

theorem closeDown_of_rampDown {s : State} {n : Nat} {c : Cannon} (hc : s.cannon? n = some c) (hs : c.state = .rampDown) :
    s.closeDown n = (s, []) := by
  simp only [State.closeDown, hc, hs]

/-- An abandonment in aim phase OPENING: the cannon ramps down without its pass. -/
theorem closeDown_of_opening {s : State} {n id : Nat} {c : Cannon} (hc : s.cannon? n = some c) (hs : c.state = .aiming)
    (hb : c.bound = some id) (hphase : c.aimPhase = some .opening) :
    s.closeDown n = (s.closing n c.config.node Cannon.openedOff, [.passEnd id .abandoned 0]) := by
  simp only [State.closeDown, hc, hs, placeClose_of_some hc, if_pos hphase, Cannon.passEndTasks, hb,
    mapCannon_mapCannon]
  rfl

theorem toIdle_occasion_mapCannon (s : State) (n : Nat) (f : Cannon → Cannon) : (s.mapCannon n f).occasion.toIdle n
    = (s.mapCannon n fun c => { f c with state := .idle, aimPhase := none }).occasion.occasion :=
  congrArg (fun u : State => u.occasion.occasion)
    (mapCannon_mapCannon s n f fun c => { c with state := .idle, aimPhase := none })

/-- An abandonment in aim phase SLEWING: the cannon goes to IDLE, its header slot released. -/
theorem closeDown_of_slewing {s : State} {n id : Nat} {c : Cannon} (hc : s.cannon? n = some c) (hs : c.state = .aiming)
    (hb : c.bound = some id) (hphase : c.aimPhase ≠ some .opening) (hheader : c.header ≠ none) :
    s.closeDown n = ((s.closing n c.config.node Cannon.slewedOff).occasion.occasion, [.passEnd id .abandoned 0]) := by
  have hself : (((s.placeStop c.config.node .close).mapCannon n Cannon.unbound).cannon? n) = some c.unbound :=
    cannon_closing_self (f := Cannon.unbound) hc
  have hrelease : (((s.placeStop c.config.node .close).mapCannon n Cannon.unbound).releaseHeader n)
      = (((s.placeStop c.config.node .close).mapCannon n Cannon.unbound).mapCannon n
        fun c => { c with header := none }).occasion := by
    have : c.unbound.header.isSome = true := Option.isSome_iff_ne_none.2 hheader
    simp only [State.releaseHeader, hself, this, if_true]
  simp only [State.closeDown, hc, hs, placeClose_of_some hc, if_neg hphase, Cannon.passEndTasks, hb, hrelease,
    mapCannon_mapCannon, toIdle_occasion_mapCannon]
  rfl

/-- What an abandonment makes of its cannon, by its aim phase. -/
def Cannon.abandoned (c : Cannon) : Cannon := if c.aimPhase = some .opening then c.openedOff else c.slewedOff

/-- CLOSE in a node's slot, a cannon moved, and some arbitrations occasioned. -/
def State.closingDue (s : State) (n a : Nat) (f : Cannon → Cannon) (k : Nat) : State :=
  { s.closing n a f with dispatch := { s.dispatch with due := s.dispatch.due + k } }

/-- An abandonment: the cannon by its aim phase, CLOSE sent, and the pass ended. -/
theorem closeDown_of_aiming {s : State} {n id : Nat} {c : Cannon} (hc : s.cannon? n = some c) (hs : c.state = .aiming)
    (hb : c.bound = some id) (hheader : c.header ≠ none) : ∃ (f : Cannon → Cannon) (k : Nat), f c = c.abandoned ∧
      s.closeDown n = (s.closingDue n c.config.node f k, [.passEnd id .abandoned 0]) := by
  by_cases hphase : c.aimPhase = some .opening
  · exact ⟨Cannon.openedOff, 0, (if_pos hphase).symm, closeDown_of_opening hc hs hb hphase⟩
  · exact ⟨Cannon.slewedOff, 2, (if_neg hphase).symm, closeDown_of_slewing hc hs hb hphase hheader⟩

theorem closePass_of_some {s : State} {o : Order} {p : Pass} (h : o.pass = some p) (hp : p.state ≠ .closed) :
    s.closePass o = s.closeDown p.cannon := by
  simp only [State.closePass, h, if_neg hp]

/-! ## The settling of a pass that has ended (R89, R90) -/

/-- An order without its pass, and spent evaluated. -/
def State.unpassed (s : State) (id : Nat) : State := (s.mapOrder id fun o => { o with pass := none }).evalSpent

theorem order?_unpassed {s : State} {id : Nat} {o : Order} (ho : s.order? id = some o) :
    (s.unpassed id).order? id = some { o with pass := none } := by
  rw [State.unpassed, order?_evalSpent]
  exact order?_mapOrder_self (f := fun o => { o with pass := none }) ho fun _ => rfl

theorem order?_mapOrder_of_ne {s : State} {id k : Nat} {f : Order → Order} (hf : ∀ o, (f o).id = o.id) (h : k ≠ id) :
    (s.mapOrder id f).order? k = s.order? k := by
  rw [order_mapOrder s id k f hf, if_neg h]

theorem order?_unpassed_of_ne {s : State} {id k : Nat} (h : k ≠ id) : (s.unpassed id).order? k = s.order? k := by
  rw [State.unpassed, order?_evalSpent]
  exact order?_mapOrder_of_ne (f := fun o => { o with pass := none }) (fun _ => rfl) h

theorem passEnd_of_zero {q : Option Nat} {s : State} {id : Nat} {kind : PassKind} {o : Order} (ho : s.order? id = some o) :
    doTask q (.passEnd id kind 0) s = (s.mapOrder id fun o => o.creditedEnd kind 0, [.passNext id kind]) := by
  change s.passEnd id kind 0 = _
  simp only [State.passEnd, ho, applyGain_zero]
  rfl

theorem passNext_of_none {q : Option Nat} {s : State} {id : Nat} {kind : PassKind} {o : Order} (ho : s.order? id = some o)
    (h : (s.unpassed id).outcomeAfter o kind = none) : doTask q (.passNext id kind) s =
      (((s.unpassed id).mapOrder id fun o => { o with state := .waiting, lapseRef := s.now }).occasion,
        [.passTold o.tag]) := by
  change s.passNext id kind = _
  simp only [State.passNext, ho, State.unpassed] at h ⊢
  rw [h]

theorem passNext_of_some {q : Option Nat} {s : State} {id : Nat} {kind : PassKind} {o : Order} {x : OrderOutcome}
    (ho : s.order? id = some o) (h : (s.unpassed id).outcomeAfter o kind = some x) : doTask q (.passNext id kind) s =
      ((s.unpassed id).mapOrder id fun o => o.ended x s.now s.events, [.passTold o.tag, .orderEnded id]) := by
  change s.passNext id kind = _
  simp only [State.passNext, ho, State.unpassed] at h ⊢
  rw [h]

/-- No permit clears on the pile and no PREWET order is open on it: a pass end is nothing to the permit table. -/
theorem passTold_of_none {q : Option Nat} {s : State} {tag : Nat} (hclear : ∀ x ∈ s.permits.list, x.clearsOn tag = false)
    (hprewet : s.openPrewet? tag = none) : doTask q (.passTold tag) s = (s, []) := by
  have hgrant : s.askGrant q tag = s := by
    have hnil : (s.permits.list.filter fun x => x.clearsOn tag) = [] :=
      List.filter_eq_nil_iff.2 fun x hx => by rw [hclear x hx]; decide
    have hmap : (s.permits.list.map fun x => x.grantedOn tag s.now) = s.permits.list :=
      (List.map_congr_left fun x hx => 
        (if_neg (by rw [hclear x hx]; decide) : x.grantedOn tag s.now = x)).trans (List.map_id _)
    cases hrun : s.runningOn tag with
    | true => exact askGrant_of_running q hrun
    | false =>
      rw [askGrant_of_idle q hrun, State.granting, hnil, hmap]
      rfl
  change s.passTold q tag = _
  simp only [State.passTold, hgrant, hprewet]

/-- An order whose pass was abandoned goes back to WAITING. -/
def State.waitsAfter (s : State) (id : Nat) : State :=
  ((((s.mapOrder id fun o => o.creditedEnd .abandoned 0).unpassed id).mapOrder id fun o =>
    { o with state := .waiting, lapseRef := s.now }).occasion)

/-- An order whose pass was abandoned at a cancellation has ended. -/
def State.endedAfter (s : State) (id : Nat) : State :=
  ((s.mapOrder id fun o => o.creditedEnd .abandoned 0).unpassed id).mapOrder id fun o => o.ended .cancelled s.now s.events

/-- … and its id has been handed to the ORDER change set. -/
def State.cancelledAfter (s : State) (id : Nat) : State := (s.endedAfter id).hand .order id

theorem creditedEnd_abandoned {o : Order} (hplan : o.plan = none) (hd : o.delivered ≤ 4294967295) :
    o.creditedEnd .abandoned 0 = { o with
      pass := o.pass.map fun p => { p with state := .closed, delivered := 0 }, lastEnd := some .abandoned } := by
  have : satAdd32 o.delivered 0 = o.delivered := by simp [satAdd32, hd]
  rw [Order.creditedEnd, this, hplan]
  rfl

section
variable {s : State} {id : Nat} {o : Order} (ho : s.order? id = some o) (hplan : o.plan = none)
  (hd : o.delivered ≤ 4294967295)
include ho hplan hd

theorem order?_creditedEnd_abandoned : (s.mapOrder id fun o => o.creditedEnd .abandoned 0).order? id = some { o with
    pass := o.pass.map fun p => { p with state := .closed, delivered := 0 }, lastEnd := some .abandoned } :=
  (order?_mapOrder_self (f := fun o => o.creditedEnd .abandoned 0) ho fun _ => rfl).trans
    (congrArg some (creditedEnd_abandoned hplan hd))

theorem order?_waitsAfter : (s.waitsAfter id).order? id = some { o with
    pass := none, lastEnd := some .abandoned, state := .waiting, lapseRef := s.now } :=
  order?_mapOrder_self (f := fun o => { o with state := .waiting, lapseRef := s.now })
    (order?_unpassed (order?_creditedEnd_abandoned ho hplan hd)) fun _ => rfl

theorem order?_cancelledAfter : (s.cancelledAfter id).order? id = some { o with
    pass := none, lastEnd := some .abandoned, state := .ended, outcome := some .cancelled, endedMinute := some s.now
    endedEvent := s.events, starved := false } :=
  order?_mapOrder_self (f := fun o => o.ended .cancelled s.now s.events)
    (order?_unpassed (order?_creditedEnd_abandoned ho hplan hd)) fun _ => rfl

end

theorem order?_waitsAfter_of_ne {s : State} {id k : Nat} (h : k ≠ id) : (s.waitsAfter id).order? k = s.order? k :=
  (order?_mapOrder_of_ne (f := fun o => { o with state := .waiting, lapseRef := s.now }) (fun _ => rfl) h).trans
    ((order?_unpassed_of_ne h).trans (order?_mapOrder_of_ne (f := fun o => o.creditedEnd .abandoned 0) (fun _ => rfl) h))

theorem order?_cancelledAfter_of_ne {s : State} {id k : Nat} (h : k ≠ id) : (s.cancelledAfter id).order? k = s.order? k :=
  (order?_mapOrder_of_ne (f := fun o => o.ended .cancelled s.now s.events) (fun _ => rfl) h).trans
    ((order?_unpassed_of_ne h).trans (order?_mapOrder_of_ne (f := fun o => o.creditedEnd .abandoned 0) (fun _ => rfl) h))

@[simp] theorem cannons_waitsAfter (s : State) (id : Nat) : (s.waitsAfter id).cannons = s.cannons := cannons_evalSpent _
@[simp] theorem cannons_cancelledAfter (s : State) (id : Nat) : (s.cancelledAfter id).cannons = s.cannons := cannons_evalSpent _
@[simp] theorem cannon?_waitsAfter (s : State) (id n : Nat) : (s.waitsAfter id).cannon? n = s.cannon? n :=
  congrArg (Table.get · n) (cannons_waitsAfter s id)
@[simp] theorem loop_waitsAfter (s : State) (id : Nat) : (s.waitsAfter id).loop = s.loop := loop_evalSpent _
@[simp] theorem cannon?_cancelledAfter (s : State) (id n : Nat) : (s.cancelledAfter id).cannon? n = s.cannon? n :=
  congrArg (Table.get · n) (cannons_cancelledAfter s id)
@[simp] theorem loop_cancelledAfter (s : State) (id : Nat) : (s.cancelledAfter id).loop = s.loop := loop_evalSpent _
@[simp] theorem node?_waitsAfter (s : State) (id a : Nat) : (s.waitsAfter id).node? a = s.node? a :=
  congrArg (fun l : Loop => Table.get l.nodes a) (loop_waitsAfter s id)
@[simp] theorem piles_waitsAfter (s : State) (id : Nat) : (s.waitsAfter id).piles = s.piles := piles_evalSpent
@[simp] theorem node?_cancelledAfter (s : State) (id a : Nat) : (s.cancelledAfter id).node? a = s.node? a :=
  congrArg (fun l : Loop => Table.get l.nodes a) (loop_cancelledAfter s id)
@[simp] theorem piles_cancelledAfter (s : State) (id : Nat) : (s.cancelledAfter id).piles = s.piles := piles_evalSpent
@[simp] theorem permits_waitsAfter (s : State) (id : Nat) : (s.waitsAfter id).permits = s.permits := permits_evalSpent _
@[simp] theorem permits_cancelledAfter (s : State) (id : Nat) : (s.cancelledAfter id).permits = s.permits :=
  permits_evalSpent _
@[simp] theorem port_waitsAfter (s : State) (id : Nat) : (s.waitsAfter id).port = s.port := port_evalSpent _
@[simp] theorem port_cancelledAfter (s : State) (id : Nat) : (s.cancelledAfter id).port = s.port := port_evalSpent _
@[simp] theorem orderSet_cancelledAfter (s : State) (id : Nat) :
    (s.cancelledAfter id).notices.orders = insertKey s.notices.orders id :=
  congrArg (insertKey · id) (orderSet_evalSpent _)

/-- The open PREWET orders of a pile are none where no order on the pile is one. -/
theorem openPrewet_of_none {s : State} {tag : Nat} (h : ∀ o ∈ s.dispatch.orders, o.tag = tag → o.state ≠ .ended →
    o.origin ≠ .prewet) : s.openPrewet? tag = none := by
  refine List.find?_eq_none.2 fun o ho => ?_
  have ho := List.mem_filter.1 ho
  simp only [Bool.and_eq_true, beq_iff_eq] at ho
  simpa using h o ho.1 ho.2.1 (isOpen_iff.1 ho.2.2)

theorem mem_mapOrder {s : State} {id : Nat} {f : Order → Order} {o : Order} (h : o ∈ (s.mapOrder id f).dispatch.orders) :
    ∃ y ∈ s.dispatch.orders, o = if y.id = id then f y else y := by
  obtain ⟨y, hy, rfl⟩ := List.mem_map.1 h
  exact ⟨y, hy, rfl⟩

/-- An order after some changes of one order that keep its id, tag and origin. -/
def Order.restatedAs (o y : Order) (id : Nat) : Prop :=
  o.id = y.id ∧ o.tag = y.tag ∧ o.origin = y.origin ∧ (y.id ≠ id → o = y)

/-- Every order of a state stands in another, restated but for one order. -/
def State.restates (t s : State) (id : Nat) : Prop := ∀ o ∈ t.dispatch.orders, ∃ y ∈ s.dispatch.orders, o.restatedAs y id

theorem restates_mapOrder (s : State) {id : Nat} {f : Order → Order} (hf : ∀ o, (f o).id = o.id ∧ (f o).tag = o.tag ∧ (f o).origin = o.origin) :
    (s.mapOrder id f).restates s id := by
  intro o ho
  obtain ⟨y, hy, rfl⟩ := mem_mapOrder ho
  refine ⟨y, hy, ?_⟩
  split_ifs with h
  · obtain ⟨hid, htag, horigin⟩ := hf y
    exact ⟨hid, htag, horigin, fun hne => absurd h hne⟩
  · exact ⟨rfl, rfl, rfl, fun _ => rfl⟩

theorem State.restates.trans {s t u : State} {id : Nat} (h : u.restates t id) (h' : t.restates s id) : u.restates s id := by
  intro o ho
  obtain ⟨y, hy, hid, htag, horigin, hsame⟩ := h o ho
  obtain ⟨z, hz, hid', htag', horigin', hsame'⟩ := h' y hy
  exact ⟨z, hz, hid.trans hid', htag.trans htag', horigin.trans horigin', fun hne =>
    (hsame (by rw [hid']; exact hne)).trans (hsame' hne)⟩

theorem restates_unpassed (s : State) (id : Nat) : (s.unpassed id).restates s id := fun o ho =>
  restates_mapOrder s (f := fun o => { o with pass := none }) (fun _ => ⟨rfl, rfl, rfl⟩) o
    (by rwa [State.unpassed, dispatch_evalSpent] at ho)

theorem restates_credited (s : State) (id : Nat) :
    ((s.mapOrder id fun o => o.creditedEnd .abandoned 0).unpassed id).restates s id :=
  (restates_unpassed _ id).trans (restates_mapOrder s fun _ => ⟨rfl, rfl, rfl⟩)

theorem restates_waitsAfter (s : State) (id : Nat) : (s.waitsAfter id).restates s id :=
  (restates_mapOrder ((s.mapOrder id fun o => o.creditedEnd .abandoned 0).unpassed id)
    (f := fun o => { o with state := .waiting, lapseRef := s.now }) fun _ => ⟨rfl, rfl, rfl⟩).trans (restates_credited s id)

theorem restates_endedAfter (s : State) (id : Nat) : (s.endedAfter id).restates s id :=
  (restates_mapOrder ((s.mapOrder id fun o => o.creditedEnd .abandoned 0).unpassed id)
    (f := fun o => o.ended .cancelled s.now s.events) fun _ => ⟨rfl, rfl, rfl⟩).trans (restates_credited s id)

section
variable {q : Option Nat} {s : State} {id : Nat} {o : Order} (ho : s.order? id = some o) (hplan : o.plan = none)
  (hd : o.delivered ≤ 4294967295)
include ho hplan hd

/-- A pass abandoned without a cancellation, of an order with litres outstanding: the order waits again. -/
theorem reaches_abandoned_waits (hcancel : o.cancelPending = false) (hdose : o.delivered + 50 ≤ o.dose)
    (htold : doTask q (.passTold o.tag) (s.waitsAfter id) = (s.waitsAfter id, [])) :
    Reaches q [.passEnd id .abandoned 0] s 3 (s.waitsAfter id) := by
  have hfound := order?_creditedEnd_abandoned ho hplan hd
  refine .one (passEnd_of_zero ho) (.one (passNext_of_none hfound ?_) (.single htold))
  have hout : ¬ o.dose - o.delivered < Config.trickle := by simp only [Config.trickle]; omega
  simp [State.outcomeAfter, hcancel, Order.complete, hplan, Order.outstanding, hout, PassKind.isFault]

/-- A pass abandoned at a cancellation: the order ends CANCELLED. -/
theorem reaches_abandoned_ends {s' : State} {k : Nat} (hcancel : o.cancelPending = true)
    (htold : doTask q (.passTold o.tag) (s.endedAfter id) = (s.endedAfter id, []))
    (hend : Reaches q [.orderEnded id] (s.endedAfter id) k s') : Reaches q [.passEnd id .abandoned 0] s (k + 3) s' := by
  have hfound := order?_creditedEnd_abandoned ho hplan hd
  have hout : ((s.mapOrder id fun o => o.creditedEnd .abandoned 0).unpassed id).outcomeAfter { o with
      pass := o.pass.map fun p => { p with state := .closed, delivered := 0 }, lastEnd := some .abandoned } .abandoned
      = some .cancelled := by
    simp [State.outcomeAfter, hcancel]
  exact (Reaches.one (passEnd_of_zero ho) (.one (passNext_of_some hfound hout) (.cons (.single htold) hend))).mono (by omega)

end

theorem forall_origin_of_restates {s t : State} {id : Nat} (h : t.restates s id)
    (horigin : ∀ o ∈ s.dispatch.orders, o.origin ≠ .prewet) : ∀ o ∈ t.dispatch.orders, o.origin ≠ .prewet := fun o ho => by
  obtain ⟨y, hy, -, -, hsame, -⟩ := h o ho
  rw [hsame]
  exact horigin y hy

/-! ## SUSPEND-ORDER and CANCEL-ORDER on a running pass -/

/-- An order once one of the two commands has reached it, before its pass is closed down. -/
def Order.reachedBy (o : Order) (cancel : Bool) : Order :=
  if cancel then { o with cancelPending := true } else o.withReason .host

theorem reachedBy_eq {o : Order} (ha : o.state = .active) (hp : o.cancelPending = false) (cancel : Bool) :
    o.reachedBy cancel = { o with
      cancelPending := cancel, suspension := { o.suspension with host := o.suspension.host || !cancel } } := by
  cases cancel with
  | true => simp [Order.reachedBy]
  | false =>
    simp only [Order.reachedBy, withReason_eq, ha, Suspension.add]
    simp [hp]

/-- A pass that sprays or ramps down is closed down: pass and cannon ramp down together, CLOSE sent unless it was before. -/
theorem closePass_of_running {u : State} {id : Nat} {o x : Order} {p : Pass} {c : Cannon} {n : Node}
    (hpass : o.pass = some p) (hx : u.order? id = some x) (hxp : x.pass = some p) (hc : u.cannon? p.cannon = some c)
    (hb : c.bound = some id) (hn : u.node? c.config.node = some n)
    (hstates : (p.state = .spraying ∧ c.state = .spraying) ∨ (p.state = .rampDown ∧ c.state = .rampDown)) :
    ∃ v : State, u.closePass o = (v, []) ∧ v.order? id = some { x with pass := some p.ramping }
      ∧ (∀ k, k ≠ id → v.order? k = u.order? k)
      ∧ v.cannon? p.cannon = some (if c.state = .rampDown then c else c.ramping)
      ∧ (∀ k, k ≠ p.cannon → v.cannon? k = u.cannon? k)
      ∧ v.node? c.config.node = some (if c.state = .rampDown then n else { n with slot := some .close })
      ∧ (∀ k, k ≠ c.config.node → v.node? k = u.node? k)
      ∧ v = { u with
        cannons := v.cannons, dispatch := { u.dispatch with orders := v.dispatch.orders }
        loop := { u.loop with nodes := v.loop.nodes } } := by
  rcases hstates with ⟨hps, hcs⟩ | ⟨hps, hcs⟩
  · have hne : c.state ≠ .rampDown := by rw [hcs]; decide
    refine ⟨_, (closePass_of_some hpass (by rw [hps]; decide)).trans (closeDown_of_spraying hc hcs hb), ?_, fun k hk => ?_,
      ?_, fun k hk => cannon_closing_of_ne hk, ?_,
      fun k hk => node_closing_of_ne (s := u) (n := p.cannon) (f := Cannon.ramping) hk, rfl⟩
    · refine (order?_mapOrder_self (f := fun o => o.mapPass Pass.ramping) (o := x) hx fun _ => rfl).trans ?_
      rw [Order.mapPass, hxp]
      rfl
    · exact order?_mapOrder_of_ne (s := u.closing p.cannon c.config.node Cannon.ramping)
        (f := fun o => o.mapPass Pass.ramping) (fun _ => rfl) hk
    · rw [if_neg hne]
      exact cannon_closing_self hc
    · rw [if_neg hne]
      exact node_closing_self (n := p.cannon) (f := Cannon.ramping) hn
  · have hsame : p.ramping = p := by rw [Pass.ramping, ← hps]
    refine ⟨u, (closePass_of_some hpass (by rw [hps]; decide)).trans (closeDown_of_rampDown hc hcs), ?_, fun _ _ => rfl, ?_,
      fun _ _ => rfl, ?_, fun _ _ => rfl, rfl⟩
    · rw [hsame, hx, ← hxp]
    · rw [if_pos hcs]
      exact hc
    · rw [if_pos hcs]
      exact hn

/-- Which of the two commands it is tells how it reaches the order. -/
theorem settled_reached {s : State} {id : Half} {o : Order} {cmd : Instr} (ho : s.order? id.toNat = some o)
    (ha : o.state = .active) (hp : o.cancelPending = false)
    (hcmd : cmd = .cancelOrder id ∨ (cmd = .suspendOrder id ∧ o.suspension.host = false)) {t : State}
    (ht : settled ((s.openEvent.mapOrder id.toNat fun o => o.reachedBy (decide (cmd = .cancelOrder id))).closePass o) = t) :
    exec cmd s = .next (t.answer (if cmd = .cancelOrder id then 0x43 else 0x41) .ok (if cmd = .cancelOrder id
      then be8 (t.orderCode id.toNat) ++ be32 (t.deliveredOf id.toNat) else t.suspensionReply id.toNat)) := by
  have hne : o.state ≠ .ended := by rw [ha]; decide
  rcases hcmd with rfl | ⟨rfl, hh⟩
  · rw [if_pos rfl, if_pos rfl]
    refine congrArg Host.Outcome.next (cancelOrder_of_open ho hne ?_)
    rw [cancel_of_active (s := s.openEvent) ho ha hp, ← ht]
    simp [Order.reachedBy]
  · rw [if_neg Instr.noConfusion, if_neg Instr.noConfusion]
    refine congrArg Host.Outcome.next (suspendOrder_of_taken ho hne hh ?_)
    rw [addReason_none (s := s.openEvent) (r := .host) ho hne hh, ← ht]
    simp [Order.reachedBy]

theorem id_reachedBy (o : Order) (cancel : Bool) : (o.reachedBy cancel).id = o.id := by
  unfold Order.reachedBy; split <;> rfl

/-- Settles O33: the reason, or the cancellation, is set down first; then the pass is closed down by the state of its cannon,
and the end of an abandoned one settles the order. -/
theorem runningPassesSuspendAndCancel : Obligations.RunningPassesSuspendAndCancel := by
  unfold Obligations.RunningPassesSuspendAndCancel
  refine ⟨fun id o p c n s ho ha hp hpass hc hb hn hstates q d m hq hd hm cmd hcmd => ?ramp,
    fun id o p c n h s ho ha hp hpass haim horigin hplan hdose hmax hpermits horigins hlive hc hb hcs hheader hn d hd cmd hcmd =>
      ?abandon⟩
  case ramp =>
    have hx : (s.openEvent.mapOrder id.toNat fun o => o.reachedBy (decide (cmd = .cancelOrder id))).order? id.toNat =
        some (o.reachedBy (decide (cmd = .cancelOrder id))) :=
      order?_mapOrder_self (s := s.openEvent) ho fun o => id_reachedBy o _
    have hfield := reachedBy_eq ha hp (decide (cmd = .cancelOrder id))
    obtain ⟨v, hv, hself, hother, hcannon, hcannons, hnode, hnodes, hframe⟩ := closePass_of_running hpass hx
      (by rw [hfield]; exact hpass) hc hb hn hstates
    rw [hfield] at hself
    refine ⟨_, settled_reached ho ha hp hcmd ((congrArg settled hv).trans (settled_nil v)), ?_, fun k hk => ?_, ?_, hcannons,
      ?_, hnodes, ?_, ?_, ?_⟩
    · refine hself.trans ?_
      rcases hcmd with rfl | ⟨rfl, -⟩
      · simp [hq, Pass.ramping]
      · simp [hq, Pass.ramping]
    · exact (hother k hk).trans (order?_mapOrder_of_ne (s := s.openEvent) (fun o => id_reachedBy o _) hk)
    · rw [hd]
      exact hcannon
    · rw [hm]
      exact hnode
    · rw [hframe]
      rfl
    · rintro rfl
      rw [port_answer, if_pos rfl, if_pos rfl, cancelReply_of_some hself, State.replied, hframe, ha]
      rfl
    · rintro rfl
      rw [port_answer, if_neg Instr.noConfusion, if_neg Instr.noConfusion, suspensionReply_of_some hself, State.replied, hframe, ha]
      simp
      rfl
  case abandon =>
    have hx : (s.openEvent.mapOrder id.toNat fun o => o.reachedBy (decide (cmd = .cancelOrder id))).order? id.toNat =
        some (o.reachedBy (decide (cmd = .cancelOrder id))) :=
      order?_mapOrder_self (s := s.openEvent) ho fun o => id_reachedBy o _
    rw [reachedBy_eq ha hp] at hx
    obtain ⟨f, k, hf, hdown⟩ := closeDown_of_aiming
      (s := s.openEvent.mapOrder id.toNat fun o => o.reachedBy (decide (cmd = .cancelOrder id))) hc hcs hb
      (by rw [hheader]; exact Option.some_ne_none _)
    have hclose := (closePass_of_some hpass (by rw [haim]; decide)).trans hdown
    have hvolume : o.delivered ≤ 4294967295 := by omega
    set v := (s.openEvent.mapOrder id.toNat fun o => o.reachedBy (decide (cmd = .cancelOrder id))).closingDue p.cannon
      c.config.node f k with hv
    have hprewet : ∀ o ∈ v.dispatch.orders, o.origin ≠ .prewet := fun y hy => by
      obtain ⟨z, hz, rfl⟩ := List.mem_map.1 hy
      have := horigins z hz
      split_ifs
      · simp only [Order.reachedBy]
        split_ifs <;> simp [this, Order.withReason]
      · rw [this]; decide
    have hcannon : v.cannon? p.cannon = some d := by
      refine (cannon_closing_self (a := c.config.node) (f := f) hc).trans ?_
      rw [hf, Cannon.abandoned]
      rcases hd with ⟨hphase, rfl⟩ | ⟨hphase, rfl⟩
      · rw [if_neg (by rw [hphase]; decide)]
        rfl
      · rw [if_pos hphase]
        rfl
    have hcannons : ∀ k, k ≠ p.cannon → v.cannon? k = s.cannon? k := fun k hk =>
      cannon_closing_of_ne (s := s.openEvent) (a := c.config.node) (f := f) hk
    have hnode : v.node? c.config.node = some { n with slot := some .close } :=
      node_closing_self (s := s.openEvent) (n := p.cannon) (f := f) hn
    have horders : ∀ k, k ≠ id.toNat → v.order? k = s.order? k := fun k hk =>
      order?_mapOrder_of_ne (s := s.openEvent) (fun o => id_reachedBy o _) hk
    rcases hcmd with rfl | ⟨rfl, hh⟩
    · have hfound : v.order? id.toNat = some { o with cancelPending := true } := by
        refine Eq.trans (b := _) hx ?_
        simp
      have hends : Reaches none [.orderEnded id.toNat] (v.endedAfter id.toNat) 3 (v.cancelledAfter id.toNat) := by
        have hlast := order?_mapOrder_self (f := fun o => o.ended .cancelled v.now v.events)
          (order?_unpassed (order?_creditedEnd_abandoned hfound hplan hvolume)) fun _ => rfl
        refine reaches_orderEnded hlast (fun h => absurd (horigin.symm.trans h) (by decide)) ?_
        refine checkFree_of_live ?_ _
        exact piles_cancelledAfter v id.toNat ▸ hlive
      have htold : doTask none (.passTold o.tag) (v.endedAfter id.toNat) = (v.endedAfter id.toNat, []) :=
        passTold_quiet _ none _ ((congrArg Permits.list (permits_cancelledAfter v id.toNat)).trans hpermits)
          (forall_origin_of_restates (restates_endedAfter v id.toNat) hprewet)
      have hrun := reaches_abandoned_ends (q := none) hfound hplan hvolume rfl htold hends
      have hfinal := order?_cancelledAfter hfound hplan hvolume
      refine ⟨_, settled_reached ho ha hp (.inl rfl) ((congrArg settled hclose).trans (hrun.settled_eq (by omega))), ?_,
        fun k hk => ?_, ?_, ?_, fun k hk => ?_, fun h => Instr.noConfusion h, fun _ => ⟨?_, ?_, ?_⟩⟩
      · rw [cannon?_answer, cannon?_cancelledAfter, hcannon]
      · rw [cannon?_answer, cannon?_cancelledAfter, hcannons k hk]
      · rw [node?_answer, node?_cancelledAfter, hnode]
      · rw [State.answer_piles, piles_cancelledAfter]
        rfl
      · rw [order?_answer, order?_cancelledAfter_of_ne hk, horders k hk]
      · rw [order?_answer, hfinal]
        rfl
      · rw [State.answer_notices, orderSet_cancelledAfter]
        rfl
      · rw [port_answer, if_pos rfl, if_pos rfl, cancelReply_of_some hfinal, State.replied, port_cancelledAfter]
        rfl
    · have hfound : v.order? id.toNat = some { o with suspension := { o.suspension with host := true } } := by
        refine Eq.trans (b := _) hx ?_
        simp [hp]
      have htold : doTask none (.passTold o.tag) (v.waitsAfter id.toNat) = (v.waitsAfter id.toNat, []) :=
        passTold_quiet _ none _ ((congrArg Permits.list (permits_waitsAfter v id.toNat)).trans hpermits)
          (forall_origin_of_restates (restates_waitsAfter v id.toNat) hprewet)
      have hrun := reaches_abandoned_waits (q := none) hfound hplan hvolume hp hdose htold
      have hfinal := order?_waitsAfter hfound hplan hvolume
      refine ⟨_, settled_reached ho ha hp (.inr ⟨rfl, hh⟩) ((congrArg settled hclose).trans (hrun.settled_eq (by omega))), ?_,
        fun k hk => ?_, ?_, ?_, fun k hk => ?_, fun _ => ⟨?_, ?_⟩, fun h => Instr.noConfusion h⟩
      · rw [cannon?_answer, cannon?_waitsAfter, hcannon]
      · rw [cannon?_answer, cannon?_waitsAfter, hcannons k hk]
      · rw [node?_answer, node?_waitsAfter, hnode]
      · rw [State.answer_piles, piles_waitsAfter]
        rfl
      · rw [order?_answer, order?_waitsAfter_of_ne hk, horders k hk]
      · rw [order?_answer, hfinal]
        rfl
      · rw [port_answer, if_neg Instr.noConfusion, if_neg Instr.noConfusion, suspensionReply_of_some hfinal,
          State.replied, port_waitsAfter]
        rfl

end Sys2Proof.Machine
end

section
set_option Elab.async false
/-! PROOFS. REQUEST-PERMIT (R145, R146): a PREWET order with nothing to deliver ends within the command. -/

namespace Sys2Proof.Machine

/-- A grade whose working moisture is above what the pile has. -/
def dryGrade : Grade := ⟨10, 20, 800, 900, 1200, 100, 8, 30⟩

/-- A LIVE pile below its working moisture. -/
def dryPile : Pile :=
  ⟨7, .live, 2, 100, ⟨128, 128, 128, 128, 128, 128, 128, 128⟩, 700, 0, 500, 0, 0, 0, .calm, false, false, false, false, none⟩

/-- A host order that ended long ago. -/
def pastOrder (id : Nat) : Order :=
  ⟨id, 7, .host, 0, 100, 100, .reuseOnly, none, none, .ended, Suspension.none, false, false, false, 0, 0, 1, none, none,
    some .done, some 0, 0⟩

/-- A yard with a dry pile, forty ended orders, and an order max dose of 0. -/
def doselessYard : State :=
  { State.reset with
    grades := [(2, dryGrade)], piles := [(3, dryPile)]
    dispatch := { State.reset.dispatch with
      orders := (List.range 40).map fun i => pastOrder (i + 1), nextId := 2, maxDose := 0 } }

/-- The PREWET order placed for the request has nothing to deliver: it ends at once, and an id joins the ORDER change set. -/
theorem orders_requestPermit_doselessYard : (doselessYard.requestPermit 1 0 7).notices.orders = [35] := by decide

/-- Refutes O46: the frame of a request on a dry pile leaves the notices as they were, whatever the order max dose; under one of
0 the PREWET order placed is complete at its acceptance, ends DONE within the command and hands its id to the ORDER change
set. -/
theorem not_requestPermitGrantsOrPrewets : ¬ Obligations.RequestPermitGrantsOrPrewets := by
  unfold Obligations.RequestPermitGrantsOrPrewets
  intro h
  obtain ⟨-, htaken⟩ := h 1 0 7 .stacker doselessYard
  obtain ⟨-, hpile⟩ := htaken (by decide) (by decide) (by decide) (by decide)
  obtain ⟨-, hlive⟩ := hpile 3 dryPile False (by decide) (by decide)
  obtain ⟨-, hfree⟩ := hlive rfl rfl
  obtain ⟨-, -, haccepted, -⟩ := hfree (by decide)
  obtain ⟨t, x, hexec, -, -, -, -, -, -, hdry⟩ :=
    haccepted not_false (by decide) (by decide) (by decide) dryGrade (by decide)
  obtain ⟨-, hframe, -⟩ := hdry (by decide)
  have ht : doselessYard.requestPermit 1 0 7 = t := Host.Outcome.next.inj hexec
  have hnotices : t.notices.orders = doselessYard.notices.orders :=
    (congrArg (fun u : State => u.notices.orders) hframe :)
  rw [← ht, orders_requestPermit_doselessYard] at hnotices
  exact absurd hnotices (by decide)

end Sys2Proof.Machine
end

section
set_option Elab.async false
/-! PROOFS. The events that move a round on (R160 to R163, R167). -/

namespace Sys2Proof.Machine

theorem nodes_startRound (l : Loop) (a : Nat) : Table.get l.startRound.nodes a = (Table.get l.nodes a).map Node.counted :=
  Table.get_map l.nodes Node.counted a

theorem counted_of_answering {n : Node} (h : n.lost = false) : n.counted = n := by
  rw [Node.counted, if_neg (by rw [h]; decide)]

theorem counted_of_lost {n : Node} {k : Nat} (h : n.lost = true) (hk : n.countdown = some (k + 1)) :
    n.counted = { n with countdown := some (if k = 0 then 8 else k) } := by
  rw [Node.counted, if_pos h, Node.due, h, hk]
  cases k with
  | zero => rfl
  | succ k => rfl

/-- The nodes a round serves where no call winner stands. -/
theorem todo_of_no_winner {l : Loop} (h : l.winner = none) : l.todo = (l.nodes.filter fun e =>
    !e.2.lost || decide (e.2.countdown.getD 0 ≤ 1)).map fun e => e.1 := by
  rw [Loop.todo, h]
  refine congrArg (List.map Prod.fst) (List.filter_congr fun e _ => ?_)
  cases hl : e.2.lost <;> simp [Node.due, hl]

/-- The nodes a round serves after the call winner. -/
theorem todo_of_winner {l : Loop} {w : Nat} (h : l.winner = some w) : l.todo = w :: (l.nodes.filter fun e =>
    e.1 != w && (!e.2.lost || decide (e.2.countdown.getD 0 ≤ 1))).map fun e => e.1 := by
  rw [Loop.todo, h]
  refine congrArg (fun m => w :: List.map Prod.fst m) (List.filter_congr fun e _ => ?_)
  cases hl : e.2.lost <;> simp [Node.due, hl, bne]

/-- The bytes of a message without those that close its frame. -/
def messageBody (a : Nat) : Sent → List Byte
  | .poll => be8 a ++ [0x01, 0]
  | .probe => be8 a ++ [0x02, 0]
  | .command c => be8 a ++ be8 c.type ++ be8 c.payload.length ++ c.payload

theorem bytes_eq_closeFrame (a : Nat) (m : Sent) : Sent.bytes a m = closeFrame (messageBody a m) := by
  cases m with
  | poll => rfl
  | probe => rfl
  | command c => rfl

theorem sendMessage_of_next {s : State} {a : Nat} {rest : List Nat} {n : Node} (h : s.loop.phase = .between (a :: rest))
    (hn : s.node? a = some n) : s.sendMessage = { s with loop := { s.loop with
      phase := .exchange a n.message rest, line := closeFrame (messageBody a n.message) } } := by
  simp only [State.sendMessage, h, hn, bytes_eq_closeFrame]

theorem sendMessage_of_other {s : State} (h : ∀ a rest, s.loop.phase ≠ .between (a :: rest)) : s.sendMessage = s := by
  cases hp : s.loop.phase with
  | between todo =>
    cases todo with
    | nil => simp only [State.sendMessage, hp]
    | cons a rest => exact absurd hp (h a rest)
  | _ => simp only [State.sendMessage, hp]

theorem sendCall_of_other {s : State} (h : s.loop.phase ≠ .between []) : s.sendCall = s := by
  cases hp : s.loop.phase with
  | between todo =>
    cases todo with
    | nil => exact absurd hp h
    | cons a rest => simp only [State.sendCall, hp]
  | _ => simp only [State.sendCall, hp]

theorem endCallSilent_of_other {s : State} (h : s.loop.phase ≠ .calling) : s.endCallSilent = s := by
  cases hp : s.loop.phase with
  | calling => exact absurd hp h
  | _ => simp only [State.endCallSilent, hp]

theorem endCallSilent_of_calling {s : State} (h : s.loop.phase = .calling) : s.endCallSilent = s.endRound := by
  simp only [State.endCallSilent, h]

theorem timerStart_of_other {s : State} (h : s.loop.running = false ∨ s.loop.phase ≠ .noRound) : s.timerStart = s := by
  rw [State.timerStart, if_neg]
  rintro ⟨hr, hp⟩
  exact h.elim (fun hf => by rw [hf] at hr; exact absurd hr (by decide)) fun hne => hne hp

theorem timerOverrun_of_round {s : State} {p : Nat} (ht : s.loop.timer = .running p) (hr : s.loop.running = true)
    (hp : s.loop.phase ≠ .noRound) : s.timerOverrun = { s with loop := { s.loop with
      overruns := satAdd16 s.loop.overruns 1, timer := .expired } } := by
  simp only [State.timerOverrun, ht, if_pos (And.intro hr hp)]

theorem timerOverrun_of_other {s : State} (h : s.loop.phase = .noRound ∨ s.loop.running = false ∨ s.loop.timer = .expired
    ∨ s.loop.timer = .stopped) : s.timerOverrun = s := by
  cases ht : s.loop.timer with
  | running p =>
    have : ¬ (s.loop.running = true ∧ s.loop.phase ≠ .noRound) := by
      rintro ⟨hr, hp⟩
      rw [ht, hr] at h
      simp [hp] at h
    simp only [State.timerOverrun, ht, if_neg this]
  | expired => simp only [State.timerOverrun, ht]
  | stopped => simp only [State.timerOverrun, ht]

theorem endRound_of_running {s : State} {p : Nat} (ht : s.loop.timer = .running p) :
    s.endRound = { s with loop := { s.loop with phase := .noRound } } := by
  simp only [State.endRound, Loop.endRound, ht]

theorem endRound_of_expired {s : State} (ht : s.loop.timer = .expired) : s.endRound = { s with loop := s.loop.startRound } := by
  simp only [State.endRound, Loop.endRound, ht]

/-- Settles O50: the events one by one, each by the phase it finds. -/
theorem roundsMoveOn : Obligations.RoundsMoveOn := by
  unfold Obligations.RoundsMoveOn
  intro s
  refine ⟨fun hr hp => ?start, fun h => congrArg Host.Outcome.next (timerStart_of_other h),
    fun p ht hr hp => congrArg Host.Outcome.next ((timerOverrun_of_round ht hr hp).trans ?overrun),
    fun h => congrArg Host.Outcome.next (timerOverrun_of_other h), fun a rest n hp hn => ?message,
    fun h => congrArg Host.Outcome.next (sendMessage_of_other h),
    fun hp => congrArg Host.Outcome.next ?call, fun h => congrArg Host.Outcome.next (sendCall_of_other h),
    fun p hp ht => congrArg Host.Outcome.next ((endCallSilent_of_calling hp).trans (endRound_of_running ht)),
    fun hp ht hr => congrArg Host.Outcome.next ((endCallSilent_of_calling hp).trans ?next),
    fun h => congrArg Host.Outcome.next (endCallSilent_of_other h)⟩
  case start =>
    refine ⟨{ s with loop := s.loop.startRound }, s.loop.todo, congrArg Host.Outcome.next (timerStart_of_noRound hr hp), rfl,
      todo_of_no_winner, fun w => todo_of_winner, fun a ha => ?_, fun a n hn => ⟨fun hl => ?_, fun k hl hk => ?_⟩⟩
    · exact (nodes_startRound s.loop a).trans (by rw [show Table.get s.loop.nodes a = none from ha]; rfl)
    · exact (nodes_startRound s.loop a).trans (by
        rw [show Table.get s.loop.nodes a = some n from hn, Option.map_some, counted_of_answering hl])
    · exact (nodes_startRound s.loop a).trans (by
        rw [show Table.get s.loop.nodes a = some n from hn, Option.map_some, counted_of_lost hl hk])
  case overrun => rfl
  case message =>
    refine ⟨n.message, messageBody a n.message, congrArg Host.Outcome.next (sendMessage_of_next hp hn), fun hl => ?_,
      fun hl hs => ?_, fun c hl hs => ?_⟩
    · have : n.message = .probe := by simp [Node.message, hl]
      rw [this]
      exact ⟨rfl, rfl⟩
    · have : n.message = .poll := by simp [Node.message, hl, hs]
      rw [this]
      exact ⟨rfl, rfl⟩
    · have : n.message = .command c := by simp [Node.message, hl, hs]
      rw [this]
      refine ⟨rfl, ?_⟩
      cases c with
      | aim start stop rate => rfl
      | openValve h =>
        cases h with
        | reuse => rfl
        | fresh => rfl
      | close => rfl
      | run => rfl
      | stop => rfl
  case call =>
    simp only [State.sendCall, hp]
    rfl
  case next =>
    rw [endRound_of_expired ht]
    exact (timerStart_of_noRound (s := { s with loop := { s.loop with phase := .noRound } }) hr rfl).symm

end Sys2Proof.Machine
end

section
set_option Elab.async false
/-! PROOFS. Exchanges: misses, replies of a cannon without a pass (R104, R164, R165). -/

namespace Sys2Proof.Machine

/-! ## Node entries -/

theorem declared_eq {n : Node} {m : Nat} {c : Option LoopCommand} (hm : m = min 65535 (n.totalMisses + 1))
    (hc : n.slot.filter LoopCommand.stopping = c) : n.declared = { n with
      totalMisses := m, misses := 0, lost := true, countdown := some 8, slot := c } := by
  rw [Node.declared, hm, hc]
  rfl

theorem thirdMiss_of_lost {n : Node} (h : n.lost = true) : n.thirdMiss = false := by
  simp [Node.thirdMiss, h]

theorem thirdMiss_of_few {n : Node} (h : n.misses < 2) : n.thirdMiss = false := by
  have : ¬ Config.lostMisses ≤ n.misses + 1 := by
    simp only [Config.lostMisses]
    omega
  simp [Node.thirdMiss, this]

theorem thirdMiss_of_two {n : Node} (hl : n.lost = false) (h : n.misses = 2) : n.thirdMiss = true := by
  simp [Node.thirdMiss, hl, h, Config.lostMisses]

theorem missed_of_lost {n : Node} (h : n.lost = true) : n.missed = { n with totalMisses := min 65535 (n.totalMisses + 1) } := by
  rw [Node.missed, if_pos h]
  rfl

theorem missed_of_answering {n : Node} (h : n.lost = false) : n.missed = { n with
    totalMisses := min 65535 (n.totalMisses + 1), misses := n.misses + 1 } := by
  rw [Node.missed, if_neg (by rw [h]; decide)]
  rfl

theorem node_mapNode_self {s : State} {a : Nat} {n : Node} {f : Node → Node} (h : s.node? a = some n) :
    (s.mapNode a f).node? a = some (f n) := by
  rw [node_mapNode, if_pos rfl, h]
  rfl

theorem node_mapNode_of_ne {s : State} {a k : Nat} {f : Node → Node} (h : k ≠ a) : (s.mapNode a f).node? k = s.node? k := by
  rw [node_mapNode, if_neg h]

/-! ## The end of an exchange -/

theorem endSilent_of_exchange {s : State} {a : Nat} {sent : Sent} {rest : List Nat} {n : Node}
    (hp : s.loop.phase = .exchange a sent rest) (hn : s.node? a = some n) :
    s.endSilent = (s.withPhase (.between rest)).takeMiss a n := by
  simp only [State.endSilent, hp, hn]

theorem endExchange_of_none {s : State} {a : Nat} {sent : Sent} {rest : List Nat} {n : Node} {bytes : List Byte}
    (hp : s.loop.phase = .exchange a sent rest) (hn : s.node? a = some n) (h : parseReply a n.owner.kind bytes = none) :
    s.endExchange bytes = (s.withPhase (.between rest)).takeMiss a n := by
  simp only [State.endExchange, hp, hn, h]

theorem endExchange_of_some {s : State} {a : Nat} {sent : Sent} {rest : List Nat} {n : Node} {bytes : List Byte}
    {r : NodeReply} (hp : s.loop.phase = .exchange a sent rest) (hn : s.node? a = some n)
    (h : parseReply a n.owner.kind bytes = some r) :
    s.endExchange bytes = (s.withPhase (.between rest)).takeReply a n sent r := by
  simp only [State.endExchange, hp, hn, h]

theorem takeMiss_of_few {s : State} {a : Nat} {n : Node} (h : n.thirdMiss = false) : s.takeMiss a n = s.mapNode a Node.missed := by
  rw [State.takeMiss, if_neg (by rw [h]; decide)]

theorem takeMiss_of_third {s : State} {a : Nat} {n : Node} (h : n.thirdMiss = true) :
    s.takeMiss a n = settled ((s.mapNode a Node.declared).ownerLost n.owner) := by
  rw [State.takeMiss, if_pos h]

theorem cannon_mapCannon_self {s : State} {n : Nat} {c : Cannon} {f : Cannon → Cannon} (hc : s.cannon? n = some c) :
    (s.mapCannon n f).cannon? n = some (f c) := by
  rw [cannon_mapCannon, if_pos rfl, hc]
  rfl

theorem cannon_mapCannon_of_ne {s : State} {n k : Nat} {f : Cannon → Cannon} (h : k ≠ n) :
    (s.mapCannon n f).cannon? k = s.cannon? k := by
  rw [cannon_mapCannon, if_neg h]

theorem releaseHeader_of_none {s : State} {n : Nat} {c : Cannon} (hc : s.cannon? n = some c) (hh : c.header = none) :
    s.releaseHeader n = s := by
  simp [State.releaseHeader, hc, hh]

theorem releaseHeader_of_some {s : State} {n : Nat} {c : Cannon} (hc : s.cannon? n = some c) (hh : c.header ≠ none) :
    s.releaseHeader n = (s.mapCannon n fun c => { c with header := none }).occasion := by
  simp only [State.releaseHeader, hc, if_pos (Option.isSome_iff_ne_none.2 hh)]

theorem quiet_of_idle {d : Cannon} (hb : d.bound = none) (hw : d.closeWait = none) :
    { d.quiet with state := CannonState.lost } = { d with
      state := .lost, slew := none, blankingOn := false, aimWaiting := false, retry := none, aimPhase := none } := by
  cases d
  simp_all [Cannon.quiet, Cannon.unbound]

/-- A cannon on which nothing runs is declared LOST: it ends no pass and tells no pile. -/
theorem cannonLost_of_idle {s : State} {k : Nat} {d : Cannon} (hd : s.cannon? k = some d) (hs : d.state = .idle)
    (hb : d.bound = none) (hw : d.closeWait = none) (hh : d.header = none) : s.cannonLost k =
      ((s.mapCannon k fun c => { c.quiet with state := .lost }).hand .cannon k, []) := by
  have hrelease : (s.mapCannon k fun c => { c.quiet with state := .lost }).releaseHeader k
      = s.mapCannon k fun c => { c.quiet with state := .lost } :=
    releaseHeader_of_none (cannon_mapCannon_self (f := fun c => { c.quiet with state := .lost }) hd) hh
  simp only [State.cannonLost, hd, hs, hrelease, cannon_idle_tasks d .lost _ hb hw]

theorem cannonLost_skeleton (s : State) (k : Nat) : (s.cannonLost k).1.skeleton = s.skeleton := by
  unfold State.cannonLost
  split
  · rfl
  · split <;> simp [Cannon.quiet]

theorem transferLost_skeleton (s : State) : s.transferLost.skeleton = s.skeleton := by
  unfold State.transferLost
  split <;> simp

/-- The round moves on past the miss, whatever the owner does. -/
theorem phase_takeMiss (s : State) (a : Nat) (n : Node) : (s.takeMiss a n).loop.phase = s.loop.phase := by
  cases h : n.thirdMiss with
  | false => rw [takeMiss_of_few h]; rfl
  | true =>
    rw [takeMiss_of_third h]
    refine (skeleton_phase (settled_skeleton _)).trans ?_
    cases n.owner with
    | cannon k => exact (skeleton_phase (cannonLost_skeleton _ k)).trans rfl
    | pond => exact (skeleton_phase (transferLost_skeleton _)).trans rfl
    | mast k => rfl
    | tank => rfl

/-! ## The reply of a cannon without a pass (R104) -/

/-- The cannon after a reply that falls to no pass. -/
def Cannon.heardFrom (c : Cannon) (r : NodeReport) (meter litres : Nat) : Cannon :=
  { c with report := some r, meterLast := some meter, stray := satAdd32 c.stray litres }

theorem meterReply_of_unbound {s : State} {k : Nat} {d : Cannon} (hb : d.bound = none) (hh : d.header = none) (r : NodeReport)
    (hs : d.state ≠ .aiming) (meter : Nat) : s.meterReply k d r meter =
      s.mapCannon k fun c => c.heardFrom r meter (meterDelta d.meterLast meter) := by
  have hopens : d.opens r = false := by simp [Cannon.opens, hs]
  have hbound : ∀ t : State, t.boundPass? d = none := fun t => by simp [State.boundPass?, hb]
  simp only [State.meterReply, hopens, State.routeDelta, hbound, hh, mapCannon_mapCannon]
  rfl

theorem actOnOverload_of_off {s : State} {k : Nat} {d : Cannon} (hd : s.cannon? k = some d) (h1 : d.state ≠ .aiming)
    (h2 : d.state ≠ .spraying) (r : NodeReport) : s.actOnOverload k r = (s, []) := by
  simp [State.actOnOverload, hd, h1, h2]

theorem takeCannonReply_of_acted {s u : State} {k : Nat} {d e : Cannon} {r : NodeReport} {meter : Nat}
    (hd : s.cannon? k = some d) (hact : (s.meterReply k d r meter).actOnReport k r (d.opens r) = (u, []))
    (he : u.cannon? k = some e) (h1 : e.state ≠ .aiming) (h2 : e.state ≠ .spraying) :
    s.takeCannonReply k r meter = (u, []) := by
  simp only [State.takeCannonReply, hd, hact, actOnOverload_of_off he h1 h2 r]
  rfl

section
variable {s : State} {k : Nat} {d : Cannon} (hd : s.cannon? k = some d) (hb : d.bound = none) (hh : d.header = none)
  (r : NodeReport) (meter : Nat)
include hd hb hh

theorem cannon_meterReply (hs : d.state ≠ .aiming) : (s.meterReply k d r meter).cannon? k =
    some (d.heardFrom r meter (meterDelta d.meterLast meter)) := by
  rw [meterReply_of_unbound hb hh r hs, cannon_mapCannon, if_pos rfl, hd]
  rfl

/-- An idle cannon's reply: the report, the meter, and the litres as stray ones. -/
theorem takeCannonReply_of_idle (hs : d.state = .idle) : s.takeCannonReply k r meter =
    (s.mapCannon k fun c => c.heardFrom r meter (meterDelta d.meterLast meter), []) := by
  have hne : d.state ≠ .aiming := by rw [hs]; decide
  have hself := cannon_meterReply hd hb hh r meter hne
  have hstate : (d.heardFrom r meter (meterDelta d.meterLast meter)).state = .idle := hs
  rw [← meterReply_of_unbound hb hh r hne]
  refine takeCannonReply_of_acted hd ?_ hself (by rw [hstate]; decide) (by rw [hstate]; decide)
  simp only [State.actOnReport, hself, hstate]

/-- A lost cannon's reply: RESETTING, CLOSE sent, and its number handed over. -/
theorem takeCannonReply_of_lost (hs : d.state = .lost) : s.takeCannonReply k r meter =
    (((s.mapCannon k fun c => c.heardFrom r meter (meterDelta d.meterLast meter)).closing k d.config.node fun c =>
      { c with state := .resetting }).hand .cannon k, []) := by
  have hne : d.state ≠ .aiming := by rw [hs]; decide
  have hself := cannon_meterReply hd hb hh r meter hne
  have hstate : (d.heardFrom r meter (meterDelta d.meterLast meter)).state = .lost := hs
  have hafter := cannon_closing_self (a := d.config.node) (f := fun c => { c with state := .resetting }) hself
  rw [← meterReply_of_unbound hb hh r hne]
  refine takeCannonReply_of_acted hd ?_ hafter CannonState.noConfusion CannonState.noConfusion
  simp only [State.actOnReport, hself, hstate, placeClose_of_some hself]
  rfl

/-- The CLOSED report that completes a reset: trip count 0 and IDLE, which occasions an arbitration. -/
theorem takeCannonReply_of_reset (hs : d.state = .resetting) (hv : r.valve = .closed) (hslot : s.slot? d.config.node = none) :
    s.takeCannonReply k r meter = (((s.mapCannon k fun c => c.heardFrom r meter (meterDelta d.meterLast meter)).mapCannon k
      fun c => { c with tripCount := 0, state := .idle, aimPhase := none }).occasion, []) := by
  have hne : d.state ≠ .aiming := by rw [hs]; decide
  have hself := cannon_meterReply hd hb hh r meter hne
  have hstate : (d.heardFrom r meter (meterDelta d.meterLast meter)).state = .resetting := hs
  rw [← meterReply_of_unbound hb hh r hne]
  set u := s.meterReply k d r meter with hu
  have hempty : u.slot? d.config.node = none := by
    rw [hu, meterReply_of_unbound hb hh r hne]
    exact hslot
  have hzero : (u.mapCannon k fun c => { c with tripCount := 0 }).releaseHeader k
      = u.mapCannon k fun c => { c with tripCount := 0 } :=
    releaseHeader_of_none (cannon_mapCannon_self (f := fun c => { c with tripCount := 0 }) hself) hh
  have hcomplete : u.resetComplete k = (u.mapCannon k fun c =>
      { c with tripCount := 0, state := .idle, aimPhase := none }).occasion := by
    rw [State.resetComplete, hzero, State.toIdle, mapCannon_mapCannon]
  have hafter : (u.mapCannon k fun c => { c with tripCount := 0, state := .idle, aimPhase := none }).occasion.cannon? k =
      some { d.heardFrom r meter (meterDelta d.meterLast meter) with tripCount := 0, state := .idle, aimPhase := none } :=
    cannon_mapCannon_self (f := fun c => { c with tripCount := 0, state := .idle, aimPhase := none }) hself
  refine takeCannonReply_of_acted hd ?_ hafter CannonState.noConfusion CannonState.noConfusion
  have hcond : r.valve = .closed ∧ (u.slot? (d.heardFrom r meter (meterDelta d.meterLast meter)).config.node).isNone = true :=
    ⟨hv, Option.isNone_iff_eq_none.2 hempty⟩
  simp only [← hu, State.actOnReport, hself, hstate, if_pos hcond, hcomplete]

end

/-! ## The slot after a reply (R164, step 3) -/

theorem cannonSlotEmptied_of_not_waiting {s : State} {k : Nat} {d : Cannon} (hd : s.cannon? k = some d)
    (hw : d.aimWaiting = false) : s.cannonSlotEmptied k = s := by
  simp [State.cannonSlotEmptied, hd, hw]

/-- The entry of a cannon's node after a valid reply, where no AIM waits for its slot: answered, and the slot emptied when it
still held the command the exchange carried. -/
theorem emptySlot_of_still {s : State} {a k : Nat} {sent : Sent} {n m : Node} {d : Cannon} (hn : s.node? a = some n)
    (hd : s.cannon? k = some d) (hw : d.aimWaiting = false)
    (hsent : (∃ c, sent = .command c ∧ n.slot = some c) → m = { n with misses := 0, lost := false, countdown := none, slot := none })
    (hkept : (∀ c, sent = .command c → n.slot ≠ some c) → m = { n with misses := 0, lost := false, countdown := none }) :
    ∃ nodes, (s.mapNode a Node.answered).emptySlot a (.cannon k) sent = { s with loop := { s.loop with nodes := nodes } }
      ∧ Table.get nodes a = some m := by
  have hself : (s.mapNode a Node.answered).node? a = some n.answered := node_mapNode_self hn
  have hslot : (s.mapNode a Node.answered).slot? a = n.slot := by
    rw [State.slot?, hself]
    rfl
  have hstands : (∀ c, sent = .command c → n.slot ≠ some c) → (s.mapNode a Node.answered).emptySlot a (.cannon k) sent
      = s.mapNode a Node.answered := fun h => by
    cases sent with
    | poll => rfl
    | probe => rfl
    | command c => simp only [State.emptySlot, hslot, if_neg (h c rfl)]
  by_cases h : ∃ c, sent = .command c ∧ n.slot = some c
  · obtain ⟨c, rfl, hc⟩ := h
    have hempty : (s.mapNode a Node.answered).emptySlot a (.cannon k) (.command c)
        = (s.mapNode a Node.answered).mapNode a fun n => { n with slot := none } := by
      simp only [State.emptySlot, hslot, if_pos hc]
      exact cannonSlotEmptied_of_not_waiting hd hw
    refine ⟨_, hempty, ?_⟩
    rw [hsent ⟨c, rfl, hc⟩]
    exact node_mapNode_self (f := fun n => { n with slot := none }) hself
  · have h : ∀ c, sent = .command c → n.slot ≠ some c := fun c h1 h2 => h ⟨c, h1, h2⟩
    refine ⟨_, hstands h, ?_⟩
    rw [hkept h]
    exact hself

/-- A built reply of a cannon's node is taken as what it reports. -/
theorem parseReply_cannon {a k : Nat} {n : Node} (ha : a ≤ 31) (hn : n.owner = .cannon k) (r : NodeReport) (meter : Half) :
    parseReply a n.owner.kind ((NodeReply.cannon r meter.toNat).bytes a) = some (.cannon r meter.toNat) := by
  rw [hn, parseReply_bytes _ _ (by omega), if_pos ⟨rfl, rfl⟩]
  exact replyPayload_cannon r meter.isLt

/-- Settles O51: a miss by the entry it finds, and a reply by the state of the cannon that sent it. -/
theorem exchangesEndInMissOrReply : Obligations.ExchangesEndInMissOrReply := by
  unfold Obligations.ExchangesEndInMissOrReply
  refine ⟨fun a sent rest n s hp hn => ⟨fun bytes hbytes => ?fails, ?miss⟩,
    fun a k sent rest n m d r meter s hsent hkept ha hp hn howner hd hnode hb hh hw => ?reply⟩
  case fails =>
    exact congrArg Host.Outcome.next ((endExchange_of_none (s := s.openEvent) hp hn hbytes).trans
      (endSilent_of_exchange (s := s.openEvent) hp hn).symm)
  case miss =>
    set u := s.openEvent.withPhase (.between rest) with hu
    have hmiss : exec .miss s = .next (u.takeMiss a n) :=
      congrArg Host.Outcome.next (endSilent_of_exchange (s := s.openEvent) hp hn)
    have hun : u.node? a = some n := hn
    have hslot : ∀ c, c = (match n.slot with
        | some .close => some .close | some .stop => some LoopCommand.stop | _ => none) →
        n.slot.filter LoopCommand.stopping = c := fun c hc => by
      rw [hc]
      cases n.slot with
      | none => rfl
      | some x => cases x <;> rfl
    refine ⟨_, hmiss, phase_takeMiss u a n, fun i hi htank => ?_, fun m hm => ⟨fun hl => ?_, fun hl hfew => ?_, fun h => ?_,
      fun hl htwo c hc => ⟨fun howner => ?_, fun k d howner hd hs hb hw hh => ?_⟩⟩⟩
    · cases hthird : n.thirdMiss with
      | false =>
        rw [takeMiss_of_few hthird]
        exact node_mapNode_of_ne hi
      | true =>
        rw [takeMiss_of_third hthird, htank]
        exact (congrArg (State.node? · i) (settled_nil (u.mapNode a Node.declared))).trans (node_mapNode_of_ne hi)
    · rw [takeMiss_of_few (thirdMiss_of_lost hl), node_mapNode_self hun, missed_of_lost hl, hm]
    · rw [takeMiss_of_few (thirdMiss_of_few hfew), node_mapNode_self hun, missed_of_answering hl, hm]
    · rw [takeMiss_of_few (h.elim thirdMiss_of_lost thirdMiss_of_few)]
      rfl
    · have hdeclared := declared_eq hm (hslot c hc)
      have hquiet : u.takeMiss a n = u.mapNode a Node.declared := by
        rw [takeMiss_of_third (thirdMiss_of_two hl htwo)]
        rcases howner with ⟨k, hk⟩ | hk
        · rw [hk]
          exact settled_nil _
        · rw [hk]
          exact settled_nil _
      rw [hquiet]
      refine ⟨?_, rfl⟩
      rw [node_mapNode_self hun, hdeclared]
    · have hdeclared := declared_eq hm (hslot c hc)
      have hlost : u.takeMiss a n = ((u.mapNode a Node.declared).mapCannon k fun c =>
          { c.quiet with state := .lost }).hand .cannon k := by
        rw [takeMiss_of_third (thirdMiss_of_two hl htwo), howner]
        exact (congrArg settled (cannonLost_of_idle (s := u.mapNode a Node.declared) hd hs hb hw hh)).trans (settled_nil _)
      rw [hlost]
      refine ⟨?_, ?_, fun i hi => cannon_mapCannon_of_ne (s := u.mapNode a Node.declared)
        (f := fun c => { c.quiet with state := .lost }) hi, rfl, rfl, rfl, rfl, rfl⟩
      · exact (node_mapNode_self hun).trans (by rw [hdeclared])
      · refine (cannon_mapCannon_self (s := u.mapNode a Node.declared) (f := fun c => { c.quiet with state := .lost }) hd).trans
          (congrArg some (quiet_of_idle hb hw))
  case reply =>
    obtain ⟨nodes, hv, hm⟩ := emptySlot_of_still (s := s.openEvent.withPhase (.between rest)) hn hd hw hsent hkept
    set v : State := { s.openEvent.withPhase (.between rest) with
      loop := { (s.openEvent.withPhase (.between rest)).loop with nodes := nodes } }
    have hvd : v.cannon? k = some d := hd
    have hvm : v.node? a = some m := hm
    have hexec : exec (.validReply ((NodeReply.cannon r meter.toNat).bytes a)) s =
        .next (settled (v.takeCannonReply k r meter.toNat)) := by
      refine congrArg Host.Outcome.next ((endExchange_of_some (s := s.openEvent) hp hn
        (parseReply_cannon ha howner r meter)).trans ?_)
      rw [State.takeReply, howner, hv]
      rfl
    refine ⟨_, hexec, fun hs => ?_, fun hs hprobe => ?_, fun hs hvalve hslot => ?_⟩
    · rw [takeCannonReply_of_idle hvd hb hh r meter.toNat hs, settled_nil]
      exact ⟨rfl, hvm, cannon_mapCannon_self (f := fun c => c.heardFrom r meter.toNat _) hvd⟩
    · rw [takeCannonReply_of_lost hvd hb hh r meter.toNat hs, settled_nil]
      have hafter := cannon_closing_self (a := d.config.node) (f := fun c => { c with state := .resetting })
        (cannon_mapCannon_self (f := fun c => c.heardFrom r meter.toNat (meterDelta d.meterLast meter.toNat)) hvd)
      refine ⟨?_, (congrArg (Option.map _) hafter).trans ?_, ?_⟩
      · subst hnode
        have := hkept fun c hc => by rw [hprobe] at hc; exact Sent.noConfusion hc
        rw [this] at hvm
        exact node_closing_self (s := v.mapCannon k _) (n := k) (f := fun c => { c with state := .resetting }) hvm
      · rw [Option.map_some]
        exact congrArg (fun b => some (CannonState.resetting, b)) hb
      · exact mem_insertKey_iff.2 (.inl rfl)
    · rw [takeCannonReply_of_reset hvd hb hh r meter.toNat hs hvalve (by
        rw [hnode, State.slot?, hvm]
        exact hslot), settled_nil]
      have hafter := cannon_mapCannon_self (f := fun c => { c with tripCount := 0, state := .idle, aimPhase := none })
        (cannon_mapCannon_self (f := fun c => c.heardFrom r meter.toNat (meterDelta d.meterLast meter.toNat)) hvd)
      exact ⟨congrArg (Option.map _) hafter, rfl⟩

end Sys2Proof.Machine
end

section
set_option Elab.async false
/-! PROOFS. Cannons that return to service: retry delay, trip decay, RESET-CANNON (R113, R115, R116, R119). -/

namespace Sys2Proof.Machine

/-! ## Rows whose timer has not run out -/

theorem slewExpiry_of_off {s : State} {n : Nat} (h : ∀ c, s.cannon? n = some c → c.state ≠ .aiming ∨ c.slew ≠ some 0) :
    s.slewExpiry n = (s, []) := by
  cases hc : s.cannon? n with
  | none => simp only [State.slewExpiry, hc]
  | some c => simp only [State.slewExpiry, hc, if_neg (not_and_or.2 (h c hc))]

theorem blankingExpiry_of_off {s : State} {n : Nat} (h : ∀ c, s.cannon? n = some c → c.blankingOn = false) :
    s.blankingExpiry n = (s, []) := by
  cases hc : s.cannon? n with
  | none => simp only [State.blankingExpiry, hc]
  | some c =>
    have : ¬ (c.blankingOn = true ∧ (c.state = .aiming ∨ c.state = .spraying)) := fun hon => by
      rw [h c hc] at hon
      exact absurd hon.1 (by decide)
    simp only [State.blankingExpiry, hc, if_neg this]

theorem closeWaitExpiry_of_off {s : State} {n : Nat} (h : ∀ c, s.cannon? n = some c → c.closeWait ≠ some 0) :
    s.closeWaitExpiry n = (s, []) := by
  cases hc : s.cannon? n with
  | none => simp only [State.closeWaitExpiry, hc]
  | some c => simp only [State.closeWaitExpiry, hc, if_neg (h c hc)]

theorem retryEnd_of_off {s : State} {n : Nat} (h : ∀ c, s.cannon? n = some c → c.state ≠ .tripped ∨ c.retry ≠ some 0) :
    s.retryEnd n = s := by
  cases hc : s.cannon? n with
  | none => simp only [State.retryEnd, hc]
  | some c => simp only [State.retryEnd, hc, if_neg (not_and_or.2 (h c hc))]

theorem retryEnd_of_over {s : State} {n : Nat} {c : Cannon} (hc : s.cannon? n = some c) (hs : c.state = .tripped)
    (hr : c.retry = some 0) : s.retryEnd n =
      ((s.mapCannon n fun c => { c with state := .idle, aimPhase := none, retry := none }).occasion).hand .cannon n := by
  simp only [State.retryEnd, hc, if_pos (And.intro hs hr), State.toIdle, mapCannon_mapCannon]

/-! ## The decay of trips (R116) -/

theorem decayed_of_old {c : Cannon} {now m : Nat} (hm : c.lastTrip = some m) (hs : c.state ≠ .locked) (h : m + 30 ≤ now) :
    c.decayed now = { c with tripCount := 0 } := by
  have : c.state ≠ .locked ∧ Config.tripDecay ≤ minutesSince now m := ⟨hs, Nat.le_sub_of_add_le (by simpa [Nat.add_comm] using h)⟩
  simp only [Cannon.decayed, hm, if_pos this]

theorem decayed_of_recent {c : Cannon} {now : Nat} (h : c.lastTrip = none ∨ c.state = .locked ∨ ∃ m, c.lastTrip = some m ∧
    now < m + 30) : c.decayed now = c := by
  cases hm : c.lastTrip with
  | none => simp only [Cannon.decayed, hm]
  | some m =>
    have : ¬ (c.state ≠ .locked ∧ Config.tripDecay ≤ minutesSince now m) := by
      rintro ⟨hs, hle⟩
      simp only [minutesSince, Config.tripDecay] at hle
      rcases h with h | h | ⟨k, hk, hlt⟩
      · rw [hm] at h
        exact absurd h (by simp)
      · exact hs h
      · obtain rfl : m = k := by simpa [hm] using hk
        omega
    simp only [Cannon.decayed, hm, if_neg this]

/-! ## RESET-CANNON (R119) -/

/-- RESET-CANNON's reply: the state before, and the litres of a pass that was bound. -/
theorem pack_resetReply (code : Nat) (x : Option Nat) :
    pack [.always (be8 code), opt16 x] = [if x = none then 0 else 1] ++ be8 code ++ be16 (x.getD 0) := by
  rw [pack, flagBytes_of_length_le (by simp [Item.presence, opt16]) (by simp [Item.presence, opt16])]
  cases x with
  | none => rfl
  | some k => rfl

theorem resetCannon_of_loaded {s : State} {number : Byte} {c : Cannon} (hn : number.toNat ≤ 23)
    (hc : s.cannon? number.toNat = some c) : s.resetCannon number =
      (settled (s.openEvent.cannonReset number.toNat c)).answer Code.resetCannon .ok
        ([if c.bound = none then 0 else 1] ++ be8 c.state.code ++ be16 ((c.bound.map fun _ => s.metered c).getD 0)) := by
  have : ¬ Config.cannons ≤ number.toNat := by
    simp only [Config.cannons]
    omega
  simp only [State.resetCannon, if_neg this, hc, pack_resetReply, Option.map_eq_none_iff]

/-- A cannon once it has been reset. -/
def Cannon.resetting (c : Cannon) : Cannon := { c.quiet with state := .resetting }

theorem cannonReset_eq {s : State} {n : Nat} {c : Cannon} (hc : s.cannon? n = some c) : s.cannonReset n c =
    (if c.state.noticed then (s.closing n c.config.node Cannon.resetting).hand .cannon n
      else s.closing n c.config.node Cannon.resetting,
      c.passEndTasks .reset (s.metered c) ++ c.closeTold) := by
  rw [State.cannonReset, placeClose_of_some hc]
  rfl

theorem noticed_iff (x : CannonState) : x.noticed = true ↔ x = .tripped ∨ x = .locked ∨ x = .lost := by
  cases x <;> decide

/-- The tellings of a close wait in a yard without permits and PREWET orders are nothing to it. -/
theorem closeTold_quiet {s : State} {c : Cannon} (q : Option Nat) (hp : s.permits.list = [])
    (ho : ∀ o ∈ s.dispatch.orders, o.origin ≠ .prewet) : ∀ t ∈ c.closeTold, doTask q t s = (s, []) := by
  intro t ht
  unfold Cannon.closeTold at ht
  split at ht
  · obtain ⟨e, -, rfl⟩ := List.mem_map.1 ht
    exact passTold_quiet s q e.tag hp ho
  · exact absurd ht (by simp)

theorem passEndTasks_of_unbound {c : Cannon} (h : c.bound = none) (kind : PassKind) (vm : Nat) : c.passEndTasks kind vm = [] := by
  simp only [Cannon.passEndTasks, h]

/-- Settles O39: each row by its timer, and the reset of a cannon without a pass, whose tellings are quiet. -/
theorem cannonsReturnToService : Obligations.CannonsReturnToService := by
  unfold Obligations.CannonsReturnToService
  refine ⟨fun number s => ⟨fun c hc hs hr => ?retry, fun h => congrArg Host.Outcome.next (retryEnd_of_off h), ?decay,
      fun h => congrArg Host.Outcome.next ((congrArg settled (slewExpiry_of_off (s := s.openEvent) h)).trans (settled_nil _)),
      fun h => congrArg Host.Outcome.next ((congrArg settled (blankingExpiry_of_off (s := s.openEvent) h)).trans (settled_nil _)),
      fun h => congrArg Host.Outcome.next ((congrArg settled (closeWaitExpiry_of_off (s := s.openEvent) h)).trans (settled_nil _))⟩,
    fun number s => ⟨fun h => congrArg Host.Outcome.next ?badArgument, fun h hnone => congrArg Host.Outcome.next ?unknown,
      fun c n hnum hc hn hb hp ho => ?reset⟩⟩
  case retry =>
    refine ⟨_, congrArg Host.Outcome.next (retryEnd_of_over hc hs hr), rfl, ?_, fun n hn => ?_⟩
    · exact cannon_mapCannon_self (f := fun c => { c with state := .idle, aimPhase := none, retry := none }) hc
    · exact cannon_mapCannon_of_ne (s := s) (f := fun c => { c with state := .idle, aimPhase := none, retry := none }) hn
  case decay =>
    refine ⟨_, rfl, rfl, fun n hn => cannon_mapCannon_of_ne hn, fun hnone => ?_, fun c hc => ⟨fun m hm hs hle => ?_, fun h => ?_⟩⟩
    · rw [State.decayTrip, cannon_mapCannon, if_pos rfl, hnone]
      rfl
    · rw [State.decayTrip, cannon_mapCannon_self hc]
      exact congrArg some (decayed_of_old hm hs hle)
    · rw [State.decayTrip, cannon_mapCannon_self hc]
      exact congrArg some (decayed_of_recent h)
  case badArgument =>
    have : Config.cannons ≤ number.toNat := h
    simp only [State.resetCannon, if_pos this]
    rfl
  case unknown =>
    have : ¬ Config.cannons ≤ number.toNat := by
      simp only [Config.cannons]
      omega
    simp only [State.resetCannon, if_neg this, hnone]
    rfl
  case reset =>
    have horigin : ∀ o ∈ s.dispatch.orders, o.origin ≠ .prewet := fun o hmem => by rw [ho o hmem]; decide
    have hsettled : settled (s.openEvent.cannonReset number.toNat c) = if c.state.noticed
        then (s.openEvent.closing number.toNat c.config.node Cannon.resetting).hand .cannon number.toNat
        else s.openEvent.closing number.toNat c.config.node Cannon.resetting := by
      rw [cannonReset_eq (s := s.openEvent) hc, passEndTasks_of_unbound hb, List.nil_append]
      refine settled_quiet _ _ (closeTold_quiet none ?_ ?_)
      · split_ifs <;> exact hp
      · split_ifs <;> exact horigin
    have hself := cannon_closing_self (s := s.openEvent) (a := c.config.node) (f := Cannon.resetting) hc
    have hnode := node_closing_self (s := s.openEvent) (n := number.toNat) (f := Cannon.resetting) hn
    have hreset : c.resetting = { c with
        state := .resetting, slew := none, blankingOn := false, aimWaiting := false, closeWait := none, retry := none
        aimPhase := none } := by
      cases c
      simp_all [Cannon.resetting, Cannon.quiet, Cannon.unbound]
    rw [hreset] at hself
    have hexec : exec (.resetCannon number) s = .next _ := congrArg Host.Outcome.next (resetCannon_of_loaded hnum hc)
    rw [hsettled, hb, if_pos rfl, Option.map_none, Option.getD_none] at hexec
    refine ⟨_, hexec, ?_, ?_, fun k hk => ?_, ?_, fun k hk => ?_⟩
    · by_cases hnotice : c.state.noticed = true
      · rw [if_pos hnotice, if_pos ((noticed_iff _).1 hnotice)]
        rfl
      · rw [if_neg hnotice, if_neg (mt (noticed_iff _).2 hnotice)]
        rfl
    · rw [cannon?_answer]
      split_ifs <;> exact hself
    · rw [cannon?_answer]
      split_ifs <;> exact cannon_closing_of_ne (s := s.openEvent) (a := c.config.node) (f := Cannon.resetting) hk
    · rw [node?_answer]
      split_ifs <;> exact hnode
    · rw [node?_answer]
      split_ifs <;> exact node_closing_of_ne (s := s.openEvent) (n := number.toNat) (f := Cannon.resetting) hk

end Sys2Proof.Machine
end

section
set_option Elab.async false
/-! PROOFS. LOAD-CANNON (R102, R103). -/

namespace Sys2Proof.Machine

/-! ## The configuration a loading carries (R100, R102) -/

theorem Supply.code_le (x : Supply) : x.code ≤ 2 := by cases x <;> decide

theorem Supply.ofCode_code (x : Supply) : Supply.ofCode x.code = some x := by cases x <;> rfl

theorem supply_exists {n : Nat} (h : n ≤ 2) : ∃ x : Supply, x.code = n := by
  match n with
  | 0 => exact ⟨.reuse, rfl⟩
  | 1 => exact ⟨.fresh, rfl⟩
  | 2 => exact ⟨.both, rfl⟩
  | k + 3 => omega

theorem Supply.ofCode_of_gt {n : Nat} (h : 2 < n) : Supply.ofCode n = none := by
  match n with
  | k + 3 => rfl

theorem Supply.code_inj {x y : Supply} (h : x.code = y.code) : x = y :=
  Option.some.inj ((Supply.ofCode_code x).symm.trans (h ▸ Supply.ofCode_code y))

theorem loadingConfig_of_code {node : Byte} {a : CannonArgs} {x : Supply} (h : x.code = a.supply.toNat) :
    loadingConfig node a = if cannonConfigOk (cannonConfigOf node x a) then some (cannonConfigOf node x a) else none := by
  rw [loadingConfig, ← h, Supply.ofCode_code]
  rfl

theorem loadingConfig_of_unlisted {node : Byte} {a : CannonArgs} (h : 2 < a.supply.toNat) : loadingConfig node a = none := by
  rw [loadingConfig, Supply.ofCode_of_gt h]
  rfl

/-- A coverage list is refused by its length, by a tag 0 or an arc that is no bearing, or by a tag that stands twice. -/
theorem coverageOk_iff (cs : List CoverArgs) :
    coverageOk (cs.map fun c => ⟨c.tag.toNat, c.arcStart.toNat, c.arcEnd.toNat⟩) = false ↔
      cs = [] ∨ 6 < cs.length ∨ (∃ v ∈ cs, v.tag = 0 ∨ 359 < v.arcStart.toNat ∨ 359 < v.arcEnd.toNat)
        ∨ ¬ (cs.map fun v => v.tag).Nodup := by
  have htags : ((cs.map fun c => (⟨c.tag.toNat, c.arcStart.toNat, c.arcEnd.toNat⟩ : Cover)).map Cover.tag).Nodup
      ↔ (cs.map fun v => v.tag).Nodup := by
    rw [List.map_map, show (Cover.tag ∘ fun c : CoverArgs => ⟨c.tag.toNat, c.arcStart.toNat, c.arcEnd.toNat⟩)
      = BitVec.toNat ∘ fun c : CoverArgs => c.tag from rfl, ← List.map_map]
    exact List.nodup_map_iff fun x y => BitVec.eq_of_toNat_eq
  have hlength : within 1 6 cs.length = true ↔ ¬ (cs = [] ∨ 6 < cs.length) := by
    rw [within, Bool.and_eq_true, decide_eq_true_eq, decide_eq_true_eq, not_or, Nat.not_lt, ← ne_eq,
      ← List.length_pos_iff]
    rfl
  have hfields : (cs.all fun c => c.tag.toNat != 0 && decide (c.arcStart.toNat < 360) && decide (c.arcEnd.toNat < 360)) = true
      ↔ ¬ ∃ v ∈ cs, v.tag = 0 ∨ 359 < v.arcStart.toNat ∨ 359 < v.arcEnd.toNat := by
    simp only [List.all_eq_true, not_exists, not_and, not_or, Bool.and_eq_true, bne_iff_ne, decide_eq_true_eq, Nat.not_lt]
    refine forall₂_congr fun v _ => ?_
    have : v.tag.toNat = 0 ↔ v.tag = 0 := toNat_eq_zero v.tag
    rw [ne_eq, this, and_assoc]
    exact and_congr_right fun _ => by omega
  rw [← Bool.not_eq_true, coverageOk, Bool.and_eq_true, Bool.and_eq_true, decide_eq_true_eq, htags, List.length_map, hlength,
    List.all_map, show (((fun c : Cover => c.tag != 0 && decide (c.arcStart < 360) && decide (c.arcEnd < 360)) ∘
      fun c : CoverArgs => (⟨c.tag.toNat, c.arcStart.toNat, c.arcEnd.toNat⟩ : Cover)))
      = fun c : CoverArgs => c.tag.toNat != 0 && decide (c.arcStart.toNat < 360) && decide (c.arcEnd.toNat < 360) from rfl,
    hfields]
  simp only [not_and_or, not_not, or_assoc]

/-- The fields of a configuration are refused field by field. -/
theorem cannonConfigOk_iff (c : CannonConfig) : cannonConfigOk c = false ↔ c.minDose < 50 ∨ c.maxDose < c.minDose
    ∨ c.rampTime < 2 ∨ 30 < c.rampTime ∨ 5000 < c.rampAllowance ∨ c.sweepRate = 0 ∨ 60 < c.sweepRate ∨ c.slewTimeout < 5
    ∨ 60 < c.slewTimeout ∨ 5000 < c.blanking ∨ 15 < c.extraDelay ∨ coverageOk c.coverage = false := by
  rw [← Bool.not_eq_true, cannonConfigOk]
  simp only [Bool.and_eq_true, decide_eq_true_eq, within]
  cases coverageOk c.coverage with
  | false => simp
  | true =>
    simp only [and_true, Bool.true_eq_false, or_false]
    omega

/-! ## The checks -/

theorem loadBusy_iff (x : Option Cannon) : loadBusy x = true ↔ ∃ c, x = some c ∧ c.state ≠ .idle := by
  simp [loadBusy, Option.any_eq_true]

theorem unloadBusy_iff (x : Option Cannon) : unloadBusy x = true ↔
    ∃ c, x = some c ∧ c.state ≠ .idle ∧ c.state ≠ .lost ∧ (c.state = .locked → c.header ≠ none) := by
  simp [unloadBusy, Option.any_eq_true, and_assoc, imp_iff_not_or, Option.isSome_iff_ne_none]

theorem heldByOther_iff (s : State) (a : Nat) (o : Owner) :
    s.heldByOther a o = true ↔ ∃ x, s.node? a = some x ∧ x.owner ≠ o := by
  simp [State.heldByOther, Option.any_eq_true]

section
variable {s : State} {number node : Byte} {a : CannonArgs}

theorem loadCannon_of_badArgument (h : 23 < number.toNat ∨ 31 < node.toNat) :
    s.loadCannon number node a = s.answer Code.loadCannon .badArgument [] := by
  have : Config.cannons ≤ number.toNat ∨ 31 < node.toNat := h
  rw [State.loadCannon, if_pos this]

section
variable (hnumber : number.toNat ≤ 23) (hnode : node.toNat ≤ 31)
include hnumber hnode

theorem loadCannon_in_range : ¬ (Config.cannons ≤ number.toNat ∨ 31 < node.toNat) := by
  simp only [Config.cannons]
  omega

theorem loadCannon_of_unload (h : node = 0) : s.loadCannon number node a = s.unloadCannon number := by
  rw [State.loadCannon, if_neg (loadCannon_in_range hnumber hnode), if_pos h]

variable (h : node ≠ 0)
include h

theorem loadCannon_of_badConfig (hk : loadingConfig node a = none) :
    s.loadCannon number node a = s.answer Code.loadCannon .badArgument [] := by
  simp only [State.loadCannon, if_neg (loadCannon_in_range hnumber hnode), if_neg h, hk]

variable {k : CannonConfig} (hk : loadingConfig node a = some k)
include hk

theorem loadCannon_of_busy (hb : loadBusy (s.cannon? number.toNat) = true) :
    s.loadCannon number node a = s.answer Code.loadCannon .cannonBusy [] := by
  simp only [State.loadCannon, if_neg (loadCannon_in_range hnumber hnode), if_neg h, hk, if_pos hb]

variable (hb : ¬ loadBusy (s.cannon? number.toNat) = true)
include hb

theorem loadCannon_of_duplicate (hd : s.heldByOther k.node (.cannon number.toNat) = true) :
    s.loadCannon number node a = s.answer Code.loadCannon .duplicate [] := by
  simp only [State.loadCannon, if_neg (loadCannon_in_range hnumber hnode), if_neg h, hk, if_neg hb, if_pos hd]

theorem loadCannon_of_taken (hd : ¬ s.heldByOther k.node (.cannon number.toNat) = true) :
    s.loadCannon number node a = (s.takeLoading number.toNat k).answer Code.loadCannon .ok [] := by
  simp only [State.loadCannon, if_neg (loadCannon_in_range hnumber hnode), if_neg h, hk, if_neg hb, if_neg hd]

end

/-! ## Loading and unloading -/

theorem takeLoading_of_same {n : Nat} {k : CannonConfig} {c : Cannon} (hc : s.cannon? n = some c)
    (hk : k.node = c.config.node) : s.takeLoading n k =
      ((s.mapCannon n fun c => { c with config := k }).mapNode k.node fun x => { x with extraDelay := k.extraDelay }).occasion := by
  simp only [State.takeLoading, hc, if_pos hk]

theorem takeUnloading_of_some {n : Nat} {c : Cannon} (hc : s.cannon? n = some c) : s.takeUnloading n =
    if c.state.noticed then ({ s with cannons := Table.erase s.cannons n }.removeNode c.config.node).hand .cannon n
    else { s with cannons := Table.erase s.cannons n }.removeNode c.config.node := by
  simp only [State.takeUnloading, hc]

end

theorem node_addNode_self (s : State) (a d : Nat) (o : Owner) : (s.addNode a o d).node? a = some (Node.added o d) := by
  unfold State.addNode State.node?
  dsimp only
  split
  · rw [nodes_startRound, Table.get_set_self, Option.map_some, counted_of_answering rfl]
  · exact Table.get_set_self _ _ _

theorem node_addNode_none {s : State} {a d b : Nat} {o : Owner} (hne : b ≠ a) (h : s.node? b = none) :
    (s.addNode a o d).node? b = none := by
  have := node_addNode s a d b o
  rwa [if_neg hne, h, Option.map_none, Option.map_eq_none_iff] at this

/-- A loading at a free address: the record formed anew, and the node in the list. -/
theorem takeLoading_of_new {s : State} {n : Nat} {k : CannonConfig} (hc : ∀ c, s.cannon? n = some c → c.config.node ≠ k.node) :
    ∃ u : State, s.takeLoading n k = (u.addNode k.node (.cannon n) k.extraDelay).occasion
      ∧ u = { s with cannons := Table.set s.cannons n (Cannon.loaded k), loop := u.loop }
      ∧ ∀ c, s.cannon? n = some c → u.node? c.config.node = none := by
  cases h : s.cannon? n with
  | none =>
    refine ⟨s.withCannon n (Cannon.loaded k), ?_, rfl, fun c hc => absurd hc (by simp)⟩
    simp only [State.takeLoading, h]
  | some c =>
    refine ⟨(s.withCannon n (Cannon.loaded k)).removeNode c.config.node, ?_, removeNode_eq _ _, fun d hd => ?_⟩
    · simp only [State.takeLoading, h, if_neg (hc c h).symm]
    · obtain rfl : c = d := Option.some.inj hd
      rw [node_removeNode, if_pos rfl]

/-- Settles O38: the checks in their order, and the four ways it is taken. -/
theorem loadCannonLoadsAndUnloads : Obligations.LoadCannonLoadsAndUnloads := by
  unfold Obligations.LoadCannonLoadsAndUnloads
  intro number node a bad busy minDose rampAllowance slew blanking extra s hmin hramp hslew hblanking hextra hbad hbusy
  have hmin : (a.minDose.map (·.toNat)).getD 200 = minDose := by rw [hmin]; cases a.minDose <;> rfl
  have hramp : (a.rampAllowance.map (·.toNat)).getD 0 = rampAllowance := by rw [hramp]; cases a.rampAllowance <;> rfl
  have hslew : (a.slewTimeout.map (·.toNat)).getD 20 = slew := by rw [hslew]; cases a.slewTimeout <;> rfl
  have hblanking : (a.blanking.map (·.toNat)).getD 1000 = blanking := by rw [hblanking]; cases a.blanking <;> rfl
  have hextra : (a.extraDelay.map (·.toNat)).getD 0 = extra := by rw [hextra]; cases a.extraDelay <;> rfl
  have hconfig : ∀ x : Supply, cannonConfigOf node x a = ⟨node.toNat, x, minDose, a.maxDose.toNat, a.rampTime.toNat,
      rampAllowance, a.sweepRate.toNat, slew, blanking, extra,
      a.coverage.map fun v => ⟨v.tag.toNat, v.arcStart.toNat, v.arcEnd.toNat⟩⟩ := fun x => by
    rw [cannonConfigOf, hmin, hramp, hslew, hblanking, hextra]
  have hbadConfig : ∀ x : Supply, x.code = a.supply.toNat → (bad ↔ cannonConfigOk (cannonConfigOf node x a) = false) :=
    fun x hx => by
      have hle : ¬ 2 < a.supply.toNat := by rw [← hx]; exact Nat.not_lt.2 x.code_le
      rw [hbad, cannonConfigOk_iff, hconfig, coverageOk_iff]
      simp only [hle, false_or]
  have hnone : bad → loadingConfig node a = none := fun hb => by
    by_cases hle : 2 < a.supply.toNat
    · exact loadingConfig_of_unlisted hle
    · obtain ⟨x, hx⟩ := supply_exists (Nat.not_lt.1 hle)
      rw [loadingConfig_of_code hx, (hbadConfig x hx).1 hb]
      rfl
  have hsome : ¬ bad → ∀ x : Supply, x.code = a.supply.toNat → loadingConfig node a = some (cannonConfigOf node x a) :=
    fun hb x hx => by
      rw [loadingConfig_of_code hx, if_pos (Bool.not_eq_false _ ▸ mt (hbadConfig x hx).2 hb)]
  have hlisted : ¬ bad → ∃ k, loadingConfig node a = some k := fun hb => by
    obtain ⟨x, hx⟩ := supply_exists (Nat.not_lt.1 fun h => hb (hbad.2 (.inl h)))
    exact ⟨_, hsome hb x hx⟩
  refine ⟨fun h => congrArg Host.Outcome.next ?refused, fun hnum hnode hok =>
    ⟨fun hb => congrArg Host.Outcome.next ?busy, fun hb hzero => ⟨fun hc => congrArg Host.Outcome.next ?absent,
      fun c hc => ?unload⟩, fun hb hne => ⟨fun hheld => congrArg Host.Outcome.next ?duplicate,
      fun k hcode hk => ⟨fun c hc hsame howner => congrArg Host.Outcome.next ?same, fun hfree hother => ?new⟩⟩⟩⟩
  case refused =>
    by_cases hrange : 23 < number.toNat ∨ 31 < node.toNat
    · exact loadCannon_of_badArgument hrange
    · obtain ⟨h1, h2⟩ := not_or.1 hrange
      have h := (h.resolve_left h1).resolve_left h2
      exact loadCannon_of_badConfig (Nat.not_lt.1 h1) (Nat.not_lt.1 h2) h.1 (hnone h.2)
  case busy =>
    obtain ⟨c, hc, hs, hzero⟩ := hbusy.1 hb
    by_cases h : node = 0
    · have : unloadBusy (s.cannon? number.toNat) = true := (unloadBusy_iff _).2 ⟨c, hc, hs, hzero h⟩
      rw [loadCannon_of_unload hnum hnode h, State.unloadCannon, if_pos this]
      rfl
    · obtain ⟨k, hk⟩ := hlisted fun hbad => hok ⟨h, hbad⟩
      exact loadCannon_of_busy hnum hnode h hk ((loadBusy_iff _).2 ⟨c, hc, hs⟩)
  case absent =>
    have : ¬ unloadBusy (s.cannon? number.toNat) = true := by rw [hc]; decide
    rw [loadCannon_of_unload hnum hnode hzero, State.unloadCannon, if_neg this, State.takeUnloading, hc]
    rfl
  case unload =>
    have hfree : ¬ unloadBusy (s.cannon? number.toNat) = true := fun h => by
      obtain ⟨d, hd, hs, hlost, hlocked⟩ := (unloadBusy_iff _).1 h
      exact hb (hbusy.2 ⟨d, hd, hs, fun _ => ⟨hlost, hlocked⟩⟩)
    have hnotice : c.state.noticed = true ↔ c.state ≠ .idle := by
      rw [unloadBusy_iff, hc] at hfree
      rw [noticed_iff]
      refine ⟨fun h => by rcases h with h | h | h <;> rw [h] <;> decide, fun h => ?_⟩
      by_contra hn
      obtain ⟨htripped, hn⟩ := not_or.1 hn
      obtain ⟨hlocked, hlost⟩ := not_or.1 hn
      exact hfree ⟨c, rfl, h, hlost, fun hl => absurd hl hlocked⟩
    set u := { s with cannons := Table.erase s.cannons number.toNat }.removeNode c.config.node with hu
    have hframe : u = { s with cannons := Table.erase s.cannons number.toNat, loop := u.loop } := removeNode_eq _ _
    have hnodes : ∀ k, u.node? k = if k = c.config.node then none else s.node? k := fun k => node_removeNode _ _ _
    have hexec : exec (.loadCannon number node a) s = .next ((if c.state = .idle then u
        else u.hand .cannon number.toNat).answer Code.loadCannon .ok []) := by
      refine congrArg Host.Outcome.next ?_
      rw [loadCannon_of_unload hnum hnode hzero, State.unloadCannon, if_neg hfree, takeUnloading_of_some hc]
      by_cases hs : c.state = .idle
      · rw [if_pos hs, if_neg (mt hnotice.1 (not_not.2 hs))]
      · rw [if_neg hs, if_pos (hnotice.2 hs)]
    refine ⟨_, hexec, ?_, ?_, fun k hk => ?_, ?_, fun k hk => ?_, ?_⟩
    · split_ifs
      · rw [hframe]
        rfl
      · rw [hframe]
        rfl
    · rw [cannon?_answer]
      split_ifs <;> rw [hframe] <;> exact Table.get_erase_self _ _
    · rw [cannon?_answer]
      split_ifs <;> rw [hframe] <;> exact Table.get_erase_of_ne _ hk
    · rw [node?_answer]
      split_ifs <;> exact (hnodes _).trans (if_pos rfl)
    · rw [node?_answer]
      split_ifs <;> exact (hnodes _).trans (if_neg hk)
    · split_ifs
      · rw [hframe]
        rfl
      · rw [hframe]
        rfl
  case duplicate =>
    obtain ⟨k, hk⟩ := hlisted fun hbad => hok ⟨hne, hbad⟩
    have hknode : k.node = node.toNat := by
      obtain ⟨x, hx⟩ := supply_exists (Nat.not_lt.1 fun h => hok ⟨hne, hbad.2 (.inl h)⟩)
      rw [hsome (fun hbad => hok ⟨hne, hbad⟩) x hx] at hk
      exact (congrArg CannonConfig.node (Option.some.inj hk)).symm
    refine loadCannon_of_duplicate hnum hnode hne hk (fun h => hb (hbusy.2 ?_)) ((heldByOther_iff _ _ _).2 (hknode ▸ hheld))
    obtain ⟨d, hd, hs⟩ := (loadBusy_iff _).1 h
    exact ⟨d, hd, hs, fun h => absurd h hne⟩
  case same =>
    have hload : loadingConfig node a = some k := by
      rw [hsome (fun hbad => hok ⟨hne, hbad⟩) k.supply hcode, hconfig, ← hk]
    have hknode : k.node = node.toNat := by rw [hk]
    have hheld : ¬ s.heldByOther k.node (.cannon number.toNat) = true := fun h => by
      obtain ⟨x, hx, ho⟩ := (heldByOther_iff _ _ _).1 h
      exact ho (howner x (hknode ▸ hx))
    have hfree : ¬ loadBusy (s.cannon? number.toNat) = true := fun h => by
      obtain ⟨d, hd, hs⟩ := (loadBusy_iff _).1 h
      exact hb (hbusy.2 ⟨d, hd, hs, fun h => absurd h hne⟩)
    have hextra : k.extraDelay = extra := by rw [hk]
    refine (loadCannon_of_taken hnum hnode hne hload hfree hheld).trans ?_
    rw [takeLoading_of_same hc (hknode.trans hsame.symm), hknode, hextra]
    rfl
  case new =>
    have hload : loadingConfig node a = some k := by
      rw [hsome (fun hbad => hok ⟨hne, hbad⟩) k.supply hcode, hconfig, ← hk]
    have hknode : k.node = node.toNat := by rw [hk]
    have hheld : ¬ s.heldByOther k.node (.cannon number.toNat) = true := fun h => by
      obtain ⟨x, hx, -⟩ := (heldByOther_iff _ _ _).1 h
      rw [hknode, hfree] at hx
      exact absurd hx (by simp)
    have hidle : ¬ loadBusy (s.cannon? number.toNat) = true := fun h => by
      obtain ⟨d, hd, hs⟩ := (loadBusy_iff _).1 h
      exact hb (hbusy.2 ⟨d, hd, hs, fun h => absurd h hne⟩)
    have hextra : k.extraDelay = extra := by rw [hk]
    obtain ⟨u, htake, hu, hgone⟩ := takeLoading_of_new (s := s) (n := number.toNat) (k := k) fun c hc => by
      rw [hknode]
      exact hother c hc
    refine ⟨_, congrArg Host.Outcome.next (loadCannon_of_taken hnum hnode hne hload hidle hheld), ?_, ?_, fun i hi => ?_, ?_,
      fun c hc => ?_⟩
    · rw [htake, hu]
      rfl
    · rw [htake, hu]
      exact Table.get_set_self _ _ _
    · rw [htake, hu]
      exact Table.get_set_of_ne _ _ hi
    · rw [htake, node?_answer, ← hextra, ← hknode]
      exact congrArg (Option.map _) (node_addNode_self u k.node k.extraDelay (.cannon number.toNat))
    · rw [htake, node?_answer]
      exact node_addNode_none (by rw [hknode]; exact hother c hc) (hgone c hc)

end Sys2Proof.Machine
end

section
set_option Elab.async false
/-! PROOFS. A CLOSED report (R112): spill litres beyond their field are left as they stand where nothing runs off. -/

namespace Sys2Proof.Machine

/-- A cannon whose pass for order 1 ramps down. -/
def rampingCannon : Cannon :=
  ⟨⟨1, .both, 200, 5000, 5, 0, 10, 20, 1000, 0, [⟨7, 0, 90⟩]⟩, .rampDown, none, 0, none, some 0, none, some 1, some .reuse, 0,
    none, some 5, none, false, false⟩

/-- The order of that pass. -/
def rampingOrder : Order :=
  ⟨1, 7, .host, 0, 1000, 0, .reuseOnly, none, none, .active, Suspension.none, false, false, false, 0, 0, 1, none,
    some ⟨0, .reuse, 1000, 1000, some 0, 0, .rampDown⟩, none, none, 0⟩

/-- A yard with that cannon, its node being polled, and spill litres above what their field can hold. -/
def overspiltYard : State :=
  { State.reset with
    grades := [(2, dryGrade)], piles := [(3, dryPile)], cannons := [(0, rampingCannon)]
    dispatch := { State.reset.dispatch with orders := [rampingOrder] }
    water := { State.reset.water with pond := { Pond.initial with spill := 4294967296 } }
    loop := { State.reset.loop with
      nodes := [(1, ⟨.cannon 0, 0, none, 0, false, none, 0⟩)], running := true, phase := .exchange 1 .poll [] } }

theorem endExchange_of_validReply {s t : State} {b : List Byte} (h : exec (.validReply b) s = .next t) :
    s.openEvent.endExchange b = t := Host.Outcome.next.inj h

/-- The pile takes the ten litres, nothing runs off, and the spill litres stand. -/
theorem spill_overspiltYard : (overspiltYard.openEvent.endExchange
    ((NodeReply.cannon ⟨.closed, false, false, false⟩ (10 : Half).toNat).bytes 1)).water.pond.spill = 4294967296 := by decide +kernel

/-- Refutes O42: the pond's spill litres after the report are the lesser of 4294967295 and their sum with what spilled, whatever
stood before; above 4294967295 they stand as they were where nothing runs off into the pond, which no credit then reaches. -/
theorem not_closedReportSettlesThePass : ¬ Obligations.ClosedReportSettlesThePass := by
  unfold Obligations.ClosedReportSettlesThePass
  intro h
  obtain ⟨hbound, -⟩ := h
  obtain ⟨t, hexec, -, -, hpond, -⟩ := hbound 1 0 3 [] ⟨.cannon 0, 0, none, 0, false, none, 0⟩ rampingCannon
    { rampingCannon with
      report := some ⟨.closed, false, false, false⟩, meterLast := some 10, state := .idle, closeWait := none, header := none
      bound := none } .closed rampingOrder ⟨0, .reuse, 1000, 1000, some 0, 0, .rampDown⟩ ⟨.closed, false, false, false⟩ 10 0 0
    10 10 702 0 dryPile dryGrade .reuse overspiltYard (by decide) rfl rfl rfl rfl rfl rfl rfl rfl rfl rfl rfl rfl (by decide)
    (.inl ⟨.inl rfl, rfl, rfl⟩) rfl (by decide) rfl (by decide) rfl (by decide) (by decide) rfl rfl rfl rfl rfl rfl (by decide)
    rfl rfl rfl (.inl ⟨by decide, by decide⟩)
  have hspill : t.water.pond.spill = 4294967295 := (congrArg Pond.spill hpond :)
  rw [← endExchange_of_validReply hexec, spill_overspiltYard] at hspill
  exact absurd hspill (by decide)

end Sys2Proof.Machine
end

section
set_option Elab.async false
/-! PROOFS. RELEASE-PERMIT (R154): a second permit of the machine is told of the pile before both end. -/

namespace Sys2Proof.Machine

/-- A grade whose working moisture the pile has. -/
def wetGrade : Grade := ⟨10, 20, 400, 500, 1200, 100, 8, 30⟩

/-- An order that waits, its suspension set empty. -/
def waitingOrder : Order :=
  ⟨1, 7, .host, 0, 1000, 0, .reuseOnly, none, none, .waiting, Suspension.none, false, false, false, 0, 0, 0, none, none,
    none, none, 0⟩

/-- The granted permit of machine 5. -/
def grantedPermit : Permit := ⟨1, 5, .dozer, 7, .granted, 0, 0, none⟩

/-- A yard in which machine 5 holds two permits on a pile at working moisture, one granted and one that waits. -/
def twicePermittedYard : State :=
  { State.reset with
    grades := [(2, wetGrade)], piles := [(3, dryPile)]
    dispatch := { State.reset.dispatch with orders := [waitingOrder] }
    permits := { State.reset.permits with list := [grantedPermit, ⟨2, 5, .dozer, 7, .pendingWet, 0, 0, none⟩] } }

/-- The release of the granted permit, nothing of the surface disturbed. -/
def plainRelease : ReleaseArgs := ⟨5, 0, 0, none, false⟩

/-- ZONE joins the order for the permit that waited, and is lifted again when both have ended. -/
theorem due_twicePermittedYard : (twicePermittedYard.releasePermit plainRelease).dispatch.due = 1 := by decide +kernel

theorem releasePermit_of_exec {s t : State} {a : ReleaseArgs} (h : exec (.releasePermit a) s = .next t) :
    s.releasePermit a = t := Host.Outcome.next.inj h

/-- Refutes O47: the release of a granted permit is said to occasion an arbitration for each waiting order that ZONE held until
then, whatever other permits the machine has; where it has another that waits on the pile, the telling of the pile clears that
one first, ZONE joins an order with an empty suspension set, and its lifting occasions an arbitration. -/
theorem not_releasePermitBlendsAndEnds : ¬ Obligations.ReleasePermitBlendsAndEnds := by
  unfold Obligations.ReleasePermitBlendsAndEnds
  intro h
  obtain ⟨-, hheld⟩ := h plainRelease twicePermittedYard
  obtain ⟨-, hpermit⟩ := hheld (by decide) (by decide)
  obtain ⟨-, -, -, hstanding, -⟩ := hpermit grantedPermit rfl
  obtain ⟨-, hgranted⟩ := hstanding [] 3 dryPile wetGrade 700 (fun v w => { twicePermittedYard.permits with
    list := [], outcomes := Table.set twicePermittedYard.permits.outcomes 5 ⟨w, 0, 7, 1, v⟩ }) twicePermittedYard.dispatch
    (by decide) rfl rfl rfl rfl (by decide) (by decide) (by decide) (fun _ _ => rfl) (by decide) (by decide)
  have hexec := hgranted rfl rfl (by decide) (by decide)
  have hdue := congrArg (fun u : State => u.dispatch.due) (releasePermit_of_exec hexec)
  rw [due_twicePermittedYard] at hdue
  exact absurd hdue (by decide)

end Sys2Proof.Machine
end

section
set_option Elab.async false
/-! PROOFS. A change of the yard minute (R150): a prewet wait of 0 minutes is reached whatever the minute a permit entered. -/

namespace Sys2Proof.Machine

/-- A permit that waits without a PREWET order, entered at a minute still to come. -/
def earlyPermit : Permit := ⟨1, 5, .dozer, 7, .pendingWet, 0, 100, none⟩

/-- A yard with that permit on a dry pile, and a prewet wait of 0 minutes. -/
def waitlessYard : State :=
  { State.reset with
    grades := [(2, dryGrade)], piles := [(3, dryPile)]
    permits := { State.reset.permits with list := [earlyPermit], prewetWait := 0 } }

/-- The wait is reached at minute 5, and the permit ends. -/
theorem permits_waitlessYard : (waitlessYard.setClock true 5).permits.list = [] := by decide +kernel

theorem setClock_of_exec {s t : State} {broadcast : Bool} {minute : Long} (h : exec (.setClock broadcast minute) s = .next t) :
    s.setClock broadcast minute = t := Host.Outcome.next.inj h

/-- Refutes O13: of a permit whose prewet wait would end after the minute it is said that it asks again; with a wait of 0 and a
minute of entry still to come the sum lies ahead, yet the 0 minutes waited so far reach the wait and the permit ends. -/
theorem not_minuteChanges : ¬ Obligations.MinuteChanges := by
  unfold Obligations.MinuteChanges
  intro h
  obtain ⟨-, -, -, -, -, -, hask, -⟩ := h
  obtain ⟨t, hexec, hasked⟩ := hask 5 3 dryPile dryGrade (fun x => decide (x.state = .pendingWet ∧ x.prewetOrder = none))
    waitlessYard (by decide) (by decide) (by decide) (by decide) (by decide) (by decide) (by decide) rfl rfl
    (fun _ => decide_eq_true_iff) (by decide) (by decide) (by decide) (by decide) (by decide)
  obtain ⟨-, -, -, -, hnone⟩ := hasked 0 (fun id => { waitlessYard.permits with
    list := waitlessYard.permits.list.map fun x =>
      if decide (x.state = .pendingWet ∧ x.prewetOrder = none) then { x with prewetOrder := some id } else x })
    (by decide) (fun _ => rfl)
  obtain ⟨o, -, hgiven, -⟩ := (hnone (by decide)).2 (by decide)
  have hlist := congrArg (fun p : Permits => p.list.length) hgiven
  rw [← setClock_of_exec hexec, permits_waitlessYard] at hlist
  exact absurd hlist (by simp [waitlessYard])

end Sys2Proof.Machine
end

section
set_option Elab.async false
/-! PROOFS. The settling pond and the transfer run (R135 to R140). -/

namespace Sys2Proof.Machine

theorem Table.update_update {α : Type} (t : Table α) (k : Nat) (f g : α → α) :
    Table.update (Table.update t k f) k g = Table.update t k fun x => g (f x) := by
  simp only [Table.update, List.map_map]
  refine List.map_congr_left fun e _ => ?_
  by_cases h : e.1 = k <;> simp [h]

/-! ## The evaluation of the run (R138) -/

theorem startConditions_iff (s : State) : s.startConditions = true ↔ ∃ a k, s.water.pond.node = some a ∧ s.nodeLost a = false
    ∧ s.water.pond.startMark ≤ s.water.pond.volume ∧ s.water.tank = some k ∧ k.fresh = true ∧ k.nearFull = false := by
  unfold State.startConditions Water.gauged Water.nearFull
  cases s.water.pond.node <;> cases s.water.tank <;> simp [and_assoc]

theorem stopConditions_iff (s : State) : s.stopConditions = true ↔ s.water.pond.volume ≤ s.water.pond.stopMark
    ∨ ∀ k, s.water.tank = some k → k.nearFull = true ∨ k.fresh = false := by
  unfold State.stopConditions Water.gauged Water.nearFull
  cases s.water.tank <;> simp [or_assoc]

section
variable {s : State}

theorem evalTransfer_of_held (h : s.water.transfer.state = .stopped) (ho : s.water.transfer.holdOff ≠ none ∨ s.startConditions = false) :
    s.evalTransfer = s := by
  have : ¬ (s.water.transfer.holdOff.isNone && s.startConditions) = true := by
    rcases ho with ho | ho
    · simp [ho]
    · simp [ho]
  simp only [State.evalTransfer, h, if_neg this]

theorem evalTransfer_of_starts (h : s.water.transfer.state = .stopped) (ho : s.water.transfer.holdOff = none)
    (hs : s.startConditions = true) : s.evalTransfer = s.startRun := by
  simp only [State.evalTransfer, h, ho, hs, Option.isNone_none, Bool.and_self, if_true]

theorem evalTransfer_of_stopping (h : s.water.transfer.state = .stopping) : s.evalTransfer = s := by
  simp only [State.evalTransfer, h]

theorem evalTransfer_of_going (h : s.water.transfer.state = .starting ∨ s.water.transfer.state = .running)
    (hs : s.stopConditions = false) : s.evalTransfer = s := by
  rcases h with h | h <;> simp only [State.evalTransfer, h, hs, Bool.false_eq_true, if_false]

theorem evalTransfer_of_stops (h : s.water.transfer.state = .starting ∨ s.water.transfer.state = .running)
    (hs : s.stopConditions = true) : s.evalTransfer = s.stopRun .stopCondition := by
  rcases h with h | h <;> simp only [State.evalTransfer, h, hs, if_true]

/-- Without a gauged tank no run starts. -/
theorem startConditions_of_ungauged (h : ∀ k, s.water.tank = some k → k.fresh = false) : s.startConditions = false := by
  refine Bool.eq_false_iff.2 fun hs => ?_
  obtain ⟨-, k, -, -, -, hk, hf, -⟩ := (startConditions_iff s).1 hs
  rw [h k hk] at hf
  exact absurd hf (by decide)

theorem startConditions_of_short (h : s.water.pond.volume < s.water.pond.startMark) : s.startConditions = false := by
  refine Bool.eq_false_iff.2 fun hs => ?_
  obtain ⟨-, -, -, -, hle, -⟩ := (startConditions_iff s).1 hs
  omega

theorem startConditions_of_lost {a : Nat} (hn : s.water.pond.node = some a) (h : s.nodeLost a = true) : s.startConditions = false := by
  refine Bool.eq_false_iff.2 fun hs => ?_
  obtain ⟨b, -, hb, hlost, -⟩ := (startConditions_iff s).1 hs
  obtain rfl : a = b := Option.some.inj (hn.symm.trans hb)
  rw [h] at hlost
  exact absurd hlost (by decide)

theorem startConditions_of_no_node (hn : s.water.pond.node = none) : s.startConditions = false := by
  refine Bool.eq_false_iff.2 fun hs => ?_
  obtain ⟨b, -, hb, -⟩ := (startConditions_iff s).1 hs
  rw [hn] at hb
  exact absurd hb (by simp)

variable {a : Nat} (hn : s.water.pond.node = some a)
include hn

theorem placeStopRun_of_node : s.placeStopRun = s.placeStop a .stop := by
  simp only [State.placeStopRun, hn]

theorem startRun_of_empty (h : s.slot? a = none) : s.startRun = (s.placeStart a .run).mapTransfer fun t =>
    { t with state := .starting, startWait := some 10, runWaiting := false } := by
  simp only [State.startRun, hn, h, Option.isNone_none, if_true, Config.startWait]

theorem startRun_of_full (h : s.slot? a ≠ none) : s.startRun = s.mapTransfer fun t =>
    { t with state := .starting, startWait := none, runWaiting := true } := by
  have : ¬ (s.slot? a).isNone = true := by simpa using h
  simp only [State.startRun, hn, if_neg this]

end

/-! ## The station's reply (R139) -/

theorem debitPond_of_within {s : State} {p : Nat}
    (h : p ≤ s.water.pond.volume ∨ s.water.transfer.state = .stopped ∨ s.water.transfer.state = .stopping) :
    s.debitPond p = s.mapPond fun x => { x with volume := x.volume - p } := by
  by_cases hp : p ≤ s.water.pond.volume
  · simp only [State.debitPond, if_pos hp]
  · have hzero : s.water.pond.volume - p = 0 := by omega
    have hempty : (s.mapPond fun x => { x with volume := x.volume - p }) = s.mapPond fun x => { x with volume := 0 } := by
      simp only [State.mapPond, hzero]
    rcases h.resolve_left hp with h | h <;> simp only [State.debitPond, if_neg hp, h, hempty]

theorem debitPond_of_beyond {s : State} {p : Nat} (hp : s.water.pond.volume < p)
    (h : s.water.transfer.state = .starting ∨ s.water.transfer.state = .running) :
    s.debitPond p = (s.mapPond fun x => { x with volume := 0 }).stopRun .pondEmpty := by
  rcases h with h | h <;> simp only [State.debitPond, if_neg (Nat.not_le.2 hp), h]

section
variable {s : State}

theorem pumpReport_of_started (h : s.water.transfer.state = .starting) : s.pumpReport true =
    s.mapTransfer fun t => { t with state := .running, startWait := none, runWaiting := false } := by
  simp only [State.pumpReport, h, if_true]

theorem pumpReport_of_halted (h : s.water.transfer.state = .running) : s.pumpReport false =
    (s.mapTransfer fun t => { t with state := .stopped, lastEnd := some .pumpStopped, holdOff := some 60 }).raiseWater := by
  simp only [State.pumpReport, h, Bool.false_eq_true, if_false, Config.holdOff]

theorem pumpReport_of_stray (h : s.water.transfer.state = .stopped) : s.pumpReport true = s.placeStopRun := by
  simp only [State.pumpReport, h, if_true]

theorem pumpReport_of_stopped (h : s.water.transfer.state = .stopping) (he : s.transferSlotEmpty = true) : s.pumpReport false =
    s.mapTransfer fun t => { t with
      state := .stopped, holdOff := if t.pendingHoldOff then some 60 else t.holdOff, pendingHoldOff := false } := by
  simp only [State.pumpReport, h, he, true_and, if_true, Config.holdOff]

theorem pumpReport_of_same {running : Bool} (h : (s.water.transfer.state = .running ∧ running = true)
    ∨ (s.water.transfer.state = .starting ∧ running = false)
    ∨ (s.water.transfer.state = .stopping ∧ (running = true ∨ s.transferSlotEmpty = false))
    ∨ (s.water.transfer.state = .stopped ∧ running = false)) : s.pumpReport running = s := by
  rcases h with ⟨h, hr⟩ | ⟨h, hr⟩ | ⟨h, hr⟩ | ⟨h, hr⟩
  · simp only [State.pumpReport, h, hr, if_true]
  · simp only [State.pumpReport, h, hr, Bool.false_eq_true, if_false]
  · have : ¬ (running = false ∧ s.transferSlotEmpty = true) := by
      rintro ⟨hf, he⟩
      rcases hr with hr | hr
      · rw [hf] at hr; exact absurd hr (by decide)
      · rw [he] at hr; exact absurd hr (by decide)
    simp only [State.pumpReport, h, if_neg this]
  · simp only [State.pumpReport, h, hr, Bool.false_eq_true, if_false]

theorem transferSlotEmpty_of_node {a : Nat} (hn : s.water.pond.node = some a) : s.transferSlotEmpty = (s.slot? a).isNone := by
  simp only [State.transferSlotEmpty, hn, Option.bind_some]

end

end Sys2Proof.Machine
end

section
set_option Elab.async false
/-! PROOFS. The commands of the pond, the run's timers, and the replies of the transfer station (R135 to R140). -/

namespace Sys2Proof.Machine

/-! ## A reply of the station in an exchange -/

theorem parseReply_transfer {a : Nat} {n : Node} (ha : a ≤ 31) (hn : n.owner = .pond) (running : Bool) (meter : Half) :
    parseReply a n.owner.kind ((NodeReply.transfer running meter.toNat).bytes a) = some (.transfer running meter.toNat) := by
  rw [hn, parseReply_bytes _ _ (by omega), if_pos ⟨rfl, rfl⟩]
  exact replyPayload_transfer running meter.isLt

theorem meterDelta_of_some {last : Nat} (h : last < 65536) (meter : Nat) :
    meterDelta (some last) meter = (meter + 65536 - last) % 65536 := by
  simp only [meterDelta, Config.two16, Nat.mod_eq_of_lt h]

/-- The state in which the reply of an exchange is handed to its owner. -/
def State.answering (s : State) (a : Nat) (rest : List Nat) : State :=
  (s.openEvent.withPhase (.between rest)).mapNode a Node.answered

theorem validReply_transfer {s : State} {a : Nat} {sent : Sent} {rest : List Nat} {n : Node} (ha : a ≤ 31)
    (hp : s.loop.phase = .exchange a sent rest) (hn : s.node? a = some n) (ho : n.owner = .pond) (running : Bool) (meter : Half)
    (hsent : sent = .poll ∨ sent = .probe) : exec (.validReply ((NodeReply.transfer running meter.toNat).bytes a)) s =
      .next ((s.answering a rest).takeTransferReply running meter.toNat n.lost) := by
  refine congrArg Host.Outcome.next ((endExchange_of_some (s := s.openEvent) hp hn
    (parseReply_transfer ha ho running meter)).trans ?_)
  have hslot : (s.answering a rest).emptySlot a n.owner sent = s.answering a rest := by
    rcases hsent with rfl | rfl <;> rfl
  rw [State.takeReply]
  refine (congrArg (fun u : State => settled (u.handOn n.owner (.transfer running meter.toNat) n.lost)) hslot).trans ?_
  rw [ho]
  exact settled_nil _

theorem takeTransferReply_of_reported {w v : State} {running rejoined : Bool} {meter p : Nat}
    (hp : meterDelta w.water.transfer.meterLast meter = p)
    (hv : ((w.mapTransfer fun t => { t with meterLast := some meter }).debitPond p).pumpReport running = v) :
    w.takeTransferReply running meter rejoined =
      if p ≠ 0 ∨ (v.water.transfer.state = .stopped ∧ w.water.transfer.state ≠ .stopped) ∨ rejoined = true
      then v.evalTransfer else v := by
  simp only [State.takeTransferReply, hp, hv, Bool.and_eq_true, beq_iff_eq, bne_iff_ne]

/-- A reply that brings the run to STOPPED from no other state is followed by an evaluation where litres were metered. -/
theorem takeTransferReply_of_unarrived {w v : State} {running : Bool} {meter p : Nat}
    (hp : meterDelta w.water.transfer.meterLast meter = p)
    (hv : ((w.mapTransfer fun t => { t with meterLast := some meter }).debitPond p).pumpReport running = v)
    (harrived : v.water.transfer.state = .stopped → w.water.transfer.state = .stopped) :
    w.takeTransferReply running meter false = if p = 0 then v else v.evalTransfer := by
  have : ¬ (v.water.transfer.state = .stopped ∧ w.water.transfer.state ≠ .stopped) := fun h => h.2 (harrived h.1)
  rw [takeTransferReply_of_reported hp hv]
  by_cases hz : p = 0
  · simp [hz, this]
  · simp [hz]

/-- A reply at which the run arrives at STOPPED is followed by an evaluation. -/
theorem takeTransferReply_of_arrived {w v : State} {running rejoined : Bool} {meter p : Nat}
    (hp : meterDelta w.water.transfer.meterLast meter = p)
    (hv : ((w.mapTransfer fun t => { t with meterLast := some meter }).debitPond p).pumpReport running = v)
    (hstopped : v.water.transfer.state = .stopped) (hwas : w.water.transfer.state ≠ .stopped ∨ rejoined = true) :
    w.takeTransferReply running meter rejoined = v.evalTransfer := by
  rw [takeTransferReply_of_reported hp hv, if_pos]
  rcases hwas with h | h
  · exact .inr (.inl ⟨hstopped, h⟩)
  · exact .inr (.inr h)

/-! ## LOAD-BASIN POND and the timers -/

theorem pondArgsOk_iff (a : PondArgs) : pondArgsOk a = true ↔ a.capacity.toNat ≠ 0 ∧ a.stopMark.toNat < a.startMark.toNat
    ∧ a.startMark.toNat ≤ a.capacity.toNat ∧ a.node.toNat ≤ 31 := by
  simp [pondArgsOk, and_assoc, toNat_eq_zero]

section
variable {s : State} {a : PondArgs}

theorem loadBasinPond_of_badArgument (h : ¬ pondArgsOk a = true) : s.loadBasinPond a = s.answer Code.loadBasin .badArgument [] := by
  simp only [State.loadBasinPond, Bool.eq_false_iff.2 h, if_true]

theorem loadBasinPond_of_duplicate (h : pondArgsOk a = true) (hd : a.node ≠ 0 ∧ s.heldByOther a.node.toNat .pond = true) :
    s.loadBasinPond a = s.answer Code.loadBasin .duplicate [] := by
  simp only [State.loadBasinPond, h, Bool.true_eq_false, if_false, if_pos hd]

theorem loadBasinPond_of_taken (h : pondArgsOk a = true) (hd : ¬ (a.node ≠ 0 ∧ s.heldByOther a.node.toNat .pond = true)) :
    s.loadBasinPond a = (s.takePond a).answer Code.loadBasin .ok (be32 (s.takePond a).water.pond.volume
      ++ be32 (s.takePond a).water.pond.spill ++ be8 (s.takePond a).water.transfer.state.code) := by
  simp only [State.loadBasinPond, h, Bool.true_eq_false, if_false, if_neg hd]

theorem takePond_of_same (h : nodeOf a.node.toNat = s.water.pond.node) :
    s.takePond a = (s.mapPond fun p => p.loaded a).evalTransfer := by
  simp only [State.takePond, if_pos h]

theorem takePond_of_other (h : nodeOf a.node.toNat ≠ s.water.pond.node) : s.takePond a =
    (((s.mapPond fun p => p.loaded a).mapTransfer Transfer.reloaded).renode s.water.pond.node
      (nodeOf a.node.toNat)).evalTransfer := by
  simp only [State.takePond, if_neg h]

end

/-- The transfer node changed: nothing but the node list, and in it the old address is free and the new one is the pond's. -/
theorem renode_spec (s : State) (old new : Option Nat) (hne : new ≠ old) : s.renode old new = { s with loop := (s.renode old new).loop }
    ∧ (∀ i, old = some i → (s.renode old new).node? i = none)
    ∧ ∀ i, new = some i → (s.renode old new).node? i = some (Node.added .pond 0) := by
  have hold : ∀ i, (s.removeNode i) = { s with loop := (s.removeNode i).loop } := fun i => removeNode_eq s i
  cases old with
  | none =>
    cases new with
    | none => exact absurd rfl hne
    | some b =>
      refine ⟨rfl, fun i h => absurd h (by simp), fun i h => ?_⟩
      obtain rfl : b = i := Option.some.inj h
      exact node_addNode_self s b 0 .pond
  | some a =>
    have hgone : (s.removeNode a).node? a = none := (node_removeNode s a a).trans (if_pos rfl)
    cases new with
    | none =>
      refine ⟨hold a, fun i h => ?_, fun i h => absurd h (by simp)⟩
      obtain rfl : a = i := Option.some.inj h
      exact hgone
    | some b =>
      have hab : a ≠ b := fun h => hne (by rw [h])
      refine ⟨?_, fun i h => ?_, fun i h => ?_⟩
      · change (s.removeNode a).addNode b .pond 0 = _
        rw [State.addNode, hold a]
        rfl
      · obtain rfl : a = i := Option.some.inj h
        exact node_addNode_none (s := s.removeNode a) hab hgone
      · obtain rfl : b = i := Option.some.inj h
        exact node_addNode_self (s.removeNode a) b 0 .pond

theorem startWaitExpiry_of_over {s : State} {a : Nat} (h : s.water.transfer.state = .starting)
    (hw : s.water.transfer.startWait = some 0) (hn : s.water.pond.node = some a) : s.startWaitExpiry =
      (((s.placeStop a .stop).mapTransfer fun t => { t with
        state := .stopping, lastEnd := some .startFailed, startWait := none, runWaiting := false
        pendingHoldOff := true })).raiseWater := by
  simp only [State.startWaitExpiry, if_pos (And.intro h hw), State.stopRun, placeStopRun_of_node hn]
  rfl

theorem startWaitExpiry_of_off {s : State} (h : s.water.transfer.state ≠ .starting ∨ s.water.transfer.startWait ≠ some 0) :
    s.startWaitExpiry = s := by
  simp only [State.startWaitExpiry, if_neg (not_and_or.2 h)]

theorem holdOffEnd_of_over {s : State} (h : s.water.transfer.state = .stopped) (hw : s.water.transfer.holdOff = some 0) :
    s.holdOffEnd = (s.mapTransfer fun t => { t with holdOff := none }).evalTransfer := by
  simp only [State.holdOffEnd, if_pos (And.intro h hw)]

theorem holdOffEnd_of_off {s : State} (h : s.water.transfer.state ≠ .stopped ∨ s.water.transfer.holdOff ≠ some 0) :
    s.holdOffEnd = s := by
  simp only [State.holdOffEnd, if_neg (not_and_or.2 h)]

/-- A credit of the pond, and the evaluation after it. -/
theorem creditPond_eq (s : State) (c : Nat) : s.creditPond c = State.evalTransfer { s with
    notices := { s.notices with flags := { s.notices.flags with
      water := s.notices.flags.water || decide (s.water.pond.excess c ≠ 0) } }
    water := { s.water with pond := s.water.pond.credited c } } := by
  unfold State.creditPond
  by_cases h : s.water.pond.excess c = 0
  · simp only [h, if_true, ne_eq, not_true_eq_false, decide_false, Bool.or_false]
    rfl
  · simp only [h, if_false, ne_eq, not_false_eq_true, decide_true, Bool.or_true]
    rfl

theorem pond_evalTransfer (s : State) : s.evalTransfer.water.pond = s.water.pond := by
  rcases evalTransfer_cases s with ⟨-, -, -, h⟩ | ⟨-, -, h⟩ | h <;> rw [h]
  · unfold State.startRun
    split
    · split <;> rfl
    · rfl
  · unfold State.stopRun State.placeStopRun
    split <;> rfl

theorem port_evalTransfer (s : State) : s.evalTransfer.port = s.port := by
  rcases evalTransfer_cases s with ⟨-, -, -, h⟩ | ⟨-, -, h⟩ | h <;> rw [h]
  · unfold State.startRun
    split
    · split <;> rfl
    · rfl
  · unfold State.stopRun State.placeStopRun
    split <;> rfl

/-- What answers after an evaluation is the evaluated state, with the reply to the port as it stood before. -/
theorem answer_evalTransfer (u : State) (x : Status) (code : Nat) (b : List Byte) :
    u.evalTransfer.answer code x b = { u.evalTransfer with port := u.replied x code b } := by
  rw [State.answer, port_evalTransfer, State.replied]

/-! ## The station's third miss (R140) -/

theorem transferLost_of_stopped {s : State} (h : s.water.transfer.state = .stopped) :
    s.transferLost = s.mapTransfer fun t => { t with meterLast := none } := by
  simp only [State.transferLost, if_pos h]

/-- A run under way ends with the loss of its station, which starts none. -/
theorem transferLost_of_running {s : State} {a : Nat} (h : s.water.transfer.state ≠ .stopped) (hn : s.water.pond.node = some a)
    (hl : s.nodeLost a = true) :
    s.transferLost = s.mapTransfer fun _ => ⟨.stopped, none, some .nodeLost, none, none, false, false⟩ := by
  simp only [State.transferLost, if_neg h]
  exact evalTransfer_of_held rfl (.inr (startConditions_of_lost (a := a) hn hl))

end Sys2Proof.Machine
end

section
set_option Elab.async false
/-! PROOFS. The pond's obligation: each command, timer, reply and miss, and the one evaluation that follows. -/

namespace Sys2Proof.Machine

theorem nodeOf_toNat (a : Byte) : nodeOf a.toNat = if a = 0 then none else some a.toNat := by
  by_cases h : a = 0
  · rw [if_pos h, h]
    rfl
  · rw [if_neg h]
    exact if_neg (mt (toNat_eq_zero a).1 h)

/-! ## The station's replies and its third miss -/

section
variable {s : State} {a : Nat} {rest : List Nat} {n : Node} {running : Bool} {meter : Half} {sent : Sent}

section
variable (ha : a ≤ 31) (hp : s.loop.phase = .exchange a sent rest) (hn : s.node? a = some n) (ho : n.owner = .pond)
  (hsent : sent = .poll ∨ sent = .probe)
include ha hp hn ho hsent

/-- A reply that finds the run in a state it leaves, or brings it from STARTING to RUNNING. -/
theorem validReply_unarrived {v : State} {litres : Nat} (hl : n.lost = false)
    (hdelta : meterDelta s.water.transfer.meterLast meter.toNat = litres)
    (hv : (((s.answering a rest).mapTransfer fun t => { t with meterLast := some meter.toNat }).debitPond litres).pumpReport
      running = v) (harrived : v.water.transfer.state = .stopped → s.water.transfer.state = .stopped) :
    exec (.validReply ((NodeReply.transfer running meter.toNat).bytes a)) s = .next (if litres = 0 then v else v.evalTransfer) := by
  rw [validReply_transfer ha hp hn ho running meter hsent, hl]
  exact congrArg Host.Outcome.next (takeTransferReply_of_unarrived (w := s.answering a rest) hdelta hv harrived)

/-- A reply at which the run arrives at STOPPED, or with which the lost station rejoins. -/
theorem validReply_arrived {v : State} {litres : Nat}
    (hdelta : meterDelta s.water.transfer.meterLast meter.toNat = litres)
    (hv : (((s.answering a rest).mapTransfer fun t => { t with meterLast := some meter.toNat }).debitPond litres).pumpReport
      running = v) (hstopped : v.water.transfer.state = .stopped) (hwas : s.water.transfer.state ≠ .stopped ∨ n.lost = true) :
    exec (.validReply ((NodeReply.transfer running meter.toNat).bytes a)) s = .next v.evalTransfer := by
  rw [validReply_transfer ha hp hn ho running meter hsent]
  exact congrArg Host.Outcome.next (takeTransferReply_of_arrived (w := s.answering a rest) hdelta hv hstopped hwas)

end

/-- STOP placed in the slot of the station that has answered. -/
theorem nodes_stopAnswered (s : State) (a : Nat) (rest : List Nat) : ((s.answering a rest).placeStop a .stop).loop.nodes =
    Table.update s.loop.nodes a fun n => { n with misses := 0, lost := false, countdown := none, slot := some .stop } :=
  Table.update_update s.loop.nodes a Node.answered fun n => { n with slot := some .stop }

theorem slot_stopAnswered (hn : s.node? a = some n) : ((s.answering a rest).placeStop a .stop).slot? a = some .stop := by
  rw [State.slot?, State.node?, nodes_stopAnswered, Table.get_update_self, show Table.get s.loop.nodes a = some n from hn]
  rfl

/-- The station that has answered a reply beyond the pond's volume: POND-EMPTY, STOP placed. -/
def State.emptied (s : State) (a : Nat) (rest : List Nat) (meter : Nat) : State := { s with
  events := s.events + 1
  loop := { s.loop with
    phase := .between rest
    nodes := Table.update s.loop.nodes a fun n => { n with
      misses := 0, lost := false, countdown := none, slot := some .stop } }
  water := { s.water with
    pond := { s.water.pond with volume := 0 }
    transfer := { s.water.transfer with
      meterLast := some meter, state := .stopping, lastEnd := some .pondEmpty, startWait := none, runWaiting := false } } }

theorem debitPond_answering {litres m : Nat} (hnode : s.water.pond.node = some a) (hbeyond : s.water.pond.volume < litres)
    (hgoing : s.water.transfer.state = .starting ∨ s.water.transfer.state = .running) :
    ((s.answering a rest).mapTransfer fun t => { t with meterLast := some m }).debitPond litres = s.emptied a rest m := by
  have hplaced := placeStopRun_of_node (s := ((s.answering a rest).mapTransfer fun t => { t with
    meterLast := some m }).mapPond fun x => { x with volume := 0 }) (a := a) hnode
  rw [debitPond_of_beyond (s := (s.answering a rest).mapTransfer fun t => { t with meterLast := some m }) hbeyond hgoing,
    State.stopRun, hplaced]
  simp only [State.emptied, State.answering, State.mapTransfer, State.mapPond, State.placeStop, State.mapNode, State.withPhase,
    State.openEvent, Table.update_update, Node.answered]

theorem validReply_beyond {litres : Nat} (ha : a ≤ 31) (hp : s.loop.phase = .exchange a .poll rest) (hn : s.node? a = some n)
    (ho : n.owner = .pond) (hdelta : meterDelta s.water.transfer.meterLast meter.toNat = litres)
    (hnode : s.water.pond.node = some a) (hbeyond : s.water.pond.volume < litres)
    (hgoing : s.water.transfer.state = .starting ∨ s.water.transfer.state = .running) :
    exec (.validReply ((NodeReply.transfer running meter.toNat).bytes a)) s = .next (s.emptied a rest meter.toNat) := by
  have hslot : (s.emptied a rest meter.toNat).slot? a = some .stop := by
    rw [State.slot?, State.node?, State.emptied, ← nodes_stopAnswered s a rest]
    exact slot_stopAnswered hn
  have hreport : (s.emptied a rest meter.toNat).pumpReport running = s.emptied a rest meter.toNat := by
    refine pumpReport_of_same (.inr (.inr (.inl ⟨rfl, .inr ?_⟩)))
    rw [transferSlotEmpty_of_node (s := s.emptied a rest meter.toNat) (a := a) hnode, hslot]
    rfl
  have hstill : (s.emptied a rest meter.toNat).evalTransfer = s.emptied a rest meter.toNat := evalTransfer_of_stopping rfl
  have htake := takeTransferReply_of_reported (w := s.answering a rest) (v := s.emptied a rest meter.toNat)
    (running := running) (rejoined := n.lost) hdelta (by rw [debitPond_answering hnode hbeyond hgoing, hreport])
  rw [hstill, ite_self] at htake
  rw [validReply_transfer ha hp hn ho running meter (.inl rfl), htake]

/-- The lost station that has answered its probe, with STOP placed where its pump runs. -/
def State.rejoining (s : State) (a : Nat) (rest : List Nat) (running : Bool) (meter : Nat) : State := { s with
  events := s.events + 1
  loop := { s.loop with
    phase := .between rest
    nodes := Table.update s.loop.nodes a fun n => { n with
      misses := 0, lost := false, countdown := none, slot := if running then some .stop else n.slot } }
  water := { s.water with transfer := { s.water.transfer with meterLast := some meter } } }

theorem pumpReport_answering {m : Nat} (hnode : s.water.pond.node = some a) (hstopped : s.water.transfer.state = .stopped) :
    (((s.answering a rest).mapTransfer fun t => { t with meterLast := some m }).debitPond 0).pumpReport running =
      s.rejoining a rest running m := by
  have hdebit := debitPond_of_within (s := (s.answering a rest).mapTransfer fun t => { t with meterLast := some m }) (p := 0)
    (.inl (Nat.zero_le _))
  rw [hdebit]
  cases running with
  | false => exact pumpReport_of_same (.inr (.inr (.inr ⟨hstopped, rfl⟩)))
  | true =>
    have hreport : ∀ w : State, w.water.transfer = { s.water.transfer with meterLast := some m } →
        w.water.pond.node = some a → w.pumpReport true = w.placeStop a .stop := fun w ht hw =>
      (pumpReport_of_stray (by rw [ht]; exact hstopped)).trans (placeStopRun_of_node hw)
    rw [hreport _ ?_ ?_]
    · simp only [State.rejoining, if_true, State.answering, State.mapTransfer, State.mapPond, State.placeStop, State.mapNode,
        State.withPhase, State.openEvent, Table.update_update, Node.answered, Nat.sub_zero]
    · rfl
    · exact hnode

theorem validReply_rejoin (ha : a ≤ 31) (hp : s.loop.phase = .exchange a .probe rest) (hn : s.node? a = some n)
    (ho : n.owner = .pond) (hl : n.lost = true) (hnode : s.water.pond.node = some a)
    (hmeter : s.water.transfer.meterLast = none) (hstopped : s.water.transfer.state = .stopped) :
    exec (.validReply ((NodeReply.transfer running meter.toNat).bytes a)) s =
      .next (s.rejoining a rest running meter.toNat).evalTransfer :=
  validReply_arrived ha hp hn ho (.inr rfl) (congrArg (meterDelta · meter.toNat) hmeter :)
    (pumpReport_answering hnode hstopped) hstopped (.inr hl)

/-- The station once its loss has been declared, and the run ended with it. -/
theorem miss_transfer (hp : s.loop.phase = .exchange a sent rest) (hn : s.node? a = some n) (ho : n.owner = .pond)
    (hl : n.lost = false) (hm : n.misses = 2) (hnode : s.water.pond.node = some a) : exec .miss s =
      .next (((s.openEvent.withPhase (.between rest)).mapNode a Node.declared).mapTransfer fun t =>
        if s.water.transfer.state = .stopped then { t with meterLast := none }
        else ⟨.stopped, none, some .nodeLost, none, none, false, false⟩) := by
  have hthird := takeMiss_of_third (s := s.openEvent.withPhase (.between rest)) (a := a) (thirdMiss_of_two hl hm)
  refine congrArg Host.Outcome.next ((endSilent_of_exchange (s := s.openEvent) hp hn).trans (hthird.trans ?_))
  rw [ho]
  refine (settled_nil _).trans ?_
  set w := (s.openEvent.withPhase (.between rest)).mapNode a Node.declared with hw
  by_cases hstopped : s.water.transfer.state = .stopped
  · rw [transferLost_of_stopped (s := w) hstopped]
    simp only [if_pos hstopped]
  · have hlost : w.nodeLost a = true := by
      rw [State.nodeLost, hw, node_mapNode_self (s := s.openEvent.withPhase (.between rest)) (f := Node.declared) hn]
      rfl
    rw [transferLost_of_running (s := w) hstopped hnode hlost]
    simp only [if_neg hstopped]

end

/-- Settles O44: the evaluation by its cases, the commands and timers that end in it, and the replies of the transfer station by
the state of the run. -/
theorem pondCommandsEvaluateTheRun : Obligations.PondCommandsEvaluateTheRun := by
  unfold Obligations.PondCommandsEvaluateTheRun
  refine ⟨fun s starts stops hstarts hstops => ⟨fun h ho hs a hn => ⟨fun hslot => ?startsEmpty, fun hslot => ?startsFull⟩,
      fun h => ?inert, fun h hs a hn => ?stops⟩,
    fun s => ⟨fun volume clear u hu => congrArg Host.Outcome.next ?setPond, fun litres hz => congrArg Host.Outcome.next ?noInflow,
      fun litres excess u hz hexcess hu => congrArg Host.Outcome.next ?inflow,
      fun a pond hpond => ⟨fun hbad => congrArg Host.Outcome.next ?badArgument, fun hcap hstop hstart hnode =>
        ⟨fun hne hd => congrArg Host.Outcome.next ?duplicate, fun hsame howner u hu => congrArg Host.Outcome.next ?same,
          fun hother hfree hshort => ?other⟩⟩,
      fun a h hw hn => congrArg Host.Outcome.next (startWaitExpiry_of_over h hw hn),
      fun h => congrArg Host.Outcome.next (startWaitExpiry_of_off h),
      fun h hw => congrArg Host.Outcome.next (holdOffEnd_of_over h hw),
      fun h => congrArg Host.Outcome.next (holdOffEnd_of_off h)⟩,
    fun a last litres rest n running meter s u ha hp hn ho hl hnode hmeter hlast hlitres hdebit hu => ?reply,
    fun a last litres rest n running meter s ha hp hn ho hnode hmeter hlast hlitres hbeyond hgoing => ?beyond,
    fun a rest n running meter s u ha hp hn ho hl hnode hmeter hstopped hu => ?rejoins,
    fun a sent rest n s hp hn ho hl hm hnode => ?miss⟩
  case startsEmpty =>
    exact (evalTransfer_of_starts h ho ((startConditions_iff s).2 (hstarts.1 hs))).trans (startRun_of_empty hn hslot)
  case startsFull =>
    exact (evalTransfer_of_starts h ho ((startConditions_iff s).2 (hstarts.1 hs))).trans (startRun_of_full hn hslot)
  case inert =>
    have hnot : ¬ starts → s.startConditions = false := fun hs =>
      Bool.eq_false_iff.2 (mt (fun h => hstarts.2 ((startConditions_iff s).1 h)) hs)
    rcases h with ⟨h, ho⟩ | h | ⟨h, hs⟩
    · exact evalTransfer_of_held h (ho.imp_right hnot)
    · exact evalTransfer_of_stopping h
    · exact evalTransfer_of_going h (Bool.eq_false_iff.2 (mt (fun h => hstops.2 ((stopConditions_iff s).1 h)) hs))
  case stops =>
    rw [evalTransfer_of_stops h ((stopConditions_iff s).2 (hstops.1 hs)), State.stopRun, placeStopRun_of_node hn]
    rfl
  case setPond =>
    subst hu
    exact answer_evalTransfer _ _ _ _
  case noInflow =>
    have hzero : litres = 0 := BitVec.eq_of_toNat_eq hz
    simp only [State.reportInflow, if_pos hzero]
    rw [Pond.excess, hz, Nat.add_zero]
    rfl
  case inflow =>
    have hne : litres ≠ 0 := fun h => hz (by rw [h]; rfl)
    have hu' : s.creditPond litres.toNat = u.evalTransfer := by
      rw [creditPond_eq, hu, hexcess]
      rfl
    simp only [State.reportInflow, if_neg hne]
    rw [hu', pond_evalTransfer, answer_evalTransfer, hexcess, hu]
    rfl
  case badArgument =>
    refine loadBasinPond_of_badArgument fun h => ?_
    obtain ⟨h1, h2, h3, h4⟩ := (pondArgsOk_iff a).1 h
    omega
  case duplicate =>
    exact loadBasinPond_of_duplicate ((pondArgsOk_iff a).2 ⟨hcap, hstop, hstart, hnode⟩)
      ⟨hne, (heldByOther_iff _ _ _).2 hd⟩
  case same =>
    have hpondNode : nodeOf a.node.toNat = pond.node := by
      rw [hpond, nodeOf_toNat]
    have hload : s.water.pond.loaded a = pond := by
      rw [hpond, Pond.loaded]
      rw [nodeOf_toNat]
      cases a.volume <;> rfl
    have htake : s.takePond a = u := by
      rw [takePond_of_same (hpondNode.trans hsame), hu, State.mapPond, hload]
    rw [loadBasinPond_of_taken ((pondArgsOk_iff a).2 ⟨hcap, hstop, hstart, hnode⟩), htake]
    · have hport : u.port = s.port := by rw [hu, port_evalTransfer]
      have hvol : u.water.pond = pond := by rw [hu, pond_evalTransfer]
      rw [State.answer, hport, hvol, State.replied]
    · rintro ⟨hne, hheld⟩
      obtain ⟨x, hx, hxo⟩ := (heldByOther_iff _ _ _).1 hheld
      exact hxo (howner hne x hx)
  case other =>
    have hpondNode : nodeOf a.node.toNat = pond.node := by
      rw [hpond, nodeOf_toNat]
    have hload : s.water.pond.loaded a = pond := by
      rw [hpond, Pond.loaded]
      rw [nodeOf_toNat]
      cases a.volume <;> rfl
    obtain ⟨hframe, hgone, hadded⟩ := renode_spec ((s.mapPond fun p => p.loaded a).mapTransfer Transfer.reloaded)
      s.water.pond.node (nodeOf a.node.toNat) (by rw [hpondNode]; exact hother)
    have htake := takePond_of_other (s := s) (a := a) (by rw [hpondNode]; exact hother)
    set v := ((s.mapPond fun p => p.loaded a).mapTransfer Transfer.reloaded).renode s.water.pond.node
      (nodeOf a.node.toNat) with hv
    have hwater : v.water = { s.water with pond := pond, transfer := s.water.transfer.reloaded } := by
      rw [hframe, ← hload]
      rfl
    have hstill : v.evalTransfer = v := by
      refine evalTransfer_of_held (by rw [hwater]; rfl) (.inr (startConditions_of_short ?_))
      rw [hwater]
      exact hshort
    rw [hstill] at htake
    refine ⟨_, congrArg Host.Outcome.next (loadBasinPond_of_taken ((pondArgsOk_iff a).2 ⟨hcap, hstop, hstart, hnode⟩) ?_), ?_, ?_,
      fun i hi => ?_, fun hne => ?_, ?_⟩
    · rintro ⟨hne, hheld⟩
      obtain ⟨x, hx, -⟩ := (heldByOther_iff _ _ _).1 hheld
      rw [hfree hne] at hx
      exact absurd hx (by simp)
    · rw [htake, hframe, ← hload]
      rfl
    · rw [htake, State.answer_water, hwater]
      rfl
    · rw [htake, node?_answer]
      exact hgone i hi
    · have hnew : nodeOf a.node.toNat = some a.node.toNat := if_neg (mt (toNat_eq_zero _).1 hne)
      rw [htake, node?_answer, hadded _ hnew]
      rfl
    · have hport : v.port = s.port := by rw [hframe]; rfl
      rw [htake, port_answer, hwater, State.replied, hport]
      rfl
  case reply =>
    have hdelta : meterDelta s.water.transfer.meterLast meter.toNat = litres := by
      rw [hlitres, hmeter, meterDelta_of_some hlast]
    have hu' : ((s.answering a rest).mapTransfer fun t => { t with meterLast := some meter.toNat }).debitPond litres = u := by
      rw [debitPond_of_within (s := (s.answering a rest).mapTransfer _) hdebit, hu]
      rfl
    have hstate : u.water.transfer.state = s.water.transfer.state := by rw [hu]
    have hpondNode : u.water.pond.node = some a := by rw [hu]; exact hnode
    have hslot : u.slot? a = n.slot := by
      have : u.node? a = some n.answered := by
        rw [hu]
        exact node_mapNode_self (s := s) (f := Node.answered) hn
      rw [State.slot?, this]
      rfl
    refine ⟨fun hs hr v hv => ?_, fun h => ?_, fun hs hr v hv => ?_, fun hs hr => ?_, fun hs hr hempty => ?_⟩
    · refine validReply_unarrived ha hp hn ho (.inl rfl) hl hdelta ?_ (by rw [hv]; simp)
      rw [hu', hr, pumpReport_of_started (hstate.trans hs), hv]
      rfl
    · refine validReply_unarrived ha hp hn ho (.inl rfl) hl hdelta ?_ (by rw [hstate]; exact id)
      rw [hu']
      refine pumpReport_of_same ?_
      rw [hstate, transferSlotEmpty_of_node hpondNode, hslot]
      simpa [← Option.ne_none_iff_isSome] using h
    · refine validReply_unarrived ha hp hn ho (.inl rfl) hl hdelta ?_ fun _ => hs
      rw [hu', hr, pumpReport_of_stray (hstate.trans hs), placeStopRun_of_node hpondNode, hv]
      rfl
    · have hreport := pumpReport_of_halted (hstate.trans hs)
      refine (validReply_arrived ha hp hn ho (.inl rfl) hdelta (by rw [hu', hr, hreport]) rfl
        (.inl fun h => absurd (hs.symm.trans h) (by decide))).trans ?_
      exact congrArg Host.Outcome.next (evalTransfer_of_held rfl (.inl (Option.some_ne_none _)))
    · have hreport := pumpReport_of_stopped (hstate.trans hs) (by
        rw [transferSlotEmpty_of_node hpondNode, hslot, hempty]
        rfl)
      refine (validReply_arrived ha hp hn ho (.inl rfl) hdelta (by rw [hu', hr, hreport]) rfl
        (.inl fun h => absurd (hs.symm.trans h) (by decide))).trans ?_
      rw [hu]
      rfl
  case beyond =>
    exact validReply_beyond ha hp hn ho (by rw [hlitres, hmeter, meterDelta_of_some hlast]) hnode hbeyond hgoing
  case rejoins =>
    rw [hu]
    exact validReply_rejoin ha hp hn ho hl hnode hmeter hstopped
  case miss =>
    have hdeclared : Node.declared = fun n : Node => { n with
        totalMisses := min 65535 (n.totalMisses + 1), misses := 0, lost := true, countdown := some 8
        slot := match n.slot with
          | some .close => some .close | some .stop => some .stop | _ => none } := by
      funext n
      exact declared_eq rfl (by cases n.slot with | none => rfl | some c => cases c <;> rfl)
    rw [miss_transfer hp hn ho hl hm hnode, hdeclared]
    rfl

end Sys2Proof.Machine
end

section
set_option Elab.async false
/-! PROOFS. The reuse tank (R125 to R129). -/

namespace Sys2Proof.Machine

theorem staleOf_eq (stale : Half) : staleOf stale = if stale = 0 then 120 else stale.toNat := rfl

theorem tankArgsOk_iff {node : Byte} {a : TankArgs} {k : TankConfig} (hk : k = tankConfigOf node a) : tankArgsOk a = true ↔
    ¬ (k.capacity = 0 ∨ k.capacity < k.high ∨ k.high < k.low + 2 * k.hysteresis ∨ k.turbidityLimit = 0
      ∨ k.stale < 10 ∨ 600 < k.stale) := by
  have hstale : staleArgOk a.stale = true ↔ ¬ (staleOf a.stale < 10 ∨ 600 < staleOf a.stale) := by
    rw [staleOf_eq]
    by_cases h : a.stale = 0
    · rw [if_pos h, h]
      decide
    · rw [if_neg h, staleArgOk, beq_false_of_ne h, Bool.false_or]
      simp [within]
  simp [tankArgsOk, hstale, hk, tankConfigOf, and_assoc, toNat_eq_zero]

section
variable {s : State} {node : Byte} {a : TankArgs}

theorem loadBasinTank_of_badNode (h : 31 < node.toNat) : s.loadBasinTank node a = s.answer Code.loadBasin .badArgument [] := by
  simp only [State.loadBasinTank, if_pos h]

theorem loadBasinTank_of_unload (h : node = 0) : s.loadBasinTank node a = s.unloadTank.answer Code.loadBasin .ok [] := by
  have : ¬ 31 < node.toNat := by rw [h]; decide
  simp only [State.loadBasinTank, if_neg this, if_pos h]

variable (hrange : ¬ 31 < node.toNat) (hne : node ≠ 0)
include hrange hne

theorem loadBasinTank_of_badArgument (h : ¬ tankArgsOk a = true) :
    s.loadBasinTank node a = s.answer Code.loadBasin .badArgument [] := by
  simp only [State.loadBasinTank, if_neg hrange, if_neg hne, Bool.eq_false_iff.2 h, if_true]

theorem loadBasinTank_of_duplicate (h : tankArgsOk a = true) (hd : s.heldByOther node.toNat .tank = true) :
    s.loadBasinTank node a = s.answer Code.loadBasin .duplicate [] := by
  simp only [State.loadBasinTank, if_neg hrange, if_neg hne, h, Bool.true_eq_false, if_false, hd, if_true]

theorem loadBasinTank_of_taken (h : tankArgsOk a = true) (hd : ¬ s.heldByOther node.toNat .tank = true) :
    s.loadBasinTank node a = (s.takeTank (tankConfigOf node a)).answer Code.loadBasin .ok [] := by
  simp only [State.loadBasinTank, if_neg hrange, if_neg hne, h, Bool.true_eq_false, if_false, if_neg hd]

end

/-! ## Loading, moving and unloading -/

section
variable {s : State} {k : TankConfig}

theorem takeTank_of_none (h : s.water.tank = none) :
    s.takeTank k = ((s.withTank (Tank.loaded k)).addNode k.node .tank 0).evalTransfer := by
  simp only [State.takeTank, h]

theorem takeTank_of_same {w : Tank} (h : s.water.tank = some w) (hk : k.node = w.config.node) :
    s.takeTank k = (s.retank w (w.reconfigured k)).staleGauge.occasion.evalTransfer := by
  simp only [State.takeTank, h, if_pos hk]

theorem takeTank_of_moved {w : Tank} (h : s.water.tank = some w) (hk : k.node ≠ w.config.node) :
    s.takeTank k = (((s.withTank (Tank.loaded k)).removeNode w.config.node).addNode k.node .tank 0).evalTransfer := by
  simp only [State.takeTank, h, if_neg hk]

theorem unloadTank_of_none (h : s.water.tank = none) : s.unloadTank = s.evalTransfer := by
  simp only [State.unloadTank, h]

theorem unloadTank_of_some {w : Tank} (h : s.water.tank = some w) :
    s.unloadTank = (s.noTank.removeNode w.config.node).evalTransfer := by
  simp only [State.unloadTank, h]

theorem stopConditions_of_ungauged (h : ∀ w, s.water.tank = some w → w.fresh = false) : s.stopConditions = true :=
  (stopConditions_iff s).2 (.inr fun w hw => .inr (h w hw))

/-- Where the tank is not gauged, the evaluation starts no run, and stops one that is under way. -/
theorem evalTransfer_of_ungauged (h : ∀ w, s.water.tank = some w → w.fresh = false) :
    ((s.water.transfer.state = .stopped ∨ s.water.transfer.state = .stopping) → s.evalTransfer = s)
      ∧ ((s.water.transfer.state = .starting ∨ s.water.transfer.state = .running) →
        s.evalTransfer = s.stopRun .stopCondition) := by
  refine ⟨fun hs => ?_, fun hs => evalTransfer_of_stops hs (stopConditions_of_ungauged h)⟩
  rcases hs with hs | hs
  · exact evalTransfer_of_held hs (.inr (startConditions_of_ungauged h))
  · exact evalTransfer_of_stopping hs

end

theorem stopRun_frame (s : State) (e : RunEnd) : s.stopRun e = { s with
    loop := { s.loop with nodes := (s.stopRun e).loop.nodes }
    water := { s.water with transfer := { s.water.transfer with
      state := .stopping, lastEnd := some e, startWait := none, runWaiting := false } } } := by
  unfold State.stopRun State.placeStopRun
  split <;> rfl

/-- A node of the list after STOP has been placed for the run. -/
theorem node_stopRun (s : State) (e : RunEnd) (a : Nat) : (s.stopRun e).node? a =
    if s.water.pond.node = some a then (s.node? a).map fun n => { n with slot := some .stop } else s.node? a := by
  cases h : s.water.pond.node with
  | none =>
    have : s.stopRun e = s.mapTransfer fun t => { t with
        state := .stopping, lastEnd := some e, startWait := none, runWaiting := false } := by
      simp only [State.stopRun, State.placeStopRun, h]
    rw [this]
    simp
    rfl
  | some b =>
    have : s.stopRun e = (s.placeStop b .stop).mapTransfer fun t => { t with
        state := .stopping, lastEnd := some e, startWait := none, runWaiting := false } := by
      simp only [State.stopRun, State.placeStopRun, h]
    rw [this]
    refine (node_mapNode s b a fun n => { n with slot := some .stop }).trans ?_
    by_cases hb : a = b
    · rw [if_pos hb, if_pos (by rw [hb])]
    · rw [if_neg hb, if_neg (fun h => hb (Option.some.inj h).symm)]

/-- A node the run's evaluation leaves but for its slot. -/
theorem node_evalTransfer (s : State) (a : Nat) : ∃ f : Option LoopCommand → Option LoopCommand,
    s.evalTransfer.node? a = (s.node? a).map fun n => { n with slot := f n.slot } := by
  have hid : (s.node? a).map (fun n => { n with slot := n.slot }) = s.node? a := by
    cases s.node? a <;> rfl
  rcases evalTransfer_cases s with ⟨-, -, -, h⟩ | ⟨-, -, h⟩ | h <;> rw [h]
  · cases hn : s.water.pond.node with
    | none => exact ⟨id, by simp only [State.startRun, hn]; exact hid.symm⟩
    | some b =>
      by_cases hs : s.slot? b = none
      · rw [startRun_of_empty hn hs]
        refine ⟨if a = b then (fun c => if c.isNone then some .run else c) else id, ?_⟩
        refine (node_mapNode s b a _).trans ?_
        by_cases hab : a = b
        · rw [if_pos hab, if_pos hab]
          congr 1
          funext n
          split <;> rfl
        · rw [if_neg hab, if_neg hab]
          exact hid.symm
      · rw [startRun_of_full hn hs]
        exact ⟨id, hid.symm⟩
  · rw [node_stopRun]
    by_cases hp : s.water.pond.node = some a
    · rw [if_pos hp]
      exact ⟨fun _ => some .stop, rfl⟩
    · rw [if_neg hp]
      exact ⟨id, hid.symm⟩
  · exact ⟨id, hid.symm⟩

/-! ## Readings and staleness -/

theorem marked_nearEmpty (t : Tank) (l : Nat) : (t.marked l).nearEmpty = true ↔
    l < t.config.low ∨ (t.nearEmpty = true ∧ l < t.config.low + t.config.hysteresis) := by
  rw [Tank.marked, nearEmptyNext]
  cases t.nearEmpty <;> simp
  omega

theorem marked_nearFull (t : Tank) (l : Nat) : (t.marked l).nearFull = true ↔
    t.config.high < l ∨ (t.nearFull = true ∧ t.config.high < l + t.config.hysteresis) := by
  rw [Tank.marked, nearFullNext]
  cases t.nearFull <;> simp
  omega

theorem staleGauge_of_some {s : State} {w : Tank} (h : s.water.tank = some w) : s.staleGauge =
    if w.overdue then (s.withTank { w with fresh := false, qualityCount := 0 }).raiseWater.evalTransfer else s := by
  simp only [State.staleGauge, h]

theorem overdue_iff (w : Tank) : w.overdue = true ↔ w.fresh = true ∧ w.config.stale ≤ w.age.getD 0 := by
  simp [Tank.overdue]

theorem tank_evalTransfer (s : State) : s.evalTransfer.water.tank = s.water.tank := by
  rcases evalTransfer_cases s with ⟨-, -, -, h⟩ | ⟨-, -, h⟩ | h <;> rw [h]
  · unfold State.startRun
    split
    · split <;> rfl
    · rfl
  · rw [stopRun_frame]

/-- What the evaluation of the run leaves: everything but the transfer record and the slots of the node list. -/
theorem evalTransfer_frame (s : State) : s.evalTransfer = { s with
    loop := { s.loop with nodes := s.evalTransfer.loop.nodes }
    water := { s.water with transfer := s.evalTransfer.water.transfer } } := by
  rcases evalTransfer_cases s with ⟨-, -, -, h⟩ | ⟨-, -, h⟩ | h
  · rw [h]
    unfold State.startRun
    split
    · split <;> rfl
    · rfl
  · rw [h, stopRun_frame]
  · rw [h]

/-- A gauge reply in an exchange. -/
theorem parseReply_gauge {a : Nat} {n : Node} (ha : a ≤ 31) (hn : n.owner = .tank) (level : Half) (turbidity : Byte) (alarm : Bool) :
    parseReply a n.owner.kind ((NodeReply.gauge level.toNat turbidity.toNat alarm).bytes a)
      = some (.gauge level.toNat turbidity.toNat alarm) := by
  rw [hn, parseReply_bytes _ _ (by omega), if_pos ⟨rfl, rfl⟩]
  exact replyPayload_gauge alarm level.isLt turbidity.isLt

theorem validReply_gauge {s : State} {a : Nat} {rest : List Nat} {n : Node} {w : Tank} (ha : a ≤ 31)
    (hp : s.loop.phase = .exchange a .poll rest) (hn : s.node? a = some n) (ho : n.owner = .tank) (hw : s.water.tank = some w)
    (level : Half) (turbidity : Byte) (alarm : Bool) :
    exec (.validReply ((NodeReply.gauge level.toNat turbidity.toNat alarm).bytes a)) s =
      .next ((s.answering a rest).retank w (w.read level.toNat turbidity.toNat alarm)).occasion.evalTransfer := by
  refine congrArg Host.Outcome.next ((endExchange_of_some (s := s.openEvent) hp hn
    (parseReply_gauge ha ho level turbidity alarm)).trans ?_)
  rw [State.takeReply, ho]
  refine (settled_nil _).trans ?_
  have htank : (s.answering a rest).water.tank = some w := hw
  change (s.answering a rest).takeReading level.toNat turbidity.toNat alarm = _
  simp only [State.takeReading, htank]

/-- A tank's record replaced: the record, the notice, and the reports. -/
theorem retank_eq (s : State) (t u : Tank) : s.retank t u = { s with
    water := { s.water with tank := some u }, dispatch := { s.dispatch with due := s.dispatch.due + t.reports u }
    notices := { s.notices with flags := { s.notices.flags with water := s.notices.flags.water || t.noticed u } } } := by
  unfold State.retank
  cases h : t.noticed u
  · simp only [Bool.false_eq_true, if_false, Bool.or_false]
    rfl
  · simp only [if_true, Bool.or_true]
    rfl

end Sys2Proof.Machine
end

section
set_option Elab.async false
/-! PROOFS. The tank's obligation. -/

namespace Sys2Proof.Machine

/-- The quality hold after a reading that does not speak for a change, or that does (R128). -/
theorem qualityNext_of_same {limit turbidity count : Nat} {on : Bool} (h : turbidity ≤ limit ↔ on = false) :
    qualityNext limit turbidity on count = (on, 0) := by
  cases on <;> simp_all [qualityNext]

theorem qualityNext_of_toward {limit turbidity count : Nat} {on : Bool} (h : ¬ (turbidity ≤ limit ↔ on = false)) :
    qualityNext limit turbidity on count = if count = 0 then (on, 1) else (!on, 0) := by
  cases on <;> simp_all [qualityNext]

/-- The tank loaded anew at a free address: not gauged, so the run is stopped where one is under way. -/
theorem moved_spec {s v : State} {k : TankConfig} (hv : v = { s with
      loop := v.loop, water := { s.water with tank := some (Tank.loaded k) } }) :
    v.evalTransfer = { s with
        loop := v.evalTransfer.loop
        water := { s.water with tank := some (Tank.loaded k), transfer := v.evalTransfer.water.transfer } }
      ∧ ((s.water.transfer.state = .stopped ∨ s.water.transfer.state = .stopping) → v.evalTransfer = v)
      ∧ ((s.water.transfer.state = .starting ∨ s.water.transfer.state = .running) →
        v.evalTransfer.water.transfer = { s.water.transfer with
          state := .stopping, lastEnd := some .stopCondition, startWait := none, runWaiting := false }) := by
  have hungauged : ∀ w, v.water.tank = some w → w.fresh = false := fun w hw => by
    rw [hv] at hw
    rw [← Option.some.inj hw]
    rfl
  have hstate : v.water.transfer = s.water.transfer := by rw [hv]
  obtain ⟨hstill, hstops⟩ := evalTransfer_of_ungauged hungauged
  rw [hstate] at hstill hstops
  refine ⟨?_, hstill, fun h => ?_⟩
  · have hframe := evalTransfer_frame v
    have hloop : v.evalTransfer.loop = { v.loop with nodes := v.evalTransfer.loop.nodes } := congrArg State.loop hframe
    refine hframe.trans ?_
    rw [← hloop]
    generalize v.evalTransfer = t
    rw [hv]
  · rw [hstops h, stopRun_frame, hstate]

/-- The tank after its stale limit has been looked at. -/
def Tank.aged (w : Tank) : Tank := if w.overdue then { w with fresh := false, qualityCount := 0 } else w

theorem evalTransfer_loop_water (s : State) : s.evalTransfer = { s with
    loop := s.evalTransfer.loop, water := s.evalTransfer.water } := by
  have h := evalTransfer_frame s
  have hloop : s.evalTransfer.loop = { s.loop with nodes := s.evalTransfer.loop.nodes } := congrArg State.loop h
  have hwater : s.evalTransfer.water = { s.water with transfer := s.evalTransfer.water.transfer } := congrArg State.water h
  refine h.trans ?_
  rw [← hloop, ← hwater]

theorem staleGauge_spec {s : State} {w : Tank} (h : s.water.tank = some w) : s.staleGauge.water.tank = some w.aged
    ∧ s.staleGauge = { s with
      loop := s.staleGauge.loop, water := s.staleGauge.water, notices := s.staleGauge.notices } := by
  rw [staleGauge_of_some h, Tank.aged]
  split
  · rw [tank_evalTransfer]
    have hframe := evalTransfer_loop_water (s.withTank { w with fresh := false, qualityCount := 0 }).raiseWater
    refine ⟨rfl, hframe.trans ?_⟩
    have hnotices : (s.withTank { w with fresh := false, qualityCount := 0 }).raiseWater.evalTransfer.notices
        = (s.withTank { w with fresh := false, qualityCount := 0 }).raiseWater.notices := by
      rw [hframe]
    rw [hnotices]
    rfl
  · exact ⟨h, rfl⟩

theorem reconfigured_eq (w : Tank) (k : TankConfig) : w.reconfigured k = { w with
    config := k, nearEmpty := (w.reconfigured k).nearEmpty, nearFull := (w.reconfigured k).nearFull } := by
  unfold Tank.reconfigured
  cases w.reading <;> rfl

theorem reconfigured_of_read {w : Tank} {r : Reading} (h : w.reading = some r) (k : TankConfig) :
    w.reconfigured k = ({ w with config := k } : Tank).marked r.level := by
  simp only [Tank.reconfigured, h]

theorem reconfigured_of_unread {w : Tank} (h : w.reading = none) (k : TankConfig) :
    w.reconfigured k = { w with config := k } := by
  simp only [Tank.reconfigured, h]

/-- A tank's level flags after a new configuration, and its staleness. -/
theorem aged_reconfigured (w : Tank) (k : TankConfig) (late : Bool) (hlate : late = (w.fresh && decide (k.stale ≤ w.age.getD 0))) :
    (w.reconfigured k).aged = { w with
      config := k, nearEmpty := (w.reconfigured k).aged.nearEmpty, nearFull := (w.reconfigured k).aged.nearFull
      fresh := w.fresh && !late, qualityCount := if late then 0 else w.qualityCount } := by
  have hover : (w.reconfigured k).overdue = late := by
    rw [reconfigured_eq, hlate]
    rfl
  rw [Tank.aged, hover]
  cases hl : late with
  | true =>
    rw [reconfigured_eq]
    simp
  | false =>
    rw [reconfigured_eq]
    simp

theorem marks_aged (w : Tank) : w.aged.nearEmpty = w.nearEmpty ∧ w.aged.nearFull = w.nearFull := by
  unfold Tank.aged
  split <;> exact ⟨rfl, rfl⟩

/-- What a new configuration leaves of the yard but for the water, the loop and the notices. -/
theorem takeTank_same_spec {s : State} {w : Tank} {k : TankConfig} (hw : s.water.tank = some w) (hk : k.node = w.config.node) :
    (s.takeTank k).water.tank = some (w.reconfigured k).aged ∧ (s.takeTank k).port = s.port ∧ (s.takeTank k).clock = s.clock
      ∧ (s.takeTank k).piles = s.piles ∧ (s.takeTank k).cannons = s.cannons ∧ (s.takeTank k).wind = s.wind := by
  obtain ⟨htank, hframe⟩ := staleGauge_spec (s := s.retank w (w.reconfigured k)) (w := w.reconfigured k) (by rw [retank_eq])
  have hretank := retank_eq s w (w.reconfigured k)
  rw [takeTank_of_same hw hk]
  generalize s.retank w (w.reconfigured k) = u at *
  have hlast := evalTransfer_loop_water u.staleGauge.occasion
  refine ⟨(tank_evalTransfer _).trans htank, ?_, ?_, ?_, ?_, ?_⟩
  · exact (congrArg State.port hlast :).trans ((congrArg State.port hframe :).trans (congrArg State.port hretank :))
  · exact (congrArg State.clock hlast :).trans ((congrArg State.clock hframe :).trans (congrArg State.clock hretank :))
  · exact (congrArg State.piles hlast :).trans ((congrArg State.piles hframe :).trans (congrArg State.piles hretank :))
  · exact (congrArg State.cannons hlast :).trans ((congrArg State.cannons hframe :).trans (congrArg State.cannons hretank :))
  · exact (congrArg State.wind hlast :).trans ((congrArg State.wind hframe :).trans (congrArg State.wind hretank :))

/-- Settles O43: LOAD-BASIN TANK by whether a tank is loaded and where, the stale expiry, and a reading. -/
theorem tankLoadsReadsAndGoesStale : Obligations.TankLoadsReadsAndGoesStale := by
  unfold Obligations.TankLoadsReadsAndGoesStale
  intro node a bad k s hk hbad
  have hk : k = tankConfigOf node a := hk
  have hknode : k.node = node.toNat := by rw [hk]; rfl
  have hok : ¬ bad → tankArgsOk a = true := fun h => (tankArgsOk_iff hk).2 (mt hbad.2 h)
  refine ⟨fun h => congrArg Host.Outcome.next ?badArgument, fun hrange hne hgood =>
      ⟨fun hd => congrArg Host.Outcome.next ?duplicate, fun hfree htank hrun => ?loads, fun w hw hsame howner => ?reconfigured⟩,
    fun hrange hne hgood hfree w hw hother => ?moves, fun hzero htank hrun => congrArg Host.Outcome.next ?nothing,
    fun hzero w hw => ?unloads, fun h => congrArg Host.Outcome.next ?onTime, fun w hw hfresh hlate => ?late,
    fun i rest n w level turbidity alarm hi hp hn ho hw hnode hrun => ?reading⟩
  case badArgument =>
    rcases h with h | ⟨hne, h⟩
    · exact loadBasinTank_of_badNode h
    · by_cases hrange : 31 < node.toNat
      · exact loadBasinTank_of_badNode hrange
      · exact loadBasinTank_of_badArgument hrange hne fun hok => (tankArgsOk_iff hk).1 hok (hbad.1 h)
  case duplicate =>
    exact loadBasinTank_of_duplicate (Nat.not_lt.2 hrange) hne (hok hgood) ((heldByOther_iff _ _ _).2 hd)
  case loads =>
    have hheld : ¬ s.heldByOther node.toNat .tank = true := fun h => by
      obtain ⟨x, hx, -⟩ := (heldByOther_iff _ _ _).1 h
      rw [hfree] at hx
      exact absurd hx (by simp)
    have htake := takeTank_of_none (s := s) (k := k) htank
    obtain ⟨hframe, hstill, -⟩ := moved_spec (s := s) (k := k) (v := (s.withTank (Tank.loaded k)).addNode k.node .tank 0) rfl
    rw [hstill (.inl hrun)] at htake
    have hexec := loadBasinTank_of_taken (Nat.not_lt.2 hrange) hne (hok hgood) hheld
    rw [← hk, htake] at hexec
    refine ⟨_, congrArg Host.Outcome.next hexec, rfl, ?_⟩
    rw [node?_answer, ← hknode, node_addNode_self]
    rfl
  case reconfigured =>
    have hheld : ¬ s.heldByOther node.toNat .tank = true := fun h => by
      obtain ⟨x, hx, hxo⟩ := (heldByOther_iff _ _ _).1 h
      exact hxo (howner x hx)
    have hexec := loadBasinTank_of_taken (Nat.not_lt.2 hrange) hne (hok hgood) hheld
    rw [← hk] at hexec
    obtain ⟨htank, hport, hclock, hpiles, hcannons, hwind⟩ := takeTank_same_spec (s := s) (k := k) hw (by rw [hknode, hsame])
    obtain ⟨hmarkedEmpty, hmarkedFull⟩ := marks_aged (w.reconfigured k)
    refine ⟨_, (w.reconfigured k).aged, _, congrArg Host.Outcome.next hexec, ?_, htank, rfl, aged_reconfigured w k _ rfl,
      fun h => ?_, fun r hr => ?_, hclock, hpiles, hcannons, hwind⟩
    · rw [port_answer, State.replied, hport]
      rfl
    · rw [hmarkedEmpty, hmarkedFull, reconfigured_of_unread h]
      exact ⟨rfl, rfl⟩
    · rw [hmarkedEmpty, hmarkedFull, reconfigured_of_read hr]
      exact ⟨marked_nearEmpty _ _, marked_nearFull _ _⟩
  case moves =>
    have hheld : ¬ s.heldByOther node.toNat .tank = true := fun h => by
      obtain ⟨x, hx, -⟩ := (heldByOther_iff _ _ _).1 h
      rw [hfree] at hx
      exact absurd hx (by simp)
    have htake := takeTank_of_moved (s := s) (k := k) hw (by rw [hknode]; exact Ne.symm hother)
    have hexec := loadBasinTank_of_taken (Nat.not_lt.2 hrange) hne (hok hgood) hheld
    rw [← hk, htake] at hexec
    set u := (s.withTank (Tank.loaded k)).removeNode w.config.node with hu
    have hremoved : u = { s.withTank (Tank.loaded k) with loop := u.loop } := removeNode_eq _ _
    have hgone : u.node? w.config.node = none := (node_removeNode _ _ _).trans (if_pos rfl)
    set v := u.addNode k.node .tank 0 with hv
    have hadded : v = { s with loop := v.loop, water := { s.water with tank := some (Tank.loaded k) } } := by
      rw [hv, State.addNode, hremoved]
      rfl
    obtain ⟨hframe, hstill, hstops⟩ := moved_spec hadded
    have hmissing : v.node? w.config.node = none := by
      rw [hv, hknode]
      exact node_addNode_none hother hgone
    refine ⟨_, congrArg Host.Outcome.next hexec, ?_, ?_, ?_, fun h => ?_, fun h => ?_⟩
    · rw [hframe]
      rfl
    · rw [node?_answer]
      obtain ⟨f, hf⟩ := node_evalTransfer v w.config.node
      rw [hf, hmissing]
      rfl
    · rw [node?_answer]
      obtain ⟨f, hf⟩ := node_evalTransfer v node.toNat
      rw [hf, hv, ← hknode, node_addNode_self]
      rfl
    · rw [State.answer_water, hstill h, hadded]
    · rw [State.answer_water, hstops h]
  case nothing =>
    obtain ⟨hstill, -⟩ := evalTransfer_of_ungauged (s := s) fun w hw => absurd (htank.symm.trans hw) (by simp)
    rw [loadBasinTank_of_unload hzero, unloadTank_of_none htank, hstill (.inl hrun)]
    rfl
  case unloads =>
    have hexec := loadBasinTank_of_unload (s := s) (a := a) hzero
    rw [unloadTank_of_some hw] at hexec
    set u := s.noTank.removeNode w.config.node with hu
    have hremoved : u = { s.noTank with loop := u.loop } := removeNode_eq _ _
    have hgone : u.node? w.config.node = none := (node_removeNode _ _ _).trans (if_pos rfl)
    refine ⟨_, congrArg Host.Outcome.next hexec, ?_, ?_, ?_, ?_, ?_, ?_⟩
    · rw [State.answer_water, tank_evalTransfer, hremoved]
      rfl
    · rw [node?_answer]
      obtain ⟨f, hf⟩ := node_evalTransfer u w.config.node
      rw [hf, hgone]
      rfl
    · rw [answer_evalTransfer, hremoved]
      rfl
    · rw [answer_evalTransfer, evalTransfer_frame, hremoved]
      rfl
    · rw [answer_evalTransfer, evalTransfer_frame, hremoved]
      rfl
    · rw [answer_evalTransfer, evalTransfer_frame, hremoved]
      rfl
  case onTime =>
    cases hw : s.water.tank with
    | none => simp only [State.staleGauge, hw]
    | some w =>
      rw [staleGauge_of_some hw, if_neg]
      rw [overdue_iff]
      rintro ⟨hf, hle⟩
      rcases h w hw with h | h
      · rw [hf] at h
        exact absurd h (by decide)
      · omega
  case late =>
    have hexec : exec .gaugeStaleExpiry s = .next s.staleGauge := rfl
    rw [staleGauge_of_some hw, if_pos ((overdue_iff w).2 ⟨hfresh, hlate⟩)] at hexec
    set u := (s.withTank { w with fresh := false, qualityCount := 0 }).raiseWater with hu
    obtain ⟨hstill, hstops⟩ := evalTransfer_of_ungauged (s := u) fun x hx => by
      rw [← Option.some.inj hx]
    refine ⟨_, hexec, ?_, fun h => ?_, fun h => ⟨?_, fun i n hi hn => ?_⟩⟩
    · rw [evalTransfer_frame]
      rfl
    · rw [hstill h]
      exact ⟨rfl, rfl⟩
    · rw [hstops h, stopRun_frame]
      rfl
    · rw [hstops h, node_stopRun, if_pos (show u.water.pond.node = some i from hi), show u.node? i = some n from hn]
      rfl
  case reading =>
    have hexec := validReply_gauge hi hp hn ho hw level turbidity alarm
    have hstill : ((s.answering i rest).retank w (w.read level.toNat turbidity.toNat alarm)).occasion.evalTransfer
        = ((s.answering i rest).retank w (w.read level.toNat turbidity.toNat alarm)).occasion := by
      rw [retank_eq]
      exact evalTransfer_of_held hrun (.inr (startConditions_of_no_node hnode))
    rw [hstill, retank_eq] at hexec
    have hempty := marked_nearEmpty w (min level.toNat w.config.capacity)
    have hfull := marked_nearFull w (min level.toNat w.config.capacity)
    refine ⟨_, w.read level.toNat turbidity.toNat alarm, min level.toNat w.config.capacity, hexec, rfl, rfl, rfl, fun h => ?_,
      fun h => ?_, fun h => ?_, fun h => ?_, fun h => ?_, fun h => ⟨fun hc => ?_, fun hc => ?_⟩, ?_, ?_, rfl⟩
    · exact hempty.trans (by simp [h])
    · refine (Bool.not_eq_true _).symm.to_iff.trans ((not_congr hempty).trans ?_)
      simp [h]
      omega
    · exact hfull.trans (by simp [h])
    · refine (Bool.not_eq_true _).symm.to_iff.trans ((not_congr hfull).trans ?_)
      simp [h]
      omega
    · have := qualityNext_of_same (count := w.qualityCount) h
      exact ⟨congrArg Prod.fst this, congrArg Prod.snd this⟩
    · have := qualityNext_of_toward (count := w.qualityCount) h
      rw [if_pos hc] at this
      exact ⟨congrArg Prod.fst this, congrArg Prod.snd this⟩
    · have := qualityNext_of_toward (count := w.qualityCount) h
      rw [if_neg (by rw [hc]; decide)] at this
      exact ⟨congrArg Prod.fst this, congrArg Prod.snd this⟩
    · simp only [Bool.or_assoc]
      refine congrArg (fun b => { s.notices with flags := { s.notices.flags with water := s.notices.flags.water || b } }) ?_
      exact Bool.or_assoc _ _ _
    · exact Nat.lt_succ_of_le (Nat.le_add_right _ _)

end Sys2Proof.Machine
end

section
set_option Elab.async false
/-! PROOFS. A reply that falls to a pass: what it meters, and what it sets going (R104, R107, R108, R110, R114). -/

namespace Sys2Proof.Machine

/-! ## Changes to one cannon, one order and one node -/

theorem keys_update {α : Type} (t : Table α) (k : Nat) (f : α → α) : (Table.update t k f).map Prod.fst = t.map Prod.fst := by
  rw [Table.update, List.map_map]
  refine List.map_congr_left fun e _ => ?_
  by_cases h : e.1 = k <;> simp [h]

/-- A table of one key is the entry found at it. -/
theorem eq_single_of_keys {α : Type} {t : Table α} {k : Nat} {e : α} (hk : t.map Prod.fst = [k]) (he : Table.get t k = some e) :
    t = [(k, e)] := by
  obtain ⟨x, rfl, rfl⟩ := List.map_eq_singleton_iff.1 hk
  obtain rfl : x.2 = e := by simpa [Table.get] using he
  rfl

/-- A state differs from another in the entry of one cannon, the record of one order and the entry of one node alone, the
FRESH litres committed being the same. -/
structure State.Nudges (a k id : Nat) (s t : State) : Prop where
  frame : t = { s with
    cannons := t.cannons, dispatch := { s.dispatch with orders := t.dispatch.orders }
    loop := { s.loop with nodes := t.loop.nodes } }
  cannons : ∀ i, i ≠ k → t.cannon? i = s.cannon? i
  orders : ∀ i, i ≠ id → t.order? i = s.order? i
  nodes : ∀ i, i ≠ a → t.node? i = s.node? i
  account : t.committed .fresh = s.committed .fresh
  keys : t.cannons.map Prod.fst = s.cannons.map Prod.fst

namespace State.Nudges
variable {a k id : Nat} {s t u : State}

theorem refl (s : State) : Nudges a k id s s := ⟨rfl, fun _ _ => rfl, fun _ _ => rfl, fun _ _ => rfl, rfl, rfl⟩

theorem trans (h : Nudges a k id s t) (h' : Nudges a k id t u) : Nudges a k id s u where
  frame := by
    have := h'.frame
    rw [h.frame] at this
    exact this
  cannons i hi := (h'.cannons i hi).trans (h.cannons i hi)
  orders i hi := (h'.orders i hi).trans (h.orders i hi)
  nodes i hi := (h'.nodes i hi).trans (h.nodes i hi)
  account := h'.account.trans h.account
  keys := h'.keys.trans h.keys

theorem mapCannon (h : Nudges a k id s t) (f : Cannon → Cannon) : Nudges a k id s (t.mapCannon k f) :=
  h.trans ⟨rfl, fun _ hi => cannon_mapCannon_of_ne hi, fun _ _ => rfl, fun _ _ => rfl, rfl, keys_update _ _ _⟩

theorem mapNode (h : Nudges a k id s t) (f : Node → Node) : Nudges a k id s (t.mapNode a f) :=
  h.trans ⟨rfl, fun _ _ => rfl, fun _ _ => rfl, fun _ hi => node_mapNode_of_ne hi, rfl, rfl⟩

theorem mapPass (h : Nudges a k id s t) {f : Pass → Pass}
    (hf : ∀ p : Pass, (f p).header = p.header ∧ (f p).reservation = p.reservation ∧ (f p).delivered = p.delivered) :
    Nudges a k id s (t.mapOrder id fun o => o.mapPass f) := by
  refine h.trans ⟨rfl, fun _ _ => rfl, fun _ hi => order?_mapOrder_of_ne (f := fun o => o.mapPass f) (fun _ => rfl) hi,
    fun _ _ => rfl, ?_, rfl⟩
  have hsame : ∀ o : Order, committedOf .fresh (if o.id = id then o.mapPass f else o) = committedOf .fresh o := fun o => by
    split_ifs
    · cases hs : o.state <;> cases hp : o.pass <;> simp [committedOf, Order.mapPass, hs, hp, hf]
    · rfl
  change ((t.dispatch.orders.map _).map _).sum = _
  rw [List.map_map]
  exact congrArg List.sum (List.map_congr_left fun o _ => hsame o)

theorem freshAvailable_eq (h : Nudges a k id s t) : t.freshAvailable = s.freshAvailable := by
  have hwater : t.water = s.water := (congrArg State.water h.frame :)
  rw [State.freshAvailable, State.freshAvailable, h.account, hwater]

end State.Nudges

/-! ## The litres of a reply (R104, steps 1 to 3) -/

/-- A pass after a reply of its cannon: opened by it, fed by it, or neither. -/
def Pass.replied (p : Pass) (c : Cannon) (r : NodeReport) (litres : Nat) : Pass :=
  if c.opens r then Pass.fed { p with meterStart := c.meterLast, state := .spraying } litres
  else if p.meterStart.isSome then p.fed litres else p

/-- The cannon of a pass after a reply, before the report is acted on. -/
def Cannon.replied (c : Cannon) (p : Pass) (r : NodeReport) (meter litres : Nat) : Cannon :=
  if c.opens r then { c with report := some r, meterLast := some meter, state := .spraying, aimPhase := none, slew := none }
  else if p.meterStart.isSome then { c with report := some r, meterLast := some meter }
  else c.heardFrom r meter litres

theorem takeLitres_frame (s : State) (h : Header) (litres : Nat) : s.takeLitres h litres = { s with
    water := { s.water with usedToday := (s.takeLitres h litres).water.usedToday, spent := (s.takeLitres h litres).water.spent }
    notices := { s.notices with flags := { s.notices.flags with water := (s.takeLitres h litres).notices.flags.water } } } := by
  cases h with
  | reuse => rfl
  | fresh =>
    rw [State.takeLitres, evalSpent_eq]

/-- What the account takes from a reply: the litres on FRESH, and spent on the volume then committed. -/
theorem litresCounted_takeLitres (s : State) (h : Header) (litres : Nat) : litresCounted h litres s (s.takeLitres h litres) := by
  cases h with
  | reuse =>
    refine ⟨rfl, rfl, ?_⟩
    change s.notices.flags.water = (s.notices.flags.water || (s.water.spent && !s.water.spent))
    cases s.water.spent <;> simp
  | fresh =>
    rw [State.takeLitres, evalSpent_eq]
    exact ⟨rfl, rfl, rfl⟩

/-- Spent and the litres are counted the same where the state compared with has the account and the WATER flag of another, and
the state that results differs in one cannon, order and node alone. -/
theorem litresCounted_congr {h : Header} {litres a k id : Nat} {s s' t t' : State} (hc : litresCounted h litres s' t)
    (hw : s'.water = s.water) (hf : s'.notices.flags.water = s.notices.flags.water) (ht : State.Nudges a k id t t') :
    litresCounted h litres s t' := by
  have hwater : t'.water = t.water := (congrArg State.water ht.frame :)
  have hnotices : t'.notices = t.notices := (congrArg State.notices ht.frame :)
  unfold litresCounted at hc ⊢
  rw [hwater, hnotices, ht.freshAvailable_eq, ← hw, ← hf]
  exact hc

/-- The first three steps of a reply: the order's pass and the cannon, and then the account. -/
theorem meterReply_of_bound {w : State} {k id meter litres : Nat} {c : Cannon} {o : Order} {p : Pass} {r : NodeReport} {h : Header}
    (hb : c.bound = some id) (ho : w.order? id = some o) (hp : o.pass = some p) (hh : c.header = some h)
    (hl : meterDelta c.meterLast meter = litres) (hmeter : c.opens r = true → c.meterLast ≠ none) : ∃ (f : Order → Order) (g : Cannon → Cannon),
    (∀ x, (f x).id = x.id) ∧ f o = { o with pass := some (p.replied c r litres) } ∧ g c = c.replied p r meter litres
    ∧ w.meterReply k c r meter = ((w.mapOrder id f).mapCannon k g).takeLitres h litres := by
  have hfind : ∀ u : State, ∀ x q, u.order? id = some x → x.pass = some q → u.boundPass? c = some (x, q) := fun u x q hx hq => by
    simp only [State.boundPass?, hb, Option.bind_some, hx, hq, Option.map_some]
  cases hopens : c.opens r with
  | true =>
    set opened : Pass → Pass := fun p => { p with meterStart := c.meterLast, state := .spraying } with hopened
    have hself : (w.mapOrder id fun o => o.mapPass opened).order? id = some (o.mapPass opened) :=
      order?_mapOrder_self (f := fun o => o.mapPass opened) ho fun _ => rfl
    refine ⟨fun o => (o.mapPass opened).mapPass fun p => p.fed litres, fun c =>
      { c with state := .spraying, aimPhase := none, slew := none, report := some r, meterLast := some meter },
      fun _ => rfl, ?_, ?_, ?_⟩
    · simp only [Order.mapPass, hp, Pass.replied, hopens, if_true]
      rfl
    · simp only [Cannon.replied, hopens, if_true]
    · have hpass := hfind ((w.mapOrder id fun o => o.mapPass opened).mapCannon k fun c =>
        { c with state := .spraying, aimPhase := none, slew := none, report := some r, meterLast := some meter })
        (o.mapPass opened) (opened p) hself (by simp only [Order.mapPass, hp]; rfl)
      have hstart : (opened p).meterStart.isSome = true := Option.isSome_iff_ne_none.2 (hmeter hopens)
      simp only [State.meterReply, hopens, if_true, State.openPass, State.mapBoundPass, hb, mapCannon_mapCannon,
        State.routeDelta, hl, hh]
      rw [hpass]
      simp only [hstart, if_true]
      refine congrArg (fun u : State => u.takeLitres h litres) ?_
      simp only [State.mapOrder, State.mapCannon, List.map_map]
      congr 2
      refine List.map_congr_left fun x _ => ?_
      by_cases hx : x.id = id <;> simp [hx, Order.mapPass, hopened]
  | false =>
    have hpass : ∀ f : Cannon → Cannon, (w.mapCannon k f).boundPass? c = some (o, p) := fun f => hfind _ o p ho hp
    cases hstart : p.meterStart.isSome with
    | true =>
      refine ⟨fun o => o.mapPass fun p => p.fed litres, fun c => { c with report := some r, meterLast := some meter },
        fun _ => rfl, ?_, ?_, ?_⟩
      · simp only [Order.mapPass, hp, Pass.replied, hopens, hstart, if_true]
        rfl
      · simp only [Cannon.replied, hopens, hstart, if_true]
        rfl
      · simp only [State.meterReply, hopens, State.routeDelta, hl, hh]
        rw [if_neg Bool.false_ne_true, hpass]
        simp only [hstart, if_true, State.mapBoundPass, hb]
        rfl
    | false =>
      refine ⟨fun o => o, fun c => c.heardFrom r meter litres, fun _ => rfl, ?_, ?_, ?_⟩
      · simp only [Pass.replied, hopens, hstart, if_false, Bool.false_eq_true, ← hp]
      · simp only [Cannon.replied, hopens, hstart, if_false, Bool.false_eq_true]
      · have hsame : (w.mapOrder id fun o => o) = w := by simp [State.mapOrder]
        simp only [State.meterReply, hopens, State.routeDelta, hl, hh]
        rw [if_neg Bool.false_ne_true, hpass]
        simp only [hstart, if_false, Bool.false_eq_true, mapCannon_mapCannon, hsame]
        rfl

/-- The state after the first three steps of a reply, as far as its pass goes. -/
structure State.Metered (w u : State) (k id litres : Nat) (h : Header) (e : Cannon) (y : Order) : Prop where
  frame : u = { w with
    cannons := u.cannons, dispatch := { w.dispatch with orders := u.dispatch.orders }
    notices := { w.notices with flags := { w.notices.flags with water := u.notices.flags.water } }
    water := { w.water with usedToday := u.water.usedToday, spent := u.water.spent } }
  cannon : u.cannon? k = some e
  cannons : ∀ i, i ≠ k → u.cannon? i = w.cannon? i
  order : u.order? id = some y
  orders : ∀ i, i ≠ id → u.order? i = w.order? i
  counted : litresCounted h litres w u
  keys : u.cannons.map Prod.fst = w.cannons.map Prod.fst

theorem metered_meterReply {w : State} {k id meter litres : Nat} {c : Cannon} {o : Order} {p : Pass} {r : NodeReport} {h : Header}
    (hc : w.cannon? k = some c) (hb : c.bound = some id) (ho : w.order? id = some o) (hp : o.pass = some p)
    (hh : c.header = some h) (hl : meterDelta c.meterLast meter = litres) (hmeter : c.opens r = true → c.meterLast ≠ none) :
    w.Metered (w.meterReply k c r meter) k id litres h (c.replied p r meter litres)
      { o with pass := some (p.replied c r litres) } := by
  obtain ⟨f, g, hf, hfo, hgc, heq⟩ := meterReply_of_bound hb ho hp hh hl hmeter
  have hframe := takeLitres_frame ((w.mapOrder id f).mapCannon k g) h litres
  have hcannons : ∀ i, (w.meterReply k c r meter).cannon? i = (w.mapCannon k g).cannon? i := fun i => by
    rw [heq, hframe]
    rfl
  have horders : ∀ i, (w.meterReply k c r meter).order? i = (w.mapOrder id f).order? i := fun i => by
    rw [heq, hframe]
    rfl
  refine ⟨?_, ?_, fun i hi => ?_, ?_, fun i hi => ?_, ?_, ?_⟩
  · rw [heq, hframe]
    rfl
  · rw [hcannons, cannon_mapCannon_self hc, hgc]
  · rw [hcannons, cannon_mapCannon_of_ne hi]
  · rw [horders, order?_mapOrder_self ho hf, hfo]
  · rw [horders, order?_mapOrder_of_ne hf hi]
  · rw [heq]
    have := litresCounted_takeLitres ((w.mapOrder id f).mapCannon k g) h litres
    exact this
  · rw [heq, hframe]
    exact keys_update _ _ _

/-- A reply that neither opens nor feeds a pass leaves the orders. -/
theorem dispatch_meterReply_of_unstarted {w : State} {k id meter : Nat} {c : Cannon} {o : Order} {p : Pass} {r : NodeReport}
    {h : Header} (hb : c.bound = some id) (ho : w.order? id = some o) (hp : o.pass = some p) (hh : c.header = some h)
    (hopens : c.opens r = false) (hstart : p.meterStart = none) : (w.meterReply k c r meter).dispatch = w.dispatch := by
  have hpass : ∀ f : Cannon → Cannon, (w.mapCannon k f).boundPass? c = some (o, p) := fun f => by
    simp only [State.boundPass?, hb, Option.bind_some, show (w.mapCannon k f).order? id = some o from ho, hp, Option.map_some]
  simp only [State.meterReply, hopens, State.routeDelta, hh]
  rw [if_neg Bool.false_ne_true, hpass]
  simp only [hstart, Option.isSome_none, if_neg Bool.false_ne_true]
  rw [takeLitres_frame]
  rfl

end Sys2Proof.Machine
end

section
set_option Elab.async false
/-! PROOFS. The report of a reply acted on: OPEN sent, the dose reached, an overload (R107, R109, R110, R114, R115). -/

namespace Sys2Proof.Machine

/-! ## The report and the overload -/

/-- The report and then the overload of a reply are acted on (R104, step 4; R114). -/
def State.acted (u : State) (k : Nat) (r : NodeReport) (opened : Bool) : State × List Task :=
  (((u.actOnReport k r opened).1.actOnOverload k r).1,
    (u.actOnReport k r opened).2 ++ ((u.actOnReport k r opened).1.actOnOverload k r).2)

theorem takeCannonReply_eq_acted {w : State} {k : Nat} {c : Cannon} (hc : w.cannon? k = some c) (r : NodeReport) (meter : Nat) :
    w.takeCannonReply k r meter = (w.meterReply k c r meter).acted k r (c.opens r) := by
  simp only [State.takeCannonReply, hc]
  rfl

/-- The blanking timer of a cannon runs on or stops. -/
def State.blanked (u : State) (k : Nat) (b : Bool) : State := u.mapCannon k fun c => { c with blankingOn := b }

/-- A pass ramps down with its cannon, CLOSE sent. -/
def State.ramped (u : State) (k a id : Nat) : State :=
  (u.closing k a Cannon.ramping).mapOrder id fun o => o.mapPass Pass.ramping

/-- OPEN placed for the pass of a cannon that has settled. -/
def State.opening (u : State) (k a : Nat) (h : Header) : State :=
  (u.placeStart a (.openValve h)).mapCannon k fun c => { c with aimPhase := some .opening }

/-- A cannon tripped, CLOSE sent and its number handed over. -/
def State.tripping (u : State) (k a : Nat) : State := (u.closing k a fun c => c.afterTrip u.now).hand .cannon k

section
variable {u : State} {k id a : Nat} {e : Cannon} {y : Order} {q : Pass} {r : NodeReport}

theorem nudges_blanked (u : State) (a k id : Nat) (b : Bool) : State.Nudges a k id u (u.blanked k b) := (State.Nudges.refl u).mapCannon _

theorem nudges_ramped (u : State) (a k id : Nat) : State.Nudges a k id u (u.ramped k a id) :=
  (((State.Nudges.refl u).mapNode _).mapCannon _).mapPass fun _ => ⟨rfl, rfl, rfl⟩

theorem nudges_opening (u : State) (a k id : Nat) (h : Header) : State.Nudges a k id u (u.opening k a h) :=
  ((State.Nudges.refl u).mapNode _).mapCannon _

theorem boundPass?_of_some (hb : e.bound = some id) (hy : u.order? id = some y) (hq : y.pass = some q) :
    u.boundPass? e = some (y, q) := by
  simp only [State.boundPass?, hb, Option.bind_some, hy, hq, Option.map_some]

theorem actOnOverload_of_running (he : u.cannon? k = some e) (hs : e.state = .aiming ∨ e.state = .spraying)
    (hr : r.overload = false ∨ e.config.blanking ≠ 0) : u.actOnOverload k r = (u.blanked k r.overload, []) := by
  simp only [State.actOnOverload, he, if_pos hs]
  cases ho : r.overload with
  | false => rfl
  | true => simp only [if_true, if_neg (hr.resolve_left (by rw [ho]; decide))]; rfl

theorem actOnOverload_of_tripped (he : u.cannon? k = some e) (hs : e.state = .aiming ∨ e.state = .spraying)
    (hr : r.overload = true) (hz : e.config.blanking = 0) : u.actOnOverload k r = u.trip k .trip := by
  simp only [State.actOnOverload, he, if_pos hs, hr, if_true, if_pos hz]

theorem trip_of_aiming {kind : PassKind} (he : u.cannon? k = some e) (hs : e.state = .aiming) (hb : e.bound = some id) :
    u.trip k kind = ((u.tripping k e.config.node).mapCannon k Cannon.unbound, [.passEnd id kind 0]) := by
  simp only [State.trip, he, placeClose_of_some he, if_pos hs, Cannon.passEndTasks, hb]
  rfl

theorem trip_of_spraying {kind : PassKind} (he : u.cannon? k = some e) (hs : e.state = .spraying) (hb : e.bound = some id) :
    u.trip k kind = ((u.tripping k e.config.node).mapOrder id fun o => o.mapPass Pass.ramping, []) := by
  have : ¬ e.state = .aiming := by rw [hs]; decide
  simp only [State.trip, he, placeClose_of_some he, if_neg this, State.mapBoundPass, hb]
  rfl

section
variable (he : u.cannon? k = some e) (hs : e.state = .aiming) (hb : e.bound = some id) (hy : u.order? id = some y)
  (hq : y.pass = some q) (opened : Bool)
include he hs hb hy hq

/-- What a report does to an aiming cannon: OPEN is sent once it has settled. -/
theorem actOnReport_of_aiming : u.actOnReport k r opened =
    (if e.aimPhase = some .slewing ∧ u.aimSettled e r = true then u.opening k e.config.node q.header else u, []) := by
  have hopen : u.placeOpen k e = u.opening k e.config.node q.header := by
    simp only [State.placeOpen, boundPass?_of_some hb hy hq]
    rfl
  simp only [State.actOnReport, he, hs, hopen]
  split_ifs <;> rfl

theorem cannon_actOnReport_of_aiming : ∃ d, (u.actOnReport k r opened).1.cannon? k = some d ∧ d.state = .aiming
    ∧ d.config = e.config ∧ d.bound = e.bound ∧ d = { e with aimPhase := d.aimPhase } := by
  rw [actOnReport_of_aiming he hs hb hy hq opened]
  split_ifs
  · exact ⟨{ e with aimPhase := some .opening }, cannon_mapCannon_self (s := u.placeStart e.config.node _)
      (f := fun c => { c with aimPhase := some .opening }) he, hs, rfl, rfl, rfl⟩
  · exact ⟨e, he, hs, rfl, rfl, rfl⟩

theorem acted_of_aiming (hr : r.overload = false ∨ e.config.blanking ≠ 0) : u.acted k r opened =
    ((if e.aimPhase = some .slewing ∧ u.aimSettled e r = true then u.opening k e.config.node q.header else u).blanked k
      r.overload, []) := by
  obtain ⟨d, hd, hds, hdc, -⟩ := cannon_actOnReport_of_aiming (r := r) he hs hb hy hq opened
  rw [State.acted, actOnOverload_of_running hd (.inl hds) (by rwa [hdc]), actOnReport_of_aiming he hs hb hy hq opened]
  rfl

theorem acted_of_aiming_tripped (hr : r.overload = true) (hz : e.config.blanking = 0) : u.acted k r opened =
    (((if e.aimPhase = some .slewing ∧ u.aimSettled e r = true then u.opening k e.config.node q.header else u).tripping k
      e.config.node).mapCannon k Cannon.unbound, [.passEnd id .trip 0]) := by
  obtain ⟨d, hd, hds, hdc, hdb, -⟩ := cannon_actOnReport_of_aiming (r := r) he hs hb hy hq opened
  rw [State.acted, actOnOverload_of_tripped hd (.inl hds) hr (by rwa [hdc]), trip_of_aiming hd hds (hdb.trans hb), hdc,
    actOnReport_of_aiming he hs hb hy hq opened]
  rfl

end

section
variable (he : u.cannon? k = some e) (hs : e.state = .spraying) (hb : e.bound = some id) (hy : u.order? id = some y)
  (hq : y.pass = some q) {opened : Bool} (hv : r.valve ≠ .closed ∨ opened = true)
include he hs hb hy hq hv

/-- What a report does to a spraying cannon that is not told CLOSED: the ramp-down begins once the dose is reached. -/
theorem actOnReport_of_spraying : u.actOnReport k r opened =
    (if q.dose - e.config.rampAllowance ≤ q.delivered then u.ramped k e.config.node id else u, []) := by
  have hnot : ¬ (r.valve = .closed ∧ opened = false) := fun h => hv.elim (fun h' => h' h.1) fun h' => by simp [h'] at h
  simp only [State.actOnReport, he, hs, if_neg hnot, State.examineDose, boundPass?_of_some hb hy hq, rampDown_of_bound he hb]
  rfl

theorem acted_of_fed (hd : ¬ q.dose - e.config.rampAllowance ≤ q.delivered)
    (hr : r.overload = false ∨ e.config.blanking ≠ 0) : u.acted k r opened = (u.blanked k r.overload, []) := by
  have hact := actOnReport_of_spraying he hs hb hy hq hv
  rw [if_neg hd] at hact
  rw [State.acted, hact, actOnOverload_of_running he (.inr hs) hr]
  rfl

theorem acted_of_dosed (hd : q.dose - e.config.rampAllowance ≤ q.delivered) :
    u.acted k r opened = (u.ramped k e.config.node id, []) := by
  have hact := actOnReport_of_spraying he hs hb hy hq hv
  rw [if_pos hd] at hact
  have hself : (u.ramped k e.config.node id).cannon? k = some e.ramping := cannon_closing_self he
  rw [State.acted, hact, actOnOverload_of_off hself CannonState.noConfusion CannonState.noConfusion]
  rfl

theorem acted_of_spraying_tripped (hd : ¬ q.dose - e.config.rampAllowance ≤ q.delivered) (hr : r.overload = true)
    (hz : e.config.blanking = 0) : u.acted k r opened =
      ((u.tripping k e.config.node).mapOrder id fun o => o.mapPass Pass.ramping, []) := by
  have hact := actOnReport_of_spraying he hs hb hy hq hv
  rw [if_neg hd] at hact
  rw [State.acted, hact, actOnOverload_of_tripped he (.inr hs) hr hz, trip_of_spraying he hs hb]
  rfl

/-- Whether the dose is reached or not, nothing but the pass, its cannon and its node is touched. -/
theorem acted_of_spraying (hr : r.overload = false ∨ e.config.blanking ≠ 0) : ∃ t, u.acted k r opened = (t, [])
    ∧ State.Nudges e.config.node k id u t := by
  by_cases hd : q.dose - e.config.rampAllowance ≤ q.delivered
  · exact ⟨_, acted_of_dosed he hs hb hy hq hv hd, nudges_ramped u _ k id⟩
  · exact ⟨_, acted_of_fed he hs hb hy hq hv hd hr, nudges_blanked u _ k id _⟩

end
end

/-! ## A reply to a poll -/

/-- A poll's reply of a cannon node, carried out. -/
theorem validReply_cannon {s : State} {a k : Nat} {rest : List Nat} {n : Node} {c : Cannon} (ha : a ≤ 31)
    (hp : s.loop.phase = .exchange a .poll rest) (hn : s.node? a = some n) (ho : n.owner = .cannon k)
    (hc : s.cannon? k = some c) (r : NodeReport) (meter : Half) :
    exec (.validReply ((NodeReply.cannon r meter.toNat).bytes a)) s =
      .next (settled (((s.answering a rest).meterReply k c r meter.toNat).acted k r (c.opens r))) := by
  refine congrArg Host.Outcome.next ((endExchange_of_some (s := s.openEvent) hp hn (parseReply_cannon ha ho r meter)).trans ?_)
  rw [State.takeReply, ho]
  exact congrArg settled (takeCannonReply_eq_acted (w := s.answering a rest) hc r meter.toNat)

end Sys2Proof.Machine
end

section
set_option Elab.async false
/-! PROOFS. The account of FRESH litres (R132 to R134, R124). -/

namespace Sys2Proof.Machine

/-- A poll's reply that falls to a pass and ends none: what of the whole state it touches, and what it counts. -/
theorem replied_spec {s w u t : State} {a k id litres : Nat} {rest : List Nat} {h : Header} {e : Cannon} {y : Order}
    (hw : State.Nudges a k id (s.answering a rest) w) (hm : w.Metered u k id litres h e y) (hn : State.Nudges a k id u t) : t = { s with
      cannons := t.cannons, events := s.events + 1, dispatch := { s.dispatch with orders := t.dispatch.orders }
      notices := { s.notices with flags := { s.notices.flags with water := t.notices.flags.water } }
      water := { s.water with usedToday := t.water.usedToday, spent := t.water.spent }
      loop := { s.loop with nodes := t.loop.nodes, phase := .between rest } }
    ∧ litresCounted h litres s t ∧ (∀ i, i ≠ k → t.cannon? i = s.cannon? i) ∧ (∀ i, i ≠ id → t.order? i = s.order? i)
    ∧ ∀ i, i ≠ a → t.node? i = s.node? i := by
  refine ⟨?_, litresCounted_congr hm.counted (congrArg State.water hw.frame :)
    (congrArg (fun v : State => v.notices.flags.water) hw.frame :) hn,
    fun i hi => (hn.cannons i hi).trans ((hm.cannons i hi).trans (hw.cannons i hi)),
    fun i hi => (hn.orders i hi).trans ((hm.orders i hi).trans (hw.orders i hi)), fun i hi => (hn.nodes i hi).trans ?_⟩
  · rw [hn.frame, hm.frame, hw.frame]
    rfl
  · have : u.node? i = w.node? i := (congrArg (fun v : State => v.node? i) hm.frame :)
    exact this.trans ((hw.nodes i hi).trans (node_mapNode_of_ne hi))

/-- Spent evaluated and a report made. -/
theorem evalSpent_occasion (s : State) : s.evalSpent.occasion = { s with
    notices := { s.notices with flags := { s.notices.flags with
      water := s.notices.flags.water || (decide (s.freshAvailable < 50) && !s.water.spent) } }
    dispatch := { s.dispatch with due := s.dispatch.due + 1 }
    water := { s.water with spent := decide (s.freshAvailable < 50) } } := by
  rw [evalSpent_eq]
  rfl

theorem fed_delivered (p : Pass) (litres : Nat) : p.fed litres = { p with delivered := min 65535 (p.delivered + litres) } := rfl

/-- Settles O45: the two commands by the evaluation of spent, the reply by the account's share of it. -/
theorem freshAccountIsKept : Obligations.FreshAccountIsKept := by
  unfold Obligations.FreshAccountIsKept
  refine ⟨fun value s => ?allowance, fun s => ⟨fun h => ?sameDay, fun h => ?newDay⟩,
    fun a k last litres d rest n c o p r meter s ha hp hn ho hlost hc hnode hs hb hf hpass hstart hh hlast h16 hl hr hv hd =>
      ?reply⟩
  case allowance =>
    have hexec : exec (.setAllowance value) s = .next (s.setAllowance value) := rfl
    simp only [State.setAllowance] at hexec
    rw [evalSpent_occasion] at hexec
    exact ⟨_, hexec, rfl, rfl, decide_eq_true_iff, rfl, rfl, fun d => decide_eq_true_iff, fun h => by
      change value.toNat - s.water.usedToday - s.committed .fresh = 0
      omega⟩
  case sameDay =>
    exact congrArg Host.Outcome.next (if_pos h : s.rollOver = s)
  case newDay =>
    have hexec : exec .dayRollover s = .next s.rollOver := rfl
    rw [State.rollOver, if_neg (show ¬ dayOf s.now = s.water.countedDay from h), evalSpent_occasion] at hexec
    refine ⟨_, hexec, rfl, ?_, rfl⟩
    exact decide_eq_true_iff
  case reply =>
    have hidle : ¬ c.state = .aiming := by rw [hs]; decide
    have hopens : c.opens r = false := by simp [Cannon.opens, hs]
    have hm := metered_meterReply (w := s.answering a rest) (r := r) hc hb hf hpass hh
      ((congrArg (meterDelta · meter.toNat) hlast).trans ((meterDelta_of_some h16 _).trans hl.symm)) fun _ => by rw [hlast]; simp
    have hexec := validReply_cannon ha hp hn ho hc r meter
    have hstarted : p.meterStart.isSome = true := Option.isSome_iff_ne_none.2 hstart
    have hfed : p.replied c r litres = { p with delivered := d } := by
      rw [Pass.replied, hopens, if_neg Bool.false_ne_true, if_pos hstarted, fed_delivered, hd]
    have hcannon : c.replied p r meter.toNat litres = { c with report := some r, meterLast := some meter.toNat } := by
      rw [Cannon.replied, hopens, if_neg Bool.false_ne_true, if_pos hstarted]
    rw [hfed, hcannon] at hm
    rw [hopens] at hexec
    set u := (s.answering a rest).meterReply k c r meter.toNat
    obtain ⟨t, hact, hnudged, horder⟩ : ∃ t, u.acted k r false = (t, []) ∧ State.Nudges a k o.id u t
        ∧ t.order? o.id = some { o with pass := some { p with
          delivered := d, state := if d < p.dose - c.config.rampAllowance then p.state else .rampDown } } := by
      by_cases hdose : p.dose - c.config.rampAllowance ≤ d
      · refine ⟨_, acted_of_dosed hm.cannon hs hb hm.order rfl (.inl hv) hdose, hnode ▸ nudges_ramped u _ k o.id, ?_⟩
        rw [if_neg (by omega)]
        exact order?_mapOrder_self (s := u.closing k c.config.node Cannon.ramping) (f := fun o => o.mapPass Pass.ramping)
          hm.order fun _ => rfl
      · refine ⟨_, acted_of_fed hm.cannon hs hb hm.order rfl (.inl hv) hdose (.inl hr), nudges_blanked u a k o.id _, ?_⟩
        rw [if_pos (by omega)]
        exact hm.order
    rw [hact, settled_nil] at hexec
    obtain ⟨hframe, ⟨hused, hspent, hwater⟩, hcannons, horders, -⟩ := replied_spec (.refl _) hm hnudged
    rw [if_pos rfl] at hused hspent
    refine ⟨t, hexec, ?_, ?_, horder, horders, hcannons⟩
    · rw [← hused, ← hspent]
      rw [hframe]
    · rw [← hwater, hframe]

end Sys2Proof.Machine
end

section
set_option Elab.async false
/-! PROOFS. The replies that move a pass (R106 to R110, R114). -/

namespace Sys2Proof.Machine

theorem answered_of_alive {n : Node} (h : n.lost = false) : n.answered = { n with misses := 0, countdown := none } := by
  rw [Node.answered, ← h]

theorem config_replied (c : Cannon) (p : Pass) (r : NodeReport) (meter litres : Nat) :
    (c.replied p r meter litres).config = c.config ∧ (c.replied p r meter litres).bound = c.bound
    ∧ (c.opens r = false → (c.replied p r meter litres).state = c.state)
    ∧ (c.opens r = true → (c.replied p r meter litres).state = .spraying) := by
  unfold Cannon.replied
  split_ifs with h1 h2
  · exact ⟨rfl, rfl, fun h => absurd (h1.symm.trans h) (by decide), fun _ => rfl⟩
  · exact ⟨rfl, rfl, fun _ => rfl, fun h => absurd h h1⟩
  · exact ⟨rfl, rfl, fun _ => rfl, fun h => absurd h h1⟩

theorem opens_iff (c : Cannon) (r : NodeReport) :
    c.opens r = true ↔ c.state = .aiming ∧ c.aimPhase = some .opening ∧ r.valve = .opened := by
  simp [Cannon.opens, and_assoc]

/-- A reply that trips nothing ends no pass, and touches the pass, its cannon and its node alone. -/
theorem acted_replied {u : State} {a k id litres meter : Nat} {h : Header} {w : State} {c : Cannon} {o : Order} {p : Pass} {r : NodeReport}
    (hm : w.Metered u k id litres h (c.replied p r meter litres) { o with pass := some (p.replied c r litres) })
    (hnode : c.config.node = a) (hb : c.bound = some id) (hr : r.overload = false ∨ c.config.blanking ≠ 0)
    (hs : c.state = .aiming ∨ (c.state = .spraying ∧ r.valve ≠ .closed)) :
    ∃ t, u.acted k r (c.opens r) = (t, []) ∧ State.Nudges a k id u t := by
  obtain ⟨hconfig, hbound, hsame, hopened⟩ := config_replied c p r meter litres
  rw [← hnode, ← hconfig]
  rw [← hconfig] at hr
  cases ho : c.opens r with
  | true => exact acted_of_spraying hm.cannon (hopened ho) (hbound.trans hb) hm.order rfl (.inr rfl) hr
  | false =>
    rcases hs with hs | ⟨hs, hv⟩
    · refine ⟨_, acted_of_aiming hm.cannon ((hsame ho).trans hs) (hbound.trans hb) hm.order rfl false hr, ?_⟩
      split_ifs
      · exact (nudges_opening u _ k id _).mapCannon _
      · exact nudges_blanked u _ k id _
    · exact acted_of_spraying hm.cannon ((hsame ho).trans hs) (hbound.trans hb) hm.order rfl (.inl hv) hr

/-- An overload that leaves the entries of order and node as they were. -/
theorem blanked_self {u : State} {k : Nat} {e : Cannon} (he : u.cannon? k = some e) (b : Bool) :
    (u.blanked k b).cannon? k = some { e with blankingOn := b } := cannon_mapCannon_self (f := fun c => { c with blankingOn := b }) he

theorem opening_self {u : State} {k a : Nat} {e : Cannon} {n : Node} (he : u.cannon? k = some e) (hn : u.node? a = some n)
    (hslot : n.slot = none) (h : Header) : (u.opening k a h).cannon? k = some { e with aimPhase := some .opening }
      ∧ (u.opening k a h).node? a = some { n with slot := some (.openValve h) } := by
  refine ⟨cannon_mapCannon_self (s := u.placeStart a (.openValve h)) (f := fun c => { c with aimPhase := some .opening }) he, ?_⟩
  refine (node_mapNode_self (s := u) (f := fun n => if n.slot.isNone then { n with slot := some (.openValve h) } else n) hn).trans ?_
  rw [hslot]
  rfl

end Sys2Proof.Machine
end

section
set_option Elab.async false
/-! PROOFS. The settling of a pass that a fault has ended (R89, R90, R92). -/

namespace Sys2Proof.Machine

/-! ## The order after its pass has been settled -/

/-- An order without its pass and moved on, spent evaluated before, and some arbitrations occasioned. -/
def State.settledTo (u : State) (id : Nat) (f : Order → Order) (j : Nat) : State :=
  let v := (u.unpassed id).mapOrder id f
  { v with dispatch := { v.dispatch with due := v.dispatch.due + j } }

/-- An order that waits for its next pass. -/
def Order.waitsAgain (o : Order) (now : Nat) : Order := { o with state := .waiting, lapseRef := now }

section
variable (u : State) (id : Nat) (f : Order → Order) (j : Nat)
@[simp] theorem cannons_settledTo : (u.settledTo id f j).cannons = u.cannons := cannons_evalSpent _
@[simp] theorem cannon?_settledTo (n : Nat) : (u.settledTo id f j).cannon? n = u.cannon? n :=
  congrArg (Table.get · n) (cannons_settledTo u id f j)
@[simp] theorem loop_settledTo : (u.settledTo id f j).loop = u.loop := loop_evalSpent _
@[simp] theorem node?_settledTo (a : Nat) : (u.settledTo id f j).node? a = u.node? a :=
  congrArg (fun l : Loop => Table.get l.nodes a) (loop_settledTo u id f j)
@[simp] theorem piles_settledTo : (u.settledTo id f j).piles = u.piles := piles_evalSpent
@[simp] theorem permits_settledTo : (u.settledTo id f j).permits = u.permits := permits_evalSpent _
@[simp] theorem port_settledTo : (u.settledTo id f j).port = u.port := port_evalSpent _
@[simp] theorem clock_settledTo : (u.settledTo id f j).clock = u.clock := clock_evalSpent _
@[simp] theorem grades_settledTo : (u.settledTo id f j).grades = u.grades := grades_evalSpent _

/-- Of the notices the WATER flag alone can have changed. -/
theorem notices_settledTo : (u.settledTo id f j).notices = { u.notices with
    flags := { u.notices.flags with water := (u.settledTo id f j).notices.flags.water } } := by
  simp only [State.settledTo, State.unpassed, evalSpent_eq]
  rfl

theorem restates_settledTo (hf : ∀ o, (f o).id = o.id ∧ (f o).tag = o.tag ∧ (f o).origin = o.origin) :
    (u.settledTo id f j).restates u id :=
  (restates_mapOrder (u.unpassed id) (f := f) hf).trans (restates_unpassed u id)

end

theorem order?_settledTo {u : State} {id j : Nat} {f : Order → Order} {o : Order} (ho : u.order? id = some o)
    (hf : ∀ o, (f o).id = o.id) : (u.settledTo id f j).order? id = some (f { o with pass := none }) :=
  order?_mapOrder_self (s := u.unpassed id) (order?_unpassed ho) hf

theorem order?_settledTo_of_ne {u : State} {id j i : Nat} {f : Order → Order} (h : i ≠ id) (hf : ∀ o, (f o).id = o.id) :
    (u.settledTo id f j).order? i = u.order? i :=
  (order?_mapOrder_of_ne (s := u.unpassed id) hf h).trans (order?_unpassed_of_ne h)

/-- What an order without a pass becomes commits no litres. -/
theorem committed_mapOrder_unpassed (u : State) (id : Nat) (f : Order → Order) (hf : ∀ o, (f o).pass = o.pass) :
    ((u.unpassed id).mapOrder id f).committed .fresh = (u.unpassed id).committed .fresh := by
  have hnone : ∀ o : Order, o.pass = none → committedOf .fresh o = 0 := fun o h => by
    cases hs : o.state <;> simp [committedOf, hs, h]
  simp only [State.committed, State.unpassed, dispatch_evalSpent, State.mapOrder, List.map_map]
  refine congrArg List.sum (List.map_congr_left fun o _ => ?_)
  by_cases h : o.id = id
  · have hpass := hf { o with pass := none }
    simp only [Function.comp_apply, if_pos h]
    exact (hnone _ hpass).trans (hnone _ rfl).symm
  · simp [h]

/-- The account once the pass has been settled: spent on the volume then committed, WATER raised where it becomes set. -/
theorem water_settledTo (u : State) (id : Nat) (f : Order → Order) (j : Nat) (hf : ∀ o, (f o).pass = o.pass) :
    (u.settledTo id f j).water = { u.water with spent := decide ((u.settledTo id f j).freshAvailable < 50) }
    ∧ (u.settledTo id f j).notices.flags.water = (u.notices.flags.water
      || ((u.settledTo id f j).water.spent && !u.water.spent)) := by
  have hcommitted : (u.settledTo id f j).committed .fresh = (u.mapOrder id fun o => { o with pass := none }).committed .fresh := by
    refine (committed_mapOrder_unpassed u id f hf).trans ?_
    rw [State.committed, State.unpassed, dispatch_evalSpent]
    rfl
  have hwater : (u.settledTo id f j).water = { u.water with
      spent := decide ((u.mapOrder id fun o => { o with pass := none }).freshAvailable < 50) } := by
    simp only [State.settledTo, State.unpassed, evalSpent_eq]
    rfl
  have havailable : (u.settledTo id f j).freshAvailable = (u.mapOrder id fun o => { o with pass := none }).freshAvailable := by
    simp only [State.freshAvailable, hcommitted, hwater]
    rfl
  refine ⟨by rw [havailable]; exact hwater, ?_⟩
  rw [hwater]
  simp only [State.settledTo, State.unpassed, evalSpent_eq]
  rfl

/-! ## The pass end and what follows -/

section
variable {q : Option Nat} {u : State} {id : Nat} {kind : PassKind} {o : Order}

theorem doTask_passNext_none (ho : u.order? id = some o) (h : (u.unpassed id).outcomeAfter o kind = none) :
    doTask q (.passNext id kind) u = (u.settledTo id (Order.waitsAgain · u.now) 1, [.passTold o.tag]) := passNext_of_none ho h

theorem doTask_passNext_some {x : OrderOutcome} (ho : u.order? id = some o) (h : (u.unpassed id).outcomeAfter o kind = some x) :
    doTask q (.passNext id kind) u = (u.settledTo id (Order.ended · x u.now u.events) 0, [.passTold o.tag, .orderEnded id]) :=
  passNext_of_some ho h

/-- In a yard of one cannon that covers the pile, a fault leaves a cannon for the order unless it has put that one out of use. -/
theorem outcomeAfter_fault {k : Nat} {e : Cannon} (hplan : o.plan = none) (hcancel : o.cancelPending = false)
    (hdose : o.delivered + 50 ≤ o.dose) (hkind : kind.isFault = true) (hcannons : u.cannons = [(k, e)])
    (hcover : ∃ v ∈ e.config.coverage, v.tag = o.tag) : (u.unpassed id).outcomeAfter o kind =
      if e.state = .locked ∨ e.state = .lost then some .failed else none := by
  have hout : ¬ o.dose - o.delivered < Config.trickle := by simp only [Config.trickle]; omega
  have hcomplete : o.complete = false := by simp [Order.complete, hplan, Order.outstanding, hout]
  have hcovers : (e.coverOf? o.tag).isSome = true := by
    obtain ⟨v, hv, htag⟩ := hcover
    exact List.find?_isSome.2 ⟨v, hv, by simp [htag]⟩
  have hremains : (u.unpassed id).cannonRemains o = (e.state != .locked && e.state != .lost) := by
    have : (u.unpassed id).cannons = [(k, e)] := (cannons_evalSpent _).trans hcannons
    simp [State.cannonRemains, State.candidates, hplan, this, hcovers]
  simp only [State.outcomeAfter, hcancel, hcomplete, hkind, hremains, Bool.false_eq_true, if_false, Bool.true_and]
  by_cases h : e.state = .locked ∨ e.state = .lost
  · rw [if_pos h, if_pos]
    rcases h with h | h <;> simp [h]
  · rw [if_neg h, if_neg]
    simpa [not_or] using h

/-- The pass end is nothing to the permit table where an open PREWET order on the pile, if there is one, is one that runs or that
a permit waits for, and no permit clears there. -/
theorem passTold_of_waited {s : State} {tag : Nat} (hclear : ∀ x ∈ s.permits.list, x.clearsOn tag = false)
    (hwaited : ∀ y ∈ s.dispatch.orders, y.origin = .prewet → y.tag = tag → y.state = .waiting →
      ∃ x ∈ s.permits.list, x.waitsOn tag = true ∧ x.prewetOrder = some y.id) :
    doTask q (.passTold tag) s = (s, []) := by
  have hgrant : s.askGrant q tag = s := by
    have hnil : (s.permits.list.filter fun x => x.clearsOn tag) = [] :=
      List.filter_eq_nil_iff.2 fun x hx => by rw [hclear x hx]; decide
    have hmap : (s.permits.list.map fun x => x.grantedOn tag s.now) = s.permits.list :=
      (List.map_congr_left fun x hx =>
        (if_neg (by rw [hclear x hx]; decide) : x.grantedOn tag s.now = x)).trans (List.map_id _)
    cases hrun : s.runningOn tag with
    | true => exact askGrant_of_running q hrun
    | false =>
      rw [askGrant_of_idle q hrun, State.granting, hnil, hmap]
      rfl
  change s.passTold q tag = _
  simp only [State.passTold, hgrant]
  cases hopen : s.openPrewet? tag with
  | none => rfl
  | some y =>
    have hmem := List.mem_filter.1 (List.mem_of_find?_eq_some hopen)
    have horigin := List.find?_some hopen
    simp only [Bool.and_eq_true, beq_iff_eq] at hmem horigin
    refine if_neg fun h => ?_
    obtain ⟨x, hx, hwait, hname⟩ := hwaited y hmem.1 horigin hmem.2.1 h.1
    exact absurd (List.any_eq_false.1 h.2 x hx) (by simp [hwait, hname])

end

/-- What the settling of a pass leaves, the order and the arbitrations occasioned apart. -/
structure State.SettledFrom (u t : State) (id : Nat) : Prop where
  cannons : t.cannons = u.cannons
  loop : t.loop = u.loop
  piles : t.piles = u.piles
  permits : t.permits = u.permits
  port : t.port = u.port
  orders : ∀ i, i ≠ id → t.order? i = u.order? i
  water : t.water = { u.water with spent := decide (t.freshAvailable < 50) }
  flag : t.notices.flags.water = (u.notices.flags.water || (t.water.spent && !u.water.spent))
  sets : t.notices.cannons = u.notices.cannons ∧ t.notices.permits = u.notices.permits

theorem settledFrom_settledTo (u : State) (id : Nat) (f : Order → Order) (j : Nat) (hid : ∀ o, (f o).id = o.id)
    (hpass : ∀ o, (f o).pass = o.pass) : u.SettledFrom (u.settledTo id f j) id := by
  obtain ⟨hwater, hflag⟩ := water_settledTo u id f j hpass
  exact ⟨cannons_settledTo .., loop_settledTo .., piles_settledTo .., permits_settledTo .., port_settledTo ..,
    fun i hi => order?_settledTo_of_ne hi hid, hwater, hflag, by rw [notices_settledTo]; exact ⟨rfl, rfl⟩⟩

theorem State.SettledFrom.handed {u t : State} {id : Nat} (h : u.SettledFrom t id) (i : Nat) : u.SettledFrom (t.hand .order i) id :=
  ⟨h.cannons, h.loop, h.piles, h.permits, h.port, h.orders, h.water, h.flag, h.sets⟩

section
variable {u : State} {id k : Nat} {kind : PassKind} {o : Order} {e : Cannon} (ho : u.order? id = some o) (hplan : o.plan = none)
  (hcancel : o.cancelPending = false) (hdose : o.delivered + 50 ≤ o.dose) (hkind : kind.isFault = true)
  (hcannons : u.cannons = [(k, e)]) (hcover : ∃ v ∈ e.config.coverage, v.tag = o.tag)
include ho hplan hcancel hdose hkind hcannons hcover

/-- After a fault that leaves the cannon in use the order waits again. -/
theorem reaches_fault_waits {q : Option Nat} (hstate : ¬ (e.state = .locked ∨ e.state = .lost))
    (htold : doTask q (.passTold o.tag) (u.settledTo id (Order.waitsAgain · u.now) 1) =
      (u.settledTo id (Order.waitsAgain · u.now) 1, [])) :
    Reaches q [.passNext id kind] u 2 (u.settledTo id (Order.waitsAgain · u.now) 1) := by
  have hout := outcomeAfter_fault (u := u) (id := id) hplan hcancel hdose hkind hcannons hcover
  rw [if_neg hstate] at hout
  exact .one (doTask_passNext_none ho hout) (.single htold)

/-- After a fault that leaves none the order ends FAILED. -/
theorem reaches_fault_ends {q : Option Nat} {t : State} {m : Nat} (hstate : e.state = .locked ∨ e.state = .lost)
    (htold : doTask q (.passTold o.tag) (u.settledTo id (Order.ended · .failed u.now u.events) 0) =
      (u.settledTo id (Order.ended · .failed u.now u.events) 0, []))
    (hend : Reaches q [.orderEnded id] (u.settledTo id (Order.ended · .failed u.now u.events) 0) m t) :
    Reaches q [.passNext id kind] u (m + 2) t := by
  have hout := outcomeAfter_fault (u := u) (id := id) hplan hcancel hdose hkind hcannons hcover
  rw [if_pos hstate] at hout
  exact (Reaches.one (doTask_passNext_some ho hout) (.cons (.single htold) hend)).mono (by omega)

/-- A host order's pass ended by a fault, in a yard without permits, piles LIVE. -/
theorem fault_settles (hpermits : u.permits.list = []) (horigins : ∀ y ∈ u.dispatch.orders, y.origin ≠ .prewet)
    (hlive : ∀ x ∈ u.piles, x.2.life = .live) : ∃ t, Reaches none [.passNext id kind] u 5 t ∧ u.SettledFrom t id
      ∧ (¬ (e.state = .locked ∨ e.state = .lost) → t.order? id = some (Order.waitsAgain { o with pass := none } u.now))
      ∧ (e.state = .locked ∨ e.state = .lost → t.order? id = some (Order.ended { o with pass := none } .failed u.now u.events)
        ∧ id ∈ t.notices.orders) := by
  have htold : ∀ (f : Order → Order) (j : Nat), (∀ y, (f y).id = y.id ∧ (f y).tag = y.tag ∧ (f y).origin = y.origin) →
      doTask none (.passTold o.tag) (u.settledTo id f j) = (u.settledTo id f j, []) := fun f j hf =>
    passTold_quiet _ none _ ((congrArg Permits.list (permits_settledTo u id f j)).trans hpermits)
      (forall_origin_of_restates (restates_settledTo u id f j hf) horigins)
  by_cases h : e.state = .locked ∨ e.state = .lost
  · have horder := order?_settledTo (f := (Order.ended · .failed u.now u.events)) (j := 0) ho fun _ => rfl
    have hpiles := piles_settledTo u id (Order.ended · .failed u.now u.events) 0
    have hspec := settledFrom_settledTo u id (Order.ended · .failed u.now u.events) 0 (fun _ => rfl) fun _ => rfl
    have hends := reaches_fault_ends (q := none) ho hplan hcancel hdose hkind hcannons hcover h
      (htold (Order.ended · .failed u.now u.events) 0 fun _ => ⟨rfl, rfl, rfl⟩)
      (reaches_orderEnded horder (fun hp => absurd hp (horigins o (List.mem_of_find?_eq_some ho)))
        (checkFree_of_live (hpiles ▸ hlive) _))
    exact ⟨_, hends, hspec.handed id, fun hn => absurd h hn, fun _ => ⟨horder, mem_insertKey_iff.2 (.inl rfl)⟩⟩
  · have hwaits := reaches_fault_waits (q := none) ho hplan hcancel hdose hkind hcannons hcover h
      (htold (Order.waitsAgain · u.now) 1 fun _ => ⟨rfl, rfl, rfl⟩)
    exact ⟨_, hwaits.mono (by omega), settledFrom_settledTo u id _ 1 (fun _ => rfl) fun _ => rfl,
      fun _ => order?_settledTo (f := (Order.waitsAgain · u.now)) ho fun _ => rfl, fun hl => absurd hl h⟩

end

end Sys2Proof.Machine
end

section
set_option Elab.async false
/-! PROOFS. The replies that trip a cannon, and the reply that lets a waiting AIM go (R106, R109, R114, R115). -/

namespace Sys2Proof.Machine

theorem afterTrip_eq (c : Cannon) (now : Nat) : c.afterTrip now = { c with
    tripCount := c.tripCount + 1, lastTrip := some now, closeWait := some (c.closeWait.getD (c.config.rampTime + 5))
    state := if c.tripCount + 1 < 3 then .tripped else .locked, aimPhase := none, slew := none, blankingOn := false } := by
  have : (if 3 ≤ c.tripCount + 1 then CannonState.locked else .tripped) = if c.tripCount + 1 < 3 then .tripped else .locked := by
    by_cases h : c.tripCount + 1 < 3
    · rw [if_neg (by omega), if_pos h]
    · rw [if_pos (by omega), if_neg h]
  rw [Cannon.afterTrip, this]
  rfl

/-- A cannon whose trip count is below the limit is in service after the trip, and one at the limit is not. -/
theorem afterTrip_gone (c : Cannon) (now : Nat) :
    ((c.afterTrip now).state = .locked ∨ (c.afterTrip now).state = .lost) ↔ 3 ≤ c.tripCount + 1 := by
  rw [afterTrip_eq]
  split_ifs <;> simp <;> omega

/-- A cannon tripped: its own entry and its node's, and its number handed over. -/
theorem tripping_spec (u : State) (k a id : Nat) : ∃ v, u.tripping k a = v.hand .cannon k ∧ State.Nudges a k id u v
    ∧ (∀ e, u.cannon? k = some e → v.cannon? k = some (e.afterTrip u.now))
    ∧ (∀ n, u.node? a = some n → v.node? a = some { n with slot := some .close }) ∧ v.dispatch = u.dispatch :=
  ⟨_, rfl, ((State.Nudges.refl u).mapNode _).mapCannon _, fun _ he => cannon_closing_self he,
    fun _ hn => node_closing_self (n := k) (f := fun c => c.afterTrip u.now) hn, rfl⟩

/-- An order credited with no litres. -/
theorem creditedEnd_zero {o : Order} (kind : PassKind) (hplan : o.plan = none) (hd : o.delivered ≤ 4294967295) :
    o.creditedEnd kind 0 = { o with
      pass := o.pass.map fun p => { p with state := .closed, delivered := 0 }, lastEnd := some kind } := by
  have : satAdd32 o.delivered 0 = o.delivered := by simp [satAdd32, hd]
  rw [Order.creditedEnd, this, hplan]
  rfl

/-- A host order's pass that a fault ends with nothing delivered, in a yard of that cannon alone without permits, piles LIVE. -/
theorem faulted_settles {z : State} {id k : Nat} {kind : PassKind} {o : Order} {e : Cannon} (ho : z.order? id = some o)
    (hplan : o.plan = none) (hcancel : o.cancelPending = false) (hdose : o.delivered + 50 ≤ o.dose) (hmax : o.dose ≤ 65535)
    (hkind : kind.isFault = true) (hcannons : z.cannons = [(k, e)]) (hcover : ∃ v ∈ e.config.coverage, v.tag = o.tag)
    (hpermits : z.permits.list = []) (horigins : ∀ y ∈ z.dispatch.orders, y.origin = .host) (hlive : ∀ x ∈ z.piles, x.2.life = .live) :
    ∃ t, settled (z, [.passEnd id kind 0]) = t ∧ z.SettledFrom t id
      ∧ (¬ (e.state = .locked ∨ e.state = .lost) → t.order? id = some { o with
          state := .waiting, pass := none, lastEnd := some kind, lapseRef := z.now })
      ∧ (e.state = .locked ∨ e.state = .lost → t.order? id = some { o with
          state := .ended, pass := none, lastEnd := some kind, starved := false, outcome := some .failed
          endedMinute := some z.now, endedEvent := z.events } ∧ id ∈ t.notices.orders) := by
  have hcredited := order?_mapOrder_self (f := fun o => o.creditedEnd kind 0) ho fun _ => rfl
  rw [creditedEnd_zero kind hplan (by omega)] at hcredited
  have hhosts : ∀ y ∈ (z.mapOrder id fun o => o.creditedEnd kind 0).dispatch.orders, y.origin ≠ .prewet := fun y hy => by
    obtain ⟨x, hx, rfl⟩ := mem_mapOrder hy
    have := horigins x hx
    split_ifs <;> simp [Order.creditedEnd, this]
  obtain ⟨t, hreach, hspec, hwaits, hends⟩ := fault_settles (u := z.mapOrder id fun o => o.creditedEnd kind 0) hcredited hplan
    hcancel hdose hkind hcannons hcover hpermits hhosts hlive
  refine ⟨t, (Reaches.one (passEnd_of_zero ho) hreach).settled_eq (by omega), { hspec with orders := fun i hi => ?_ },
    fun h => hwaits h, fun h => hends h⟩
  exact (hspec.orders i hi).trans (order?_mapOrder_of_ne (f := fun o => o.creditedEnd kind 0) (fun _ => rfl) hi)

/-- A spraying pass tripped by the reply that feeds it. -/
theorem tripped_spraying_spec {s u : State} {a k litres : Nat} {rest : List Nat} {h : Header} {e : Cannon} {o : Order} {p : Pass} {n : Node}
    {r : NodeReport} (hm : (s.answering a rest).Metered u k o.id litres h e { o with pass := some p })
    (hn : u.node? a = some n) (hnode : e.config.node = a) (hb : e.bound = some o.id) (hs : e.state = .spraying)
    (hv : r.valve ≠ .closed) (hd : ¬ p.dose - e.config.rampAllowance ≤ p.delivered) (hr : r.overload = true)
    (hz : e.config.blanking = 0) : ∃ t, settled (u.acted k r false) = t ∧ t = { s with
        cannons := t.cannons, events := s.events + 1, dispatch := { s.dispatch with orders := t.dispatch.orders }
        notices := { s.notices.hand .cannon k with
          flags := { (s.notices.hand .cannon k).flags with water := t.notices.flags.water } }
        water := { s.water with usedToday := t.water.usedToday, spent := t.water.spent }
        loop := { s.loop with nodes := t.loop.nodes, phase := .between rest } }
      ∧ litresCounted h litres s t
      ∧ t.cannon? k = some (e.afterTrip s.now) ∧ (∀ i, i ≠ k → t.cannon? i = s.cannon? i)
      ∧ t.order? o.id = some { o with pass := some { p with state := .rampDown } }
      ∧ (∀ i, i ≠ o.id → t.order? i = s.order? i)
      ∧ t.node? a = some { n with slot := some .close } ∧ ∀ i, i ≠ a → t.node? i = s.node? i := by
  obtain ⟨v, hv', hnudged, hcannon, hnoded, hdispatch⟩ := tripping_spec u k a o.id
  have hnow : u.now = s.now := (congrArg State.now hm.frame :)
  have hramped := hnudged.mapPass (f := Pass.ramping) fun _ => ⟨rfl, rfl, rfl⟩
  obtain ⟨hframe, hcounted, hcannons, horders, hnodes⟩ := replied_spec (.refl _) hm hramped
  have hact : u.acted k r false = ((v.mapOrder o.id fun o => o.mapPass Pass.ramping).hand .cannon k, []) := by
    rw [acted_of_spraying_tripped hm.cannon hs hb hm.order rfl (.inl hv) hd hr hz, hnode, hv']
    rfl
  refine ⟨_, congrArg settled hact, ?_⟩
  rw [settled_nil]
  refine ⟨?_, hcounted, ?_, hcannons, ?_, horders, hnoded n hn, hnodes⟩
  · conv_lhs => rw [hframe]
    rfl
  · rw [← hnow]
    exact hcannon e hm.cannon
  · have : v.order? o.id = some { o with pass := some p } := by
      rw [State.order?, hdispatch]
      exact hm.order
    exact order?_mapOrder_self (f := fun o => o.mapPass Pass.ramping) this fun _ => rfl

/-- The litres of a reply counted, and spent evaluated once more when the pass that it ended has been settled. -/
theorem litresCountedAtEnd_of_settled {h : Header} {litres id : Nat} {s u z t : State} (hcounted : litresCounted h litres s u)
    (horders : u.dispatch.orders = s.dispatch.orders) (hwater : u.water = { s.water with usedToday := u.water.usedToday, spent := u.water.spent })
    (hz : z.water = u.water) (hflag : z.notices.flags.water = u.notices.flags.water) (ht : z.SettledFrom t id) :
    litresCountedAtEnd h litres id (fun x => x) false s t := by
  obtain ⟨hused, hspent, hwas⟩ := hcounted
  have htused : t.water.usedToday = u.water.usedToday := by rw [ht.water, hz]
  refine ⟨htused.trans hused, by rw [ht.water], fun drawn spent hdrawn hs => ?_⟩
  have havailable : u.freshAvailable = drawn.freshAvailable := by
    rw [hdrawn]
    simp only [State.freshAvailable, State.committed, horders, htused, ite_self, List.map_id']
    rw [hwater]
  rw [← havailable, ← hspent] at hs
  rw [ht.flag, hflag, hz, hwas, ← hs]
  simp

/-- An aiming pass tripped by the reply that its cannon sends. -/
theorem tripped_aiming_spec {s u : State} {a k litres : Nat} {rest : List Nat} {h : Header} {e : Cannon} {o : Order} {p : Pass} {n : Node}
    {r : NodeReport} {opened : Bool} (hm : (s.answering a rest).Metered u k o.id litres h e o) (hpass : o.pass = some p)
    (hdispatch : u.dispatch = s.dispatch) (hn : u.node? a = some n) (hnode : e.config.node = a) (hb : e.bound = some o.id) (hs : e.state = .aiming)
    (hr : r.overload = true) (hz : e.config.blanking = 0) (hplan : o.plan = none) (hcancel : o.cancelPending = false)
    (hdose : o.delivered + 50 ≤ o.dose) (hmax : o.dose ≤ 65535) (hkeys : s.cannons.map Prod.fst = [k])
    (hcover : ∃ v ∈ e.config.coverage, v.tag = o.tag)
    (hpermits : s.permits.list = []) (horigins : ∀ y ∈ s.dispatch.orders, y.origin = .host) (hlive : ∀ x ∈ s.piles, x.2.life = .live) :
    ∃ t, settled (u.acted k r opened) = t ∧ t.cannons = [(k, (e.afterTrip s.now).unbound)]
      ∧ t.node? a = some { n with slot := some .close } ∧ litresCountedAtEnd h litres o.id (fun x => x) false s t
      ∧ k ∈ t.notices.cannons ∧ t.piles = s.piles ∧ (∀ i, i ≠ o.id → t.order? i = s.order? i)
      ∧ (e.tripCount + 1 < 3 → t.order? o.id = some { o with
          state := .waiting, pass := none, lastEnd := some .trip, lapseRef := s.clock.minute })
      ∧ (3 ≤ e.tripCount + 1 → t.order? o.id = some { o with
            state := .ended, pass := none, lastEnd := some .trip, starved := false, outcome := some .failed
            endedMinute := some s.clock.minute, endedEvent := s.events + 1 }
          ∧ o.id ∈ t.notices.orders) := by
  have hact := acted_of_aiming_tripped (r := r) hm.cannon hs hb hm.order hpass opened hr hz
  rw [hnode] at hact
  -- OPEN, where it was placed, is replaced by CLOSE, and the aim phase it began ends with the trip
  obtain ⟨x, hx, hxnudged, hxcannon, hxnode, hxdispatch⟩ : ∃ x, (if e.aimPhase = some .slewing ∧ u.aimSettled e r = true
      then u.opening k a p.header else u) = x ∧ State.Nudges a k o.id u x
      ∧ (∃ d, x.cannon? k = some d ∧ d = { e with aimPhase := d.aimPhase })
      ∧ (∃ m, x.node? a = some m ∧ m = { n with slot := m.slot }) ∧ x.dispatch = u.dispatch := by
    split_ifs
    · refine ⟨_, rfl, nudges_opening u a k o.id _, ⟨{ e with aimPhase := some .opening }, cannon_mapCannon_self (s := u.placeStart a (.openValve p.header))
        (f := fun c => { c with aimPhase := some .opening }) hm.cannon, rfl⟩, ?_, rfl⟩
      refine ⟨_, node_mapNode_self (s := u) hn, ?_⟩
      split_ifs <;> rfl
    · exact ⟨_, rfl, .refl u, ⟨e, hm.cannon, rfl⟩, ⟨n, hn, rfl⟩, rfl⟩
  rw [hx] at hact
  obtain ⟨d, hd, hde⟩ := hxcannon
  obtain ⟨m, hmn, hmne⟩ := hxnode
  obtain ⟨v, hv, hvnudged, hvcannon, hvnode, hvdispatch⟩ := tripping_spec x k a o.id
  have hnudged : State.Nudges a k o.id u (v.mapCannon k Cannon.unbound) := (hxnudged.trans hvnudged).mapCannon _
  set z := (v.mapCannon k Cannon.unbound).hand .cannon k with hzdef
  have hact : u.acted k r opened = (z, [.passEnd o.id .trip 0]) := by
    rw [hact, hv]
    rfl
  have hzdispatch : z.dispatch = s.dispatch := hvdispatch.trans (hxdispatch.trans hdispatch)
  have hnow : x.now = s.now := (congrArg State.now hxnudged.frame :).trans (congrArg State.now hm.frame :)
  have hcannon : z.cannon? k = some (e.afterTrip s.now).unbound := by
    refine (cannon_mapCannon_self (f := Cannon.unbound) (hvcannon d hd)).trans ?_
    rw [hnow, hde]
    rfl
  have hzcannons : z.cannons = [(k, (e.afterTrip s.now).unbound)] :=
    eq_single_of_keys (hnudged.keys.trans (hm.keys.trans hkeys)) hcannon
  have hzframe : z = (v.mapCannon k Cannon.unbound).hand .cannon k := hzdef
  rw [hnudged.frame, hm.frame] at hzframe
  have hznow : z.now = s.now := (congrArg State.now hzframe :)
  have hzevents : z.events = s.events + 1 := (congrArg State.events hzframe :)
  obtain ⟨t, ht, hspec, hwaits, hends⟩ := faulted_settles (z := z) (kind := .trip) (id := o.id) (o := o)
    (by rw [State.order?, hzdispatch, ← hdispatch]; exact hm.order) hplan hcancel hdose hmax rfl hzcannons hcover
    ((congrArg (fun y : State => y.permits.list) hzframe :).trans hpermits) (by rw [hzdispatch]; exact horigins)
    (by rw [(congrArg State.piles hzframe :)]; exact hlive)
  have hgone := afterTrip_gone e s.now
  refine ⟨t, (congrArg settled hact).trans ht, hspec.cannons.trans hzcannons, ?_, ?_, ?_, hspec.piles.trans (congrArg State.piles hzframe :),
    fun i hi => (hspec.orders i hi).trans (by rw [State.order?, hzdispatch]; rfl), fun hfew => ?_, fun hmany => ?_⟩
  · rw [State.node?, hspec.loop]
    refine (hvnode m hmn).trans ?_
    rw [hmne]
  · have hzwater : z.water = u.water := (congrArg State.water hnudged.frame :)
    have hzflag : z.notices.flags.water = u.notices.flags.water := (congrArg (fun y : State => y.notices.flags.water) hnudged.frame :)
    exact litresCountedAtEnd_of_settled hm.counted (by rw [hdispatch]) (congrArg State.water hm.frame :) hzwater hzflag hspec
  · rw [hspec.sets.1]
    exact mem_insertKey_iff.2 (.inl rfl)
  · have := hwaits (fun h => absurd (hgone.1 h) (by omega))
    rw [hznow] at this
    exact this
  · have := hends (hgone.2 hmany)
    rw [hznow, hzevents] at this
    exact this

end Sys2Proof.Machine
end

section
set_option Elab.async false
/-! PROOFS. The replies of a cannon node that move its pass (R104 to R110, R114, R115). -/

namespace Sys2Proof.Machine

/-- The slot emptied of the CLOSE an AIM has waited for: the AIM is placed and the slew timer starts. -/
theorem emptySlot_of_waiting {w : State} {a k : Nat} {n : Node} {c : Cannon} {o : Order} {p : Pass} (hn : w.node? a = some n)
    (hslot : n.slot = some .close) (hc : w.cannon? k = some c) (hnode : c.config.node = a) (hw : c.aimWaiting = true)
    (hb : c.bound = some o.id) (ho : w.order? o.id = some o) (hp : o.pass = some p) :
    ∃ v, w.emptySlot a (.cannon k) (.command .close) = v ∧ State.Nudges a k o.id w v ∧ v.dispatch = w.dispatch
      ∧ v.cannon? k = some { c with slew := some c.config.slewTimeout, aimWaiting := false }
      ∧ v.node? a = some { n with slot := some (.aim (o.aimArc c).1 (o.aimArc c).2 c.config.sweepRate) } := by
  have hheld : w.slot? a = some .close := by rw [State.slot?, hn]; exact hslot
  set x := w.mapNode a fun n => { n with slot := none } with hx
  have hxn : x.node? a = some { n with slot := none } := node_mapNode_self (f := fun n => { n with slot := none }) hn
  have hempty : (x.slot? c.config.node).isNone = true := by rw [hnode, State.slot?, hxn]; rfl
  have hv : w.emptySlot a (.cannon k) (.command .close) = (x.placeStart a (.aim (o.aimArc c).1 (o.aimArc c).2
      c.config.sweepRate)).mapCannon k fun c => { c with slew := some c.config.slewTimeout, aimWaiting := false } := by
    simp only [State.emptySlot, if_pos hheld, State.slotEmptied, State.cannonSlotEmptied, ← hx,
      show x.cannon? k = some c from hc, hw, if_true, boundPass?_of_some (u := x) hb ho hp, State.placeAim, if_pos hempty]
    rw [hnode]
  refine ⟨_, hv, (((State.Nudges.refl w).mapNode _).mapNode _).mapCannon _, rfl, cannon_mapCannon_self
    (s := x.placeStart a _) (f := fun c => { c with slew := some c.config.slewTimeout, aimWaiting := false }) hc, ?_⟩
  exact node_mapNode_self (s := x) hxn

theorem aimArc_eq {o : Order} {c : Cannon} {x y : Nat}
    (h : (∃ v, o.plan = none ∧ c.config.coverage.find? (fun v => v.tag == o.tag) = some v ∧ x = v.arcStart ∧ y = v.arcEnd)
      ∨ ∃ q e, o.plan = some q ∧ q.entries[q.current]? = some e ∧ x = e.arcStart ∧ y = e.arcEnd) : o.aimArc c = (x, y) := by
  rcases h with ⟨v, hplan, hv, rfl, rfl⟩ | ⟨q, e, hplan, he, rfl, rfl⟩
  · simp only [Order.aimArc, hplan, Cannon.coverOf?, hv, Option.map_some, Option.getD_some]
  · simp only [Order.aimArc, hplan, Plan.entry?, he, Option.map_some, Option.getD_some]

/-- Settles O41: the litres first, then the report by the state of the cannon, then the overload. -/
theorem repliesMoveThePass : Obligations.RepliesMoveThePass := by
  unfold Obligations.RepliesMoveThePass
  refine ⟨fun a k rest n c o p r meter last litres h s ha hp hn ho hlost hc hnode hb hf hpass hh hlast h16 hl hr hw hs => ?untripped,
    fun a k rest n c tripped o p r meter last litres h s ha hp hn ho hlost hc hnode hb hf
    hpass hh hlast h16 hl hr hz htripped => ⟨fun d hs hv hstart hd hdose => ?spraying, fun hs hphase hstart hplan hcancel hdose hmax
      hpermits horigins hlive hcover hcannons => ?aiming⟩, fun a k x y rest n c o p r meter last h s ha hp hn ho hlost hslot hc hnode
    hs hphase hw hb hf hpass hstart hh hlast h16 hr harc => ?waiting⟩
  case untripped =>
    have hdelta : meterDelta c.meterLast meter.toNat = litres :=
      (congrArg (meterDelta · meter.toNat) hlast).trans ((meterDelta_of_some h16 _).trans hl.symm)
    have hm := metered_meterReply (w := s.answering a rest) (r := r) hc hb hf hpass hh hdelta fun _ => by rw [hlast]; simp
    have hexec := validReply_cannon ha hp hn ho hc r meter
    have hun : ((s.answering a rest).meterReply k c r meter.toNat).node? a = some { n with misses := 0, countdown := none } := by
      rw [(congrArg (fun v : State => v.node? a) hm.frame :), ← answered_of_alive hlost]
      exact node_mapNode_self (s := s.openEvent.withPhase (.between rest)) hn
    set u := (s.answering a rest).meterReply k c r meter.toNat
    obtain ⟨hconfig, hbound, hsame, -⟩ := config_replied c p r meter.toNat litres
    have he := hm.cannon
    have hy := hm.order
    obtain ⟨t, hact, hnudged⟩ := acted_replied hm hnode hb hr hs
    rw [hact, settled_nil] at hexec
    obtain ⟨hframe, hcounted, hcannons, horders, hnodes⟩ := replied_spec (.refl _) hm hnudged
    refine ⟨t, hexec, hframe, hcounted, hcannons, horders, hnodes, fun haim hslew hstart hslot => ?slewing,
      fun haim hphase hvalve hzero hdose hslot => ?opens, fun hspray hstart d hd => ⟨fun hdose => ?feeds, fun hdose => ?doses⟩⟩
    case slewing =>
      have hopens : c.opens r = false := Bool.eq_false_iff.2 fun h => by
        rw [opens_iff, hslew] at h
        exact absurd h.2.1 (by decide)
      have hq : p.replied c r litres = p := by simp [Pass.replied, hopens, hstart]
      have hce : c.replied p r meter.toNat litres = c.heardFrom r meter.toNat litres := by simp [Cannon.replied, hopens, hstart]
      rw [hq, ← hpass] at hy
      rw [hce] at he
      have hsettled : ((c.heardFrom r meter.toNat litres).aimPhase = some .slewing
          ∧ u.aimSettled (c.heardFrom r meter.toNat litres) r = true) ↔ r.settled = true := by
        have : u.slot? c.config.node = none := by rw [State.slot?, hnode, hun]; exact hslot
        simp [State.aimSettled, Cannon.heardFrom, hslew, hw, this]
      have hdone := (hact.symm.trans (acted_of_aiming he haim hb hy hpass (c.opens r) hr))
      obtain rfl := congrArg Prod.fst hdone
      by_cases hset : r.settled = true
      · obtain ⟨hself, hplaced⟩ := opening_self he hun hslot p.header
        rw [if_pos (hsettled.2 hset), if_pos hset, if_pos hset]
        refine ⟨hy, ?_, ?_⟩
        · exact blanked_self (by rw [← hnode] at hself; exact hself) r.overload
        · rw [← hnode] at hplaced ⊢
          exact hplaced
      · rw [if_neg (mt hsettled.1 hset), if_neg hset, if_neg hset]
        refine ⟨hy, ?_, ?_⟩
        · rw [blanked_self he]
          simp [Cannon.heardFrom, hslew, satAdd32, Config.two32]
        · rw [← hslot]
          exact hun
    case opens =>
      have hopens : c.opens r = true := (opens_iff c r).2 ⟨haim, hphase, hvalve⟩
      have hsat : satAdd16 0 litres = litres := by simp [satAdd16, Config.two16]; omega
      have hq : p.replied c r litres = { p with meterStart := some last, state := .spraying, delivered := litres } := by
        simp [Pass.replied, hopens, Pass.fed, hlast, hzero, hsat]
      have hce : c.replied p r meter.toNat litres = { c with
          report := some r, meterLast := some meter.toNat, state := .spraying, aimPhase := none, slew := none } := by
        simp [Cannon.replied, hopens]
      rw [hq] at hy
      rw [hce] at he
      obtain rfl := congrArg Prod.fst (hact.symm.trans (acted_of_fed he rfl hb hy rfl (.inr hopens)
        (show ¬ p.dose - c.config.rampAllowance ≤ litres by omega) hr))
      exact ⟨hy, blanked_self he _, hun⟩
    all_goals
      have hopens : c.opens r = false := Bool.eq_false_iff.2 fun h => by
        rw [opens_iff, hspray] at h
        exact absurd h.1 (by decide)
      have hstarted : p.meterStart.isSome = true := Option.isSome_iff_ne_none.2 hstart
      have hv : r.valve ≠ .closed := hs.elim (fun h => by rw [hspray] at h; exact absurd h (by decide)) And.right
      have hq : p.replied c r litres = { p with delivered := d } := by
        simp [Pass.replied, hopens, hstarted, fed_delivered, hd]
      have hce : c.replied p r meter.toNat litres = { c with report := some r, meterLast := some meter.toNat } := by
        simp [Cannon.replied, hopens, hstarted]
      rw [hq] at hy
      rw [hce] at he
    case feeds =>
      obtain rfl := congrArg Prod.fst (hact.symm.trans (acted_of_fed he hspray hb hy rfl (.inl hv)
        (show ¬ p.dose - c.config.rampAllowance ≤ d by omega) hr))
      exact ⟨hy, blanked_self he _, hun⟩
    case doses =>
      obtain rfl := congrArg Prod.fst (hact.symm.trans (acted_of_dosed he hspray hb hy rfl (.inl hv) hdose))
      refine ⟨?_, cannon_closing_self he, ?_⟩
      · exact order?_mapOrder_self (s := u.closing k c.config.node Cannon.ramping) (f := fun o => o.mapPass Pass.ramping) hy
          fun _ => rfl
      · rw [← hnode] at hun ⊢
        exact node_closing_self (n := k) (f := Cannon.ramping) hun
  case spraying =>
    have hdelta : meterDelta c.meterLast meter.toNat = litres :=
      (congrArg (meterDelta · meter.toNat) hlast).trans ((meterDelta_of_some h16 _).trans hl.symm)
    have hopens : c.opens r = false := Bool.eq_false_iff.2 fun h => by
      rw [opens_iff, hs] at h
      exact absurd h.1 (by decide)
    have hstarted : p.meterStart.isSome = true := Option.isSome_iff_ne_none.2 hstart
    have hq : p.replied c r litres = { p with delivered := d } := by
      simp [Pass.replied, hopens, hstarted, fed_delivered, hd]
    have hce : c.replied p r meter.toNat litres = { c with report := some r, meterLast := some meter.toNat } := by
      simp [Cannon.replied, hopens, hstarted]
    have hm := metered_meterReply (w := s.answering a rest) (r := r) hc hb hf hpass hh hdelta fun _ => by rw [hlast]; simp
    rw [hq, hce] at hm
    have hexec := validReply_cannon ha hp hn ho hc r meter
    rw [hopens] at hexec
    have hun : ((s.answering a rest).meterReply k c r meter.toNat).node? a = some { n with misses := 0, countdown := none } := by
      rw [(congrArg (fun v : State => v.node? a) hm.frame :), ← answered_of_alive hlost]
      exact node_mapNode_self (s := s.openEvent.withPhase (.between rest)) hn
    obtain ⟨t, ht, hframe, hcounted, hcannon, hrest⟩ := tripped_spraying_spec hm hun hnode hb hs hv
      (show ¬ p.dose - c.config.rampAllowance ≤ d by omega) hr hz
    rw [ht] at hexec
    refine ⟨t, hexec, hframe, hcounted, hcannon.trans ?_, hrest⟩
    rw [afterTrip_eq, htripped]
    rfl
  case aiming =>
    have hdelta : meterDelta c.meterLast meter.toNat = litres :=
      (congrArg (meterDelta · meter.toNat) hlast).trans ((meterDelta_of_some h16 _).trans hl.symm)
    have hopens : c.opens r = false := Bool.eq_false_iff.2 fun h => by
      obtain ⟨-, hopening, hvalve⟩ := (opens_iff c r).1 h
      rcases hphase with hslew | ⟨-, hv⟩
      · rw [hslew] at hopening
        exact absurd hopening (by decide)
      · exact hv hvalve
    have hq : p.replied c r litres = p := by simp [Pass.replied, hopens, hstart]
    have hce : c.replied p r meter.toNat litres = c.heardFrom r meter.toNat litres := by simp [Cannon.replied, hopens, hstart]
    have hm := metered_meterReply (w := s.answering a rest) (r := r) hc hb hf hpass hh hdelta fun _ => by rw [hlast]; simp
    rw [hq, hce, ← hpass] at hm
    have hun : ((s.answering a rest).meterReply k c r meter.toNat).node? a = some { n with misses := 0, countdown := none } := by
      rw [(congrArg (fun v : State => v.node? a) hm.frame :), ← answered_of_alive hlost]
      exact node_mapNode_self (s := s.openEvent.withPhase (.between rest)) hn
    obtain ⟨t, ht, htcannons, hrest⟩ := tripped_aiming_spec (r := r) (opened := c.opens r) hm hpass
      (dispatch_meterReply_of_unstarted (w := s.answering a rest) hb hf hpass hh hopens hstart) hun hnode hb hs hr hz hplan hcancel hdose hmax (by rw [hcannons]; rfl)
      hcover hpermits horigins hlive
    refine ⟨t, (validReply_cannon ha hp hn ho hc r meter).trans (congrArg Host.Outcome.next ht), htcannons.trans ?_, hrest⟩
    rw [afterTrip_eq, htripped]
    rfl
  case waiting =>
    have hwn : (s.answering a rest).node? a = some { n with misses := 0, countdown := none } := by
      rw [← answered_of_alive hlost]
      exact node_mapNode_self (s := s.openEvent.withPhase (.between rest)) hn
    obtain ⟨v, hv, hnudged, hvdispatch, hvc, hvn⟩ := emptySlot_of_waiting (w := s.answering a rest) hwn hslot hc hnode hw hb hf hpass
    rw [aimArc_eq harc] at hvn
    set d : Cannon := { c with slew := some c.config.slewTimeout, aimWaiting := false } with hd
    have hexec : exec (.validReply ((NodeReply.cannon r meter.toNat).bytes a)) s =
        .next (settled ((v.meterReply k d r meter.toNat).acted k r (d.opens r))) := by
      refine congrArg Host.Outcome.next ((endExchange_of_some (s := s.openEvent) hp hn (parseReply_cannon ha ho r meter)).trans ?_)
      rw [State.takeReply, ho]
      refine (congrArg (fun x : State => settled (x.handOn (.cannon k) (.cannon r meter.toNat) n.lost)) hv).trans ?_
      exact congrArg settled (takeCannonReply_eq_acted hvc r meter.toNat)
    have hopens : d.opens r = false := Bool.eq_false_iff.2 fun h => by
      obtain ⟨-, hopening, -⟩ := (opens_iff d r).1 h
      exact absurd (hphase.symm.trans hopening) (by decide)
    have hvo : v.order? o.id = some o := by rw [State.order?, hvdispatch]; exact hf
    have hdelta : meterDelta d.meterLast meter.toNat = (meter.toNat + 65536 - last) % 65536 :=
      (congrArg (meterDelta · meter.toNat) hlast).trans (meterDelta_of_some h16 _)
    have hm := metered_meterReply (r := r) hvc hb hvo hpass hh hdelta fun _ => by rw [hd, hlast]; simp
    have hq : p.replied d r ((meter.toNat + 65536 - last) % 65536) = p := by simp [Pass.replied, hopens, hstart]
    have hce : d.replied p r meter.toNat ((meter.toNat + 65536 - last) % 65536) =
        d.heardFrom r meter.toNat ((meter.toNat + 65536 - last) % 65536) := by simp [Cannon.replied, hopens, hstart]
    rw [hq, hce, ← hpass] at hm
    have hun : (v.meterReply k d r meter.toNat).node? a =
        some { n with misses := 0, countdown := none, slot := some (.aim x y c.config.sweepRate) } := by
      rw [(congrArg (fun v : State => v.node? a) hm.frame :)]
      exact hvn
    set u := v.meterReply k d r meter.toNat
    have hfull : u.slot? c.config.node = some (.aim x y c.config.sweepRate) := by rw [State.slot?, hnode, hun]; rfl
    have hact := acted_of_aiming (r := r) hm.cannon hs hb hm.order hpass (d.opens r) hr
    rw [if_neg (fun h => by
      have h := h.2
      rw [State.aimSettled] at h
      change (r.settled && !false && (u.slot? c.config.node).isNone) = true at h
      rw [hfull] at h
      simp at h)] at hact
    rw [hact, settled_nil] at hexec
    obtain ⟨hframe, hcounted, hcannons, horders, hnodes⟩ := replied_spec hnudged hm (nudges_blanked u a k o.id r.overload)
    refine ⟨_, hexec, hframe, hcounted, hun, hnodes, (blanked_self hm.cannon r.overload), hcannons, fun i => ?_⟩
    have hdispatch := dispatch_meterReply_of_unstarted (k := k) (meter := meter.toNat) (w := v) hb hvo hpass hh hopens hstart
    rw [State.order?, show (u.blanked k r.overload).dispatch = (s.answering a rest).dispatch from hdispatch.trans hvdispatch]
    rfl

end Sys2Proof.Machine
end

section
set_option Elab.async false
/-! PROOFS. A pass that a fault ends with litres metered, in a yard of one pile and one cannon (R37, R38, R89, R92). -/

namespace Sys2Proof.Machine

/-! ## The gain of the pile -/

theorem pileAt_single {s : State} {slot tag : Nat} {p : Pile} (hs : s.piles = [(slot, p)]) (htag : p.tag = tag) :
    s.pileAt? tag = some (slot, p) := by
  simp [State.pileAt?, hs, htag]

/-- What a pass that delivered some litres, or none, leaves of a pile. -/
def Pile.gainedBy (p : Pile) (g : Grade) (vm now : Nat) : Pile := if vm = 0 then p else passGain g vm now p

/-- What of the runoff the pond keeps. -/
def Pond.fedBy (x : Pond) (p : Pile) (g : Grade) (vm : Nat) : Nat :=
  if vm = 0 ∨ gained g vm p ≤ g.msat then x.volume else min (x.volume + runoffOf g vm p) x.capacity

/-- The gain in a yard of one pile whose pond has no transfer station. -/
theorem applyGain_spec {s : State} {slot tag vm : Nat} {p : Pile} {g : Grade} (hs : s.piles = [(slot, p)]) (htag : p.tag = tag)
    (hg : Table.get s.grades p.grade = some g) (hnode : s.water.pond.node = none) (hrun : s.water.transfer.state = .stopped)
    (hpond : s.water.pond.volume ≤ s.water.pond.capacity) : ∃ x ts, s.applyGain tag vm = (x, ts)
      ∧ (ts = [] ∨ (vm ≠ 0 ∧ ts = [.tellPile tag])) ∧ x = { s with
        piles := [(slot, p.gainedBy g vm s.now)]
        notices := { s.notices with flags := { s.notices.flags with water := x.notices.flags.water } }
        water := { s.water with pond := { s.water.pond with volume := s.water.pond.fedBy p g vm, spill := x.water.pond.spill } } } := by
  by_cases hz : vm = 0
  · subst hz
    refine ⟨s, [], applyGain_zero s tag, .inl rfl, ?_⟩
    simp only [Pile.gainedBy, Pond.fedBy, if_true, true_or, ← hs]
  · have hmap : (s.mapPile slot fun p => passGain g vm s.now p) = { s with piles := [(slot, p.gainedBy g vm s.now)] } := by
      simp [State.mapPile, Table.update, hs, Pile.gainedBy, hz]
    set y := s.mapPile slot fun p => passGain g vm s.now p with hy
    have hgain : s.applyGain tag vm = (if runoffOf g vm p = 0 then y else y.creditPond (runoffOf g vm p), [.tellPile tag]) := by
      simp only [State.applyGain, pileAt_single hs htag, State.gradeOf?, hg, if_neg hz]
      rfl
    refine ⟨_, _, hgain, .inr ⟨hz, rfl⟩, ?_⟩
    by_cases hnone : runoffOf g vm p = 0
    · have hkept : s.water.pond.fedBy p g vm = s.water.pond.volume := by
        rw [Pond.fedBy, hnone]
        split_ifs
        · rfl
        · exact min_eq_left hpond
      rw [if_pos hnone, hkept, hmap]
    · have hover : ¬ gained g vm p ≤ g.msat := fun h => hnone (by rw [runoffOf, Nat.sub_eq_zero_of_le h]; simp)
      have hfed : s.water.pond.fedBy p g vm = min (s.water.pond.volume + runoffOf g vm p) s.water.pond.capacity :=
        if_neg (not_or.2 ⟨hz, hover⟩)
      have hstill : ∀ c, y.creditPond c = { y with
          notices := { y.notices with flags := { y.notices.flags with
            water := y.notices.flags.water || decide (y.water.pond.excess c ≠ 0) } }
          water := { y.water with pond := y.water.pond.credited c } } := fun c => by
        rw [creditPond_eq]
        exact evalTransfer_of_held (by rw [hmap]; exact hrun) (.inr (startConditions_of_no_node (by rw [hmap]; exact hnode)))
      rw [if_neg hnone, hfed, hstill, hmap]
      rfl

theorem creditedEnd_of_no_plan {o : Order} (kind : PassKind) {vm : Nat} (hplan : o.plan = none)
    (hd : o.delivered + vm ≤ 4294967295) : o.creditedEnd kind vm = { o with
      pass := o.pass.map fun p => { p with state := .closed, delivered := vm }, lastEnd := some kind
      delivered := o.delivered + vm } := by
  have : satAdd32 o.delivered vm = o.delivered + vm := by simp [satAdd32, Config.two32]; omega
  rw [Order.creditedEnd, this, hplan]
  rfl

theorem tellPile_of_dry {s : State} {q : Option Nat} {tag slot : Nat} {p : Pile} {g : Grade} (hp : s.pileAt? tag = some (slot, p))
    (hg : Table.get s.grades p.grade = some g) (hdry : p.m < g.mwork) : s.tellPile q tag = (s, []) := by
  have hwork : s.workable p = false := by
    rw [workable_iff hg, decide_eq_false_iff_not]
    omega
  simp only [State.tellPile, hp, hwork]
  exact if_neg fun h => Bool.false_ne_true h.2.1

/-! ## The fault and all that follows it -/

/-- A yard of one LIVE pile and one cannon that covers it, with an order on it that has no plan: either no permit stands and all
orders are the host's, or the order is the one PREWET order and the permits wait on it. -/
structure State.FaultYard (z : State) (k slot vm : Nat) (e : Cannon) (o : Order) (pile : Pile) (g : Grade) : Prop where
  order : z.order? o.id = some o
  plan : o.plan = none
  running : o.cancelPending = false
  dose : o.delivered + vm + 50 ≤ o.dose
  max : o.dose ≤ 65535
  cannons : z.cannons = [(k, e)]
  cover : ∃ v ∈ e.config.coverage, v.tag = o.tag
  piles : z.piles = [(slot, pile)]
  tag : pile.tag = o.tag
  live : pile.life = .live
  grade : Table.get z.grades pile.grade = some g
  node : z.water.pond.node = none
  still : z.water.transfer.state = .stopped
  pond : z.water.pond.volume ≤ z.water.pond.capacity
  permits : (z.permits.list = [] ∧ ∀ x ∈ z.dispatch.orders, x.origin = .host)
    ∨ (z.permits.list.length ≤ 16 ∧ (z.permits.list.map fun x => x.machine).Nodup ∧ z.permits.list ≠ []
      ∧ z.dispatch.orders = [o] ∧ o.origin = .prewet ∧ pile.retirePending = false ∧ min g.msat (gained g vm pile) < g.mwork
      ∧ ∀ x ∈ z.permits.list, x.tag = o.tag ∧ x.state = .pendingWet ∧ x.prewetOrder = some o.id)

/-- What the pass end of a fault leaves of such a yard, whatever becomes of the order. -/
structure State.FaultedFrom (z t : State) (slot vm : Nat) (o : Order) (pile : Pile) (g : Grade) : Prop where
  cannons : t.cannons = z.cannons
  loop : t.loop = z.loop
  port : t.port = z.port
  cannonSet : t.notices.cannons = z.notices.cannons
  piles : t.piles = [(slot, pile.gainedBy g vm z.now)]
  pond : t.water.pond = { z.water.pond with volume := z.water.pond.fedBy pile g vm, spill := t.water.pond.spill }
  orders : ∀ i, i ≠ o.id → t.order? i = z.order? i

/-- The state once the order has been credited and the pile has gained. -/
theorem reaches_gain {z : State} {k slot vm : Nat} {kind : PassKind} {e : Cannon} {o : Order} {pile : Pile} {g : Grade} (h : z.FaultYard k slot vm e o pile g) :
    ∃ x, (∀ {t m}, Reaches none [.passNext o.id kind] x m t → Reaches none [.passEnd o.id kind vm] z (m + 2) t)
      ∧ x = { z.mapOrder o.id (·.creditedEnd kind vm) with
        piles := [(slot, pile.gainedBy g vm z.now)]
        notices := { z.notices with flags := { z.notices.flags with water := x.notices.flags.water } }
        water := { z.water with pond := { z.water.pond with
          volume := z.water.pond.fedBy pile g vm, spill := x.water.pond.spill } } } := by
  obtain ⟨x, ts, hx, hts, hframe⟩ := applyGain_spec (s := z.mapOrder o.id (·.creditedEnd kind vm)) (vm := vm) (tag := o.tag)
    h.piles h.tag h.grade h.node h.still h.pond
  have hend : doTask none (.passEnd o.id kind vm) z = (x, ts ++ [.passNext o.id kind]) := by
    change z.passEnd o.id kind vm = _
    simp only [State.passEnd, h.order, hx]
  refine ⟨x, fun {t m} hreach => ?_, hframe⟩
  rcases hts with rfl | ⟨hz, rfl⟩
  · exact (Reaches.one hend hreach).mono (by omega)
  · have htold : doTask none (.tellPile o.tag) x = (x, []) := by
      change x.tellPile none o.tag = _
      rcases h.permits with ⟨hnone, -⟩ | ⟨-, -, -, -, -, -, hdry, -⟩
      · refine tellPile_quiet x none _ fun y hy => ?_
        rw [hframe] at hy
        exact absurd (hnone ▸ hy) (by simp)
      · have hpiles : x.piles = [(slot, passGain g vm z.now pile)] := by
          rw [hframe, Pile.gainedBy, if_neg hz]
          rfl
        exact tellPile_of_dry (g := g) (pileAt_single hpiles h.tag) (by rw [hframe]; exact h.grade) hdry
    exact (Reaches.one hend ((Reaches.single htold).cons hreach)).mono (by omega)

section
variable {z x : State} {k slot vm : Nat} {kind : PassKind} {e : Cannon} {o : Order} {pile : Pile} {g : Grade}
  (h : z.FaultYard k slot vm e o pile g) (hframe : x = { z.mapOrder o.id (·.creditedEnd kind vm) with
        piles := [(slot, pile.gainedBy g vm z.now)]
        notices := { z.notices with flags := { z.notices.flags with water := x.notices.flags.water } }
        water := { z.water with pond := { z.water.pond with
          volume := z.water.pond.fedBy pile g vm, spill := x.water.pond.spill } } })
include h hframe

theorem order?_gained : x.order? o.id = some { o with
    pass := o.pass.map fun p => { p with state := .closed, delivered := vm }, lastEnd := some kind
    delivered := o.delivered + vm } := by
  have hd := h.dose
  have hm := h.max
  rw [← creditedEnd_of_no_plan kind h.plan (by omega), hframe]
  exact order?_mapOrder_self (f := (·.creditedEnd kind vm)) h.order fun _ => rfl

omit h in
theorem faultedFrom_settled {t : State} (ht : x.SettledFrom t o.id) : z.FaultedFrom t slot vm o pile g := by
  refine ⟨ht.cannons.trans ?_, ht.loop.trans ?_, ht.port.trans ?_, ht.sets.1.trans ?_, ht.piles.trans ?_, ?_, fun i hi =>
    (ht.orders i hi).trans ?_⟩
  · rw [hframe]; rfl
  · rw [hframe]; rfl
  · rw [hframe]; rfl
  · rw [hframe]
  · rw [hframe]
  · have : t.water.pond = x.water.pond := by rw [ht.water]
    rw [this]
    conv_lhs => rw [hframe]
  · rw [hframe]
    exact order?_mapOrder_of_ne (f := (·.creditedEnd kind vm)) (fun _ => rfl) hi

end

theorem any_gained {z x : State} {id vm : Nat} {kind : PassKind} {y : Order}
    (hx : x.dispatch = (z.mapOrder id (·.creditedEnd kind vm)).dispatch) (hy : y ∈ x.dispatch.orders) :
    ∃ w ∈ z.dispatch.orders, y.id = w.id ∧ y.tag = w.tag ∧ y.origin = w.origin := by
  rw [hx] at hy
  obtain ⟨w, hw, rfl⟩ := mem_mapOrder hy
  exact ⟨w, hw, by split_ifs <;> exact ⟨rfl, rfl, rfl⟩⟩

section
variable {z : State} {k slot vm : Nat} {kind : PassKind} {e : Cannon} {o : Order} {pile : Pile} {g : Grade}
  (h : z.FaultYard k slot vm e o pile g) (hkind : kind.isFault = true)
include h hkind

/-- A fault that leaves the cannon in use: the order waits again, and the permits that wait on it wait on. -/
theorem settled_fault_waits (hstate : ¬ (e.state = .locked ∨ e.state = .lost)) :
    ∃ t, settled (z, [.passEnd o.id kind vm]) = t ∧ z.FaultedFrom t slot vm o pile g
      ∧ t.order? o.id = some { o with
          state := .waiting, pass := none, lastEnd := some kind, delivered := o.delivered + vm, lapseRef := z.now }
      ∧ t.permits = z.permits ∧ t.notices.permits = z.notices.permits := by
  obtain ⟨x, hreach, hframe⟩ := reaches_gain (kind := kind) h
  have horder := order?_gained h hframe
  have hdispatch : x.dispatch = (z.mapOrder o.id (·.creditedEnd kind vm)).dispatch := by rw [hframe]
  have hpermits : x.permits = z.permits := by rw [hframe]; rfl
  have hnow : x.now = z.now := by rw [hframe]; rfl
  have htold : doTask none (.passTold o.tag) (x.settledTo o.id (Order.waitsAgain · x.now) 1) =
      (x.settledTo o.id (Order.waitsAgain · x.now) 1, []) := by
    have hlist : (x.settledTo o.id (Order.waitsAgain · x.now) 1).permits.list = z.permits.list :=
      (congrArg Permits.list (permits_settledTo ..)).trans (congrArg Permits.list hpermits)
    refine passTold_of_waited (fun y hy => ?_) fun y hy hp htag hw => ?_
    · rcases h.permits with ⟨hnone, -⟩ | ⟨-, -, -, -, -, -, -, hall⟩
      · rw [hlist, hnone] at hy
        exact absurd hy (by simp)
      · obtain ⟨-, hs, -⟩ := hall y (hlist ▸ hy)
        simp [Permit.clearsOn, hs]
    · obtain ⟨w, hwm, hwid, -, hworigin, -⟩ := restates_settledTo x o.id (Order.waitsAgain · x.now) 1 (fun _ => ⟨rfl, rfl, rfl⟩) y hy
      obtain ⟨v, hv, hvid, -, hvorigin⟩ := any_gained hdispatch hwm
      rcases h.permits with ⟨-, hhosts⟩ | ⟨-, -, hsome, horders, -, -, -, hall⟩
      · rw [hworigin, hvorigin, hhosts v hv] at hp
        exact absurd hp (by decide)
      · obtain ⟨a, ha⟩ := List.exists_mem_of_ne_nil _ hsome
        obtain ⟨hatag, has, haid⟩ := hall a ha
        rw [horders, List.mem_singleton] at hv
        refine ⟨a, hlist ▸ ha, ?_, ?_⟩
        · simp [Permit.waitsOn, hatag, has]
        · rw [haid, hwid, hvid, hv]
  have hwaits := reaches_fault_waits (u := x) (q := none) (o := { o with
    pass := o.pass.map fun p => { p with state := .closed, delivered := vm }, lastEnd := some kind, delivered := o.delivered + vm })
    horder h.plan h.running h.dose hkind (by rw [hframe]; exact h.cannons) h.cover hstate htold
  have hspec := settledFrom_settledTo x o.id (Order.waitsAgain · x.now) 1 (fun _ => rfl) fun _ => rfl
  refine ⟨_, (hreach hwaits).settled_eq (by omega), faultedFrom_settled hframe hspec, ?_, hspec.permits.trans hpermits,
    hspec.sets.2.trans (by rw [hframe])⟩
  rw [order?_settledTo (f := (Order.waitsAgain · x.now)) horder fun _ => rfl, hnow]
  rfl

/-- A fault that leaves no cannon: the order ends FAILED, and the permits that wait on it are refused. -/
theorem settled_fault_ends (hstate : e.state = .locked ∨ e.state = .lost) :
    ∃ t, settled (z, [.passEnd o.id kind vm]) = t ∧ z.FaultedFrom t slot vm o pile g ∧ o.id ∈ t.notices.orders
      ∧ t.order? o.id = some { o with
          state := .ended, pass := none, lastEnd := some kind, delivered := o.delivered + vm, starved := false
          outcome := some .failed, endedMinute := some z.now, endedEvent := z.events }
      ∧ t.permits = { z.permits with
          list := [], outcomes := z.permits.list.foldl (fun acc x => Table.set acc x.machine
            ⟨.refusedTooDry, z.now, x.tag, x.id, none⟩) z.permits.outcomes }
      ∧ ∀ i, i ∈ t.notices.permits ↔ i ∈ z.notices.permits ∨ ∃ x ∈ z.permits.list, x.machine = i := by
  obtain ⟨x, hreach, hframe⟩ := reaches_gain (kind := kind) h
  have horder := order?_gained h hframe
  have hdispatch : x.dispatch = (z.mapOrder o.id (·.creditedEnd kind vm)).dispatch := by rw [hframe]
  have hpermits : x.permits = z.permits := by rw [hframe]; rfl
  have hnow : x.now = z.now := by rw [hframe]; rfl
  have hevents : x.events = z.events := by rw [hframe]; rfl
  set y := x.settledTo o.id (Order.ended · .failed x.now x.events) 0 with hy
  have hself : y.order? o.id = some { o with
      state := .ended, pass := none, lastEnd := some kind, delivered := o.delivered + vm, starved := false
      outcome := some .failed, endedMinute := some z.now, endedEvent := z.events } := by
    rw [hy, order?_settledTo (f := (Order.ended · .failed x.now x.events)) horder fun _ => rfl, hnow, hevents]
    rfl
  have hlist : y.permits = z.permits := (permits_settledTo ..).trans hpermits
  have hpiles : y.piles = [(slot, pile.gainedBy g vm z.now)] := (piles_settledTo ..).trans (by rw [hframe])
  have hlive : ∀ e ∈ y.piles, e.2.life = .live := by
    rw [hpiles]
    intro e he
    rw [List.mem_singleton.1 he, Pile.gainedBy]
    split_ifs <;> exact h.live
  have hspec := settledFrom_settledTo x o.id (Order.ended · .failed x.now x.events) 0 (fun _ => rfl) fun _ => rfl
  have hends : ∀ {t : State} {m : Nat}, Reaches none [.orderEnded o.id] y m t →
      (∀ a ∈ y.permits.list, a.clearsOn o.tag = false) →
      (∀ b ∈ z.dispatch.orders, b.origin = .prewet → b.id = o.id) → Reaches none [.passEnd o.id kind vm] z (m + 4) t := by
    intro t m hend hclear hprewet
    have htold : doTask none (.passTold o.tag) y = (y, []) := by
      refine passTold_of_waited hclear fun b hb hp htag hw => ?_
      obtain ⟨w, hwm, hwid, -, hworigin, -⟩ := restates_settledTo x o.id (Order.ended · .failed x.now x.events) 0 (fun _ => ⟨rfl, rfl, rfl⟩) b hb
      obtain ⟨v, hv, hvid, -, hvorigin⟩ := any_gained hdispatch hwm
      have hid := hprewet v hv (hvorigin.symm.trans (hworigin.symm.trans hp))
      obtain ⟨c, -, rfl⟩ := mem_mapOrder (show b ∈ ((x.unpassed o.id).mapOrder o.id (Order.ended · .failed x.now x.events)).dispatch.orders from hb)
      split_ifs at hw hwid with hc
      · exact absurd hw (by simp [Order.ended])
      · exact absurd (hwid.trans (hvid.trans hid)) hc
    exact hreach (reaches_fault_ends (u := x) (q := none) (o := { o with
      pass := o.pass.map fun p => { p with state := .closed, delivered := vm }, lastEnd := some kind, delivered := o.delivered + vm })
      horder h.plan h.running h.dose hkind (by rw [hframe]; exact h.cannons) h.cover hstate htold hend)
  rcases h.permits with ⟨hnone, hhosts⟩ | ⟨hlen, hmachines, -, horders, horigin, hpending, -, hall⟩
  · have hend := hends (reaches_orderEnded hself
      (fun hp => absurd ((hhosts o (List.mem_of_find?_eq_some h.order)).symm.trans hp) (by decide))
      (checkFree_of_live (s := y.hand .order o.id) hlive _)) (by rw [hlist, hnone]; simp)
      fun b hb hp => absurd ((hhosts b hb).symm.trans hp) (by decide)
    refine ⟨_, hend.settled_eq (by omega), faultedFrom_settled hframe (hspec.handed o.id), mem_insertKey_iff.2 (.inl rfl),
      hself, ?_, fun i => ?_⟩
    · refine Eq.trans (b := y.permits) rfl (hlist.trans ?_)
      rw [hnone, List.foldl_nil, ← hnone]
    · rw [hnone, (hspec.handed o.id).sets.2, hframe]
      simp
  · have hnames : (y.permits.list.filter fun p => p.names o.id) = z.permits.list := by
      rw [hlist]
      exact List.filter_eq_self.2 fun a ha => by
        obtain ⟨-, hs, hid⟩ := hall a ha
        simp [names_eq, hs, hid]
    have hkept : ∀ s' p', (slot, pile.gainedBy g vm z.now) = (s', p') → p'.retirePending = false := fun s' p' he => by
      rw [← (Prod.mk.inj he).2, Pile.gainedBy]
      split_ifs <;> exact hpending
    have hgone := reaches_prewetGone hself rfl horigin rfl (.inr (.inr rfl)) (fun s' p' hp => hlive _ (State.pileAt_mem hp).1)
      (by rw [hlist]; exact hlen) (by rw [hlist]; exact hmachines) fun a _ s' p' hp => by
        have := (State.pileAt_mem hp).1
        rw [hpiles, List.mem_singleton] at this
        exact hkept s' p' this.symm
    rw [hnames] at hgone
    have hend := hends hgone (by
      rw [hlist]
      intro a ha
      simp [Permit.clearsOn, (hall a ha).2.1]) fun b hb _ => by rw [horders, List.mem_singleton] at hb; rw [hb]
    have hnotices := refuseAll_notices (y.hand .order o.id) z.permits.list
    have hsets : ((y.hand .order o.id).refuseAll z.permits.list).notices.cannons = x.notices.cannons := by
      rw [hnotices]
      exact hspec.sets.1
    have hhanded := faultedFrom_settled hframe (hspec.handed o.id)
    refine ⟨_, hend.settled_eq (by omega), ⟨hhanded.cannons, hhanded.loop, hhanded.port, ?_, hhanded.piles, hhanded.pond,
      hhanded.orders⟩, ?_, hself, ?_, fun i => ?_⟩
    · rw [hsets, hframe]
    · rw [hnotices]
      exact mem_insertKey_iff.2 (.inl rfl)
    · have hnow' : (y.hand .order o.id).now = z.now := (congrArg Clock.minute (clock_settledTo x o.id _ 0)).trans hnow
      have hempty : (z.permits.list.filter fun a => !(z.permits.list.any fun b => b.machine == a.machine)) = [] :=
        List.filter_eq_nil_iff.2 fun a ha => by simpa using ⟨a, ha, rfl⟩
      rw [State.refuseAll]
      simp only [show (y.hand .order o.id).permits = z.permits from hlist, hnow', hempty]
    · rw [hnotices]
      have hperm : (y.hand .order o.id).notices.permits = z.notices.permits := hspec.sets.2.trans (by rw [hframe])
      simp only [hperm, mem_insertKeys, List.mem_map]

end

end Sys2Proof.Machine
end

section
set_option Elab.async false
/-! PROOFS. The timers of a cannon, and the passes that end by a fault (R109, R113 to R115, R118, R119). -/

namespace Sys2Proof.Machine

section
variable {s : State} {n : Nat} {c : Cannon} (hc : s.cannon? n = some c)
include hc

theorem slewExpiry_of_over (hs : c.state = .aiming) (hz : c.slew = some 0) : s.slewExpiry n = s.trip n .aimTimeout := by
  simp only [State.slewExpiry, hc, if_pos (And.intro hs hz)]

theorem blankingExpiry_of_over (hon : c.blankingOn = true) (hs : c.state = .aiming ∨ c.state = .spraying) :
    s.blankingExpiry n = s.trip n .trip := by
  simp only [State.blankingExpiry, hc, if_pos (And.intro hon hs)]

/-- A cannon locked by its close wait. -/
def Cannon.stuck (c : Cannon) : Cannon := { c.unbound with state := .locked, closeWait := none }

theorem closeWaitExpiry_of_over (hz : c.closeWait = some 0) : s.closeWaitExpiry n =
    ((s.mapCannon n Cannon.stuck).hand .cannon n, c.passEndTasks .valveStuck (s.metered c) ++ c.closeTold) := by
  simp only [State.closeWaitExpiry, hc, if_pos hz]
  rfl

end

theorem mapCannon_single {s : State} {n : Nat} {c : Cannon} (hs : s.cannons = [(n, c)]) (f : Cannon → Cannon) :
    s.mapCannon n f = { s with cannons := [(n, f c)] } := by
  simp [State.mapCannon, Table.update, hs]

theorem cannon?_single {s : State} {n : Nat} {c : Cannon} (hs : s.cannons = [(n, c)]) : s.cannon? n = some c := by
  simp [State.cannon?, Table.get, hs]

/-- A cannon whose node is lost. -/
def Cannon.gone (c : Cannon) : Cannon := { c.quiet with state := .lost, header := none }

/-- The one cannon of a yard, with a pass, is declared LOST: its header slot is released and the pass ended. -/
theorem cannonLost_of_bound {s : State} {n : Nat} {c : Cannon} (hcannons : s.cannons = [(n, c)])
    (hs : c.state = .aiming ∨ c.state = .spraying ∨ c.state = .rampDown ∨ c.state = .tripped) : ∃ j, s.cannonLost n =
      ({ s with
          cannons := [(n, c.gone)], notices := s.notices.hand .cannon n
          dispatch := { s.dispatch with due := s.dispatch.due + j } },
        c.passEndTasks .lost (s.metered c) ++ c.closeTold) := by
  have hc := cannon?_single hcannons
  have hlost : s.cannonLost n = (((s.mapCannon n fun c => { c.quiet with state := .lost }).releaseHeader n).hand .cannon n,
      c.passEndTasks .lost (s.metered c) ++ c.closeTold) := by
    rcases hs with hs | hs | hs | hs <;> simp only [State.cannonLost, hc, hs]
  have hself : (s.mapCannon n fun c => { c.quiet with state := .lost }).cannon? n = some { c.quiet with state := .lost } :=
    cannon_mapCannon_self (f := fun c => { c.quiet with state := .lost }) hc
  by_cases hh : c.header = none
  · refine ⟨0, ?_⟩
    have hgone : c.gone = { c.quiet with state := .lost } := by
      rw [Cannon.gone, ← hh]
      rfl
    rw [hlost, releaseHeader_of_none hself hh, mapCannon_single hcannons, hgone]
    rfl
  · refine ⟨1, ?_⟩
    rw [hlost, releaseHeader_of_some hself hh, mapCannon_mapCannon, mapCannon_single hcannons]
    rfl

theorem stuck_of_unbound {c : Cannon} (hb : c.bound = none) : c.stuck = { c with
    state := .locked, closeWait := none, slew := none, blankingOn := false, aimWaiting := false } := by
  cases c
  simp_all [Cannon.stuck, Cannon.unbound]

/-- What a bound cannon's ending tells: the pass end alone. -/
theorem endTasks_of_bound {s : State} {c : Cannon} {o : Order} {p : Pass} (hb : c.bound = some o.id) (ho : s.order? o.id = some o)
    (hp : o.pass = some p) (kind : PassKind) :
    c.passEndTasks kind (s.metered c) ++ c.closeTold = [.passEnd o.id kind p.delivered] ∧ s.metered c = p.delivered := by
  have hm : s.metered c = p.delivered := by simp [State.metered, boundPass?_of_some hb ho hp]
  refine ⟨?_, hm⟩
  simp [Cannon.passEndTasks, Cannon.closeTold, hb, hm]

/-- A trip from AIMING, by a timer: the cannon tripped, and the order settled. -/
theorem timerTrip_aiming {s : State} {k : Nat} {c : Cannon} {o : Order} {n : Node} {kind : PassKind} (hcannons : s.cannons = [(k, c)])
    (hb : c.bound = some o.id) (ho : s.order? o.id = some o) (hn : s.node? c.config.node = some n) (hs : c.state = .aiming)
    (hplan : o.plan = none) (hcancel : o.cancelPending = false) (hdose : o.delivered + 50 ≤ o.dose) (hmax : o.dose ≤ 65535)
    (hkind : kind.isFault = true) (hcover : ∃ v ∈ c.config.coverage, v.tag = o.tag)
    (hpermits : s.permits.list = []) (horigins : ∀ y ∈ s.dispatch.orders, y.origin = .host) (hlive : ∀ x ∈ s.piles, x.2.life = .live) :
    ∃ t, settled (s.trip k kind) = t ∧ t.cannons = [(k, (c.afterTrip s.now).unbound)]
      ∧ t.node? c.config.node = some { n with slot := some .close } ∧ k ∈ t.notices.cannons ∧ t.piles = s.piles
      ∧ (∀ i, i ≠ o.id → t.order? i = s.order? i)
      ∧ (c.tripCount + 1 < 3 → t.order? o.id = some { o with
          state := .waiting, pass := none, lastEnd := some kind, lapseRef := s.now })
      ∧ (3 ≤ c.tripCount + 1 → t.order? o.id = some { o with
            state := .ended, pass := none, lastEnd := some kind, starved := false, outcome := some .failed
            endedMinute := some s.now, endedEvent := s.events } ∧ o.id ∈ t.notices.orders) := by
  have hc := cannon?_single hcannons
  obtain ⟨v, hv, hvnudged, hvcannon, hvnode, hvdispatch⟩ := tripping_spec s k c.config.node o.id
  set z := (v.mapCannon k Cannon.unbound).hand .cannon k with hz
  have htrip : s.trip k kind = (z, [.passEnd o.id kind 0]) := by
    rw [trip_of_aiming hc hs hb, hv]
    rfl
  have hnudged := hvnudged.mapCannon Cannon.unbound
  have hzcannons : z.cannons = [(k, (c.afterTrip s.now).unbound)] :=
    eq_single_of_keys (hnudged.keys.trans (by rw [hcannons]; rfl)) (cannon_mapCannon_self (f := Cannon.unbound) (hvcannon c hc))
  have hframe : z = (v.mapCannon k Cannon.unbound).hand .cannon k := hz
  rw [hnudged.frame] at hframe
  have hznow : z.now = s.now := (congrArg State.now hframe :)
  have hzevents : z.events = s.events := (congrArg State.events hframe :)
  obtain ⟨t, ht, hspec, hwaits, hends⟩ := faulted_settles (z := z) (kind := kind) (id := o.id) (o := o)
    (by rw [State.order?, show z.dispatch = s.dispatch from hvdispatch]; exact ho) hplan hcancel hdose hmax hkind hzcannons hcover
    ((congrArg (fun y : State => y.permits.list) hframe :).trans hpermits)
    (by rw [show z.dispatch = s.dispatch from hvdispatch]; exact horigins) (by rw [(congrArg State.piles hframe :)]; exact hlive)
  have hgone := afterTrip_gone c s.now
  rw [hznow] at hwaits hends
  rw [hzevents] at hends
  refine ⟨t, (congrArg settled htrip).trans ht, hspec.cannons.trans hzcannons, ?_, ?_, hspec.piles.trans (congrArg State.piles hframe :),
    fun i hi => (hspec.orders i hi).trans (by rw [State.order?, show z.dispatch = s.dispatch from hvdispatch]; rfl),
    fun hfew => hwaits fun h => absurd (hgone.1 h) (by omega), fun hmany => hends (hgone.2 hmany)⟩
  · rw [State.node?, hspec.loop]
    exact hvnode n hn
  · rw [hspec.sets.1]
    exact mem_insertKey_iff.2 (.inl rfl)

/-- Settles O40: a trip by its timer and the state of the cannon; the close wait, the third miss and the reset by what they make
of the cannon, and then the end of its pass. -/
theorem cannonTimersTripAndLock : Obligations.CannonTimersTripAndLock := by
  unfold Obligations.CannonTimersTripAndLock
  refine ⟨fun number c d o p n s hc hb ho hpass hn ha hd => ⟨fun hs hon => ?spraying, fun hs hplan hcancel hdose hmax hpermits
      horigins hlive hcover hcannons cmd kind hcmd => ?aiming⟩,
    fun number c s hc hz hb hpermits horigins => ?stuck,
    fun number c d n m o p slot landed gain runoff pile g cmd kind s hnum hcannons hn hb ho ha hpass hplan hcancel hdose hmax hcover
      hpiles htag hlive hgrade hnode hrun hpond hyard hlanded hgain hrunoff hcmd => ?fault⟩
  case spraying =>
    obtain ⟨v, hv, hnudged, hvcannon, hvnode, hvdispatch⟩ := tripping_spec s.openEvent number.toNat c.config.node o.id
    have hramped := hnudged.mapPass (f := Pass.ramping) fun _ => ⟨rfl, rfl, rfl⟩
    have hexec : exec (.blankingTimerExpiry number) s =
        .next ((v.mapOrder o.id fun o => o.mapPass Pass.ramping).hand .cannon number.toNat) := by
      refine congrArg Host.Outcome.next ?_
      rw [blankingExpiry_of_over (s := s.openEvent) hc hon (.inr hs), trip_of_spraying (u := s.openEvent) hc hs hb, settled_nil, hv]
      rfl
    refine ⟨_, hexec, ?_, ?_, hramped.cannons, ?_, hramped.orders, hvnode n hn⟩
    · conv_lhs => rw [hramped.frame]
      rfl
    · refine (hvcannon c hc).trans ?_
      rw [hd, afterTrip_eq]
      rfl
    · have : v.order? o.id = some o := by rw [State.order?, hvdispatch]; exact ho
      refine (order?_mapOrder_self (f := fun o => o.mapPass Pass.ramping) this fun _ => rfl).trans ?_
      rw [Order.mapPass, hpass]
      rfl
  case aiming =>
    obtain ⟨hexec, hkind⟩ : exec cmd s = .next (settled (s.openEvent.trip number.toNat kind)) ∧ kind.isFault = true := by
      rcases hcmd with ⟨rfl, rfl, hz⟩ | ⟨rfl, rfl, hon⟩
      · exact ⟨congrArg (Host.Outcome.next ∘ settled) (slewExpiry_of_over (s := s.openEvent) hc hs hz), rfl⟩
      · exact ⟨congrArg (Host.Outcome.next ∘ settled) (blankingExpiry_of_over (s := s.openEvent) hc hon (.inl hs)), rfl⟩
    obtain ⟨t, ht, htcannons, hrest⟩ := timerTrip_aiming (s := s.openEvent) hcannons hb ho hn hs hplan hcancel hdose hmax hkind
      hcover hpermits horigins hlive
    refine ⟨t, hexec.trans (congrArg Host.Outcome.next ht), htcannons.trans ?_, hrest⟩
    rw [hd, afterTrip_eq]
    rfl
  case stuck =>
    have hquiet := closeTold_quiet (s := (s.openEvent.mapCannon number.toNat Cannon.stuck).hand .cannon number.toNat) (c := c) none
      hpermits fun o ho => by rw [horigins o ho]; decide
    have hexec : exec (.closeWaitExpiry number) s =
        .next ((s.openEvent.mapCannon number.toNat Cannon.stuck).hand .cannon number.toNat) := by
      refine congrArg Host.Outcome.next ?_
      rw [closeWaitExpiry_of_over (s := s.openEvent) hc hz, passEndTasks_of_unbound hb, List.nil_append]
      exact settled_quiet _ _ hquiet
    refine ⟨_, hexec, rfl, ?_, fun k hk => cannon_mapCannon_of_ne (s := s) (f := Cannon.stuck) hk⟩
    exact (cannon_mapCannon_self (s := s) (f := Cannon.stuck) hc).trans (congrArg some (stuck_of_unbound hb))
  case fault =>
    have hgained : gained g p.delivered pile = gain := by rw [hgain, hlanded]; rfl
    obtain ⟨hend, hmetered⟩ := endTasks_of_bound (s := s) hb ho hpass kind
    have hc := cannon?_single hcannons
    -- what the command makes of the cannon and its node before the pass end
    obtain ⟨z, post, hexec, hpost, hport, horders, hzcannons, hpermits, hwater, hpg, hnow, hm, hnodes, hset, hpset, hzport, hkind, hgone⟩ :
        ∃ (z : State) (post : State → State), exec cmd s = .next (post (settled (z, [.passEnd o.id kind p.delivered])))
          ∧ (∀ t, ∃ x, post t = { t with port := x })
          ∧ (∀ t, t.port = s.port → (post t).port = if kind = .reset
            then s.replied .ok 0x52 ([1] ++ be8 c.state.code ++ be16 p.delivered) else s.port)
          ∧ z.dispatch.orders = s.dispatch.orders ∧ z.cannons = [(number.toNat, d)] ∧ z.permits = s.permits ∧ z.water = s.water
          ∧ (z.piles = s.piles ∧ z.grades = s.grades) ∧ (z.now = s.now ∧ z.events = s.events + 1)
          ∧ z.node? c.config.node = some m ∧ (∀ i, i ≠ c.config.node → z.node? i = s.node? i)
          ∧ z.notices.cannons = (if kind = .reset ∧ c.state ≠ .tripped ∧ c.state ≠ .locked ∧ c.state ≠ .lost then
            s.notices.cannons else insertKey s.notices.cannons number.toNat)
          ∧ z.notices.permits = s.notices.permits ∧ z.port = s.port ∧ kind.isFault = true
          ∧ (kind ≠ .reset ↔ d.state = .locked ∨ d.state = .lost) := by
      rcases hcmd with ⟨rfl, rfl, hz, rfl, rfl⟩ | ⟨rfl, rfl, howner, hlost, hmisses, ⟨sent, rest, hphase⟩, hs, rfl, rfl⟩
        | ⟨rfl, rfl, rfl, rfl⟩
      · refine ⟨{ s.openEvent with
          cannons := [(number.toNat, c.stuck)], notices := s.notices.hand .cannon number.toNat }, fun t => t, ?_, fun t => ⟨t.port, rfl⟩,
          fun t h => h, rfl, rfl, rfl, rfl, ⟨rfl, rfl⟩, ⟨rfl, rfl⟩, hn, fun _ _ => rfl, rfl, rfl, rfl, rfl, by simp⟩
        refine congrArg Host.Outcome.next ?_
        rw [closeWaitExpiry_of_over (s := s.openEvent) hc hz, mapCannon_single (s := s.openEvent) hcannons]
        exact congrArg (fun ts => settled (_, ts)) hend
      · set w := (s.openEvent.withPhase (.between rest)).mapNode c.config.node Node.declared with hw
        obtain ⟨j, hj⟩ := cannonLost_of_bound (s := w) hcannons hs
        refine ⟨{ w with
            cannons := [(number.toNat, c.gone)], notices := w.notices.hand .cannon number.toNat
            dispatch := { w.dispatch with due := w.dispatch.due + j } },
          fun t => t, congrArg Host.Outcome.next ?_, fun t => ⟨t.port, rfl⟩, fun t h => h, ?_⟩
        · refine (endSilent_of_exchange (s := s.openEvent) hphase hn).trans ?_
          rw [takeMiss_of_third (thirdMiss_of_two hlost hmisses), howner]
          refine congrArg settled (hj.trans ?_)
          exact congrArg (fun ts => (_, ts)) hend
        · refine ⟨rfl, rfl, rfl, rfl, ⟨rfl, rfl⟩, ⟨rfl, rfl⟩, ?_, fun i hi => node_mapNode_of_ne (s := s) hi, rfl, rfl, rfl, rfl, by simp⟩
          refine (node_mapNode_self (s := s) hn).trans ?_
          rw [declared_eq rfl rfl]
          cases n.slot with
          | none => rfl
          | some x => cases x <;> rfl
      · set z := if c.state.noticed then (s.openEvent.closing number.toNat c.config.node Cannon.resetting).hand .cannon number.toNat
          else s.openEvent.closing number.toNat c.config.node Cannon.resetting with hz
        have hframe : ∃ x, z = { s.openEvent.closing number.toNat c.config.node Cannon.resetting with notices := x }
            ∧ x.permits = s.notices.permits ∧ x.cannons = if CannonState.noticed c.state = true
              then insertKey s.notices.cannons number.toNat else s.notices.cannons := by
          rw [hz]
          split_ifs
          · exact ⟨_, rfl, rfl, rfl⟩
          · exact ⟨_, rfl, rfl, rfl⟩
        obtain ⟨x, hzx, hxp, hxc⟩ := hframe
        refine ⟨z, fun t => t.answer 0x52 .ok ([1] ++ be8 c.state.code ++ be16 p.delivered), ?_, fun t => ⟨_, rfl⟩, fun t h => ?_, ?_⟩
        · refine congrArg Host.Outcome.next ((resetCannon_of_loaded hnum hc).trans ?_)
          rw [cannonReset_eq (s := s.openEvent) hc, hb, hmetered]
          exact congrArg (fun ts => (settled (z, ts)).answer _ _ _) hend
        · rw [port_answer, State.replied, h]
          rfl
        · rw [hzx]
          refine ⟨rfl, (congrArg State.cannons (mapCannon_single (s := s) hcannons Cannon.resetting) :), rfl, rfl, ⟨rfl, rfl⟩, ⟨rfl, rfl⟩,
            node_closing_self (s := s) (n := number.toNat) (f := Cannon.resetting) hn,
            fun i hi => node_closing_of_ne (s := s) (n := number.toNat) (f := Cannon.resetting) hi, hxc.trans ?_, hxp, rfl, rfl, by simp⟩
          by_cases hnotice : c.state.noticed = true
          · rw [if_pos hnotice, if_neg]
            rcases (noticed_iff _).1 hnotice with h | h | h <;> simp [h]
          · rw [if_neg hnotice, if_pos]
            have := mt (noticed_iff _).2 hnotice
            simpa [not_or] using this
    have hyardz : z.FaultYard number.toNat slot p.delivered d o pile g := by
      have hconfig : d.config = c.config := by
        rcases hcmd with ⟨-, -, -, -, rfl⟩ | ⟨-, -, -, -, -, -, -, -, rfl⟩ | ⟨-, -, -, rfl⟩ <;> rfl
      refine ⟨by rw [State.order?, horders]; exact ho, hplan, hcancel, hdose, hmax, hzcannons, by rw [hconfig]; exact hcover,
        hpg.1.trans hpiles, htag, hlive, by rw [hpg.2]; exact hgrade, by rw [hwater]; exact hnode, by rw [hwater]; exact hrun,
        by rw [hwater]; exact hpond, ?_⟩
      rw [hpermits, horders, hgained]
      rcases hyard with h | ⟨h1, h2, h3, h⟩
      · exact .inl h
      · exact .inr ⟨h2, h3, h1, h⟩
    have hnowz : z.now = s.clock.minute := hnow.1
    obtain ⟨t, ht, hfrom, hrest⟩ : ∃ t, settled (z, [.passEnd o.id kind p.delivered]) = t
        ∧ z.FaultedFrom t slot p.delivered o pile g
        ∧ (kind ≠ .reset → o.id ∈ t.notices.orders ∧ t.order? o.id = some { o with
            state := .ended, pass := none, lastEnd := some kind, delivered := o.delivered + p.delivered
            starved := false, outcome := some .failed, endedMinute := some s.clock.minute, endedEvent := s.events + 1 })
        ∧ (kind = .reset → t.order? o.id = some { o with
            state := .waiting, pass := none, lastEnd := some kind, delivered := o.delivered + p.delivered
            lapseRef := s.clock.minute } ∧ t.permits = s.permits ∧ t.notices.permits = s.notices.permits)
        ∧ (kind ≠ .reset → t.permits = { s.permits with
              list := [], outcomes := s.permits.list.foldl (fun acc x => Table.set acc x.machine
                ⟨.refusedTooDry, s.clock.minute, x.tag, x.id, none⟩) s.permits.outcomes }
            ∧ ∀ i, i ∈ t.notices.permits ↔ i ∈ s.notices.permits ∨ ∃ x ∈ s.permits.list, x.machine = i) := by
      by_cases hk : kind = .reset
      · obtain ⟨t, ht, hfrom, horder, hper, hpers⟩ := settled_fault_waits hyardz hkind (fun h => hgone.2 h hk)
        rw [hnowz] at horder
        exact ⟨t, ht, hfrom, fun h => absurd hk h, fun _ => ⟨horder, hper.trans hpermits, hpers.trans hpset⟩, fun h => absurd hk h⟩
      · obtain ⟨t, ht, hfrom, hset, horder, hper, hpers⟩ := settled_fault_ends hyardz hkind (hgone.1 hk)
        rw [hnowz, hnow.2] at horder
        rw [hpermits, hnowz] at hper
        rw [hpermits, hpset] at hpers
        exact ⟨t, ht, hfrom, fun _ => ⟨hset, horder⟩, fun h => absurd h hk, fun _ => ⟨hper, hpers⟩⟩
    rw [ht] at hexec
    obtain ⟨x, hx⟩ := hpost t
    refine ⟨_, hexec, ?_⟩
    have hportt := hport t (hfrom.port.trans hzport)
    rw [hx] at hportt ⊢
    refine ⟨hfrom.cannons.trans hzcannons, ?_, fun i hi => ?_, hfrom.cannonSet.trans hset, ?_, ?_, fun i hi => ?_, hrest.1, hrest.2.1,
      hrest.2.2, hportt⟩
    · exact (congrArg (fun l : Loop => Table.get l.nodes c.config.node) hfrom.loop).trans hm
    · exact (congrArg (fun l : Loop => Table.get l.nodes i) hfrom.loop).trans (hnodes i hi)
    · rw [← hgained, ← hnowz]
      exact hfrom.piles
    · refine hfrom.pond.trans ?_
      rw [Pond.fedBy, runoffOf, hgained, hrunoff, hwater]
    · exact (hfrom.orders i hi).trans (by rw [State.order?, horders]; rfl)

end Sys2Proof.Machine
end

section
set_option Elab.async false
/-! PROOFS. An arbitration: whom it considers, what it offers, and the binding (R85 to R88, R106, R123). -/

namespace Sys2Proof.Machine

/-! ## Whom it considers -/

theorem isEmpty_iff (x : Suspension) : x.isEmpty = true ↔ x = ⟨false, false, false⟩ := by
  obtain ⟨a, b, c⟩ := x
  simp [Suspension.isEmpty, and_assoc]

theorem eligible_iff (o : Order) : o.eligible = true ↔ o.state = .waiting ∧ o.suspension = ⟨false, false, false⟩ := by
  rw [Order.eligible, Bool.and_eq_true, beq_iff_eq, isEmpty_iff]

theorem ranked_of_none {s : State} (h : ∀ o ∈ s.dispatch.orders, o.eligible = false) : s.ranked = [] := by
  refine List.flatMap_eq_nil_iff.2 fun p _ => List.filter_eq_nil_iff.2 fun o ho => ?_
  rw [h o ho]
  simp

/-- Where one order alone is eligible, it alone is considered. -/
theorem ranked_of_single {s : State} {o : Order} (h : s.dispatch.orders.filter Order.eligible = [o]) (hp : o.priority ≤ 3) :
    s.ranked = [o] := by
  have hfilter : ∀ p, (s.dispatch.orders.filter fun o => o.priority == p && o.eligible) = [o].filter fun o => o.priority == p :=
    fun p => by rw [← h, List.filter_filter]
  simp only [State.ranked, hfilter, List.flatMap_cons, List.flatMap_nil, List.filter_cons, List.filter_nil, beq_iff_eq]
  interval_cases o.priority <;> rfl

/-- One occasion counted down. -/
def State.undue (s : State) (k : Nat) : State := { s with dispatch := { s.dispatch with due := k } }

theorem arbitration_of_none {s : State} (h : s.dispatch.due = 0) : exec .arbitration s = .next s :=
  congrArg Host.Outcome.next (if_pos h : s.arbitrateDue = s)

theorem arbitration_of_due {s : State} {k : Nat} (h : s.dispatch.due = k + 1) : exec .arbitration s = .next (s.undue k).arbitrate := by
  have : s.arbitrateDue = (s.undue k).arbitrate := by
    rw [State.arbitrateDue, if_neg (by omega), h]
    rfl
  exact congrArg Host.Outcome.next this

theorem arbitrate_of_single {s : State} {o : Order} (h : s.ranked = [o]) : s.arbitrate = s.consider o := by
  rw [State.arbitrate, h]
  rfl

/-! ## What it offers -/

/-- Of a table in ascending key order, the entry found is the one of the lowest key that will do. -/
theorem find?_least {α : Type} {t : Table α} (hw : t.Pairwise fun a b => a.1 < b.1) {q : Nat × α → Bool} {n : Nat} {c : α}
    (hmem : (n, c) ∈ t) (hq : q (n, c) = true) (hleast : ∀ e ∈ t, e.1 < n → q e = false) : t.find? q = some (n, c) := by
  induction t with
  | nil => exact absurd hmem (by simp)
  | cons e t ih =>
    obtain ⟨hlt, hw⟩ := List.pairwise_cons.1 hw
    rcases List.mem_cons.1 hmem with rfl | hmem
    · exact List.find?_cons_of_pos hq
    · rw [List.find?_cons_of_neg (by rw [hleast e List.mem_cons_self (hlt _ hmem)]; decide)]
      exact ih hw hmem fun x hx => hleast x (List.mem_cons_of_mem _ hx)

theorem mem_offered {s : State} {o : Order} {e : Nat × Cannon} :
    e ∈ s.offered o ↔ e ∈ s.candidates o ∧ e.2.state = .idle := by
  rw [State.offered, List.mem_filter, beq_iff_eq]

theorem sublist_offered (s : State) (o : Order) : (s.offered o).Sublist s.cannons := by
  refine List.filter_sublist.trans ?_
  unfold State.candidates
  split
  · exact List.filter_sublist
  · split
    · exact List.nil_sublist _
    · split <;> exact List.filter_sublist

theorem coverOf?_isSome (c : Cannon) (tag : Nat) : (c.coverOf? tag).isSome = true ↔ ∃ v ∈ c.config.coverage, v.tag = tag := by
  rw [Cannon.coverOf?, List.find?_isSome]
  simp

theorem coversArc_iff (c : Cannon) (tag x y : Nat) : c.coversArc tag x y = true ↔
    ∃ v, c.config.coverage.find? (fun v => v.tag == tag) = some v
      ∧ (x + 360 - v.arcStart % 360) % 360 ≤ (y + 360 - v.arcStart % 360) % 360
      ∧ (y + 360 - v.arcStart % 360) % 360 ≤ (v.arcEnd + 360 - v.arcStart % 360) % 360 := by
  rw [Cannon.coversArc, Cannon.coverOf?]
  cases c.config.coverage.find? fun v => v.tag == tag with
  | none => simp
  | some v => simp [arcWithin_iff]

section
variable {s : State} {o : Order} (hw : Table.wf s.cannons = true) (n : Nat) (c : Cannon)
include hw

/-- The cannons offered for an order without a plan: those that cover the pile. -/
theorem mem_offered_of_unplanned (hplan : o.plan = none) : (n, c) ∈ s.offered o ↔
    s.cannon? n = some c ∧ c.state = .idle ∧ ∃ v ∈ c.config.coverage, v.tag = o.tag := by
  have hget : (n, c) ∈ s.cannons ↔ s.cannon? n = some c := ⟨Table.get_of_mem hw, Table.mem_of_get⟩
  rw [mem_offered, ← hget]
  simp only [State.candidates, hplan, List.mem_filter, coverOf?_isSome]
  tauto

variable {p : Plan} {e : PlanEntry} (hplan : o.plan = some p) (he : p.entries[p.current]? = some e)
include hplan he

/-- The cannon offered for an entry that names one. -/
theorem mem_offered_of_named {i : Nat} (hi : e.cannon = some i) : (n, c) ∈ s.offered o ↔
    s.cannon? n = some c ∧ c.state = .idle ∧ i = n := by
  have hget : (n, c) ∈ s.cannons ↔ s.cannon? n = some c := ⟨Table.get_of_mem hw, Table.mem_of_get⟩
  rw [mem_offered, ← hget]
  simp only [State.candidates, hplan, Plan.entry?, he, hi, List.mem_filter, beq_iff_eq]
  rw [eq_comm (a := n)]
  tauto

/-- The cannons offered for an entry that names none: those whose coverage entry for the pile holds its arc. -/
theorem mem_offered_of_arc (hi : e.cannon = none) : (n, c) ∈ s.offered o ↔ s.cannon? n = some c ∧ c.state = .idle
    ∧ ∃ v, c.config.coverage.find? (fun v => v.tag == o.tag) = some v
      ∧ (e.arcStart + 360 - v.arcStart % 360) % 360 ≤ (e.arcEnd + 360 - v.arcStart % 360) % 360
      ∧ (e.arcEnd + 360 - v.arcStart % 360) % 360 ≤ (v.arcEnd + 360 - v.arcStart % 360) % 360 := by
  have hget : (n, c) ∈ s.cannons ↔ s.cannon? n = some c := ⟨Table.get_of_mem hw, Table.mem_of_get⟩
  rw [mem_offered, ← hget]
  simp only [State.candidates, hplan, Plan.entry?, he, hi, List.mem_filter, coversArc_iff]
  tauto

end

theorem passDose_of_unplanned {o : Order} (hplan : o.plan = none) (c : Cannon) :
    o.passDose c = max c.config.minDose (min (o.dose - o.delivered) c.config.maxDose) := by
  simp only [Order.passDose, hplan, Order.outstanding]

theorem passDose_of_planned {o : Order} {p : Plan} {e : PlanEntry} (hplan : o.plan = some p)
    (he : p.entries[p.current]? = some e) (c : Cannon) :
    o.passDose c = max c.config.minDose (min e.remaining c.config.maxDose) := by
  simp only [Order.passDose, hplan, Plan.entry?, he, Option.map_some, Option.getD_some, clamp]

theorem draws_iff (x : Supply) (h : Header) : x.draws h = true ↔ (h = .reuse ∧ x ≠ .fresh) ∨ (h = .fresh ∧ x ≠ .reuse) := by
  cases x <;> cases h <;> decide

theorem serves_iff (s : State) (o : Order) (h : Header) (c : Cannon) : s.serves o h c = true ↔ c.header = none
    ∧ ((h = .reuse ∧ c.config.supply ≠ .fresh ∧ (s.holders .reuse).length < 4 ∧ o.passDose c ≤ s.reuseAvailable
        ∧ ∃ w, s.water.tank = some w ∧ w.fresh = true ∧ w.nearEmpty = false ∧ w.qualityHold = false)
      ∨ (h = .fresh ∧ c.config.supply ≠ .reuse ∧ (s.holders .fresh).length < 2 ∧ o.passDose c ≤ s.freshAvailable)) := by
  rw [State.serves, State.grants, Bool.and_eq_true, draws_iff]
  cases h with
  | reuse =>
    have htank : (s.water.tank.map (·.serves)).getD false = true ↔
        ∃ w, s.water.tank = some w ∧ w.fresh = true ∧ w.nearEmpty = false ∧ w.qualityHold = false := by
      cases s.water.tank <;> simp [Tank.serves, and_assoc]
    simp only [Bool.and_eq_true, decide_eq_true_iff, State.reserves, htank, Option.isNone_iff_eq_none]
    simp [show slotsOf .reuse = 4 from rfl]
    tauto
  | fresh =>
    simp only [Bool.and_eq_true, decide_eq_true_iff, State.reserves, Option.isNone_iff_eq_none]
    simp [show slotsOf .fresh = 2 from rfl]
    tauto

theorem mem_headersFor (s : State) (o : Order) (h : Header) : h ∈ s.headersFor o ↔ (h = .reuse → o.policy ≠ .freshOnly)
    ∧ (h = .fresh → o.policy = .freshOnly ∨ (o.policy = .reuseThenFresh ∧ s.dispatch.freshFloor ≤ o.priority)) := by
  rw [State.headersFor]
  cases hp : o.policy with
  | reuseOnly => cases h <;> simp
  | freshOnly => cases h <;> simp
  | reuseThenFresh => split_ifs with hf <;> cases h <;> simp [hf]

theorem offer_eq_none_iff (s : State) (o : Order) : s.offer o = none ↔
    ∀ h ∈ s.headersFor o, ∀ e ∈ s.offered o, s.serves o h e.2 = false := by
  rw [State.offer, List.findSome?_eq_none_iff]
  simp

/-- The offer taken: on a header none of whose predecessors serves, the lowest cannon that will do. -/
theorem offer_eq_some {s : State} {o : Order} {h : Header} {n : Nat} {c : Cannon} (hw : Table.wf s.cannons = true)
    (hc : (n, c) ∈ s.offered o) (hs : s.serves o h c = true) (hh : h ∈ s.headersFor o)
    (hfirst : h = .fresh → o.policy ≠ .freshOnly → ∀ e ∈ s.offered o, s.serves o .reuse e.2 = false)
    (hleast : ∀ e ∈ s.offered o, e.1 < n → s.serves o h e.2 = false) : s.offer o = some (h, n, c) := by
  have hfind : (s.offered o).find? (fun e => s.serves o h e.2) = some (n, c) :=
    find?_least (((Table.wf_iff_pairwise _).1 hw).sublist (sublist_offered s o)) hc hs hleast
  rw [mem_headersFor] at hh
  cases h with
  | reuse =>
    have hpolicy := hh.1 rfl
    have : ∃ l, s.headersFor o = .reuse :: l := by
      rw [State.headersFor]
      cases hp : o.policy with
      | reuseOnly => exact ⟨_, rfl⟩
      | freshOnly => exact absurd hp hpolicy
      | reuseThenFresh => simp only; split_ifs <;> exact ⟨_, rfl⟩
    obtain ⟨l, hl⟩ := this
    simp only [State.offer, hl, List.findSome?_cons, hfind, Option.map_some]
  | fresh =>
    rcases hh.2 rfl with hp | ⟨hp, hfloor⟩
    · simp only [State.offer, State.headersFor, hp, List.findSome?_cons, hfind, Option.map_some]
    · have hnone : (s.offered o).find? (fun e => s.serves o .reuse e.2) = none :=
        List.find?_eq_none.2 fun e he => by rw [hfirst rfl (by rw [hp]; decide) e he]; decide
      simp only [State.offer, State.headersFor, hp, if_pos hfloor, List.findSome?_cons, hfind, hnone, Option.map_some, Option.map_none]

end Sys2Proof.Machine
end

section
set_option Elab.async false
/-! PROOFS. The binding of a pass, and the scan of an arbitration (R85 to R88, R106, R132). -/

namespace Sys2Proof.Machine

theorem consider_of_offer {s : State} {o : Order} {h : Header} {n : Nat} {c : Cannon} (hoffer : s.offer o = some (h, n, c)) :
    s.consider o = s.bindPass o h n c := by
  simp only [State.consider, hoffer]

theorem consider_of_unoffered {s : State} {o : Order} (h : s.offered o = []) : s.consider o = s := by
  have hnone : s.offer o = none := (offer_eq_none_iff s o).2 fun _ _ e he => absurd (h ▸ he) (by simp)
  simp only [State.consider, hnone, h, List.isEmpty_nil, Bool.true_or, if_true]

theorem consider_of_starving {s : State} {o : Order} (hsome : s.offered o ≠ [])
    (hnone : ∀ h ∈ s.headersFor o, ∀ e ∈ s.offered o, s.serves o h e.2 = false) (hs : o.starved = false) :
    s.consider o = (s.mapOrder o.id fun o => { o with starved := true }).hand .order o.id := by
  have : ¬ ((s.offered o).isEmpty || o.starved) = true := by simp [hsome, hs]
  simp only [State.consider, (offer_eq_none_iff s o).2 hnone, if_neg this]

theorem keys_mapCannon (s : State) (n : Nat) (f : Cannon → Cannon) :
    (s.mapCannon n f).cannons.map Prod.fst = s.cannons.map Prod.fst := keys_update _ _ _

/-- The cannon of a pass just bound, before its AIM. -/
def Cannon.aimed (c : Cannon) (id : Nat) (h : Header) : Cannon :=
  { c with state := .aiming, aimPhase := some .slewing, bound := some id, header := some h }

/-- The state once a pass has been bound and its AIM placed, or left to wait, before spent is evaluated. -/
theorem bindPass_spec {s : State} {o : Order} {h : Header} {n : Nat} {c : Cannon} (ho : s.order? o.id = some o)
    (hc : s.cannon? n = some c) : ∃ u : State, s.bindPass o h n c = u.evalSpent
      ∧ u = { s with
        cannons := u.cannons, dispatch := { s.dispatch with orders := u.dispatch.orders }
        loop := { s.loop with nodes := u.loop.nodes } }
      ∧ u.order? o.id = some (o.boundTo n h (o.passDose c)) ∧ (∀ i, i ≠ o.id → u.order? i = s.order? i)
      ∧ (∀ i, i ≠ n → u.cannon? i = s.cannon? i)
      ∧ (s.slot? c.config.node = none →
          u.cannon? n = some { c.aimed o.id h with slew := some c.config.slewTimeout, aimWaiting := false }
          ∧ ∀ x, s.node? c.config.node = some x → u.node? c.config.node = some { x with
              slot := some (.aim (o.aimArc c).1 (o.aimArc c).2 c.config.sweepRate) })
      ∧ (s.slot? c.config.node ≠ none → u.loop = s.loop ∧ u.cannon? n = some { c.aimed o.id h with aimWaiting := true })
      ∧ u.cannons.map Prod.fst = s.cannons.map Prod.fst := by
  set w := (s.mapOrder o.id fun x => x.boundTo n h (x.passDose c)).mapCannon n fun c => c.aimed o.id h with hw
  have hself : w.order? o.id = some (o.boundTo n h (o.passDose c)) :=
    order?_mapOrder_self (f := fun x => x.boundTo n h (x.passDose c)) ho fun _ => rfl
  have horders : ∀ i, i ≠ o.id → w.order? i = s.order? i := fun i hi =>
    order?_mapOrder_of_ne (f := fun x => x.boundTo n h (x.passDose c)) (fun _ => rfl) hi
  have hcannon : w.cannon? n = some (c.aimed o.id h) :=
    cannon_mapCannon_self (s := s.mapOrder o.id fun x => x.boundTo n h (x.passDose c)) (f := fun c => c.aimed o.id h) hc
  have hcannons : ∀ i, i ≠ n → w.cannon? i = s.cannon? i := fun i hi =>
    cannon_mapCannon_of_ne (s := s.mapOrder o.id fun x => x.boundTo n h (x.passDose c)) (f := fun c => c.aimed o.id h) hi
  have hkeys : w.cannons.map Prod.fst = s.cannons.map Prod.fst := keys_mapCannon _ n _
  have hbind : s.bindPass o h n c = (w.placeAim n c o).evalSpent := rfl
  by_cases hslot : s.slot? c.config.node = none
  · have hempty : (w.slot? c.config.node).isNone = true := Option.isNone_iff_eq_none.2 hslot
    rw [State.placeAim, if_pos hempty] at hbind
    refine ⟨_, hbind, rfl, hself, horders, fun i hi => (cannon_mapCannon_of_ne (s := w.placeStart _ _) hi).trans (hcannons i hi),
      fun _ => ⟨?_, fun x hx => ?_⟩, fun hfull => absurd hslot hfull, (keys_mapCannon _ n _).trans hkeys⟩
    · exact cannon_mapCannon_self (s := w.placeStart _ _)
        (f := fun c' => { c' with slew := some c'.config.slewTimeout, aimWaiting := false }) hcannon
    · refine (node_mapNode_self (s := w) hx).trans ?_
      have : x.slot = none := by simpa [State.slot?, hx] using hslot
      rw [this]
      rfl
  · have hfull : ¬ (w.slot? c.config.node).isNone = true := fun h => hslot (Option.isNone_iff_eq_none.1 h)
    rw [State.placeAim, if_neg hfull] at hbind
    refine ⟨_, hbind, rfl, hself, horders, fun i hi => (cannon_mapCannon_of_ne (s := w) hi).trans (hcannons i hi),
      fun h => absurd h hslot, fun _ => ⟨rfl, ?_⟩, (keys_mapCannon _ n _).trans hkeys⟩
    exact cannon_mapCannon_self (f := fun c' => { c' with aimWaiting := true }) hcannon

/-- Where two orders are all there are, both eligible, the one of the higher priority is considered first, and of equals the
earlier. -/
theorem ranked_of_pair {s : State} {x y : Order} (h : s.dispatch.orders = [x, y]) (hx : x.eligible = true) (hy : y.eligible = true)
    (hpx : x.priority ≤ 3) (hpy : y.priority ≤ 3) : s.ranked = if x.priority < y.priority then [y, x] else [x, y] := by
  simp only [State.ranked, h, List.flatMap_cons, List.flatMap_nil, List.filter_cons, List.filter_nil, hx, hy, Bool.and_true, beq_iff_eq]
  interval_cases x.priority <;> interval_cases y.priority <;> rfl

/-- Settles O36: one eligible order is considered alone; of two the second finds no cannon in IDLE. -/
theorem arbitrationBindsByRank : Obligations.ArbitrationBindsByRank := by
  unfold Obligations.ArbitrationBindsByRank
  refine ⟨fun s => ⟨arbitration_of_none, fun k hdue hnone => ?none, fun k o entry dose serves offered hdue hsole ho hp hw hentry hdose
    hoffered hserves => ⟨fun h => ?unoffered, fun hsome hno hs => ?starved, fun n c h hoff hserve hreuse hfresh hleast => ?binds⟩⟩,
    fun s x y w l n c h horders hids htags hpx hpy hall hcannons hidle hcover hrank hoffer hdue => ?pair⟩
  case none =>
    rw [arbitration_of_due hdue, State.arbitrate, ranked_of_none fun o ho => Bool.eq_false_iff.2 fun h => ?_]
    · rfl
    · obtain ⟨hs, hx⟩ := (eligible_iff o).1 h
      exact hnone o ho hs hx
  case pair =>
    obtain ⟨k, hdue⟩ := Nat.exists_eq_succ_of_ne_zero hdue
    have helig : ∀ o ∈ s.dispatch.orders, o.eligible = true ∧ o.priority ≤ 3 := fun o ho => by
      obtain ⟨hs, -, hx, hp⟩ := hall o ho
      exact ⟨(eligible_iff o).2 ⟨hs, hx⟩, hp⟩
    rw [horders] at helig
    obtain ⟨hx, hpx⟩ := helig x (by simp)
    obtain ⟨hy, hpy⟩ := helig y (by simp)
    have hranked : (s.undue k).ranked = [w, l] := by
      rw [ranked_of_pair (s := s.undue k) horders hx hy hpx hpy]
      split_ifs at hrank ⊢ <;> rw [(Prod.mk.inj hrank).1, (Prod.mk.inj hrank).2]
    have hpair : (w = x ∧ l = y) ∨ (w = y ∧ l = x) := by
      split_ifs at hrank
      · exact .inr (Prod.mk.inj hrank)
      · exact .inl (Prod.mk.inj hrank)
    have hne : l.id ≠ w.id := by
      rcases hpair with ⟨rfl, rfl⟩ | ⟨rfl, rfl⟩
      · exact hids.symm
      · exact hids
    have hfind : s.order? w.id = some w ∧ s.order? l.id = some l := by
      rcases hpair with ⟨rfl, rfl⟩ | ⟨rfl, rfl⟩ <;> simp [State.order?, horders, hids]
    have hexec := arbitration_of_due hdue
    obtain ⟨u, hu, hframe, hself, hothers, -, hempty, hfull, hkeys⟩ := bindPass_spec (s := s.undue k) (h := h) (c := c) hfind.1
      (cannon?_single hcannons)
    obtain ⟨d, hd, hdstate, hdbound⟩ : ∃ d, u.cannon? n = some d ∧ d.state = .aiming ∧ d.bound = some w.id := by
      by_cases hslot : s.slot? c.config.node = none
      · exact ⟨_, (hempty hslot).1, rfl, rfl⟩
      · exact ⟨_, (hfull hslot).2, rfl, rfl⟩
    have hcannonsu : u.cannons = [(n, d)] := eq_single_of_keys (hkeys.trans (by rw [show (s.undue k).cannons = _ from hcannons]; rfl)) hd
    have hnone : u.evalSpent.offered l = [] := List.eq_nil_iff_forall_not_mem.2 fun e he => by
      have hmem := (sublist_offered _ l).subset he
      rw [cannons_evalSpent, hcannonsu, List.mem_singleton] at hmem
      obtain ⟨-, hidle⟩ := mem_offered.1 he
      rw [hmem, hdstate] at hidle
      exact absurd hidle (by decide)
    have hrun : (s.undue k).arbitrate = u.evalSpent := by
      rw [State.arbitrate, hranked, List.foldl_cons, List.foldl_cons, List.foldl_nil,
        consider_of_offer (s := s.undue k) (h := h) (n := n) (c := c) hoffer, hu, consider_of_unoffered hnone]
    rw [hrun] at hexec
    refine ⟨_, hexec, ⟨⟨n, h, w.passDose c, w.passDose c, none, 0, .aiming⟩, rfl, rfl, rfl, ?_⟩, ?_, ?_⟩
    · rw [order?_evalSpent]
      exact hself
    · rw [order?_evalSpent, hothers _ hne]
      exact hfind.2
    · rw [State.cannon?, cannons_evalSpent, ← State.cannon?, hd, Option.map_some, hdbound]
  all_goals
    have hranked : (s.undue k).ranked = [o] := by
      refine ranked_of_single ?_ hp
      rw [← hsole]
      refine List.filter_congr fun x _ => ?_
      rw [Bool.eq_iff_iff, eligible_iff, Bool.and_eq_true, beq_iff_eq, beq_iff_eq]
    have hexec := arbitration_of_due hdue
    rw [arbitrate_of_single hranked] at hexec
    have hoff_iff : ∀ n c, (n, c) ∈ (s.undue k).offered o ↔ offered n c := fun n c => by
      rw [hoffered]
      rcases hentry with ⟨hplan, rfl⟩ | ⟨q, e, hplan, he, rfl⟩
      · exact mem_offered_of_unplanned (s := s.undue k) hw n c hplan
      · cases hi : e.cannon with
        | none =>
          simp only [Option.map_some, hi]
          exact mem_offered_of_arc (s := s.undue k) hw n c hplan he hi
        | some i =>
          simp only [Option.map_some, hi]
          exact mem_offered_of_named (s := s.undue k) hw n c hplan he hi
    have hd : ∀ c, o.passDose c = dose c := fun c => by
      rw [hdose]
      rcases hentry with ⟨hplan, rfl⟩ | ⟨q, e, hplan, he, rfl⟩
      · exact passDose_of_unplanned hplan c
      · exact passDose_of_planned hplan he c
    have hserves_iff : ∀ h c, (s.undue k).serves o h c = true ↔ serves h c := fun h c => by
      rw [hserves, serves_iff, hd]
      rfl
  case unoffered =>
    rw [hexec, consider_of_unoffered (List.eq_nil_iff_forall_not_mem.2 fun e he => h e.1 e.2 ((hoff_iff _ _).1 he))]
    rfl
  case starved =>
    obtain ⟨n, c, hoff⟩ := hsome
    rw [hexec, consider_of_starving (List.ne_nil_of_mem ((hoff_iff n c).2 hoff)) (fun h hh e he => ?_) hs]
    · rfl
    · refine Bool.eq_false_iff.2 fun hserve => hno e.1 e.2 h ((hoff_iff _ _).1 he) ?_
      exact ⟨(hserves_iff _ _).1 hserve, (mem_headersFor (s.undue k) o h).1 hh⟩
  case binds =>
    have hmem : h ∈ (s.undue k).headersFor o := (mem_headersFor _ o h).2
      ⟨hreuse, fun hh => (hfresh hh).imp_right fun ⟨hp, hf, _⟩ => ⟨hp, hf⟩⟩
    have hfirst : h = .fresh → o.policy ≠ .freshOnly → ∀ e ∈ (s.undue k).offered o, (s.undue k).serves o .reuse e.2 = false :=
      fun hh hp e he => Bool.eq_false_iff.2 fun hserve => by
        rcases hfresh hh with h | ⟨-, -, hnone⟩
        · exact hp h
        · exact hnone e.1 e.2 ((hoff_iff _ _).1 he) ((hserves_iff _ _).1 hserve)
    have hoffer : (s.undue k).offer o = some (h, n, c) := offer_eq_some hw ((hoff_iff n c).2 hoff) ((hserves_iff h c).2 hserve) hmem
      hfirst fun e he hlt => Bool.eq_false_iff.2 fun hserve =>
        hleast e.1 e.2 hlt ((hoff_iff _ _).1 he) ((hserves_iff _ _).1 hserve)
    obtain ⟨hc, -⟩ := (hoffered n c).1 hoff
    obtain ⟨u, hu, hframe, hself, horders, hcannons, hempty, hfull, -⟩ := bindPass_spec (s := s.undue k) (h := h) ho hc
    rw [hd] at hself
    rw [consider_of_offer hoffer, hu, evalSpent_eq] at hexec
    refine ⟨_, hexec, hself, horders, hcannons, fun hslot => ⟨(hempty hslot).1, fun x hx => ⟨fun v he hv => ?_, fun e he => ?_⟩⟩,
      fun hslot => ⟨(hfull hslot).1, (hfull hslot).2⟩, ?_, ?_⟩
    · refine ((hempty hslot).2 x hx).trans ?_
      rcases hentry with ⟨hplan, -⟩ | ⟨q, y, -, -, h⟩
      · rw [aimArc_eq (.inl ⟨v, hplan, hv, rfl, rfl⟩)]
      · exact absurd (he.symm.trans h) (by simp)
    · refine ((hempty hslot).2 x hx).trans ?_
      rcases hentry with ⟨-, h⟩ | ⟨q, y, hplan, hy, h⟩
      · exact absurd (he.symm.trans h) (by simp)
      · obtain rfl : y = e := Option.some.inj (h.symm.trans he)
        rw [aimArc_eq (.inr ⟨q, y, hplan, hy, rfl, rfl⟩)]
    · have : u.water = s.water := (congrArg State.water hframe :)
      exact (congrArg (fun w : Water => { w with spent := decide (u.freshAvailable < 50) }) this :)
    · generalize decide (u.freshAvailable < Config.trickle) = spent
      rw [hframe]
      rfl

end Sys2Proof.Machine
end

section
set_option Elab.async false
/-! PROOFS. Tellings that bring no selection of the weather about: they leave the wind monitor and the WIND notice alone. -/

namespace Sys2Proof.Machine

/-- The wind monitor and the WIND notice. -/
def State.sky (s : State) : Wind × Bool := (s.wind, s.notices.flags.wind)

/-- A telling that is not the wind monitor's own. -/
def Task.calm : Task → Bool
  | .selectWeather => false
  | .evalHolds => false
  | _ => true

/-- An operation that leaves the wind monitor and its notice alone, and so do all its tellings. -/
def Calms (s : State) (x : State × List Task) : Prop := x.1.sky = s.sky ∧ ∀ t ∈ x.2, t.calm = true

namespace Calms
variable {s t : State} {x : State × List Task} {ts us : List Task}

theorem nil (h : t.sky = s.sky) : Calms s (t, []) := ⟨h, fun _ h => absurd h List.not_mem_nil⟩

theorem cons {u : Task} (hu : u.calm = true) (h : Calms s (t, ts)) : Calms s (t, u :: ts) :=
  ⟨h.1, fun v hv => (List.mem_cons.1 hv).elim (fun e => e ▸ hu) (h.2 v)⟩

theorem one {u : Task} (hu : u.calm = true) (h : t.sky = s.sky) : Calms s (t, [u]) := cons hu (nil h)

theorem append (h : Calms s (t, ts)) (k : ∀ u ∈ us, u.calm = true) : Calms s (t, ts ++ us) :=
  ⟨h.1, fun v hv => (List.mem_append.1 hv).elim (h.2 v) (k v)⟩

theorem map {β : Type} {l : List β} {f : β → Task} (h : t.sky = s.sky) (hf : ∀ b, (f b).calm = true) :
    Calms s (t, l.map f) :=
  ⟨h, fun _ hv => let ⟨b, _, e⟩ := List.mem_map.1 hv; e ▸ hf b⟩

theorem of_eq (h : t.sky = s.sky) (k : Calms t x) : Calms s x := ⟨k.1.trans h, k.2⟩

end Calms

section
variable {s : State}

/-! ## The named updates -/

@[simp] theorem sky_hand (c : ChangeSet) (k : Nat) : (s.hand c k).sky = s.sky := by
  cases c <;> rfl
@[simp] theorem sky_mapPile (n : Nat) (f : Pile → Pile) : (s.mapPile n f).sky = s.sky := rfl
@[simp] theorem sky_mapOrder (i : Nat) (f : Order → Order) : (s.mapOrder i f).sky = s.sky := rfl
@[simp] theorem sky_occasion : s.occasion.sky = s.sky := rfl
@[simp] theorem sky_mapPermits (c : Permit → Bool) (f : Permit → Permit) : (s.mapPermits c f).sky = s.sky := rfl
@[simp] theorem sky_mapTransfer (f : Transfer → Transfer) : (s.mapTransfer f).sky = s.sky := rfl
@[simp] theorem sky_mapPond (f : Pond → Pond) : (s.mapPond f).sky = s.sky := rfl
@[simp] theorem sky_mapCannon (n : Nat) (f : Cannon → Cannon) : (s.mapCannon n f).sky = s.sky := rfl
@[simp] theorem sky_mapNode (a : Nat) (f : Node → Node) : (s.mapNode a f).sky = s.sky := rfl
@[simp] theorem sky_placeStop (a : Nat) (c : LoopCommand) : (s.placeStop a c).sky = s.sky := rfl
@[simp] theorem sky_placeStart (a : Nat) (c : LoopCommand) : (s.placeStart a c).sky = s.sky := rfl
@[simp] theorem sky_raiseWater : s.raiseWater.sky = s.sky := rfl

/-- A fold of steps none of which changes the wind monitor. -/
theorem foldl_sky {β : Type} (f : State → β → State) (h : ∀ s b, (f s b).sky = s.sky) (l : List β) (s : State) :
    (l.foldl f s).sky = s.sky := by
  induction l generalizing s with
  | nil => rfl
  | cons b l ih => rw [List.foldl_cons, ih, h]

/-! ## The water blocks and the controller -/

@[simp] theorem sky_evalSpent : s.evalSpent.sky = s.sky := by simp only [State.evalSpent]; split <;> rfl

@[simp] theorem sky_releaseHeader (n : Nat) : (s.releaseHeader n).sky = s.sky := by
  simp only [State.releaseHeader]
  split
  · split <;> rfl
  · rfl

@[simp] theorem sky_evalTransfer : s.evalTransfer.sky = s.sky := by rw [evalTransfer_frame]; rfl

@[simp] theorem sky_creditPond (c : Nat) : (s.creditPond c).sky = s.sky := by
  rw [creditPond_eq, sky_evalTransfer]
  rfl

@[simp] theorem sky_rollOver : s.rollOver.sky = s.sky := by
  simp only [State.rollOver]
  split
  · rfl
  · simp only [sky_occasion, sky_evalSpent]; rfl

@[simp] theorem sky_placeClose (n : Nat) : (s.placeClose n).sky = s.sky := by
  simp only [State.placeClose]; split <;> rfl

@[simp] theorem sky_mapBoundPass (c : Cannon) (f : Pass → Pass) : (s.mapBoundPass c f).sky = s.sky := by
  simp only [State.mapBoundPass]; split <;> rfl

@[simp] theorem sky_toIdle (n : Nat) : (s.toIdle n).sky = s.sky := rfl

@[simp] theorem sky_rampDown (n : Nat) : (s.rampDown n).sky = s.sky := by
  simp only [State.rampDown]
  split
  · simp
  · rfl

theorem calm_passEndTasks (c : Cannon) (k : PassKind) (v : Nat) : ∀ t ∈ c.passEndTasks k v, t.calm = true := by
  cases h : c.bound <;> simp [Cannon.passEndTasks, h, Task.calm]

theorem calms_closeDown (s : State) (n : Nat) : Calms s (s.closeDown n) := by
  rcases closeDown_cases s n with ⟨h, -⟩ | ⟨c, -, ⟨-, h⟩ | ⟨-, -, h⟩ | ⟨-, -, h⟩⟩ <;> rw [h]
  · exact .nil rfl
  · exact .nil (sky_rampDown n)
  · exact ⟨by simp, calm_passEndTasks c _ _⟩
  · exact ⟨by simp, calm_passEndTasks c _ _⟩

theorem calms_closePass (s : State) (o : Order) : Calms s (s.closePass o) := by
  rcases closePass_cases s o with ⟨-, h⟩ | ⟨p, -, -, h⟩ <;> rw [h]
  · exact .nil rfl
  · exact calms_closeDown s p.cannon

/-! ## The dispatcher -/

theorem calms_endOrder (s : State) (i : Nat) (x : OrderOutcome) : Calms s (s.endOrder i x) := .one rfl rfl

theorem calms_addReason (s : State) (i : Nat) (r : Reason) : Calms s (s.addReason i r) := by
  rcases addReason_cases s i r with ⟨-, h⟩ | ⟨o, -, -, -, h⟩ <;> rw [h]
  · exact .nil rfl
  · exact .of_eq (t := s.mapOrder i fun o => o.withReason r) rfl (calms_closePass _ o)

theorem calms_cancel (s : State) (i : Nat) : Calms s (s.cancel i) := by
  simp only [State.cancel]
  split
  · exact .nil rfl
  · split
    · exact calms_endOrder s i _
    · exact calms_endOrder s i _
    · exact .nil rfl
    · split
      · exact .nil rfl
      · exact .of_eq (t := s.mapOrder i fun o => { o with cancelPending := true }) rfl (calms_closePass _ _)

theorem calms_closePassOf (s : State) (i : Nat) : Calms s (s.closePassOf i) := by
  simp only [State.closePassOf]
  split
  · exact calms_closePass s _
  · exact .nil rfl

theorem calms_applyGain (s : State) (tag v : Nat) : Calms s (s.applyGain tag v) := by
  simp only [State.applyGain]
  split
  · exact .nil rfl
  · split
    · exact .nil rfl
    · split
      · exact .nil rfl
      · split
        · exact .one rfl rfl
        · exact .one rfl (by simp)

theorem calms_passEnd (s : State) (i : Nat) (k : PassKind) (v : Nat) : Calms s (s.passEnd i k v) := by
  simp only [State.passEnd]
  split
  · exact .nil rfl
  · rename_i o _
    obtain ⟨hsky, hcalm⟩ := calms_applyGain (s.mapOrder i fun o => o.creditedEnd k v) o.tag v
    exact Calms.append (ts := (State.applyGain (s.mapOrder i fun o => o.creditedEnd k v) o.tag v).2) ⟨hsky, hcalm⟩
      fun u hu => by rw [List.mem_singleton.1 hu]; rfl

theorem calms_passNext (s : State) (i : Nat) (k : PassKind) : Calms s (s.passNext i k) := by
  simp only [State.passNext]
  split
  · exact .nil rfl
  · split
    · exact .cons rfl (.one rfl (by simp))
    · exact .one rfl (by simp)

theorem calms_orderEnded (s : State) (i : Nat) : Calms s (s.orderEnded i) := by
  simp only [State.orderEnded]
  split
  · exact .nil rfl
  · split
    · exact .cons rfl (.one rfl (by simp))
    · exact .one rfl (by simp)

theorem calms_lapseOrder (s : State) (i : Nat) : Calms s (s.lapseOrder i) := by
  simp only [State.lapseOrder]
  split
  · split
    · exact calms_endOrder s i _
    · exact .nil rfl
  · exact .nil rfl

@[simp] theorem sky_dropReason (i : Nat) (r : Reason) : (s.dropReason i r).sky = s.sky := by
  simp only [State.dropReason]
  split
  · rfl
  · split
    · split <;> rfl
    · rfl

theorem calms_accept (s : State) (r : OrderRequest) : (s.accept r).1.sky = s.sky ∧ ∀ t ∈ (s.accept r).2.2.2, t.calm = true := by
  simp only [State.accept]
  constructor
  · split <;> split <;> rfl
  · split <;> split <;> simp [Task.calm]

/-! ## The pile table and the permit table -/

@[simp] theorem sky_handPermit (q : Option Nat) (m : Nat) : (s.handPermit q m).sky = s.sky := by
  simp only [State.handPermit]
  split
  · rfl
  · exact sky_hand .permit m

@[simp] theorem sky_askGrant (q : Option Nat) (tag : Nat) : (s.askGrant q tag).sky = s.sky := by
  simp only [State.askGrant]
  split
  · rfl
  · exact foldl_sky _ (fun s (p : Permit) => sky_handPermit q p.machine) _ _

theorem calms_endOpenPrewet (s : State) (tag : Nat) : Calms s (s.endOpenPrewet tag) := by
  simp only [State.endOpenPrewet]
  split
  · split
    · exact calms_endOrder s _ _
    · exact .nil rfl
  · exact .nil rfl

theorem calms_enterClearing (s : State) (tag : Nat) : Calms s (s.enterClearing tag) :=
  .append (.map rfl fun _ => rfl) fun u hu => by rw [List.mem_singleton.1 hu]; rfl

theorem calms_tellPile (s : State) (q : Option Nat) (tag : Nat) : Calms s (s.tellPile q tag) := by
  simp only [State.tellPile]
  split
  · exact .nil rfl
  · split
    · generalize hmoved : List.foldl _ _ _ = u
      have hu : u.sky = s.sky := hmoved ▸ foldl_sky _ (fun s (p : Permit) => sky_handPermit q p.machine) _ _
      obtain ⟨hsky, hcalm⟩ := calms_endOpenPrewet u tag
      obtain ⟨hsky', hcalm'⟩ := calms_enterClearing (u.endOpenPrewet tag).1 tag
      exact ⟨hsky'.trans (hsky.trans hu), fun t ht => (List.mem_append.1 ht).elim (hcalm t) (hcalm' t)⟩
    · exact .nil rfl

theorem calms_passTold (s : State) (q : Option Nat) (tag : Nat) : Calms s (s.passTold q tag) := by
  simp only [State.passTold]
  split
  · split
    · exact .of_eq (sky_askGrant q tag) (calms_endOrder _ _ _)
    · exact .nil (sky_askGrant q tag)
  · exact .nil (sky_askGrant q tag)

theorem calms_askPrewet (s : State) (tag : Nat) (only : Option Nat) : Calms s (s.askPrewet tag only) := by
  rcases askPrewet_cases s tag only with ⟨-, h⟩ | ⟨o, -, h⟩ | ⟨-, -, h⟩ | ⟨slot, p, g, a, -, -, -, -, rfl, h⟩ <;> rw [h]
  · exact .nil rfl
  · exact .nil rfl
  · exact .nil rfl
  · exact calms_accept s (s.prewetRequest p g)

theorem calms_prewetEnded (s : State) (i : Nat) (x : OrderOutcome) : Calms s (s.prewetEnded i x) := by
  cases x
  case withdrawn => exact .nil rfl
  all_goals exact .map rfl fun _ => rfl

theorem calms_endPermit (s : State) (q : Option Nat) (m : Nat) (x : PermitOutcome) (w : Bool) :
    Calms s (s.endPermit q m x w) := by
  simp only [State.endPermit]
  split
  · exact .nil rfl
  · refine .append (.append (.map (sky_handPermit q m) fun _ => rfl) fun u hu => by rw [List.mem_singleton.1 hu]; rfl) ?_
    split <;> simp [Task.calm]

theorem calms_checkRetire (s : State) (tag : Nat) : Calms s (s.checkRetire tag) := by
  simp only [State.checkRetire]
  split
  · exact .nil rfl
  · split
    · exact .append (.map (sky_hand .pile _) fun _ => rfl) fun u hu => by rw [List.mem_singleton.1 hu]; rfl
    · exact .nil rfl

@[simp] theorem sky_liftZone (tag : Nat) : (s.liftZone tag).sky = s.sky := by
  simp only [State.liftZone]
  split
  · rfl
  · split
    · exact foldl_sky _ (fun s (o : Order) => sky_dropReason o.id .zone) _ _
    · rfl

@[simp] theorem sky_checkFree (tag : Nat) : (s.checkFree tag).sky = s.sky := by
  simp only [State.checkFree]
  split
  · rfl
  · split
    · exact sky_hand .pile _
    · rfl

@[simp] theorem sky_blendPile (tag f : Nat) (mf : Option Nat) : (s.blendPile tag f mf).sky = s.sky := by
  simp only [State.blendPile]
  split
  · rfl
  · split <;> rfl

@[simp] theorem sky_markEstimated (tag : Nat) : (s.markEstimated tag).sky = s.sky := by
  simp only [State.markEstimated]
  split
  · rfl
  · split
    · rfl
    · exact sky_hand .pile _

theorem calms_expirePrewet (s : State) (m : Nat) : Calms s (s.expirePrewet m) := by
  simp only [State.expirePrewet]
  split
  · split
    · exact .one rfl rfl
    · exact .nil rfl
  · exact .nil rfl

theorem calms_lapsePermit (s : State) (m : Nat) : Calms s (s.lapsePermit m) := by
  simp only [State.lapsePermit]
  split
  · split
    · exact .cons rfl (.one rfl (by simp))
    · exact .nil rfl
  · exact .nil rfl

/-! ## The agenda -/

/-- A telling that is not the wind monitor's own leaves it alone, and so do those it brings about. -/
theorem calms_doTask (s : State) (q : Option Nat) {t : Task} (h : t.calm = true) : Calms s (doTask q t s) := by
  cases t with
  | addReason id r => exact calms_addReason s id r
  | cancel id => exact calms_cancel s id
  | passEnd id kind vm => exact calms_passEnd s id kind vm
  | passNext id kind => exact calms_passNext s id kind
  | passTold tag => exact calms_passTold s q tag
  | orderEnded id => exact calms_orderEnded s id
  | prewetEnded id x => exact calms_prewetEnded s id x
  | askPrewet tag only => exact calms_askPrewet s tag only
  | retryPrewets => exact .map rfl fun _ => rfl
  | tellPile tag => exact calms_tellPile s q tag
  | closePass id => exact calms_closePassOf s id
  | askGrant tag => exact .nil (sky_askGrant q tag)
  | endPermit m x w => exact calms_endPermit s q m x w
  | checkRetire tag => exact calms_checkRetire s tag
  | liftZone tag => exact .nil (sky_liftZone tag)
  | checkFree tag => exact .nil (sky_checkFree tag)
  | lapseOrder id => exact calms_lapseOrder s id
  | lapseOrders => exact .map rfl fun _ => rfl
  | expirePrewet m => exact calms_expirePrewet s m
  | lapsePermit m => exact calms_lapsePermit s m
  | permitMinute =>
    exact .append ⟨rfl, fun u hu => (List.mem_append.1 hu).elim ((Calms.map (s := s) rfl fun _ => rfl).2 u)
      ((Calms.map (s := s) rfl fun _ => rfl).2 u)⟩ fun u hu => by rw [List.mem_singleton.1 hu]; rfl
  | blendPile tag f mf => exact .nil (sky_blendPile tag f mf)
  | selectWeather => exact absurd h (by decide)
  | evalHolds => exact absurd h (by decide)
  | decayTrips => exact .nil rfl
  | rollOver => exact .nil sky_rollOver

/-- An agenda without tellings of the wind monitor's own leaves it alone. -/
theorem sky_runTasks (q : Option Nat) (fuel : Nat) (ts : List Task) (s : State) (h : ∀ t ∈ ts, t.calm = true) :
    (runTasks q fuel ts s).sky = s.sky := by
  induction fuel generalizing ts s with
  | zero => rfl
  | succ n ih =>
    cases ts with
    | nil => rfl
    | cons t ts =>
      obtain ⟨hsky, hcalm⟩ := calms_doTask s q (h t List.mem_cons_self)
      exact (ih _ _ fun u hu => (List.mem_append.1 hu).elim (hcalm u) fun hu => h u (List.mem_cons_of_mem t hu)).trans hsky

end

end Sys2Proof.Machine
end

section
set_option Elab.async false
/-! PROOFS. HOLD joins the orders one after another (R56, R82). -/

namespace Sys2Proof.Machine

/-! ## Orders without passes -/

/-- HOLD has joined the orders of some ids. -/
def State.holding (s : State) (ids : List Nat) : State :=
  { s with dispatch := { s.dispatch with orders := s.dispatch.orders.map fun o =>
    if o.id ∈ ids ∧ o.suspension.hold = false then o.withReason .hold else o } }

theorem holding_nil (s : State) : s.holding [] = s := by
  simp [State.holding]

theorem holding_cons (s : State) (id : Nat) (ids : List Nat) : (s.holding [id]).holding ids = s.holding (id :: ids) := by
  simp only [State.holding, List.map_map]
  congr 2
  refine List.map_congr_left fun o _ => ?_
  by_cases h : o.suspension.hold = true
  · simp [h]
  · have hid : (o.withReason .hold).id = o.id := rfl
    have hhold : (o.withReason .hold).suspension.hold = true := rfl
    by_cases h1 : o.id = id <;> by_cases h2 : o.id ∈ ids <;> simp [h, h1, h2, hid, hhold]

theorem order?_holding (s : State) (ids : List Nat) (id : Nat) : (s.holding ids).order? id =
    (s.order? id).map fun o => if o.id ∈ ids ∧ o.suspension.hold = false then o.withReason .hold else o :=
  order?_map (fun o => by split <;> rfl) id

/-- HOLD reaches an open order without a pass: it joins its set, where it is not in it already. -/
theorem addReason_hold_of_passless {s : State} {o : Order} (hnodup : (s.dispatch.orders.map fun o => o.id).Nodup)
    (ho : s.order? o.id = some o) (hopen : o.state ≠ .ended) (hpass : o.pass = none) :
    s.addReason o.id .hold = (s.holding [o.id], []) := by
  have honly : ∀ y ∈ s.dispatch.orders, y.id = o.id → y = o := fun y hy hid =>
    List.inj_on_of_nodup_map hnodup hy (State.order_mem ho).1 hid
  by_cases hold : o.suspension.hold = true
  · have hsame : s.holding [o.id] = s := by
      have : (s.dispatch.orders.map fun y =>
          if y.id ∈ [o.id] ∧ y.suspension.hold = false then y.withReason .hold else y) = s.dispatch.orders := by
        refine (List.map_congr_left fun y hy => if_neg fun h => ?_).trans (List.map_id' _)
        rw [honly y hy (List.mem_singleton.1 h.1), hold] at h
        exact absurd h.2 (by decide)
      rw [State.holding, this]
    rw [hsame]
    simp only [State.addReason, ho, if_pos (Or.inr hold : o.isOpen = false ∨ o.suspension.has .hold = true)]
  · have hold := Bool.eq_false_iff.2 hold
    rw [addReason_none (r := .hold) ho hopen hold, closePass_none hpass]
    refine congrArg (·, ([] : List Task)) ?_
    refine congrArg (fun l : List Order => { s with dispatch := { s.dispatch with orders := l } }) ?_
    refine List.map_congr_left fun y hy => ?_
    by_cases hid : y.id = o.id
    · rw [if_pos hid, if_pos ⟨by rw [hid]; exact List.mem_singleton_self _, by rw [honly y hy hid, hold]⟩]
    · rw [if_neg hid, if_neg fun h => hid (List.mem_singleton.1 h.1)]

/-- HOLD reaches some open orders without passes, one after another. -/
theorem reaches_holding {q : Option Nat} {s : State} {ids : List Nat} (hnodup : (s.dispatch.orders.map fun o => o.id).Nodup)
    (h : ∀ id ∈ ids, ∃ o, s.order? id = some o ∧ o.state ≠ .ended ∧ o.pass = none) :
    Reaches q (ids.map fun id => .addReason id .hold) s ids.length (s.holding ids) := by
  induction ids generalizing s with
  | nil => rw [holding_nil]; exact .nil s
  | cons id ids ih =>
    obtain ⟨o, ho, hopen, hpass⟩ := h id List.mem_cons_self
    have hid : o.id = id := (State.order_mem ho).2
    subst hid
    have hfirst : Reaches q [.addReason o.id .hold] s 1 (s.holding [o.id]) :=
      .single (addReason_hold_of_passless hnodup ho hopen hpass)
    have hids : ((s.holding [o.id]).dispatch.orders.map fun o => o.id) = s.dispatch.orders.map fun o => o.id := by
      rw [State.holding, List.map_map]
      exact List.map_congr_left fun y _ => by dsimp only [Function.comp]; split <;> rfl
    rw [← holding_cons, List.length_cons, Nat.add_comm]
    refine .cons hfirst (ih (by rw [hids]; exact hnodup) fun k hk => ?_)
    obtain ⟨y, hy, hyopen, hypass⟩ := h k (List.mem_cons_of_mem _ hk)
    refine ⟨_, (order?_holding s [o.id] k).trans (by rw [hy]; rfl), ?_, ?_⟩
    · dsimp only; split <;> exact hyopen
    · dsimp only; split <;> exact hypass

/-- The tellings of HOLD's coming. -/
def State.holdTasks (s : State) : List Task := (s.dispatch.orders.filter Order.isOpen).map fun o => .addReason o.id .hold

theorem holdTasks_eq (s : State) : s.holdTasks
    = ((s.dispatch.orders.filter Order.isOpen).map fun o => o.id).map fun id => .addReason id .hold := by
  rw [State.holdTasks, List.map_map]
  rfl

/-- HOLD's coming where no pass runs: it joins the set of every open order. -/
theorem reaches_holdTasks {q : Option Nat} {s : State} (hnodup : (s.dispatch.orders.map fun o => o.id).Nodup)
    (hpass : ∀ o ∈ s.dispatch.orders, o.state = .ended ∨ o.pass = none) : Reaches q s.holdTasks s s.dispatch.orders.length
      { s with dispatch := { s.dispatch with orders := ordersUnderHold false true s.dispatch.orders } } := by
  rw [holdTasks_eq]
  have hreach := reaches_holding (q := q) (s := s) (ids := (s.dispatch.orders.filter Order.isOpen).map fun o => o.id) hnodup
    fun id hid => by
      obtain ⟨o, ho, rfl⟩ := List.mem_map.1 hid
      obtain ⟨hmem, hopen⟩ := List.mem_filter.1 ho
      have hopen := isOpen_iff.1 hopen
      exact ⟨o, order?_of_mem hnodup hmem, hopen, (hpass o hmem).resolve_left hopen⟩
  have heq : s.holding ((s.dispatch.orders.filter Order.isOpen).map fun o => o.id)
      = { s with dispatch := { s.dispatch with orders := ordersUnderHold false true s.dispatch.orders } } := by
    refine congrArg (fun l : List Order => { s with dispatch := { s.dispatch with orders := l } }) ?_
    rw [ordersUnderHold, if_neg (by decide)]
    refine List.map_congr_left fun o ho => ?_
    have hiff : o.id ∈ ((s.dispatch.orders.filter Order.isOpen).map fun o => o.id) ↔ o.state ≠ .ended := by
      rw [← isOpen_iff, List.mem_map]
      refine ⟨fun ⟨y, hy, hid⟩ => ?_, fun h => ⟨o, List.mem_filter.2 ⟨ho, h⟩, rfl⟩⟩
      obtain ⟨hmem, hopen⟩ := List.mem_filter.1 hy
      rwa [← List.inj_on_of_nodup_map hnodup hmem ho hid]
    by_cases hstate : o.state = .ended
    · rw [if_neg fun h => hiff.1 h.1 hstate, if_pos (.inl hstate)]
    · cases hold : o.suspension.hold with
      | true => rw [if_neg fun h => absurd h.2 (by decide), if_pos (.inr rfl)]
      | false =>
        rw [if_pos ⟨hiff.2 hstate, rfl⟩, if_neg (by simp [hstate])]
        simp [Order.withReason, Suspension.add, bne]
  rw [heq] at hreach
  refine hreach.mono ?_
  rw [List.length_map]
  exact List.length_filter_le _ _

/-- HOLD's leaving. -/
theorem dropHold_eq (s : State) : s.dropHold = { s with dispatch := { s.dispatch with
    orders := ordersUnderHold true false s.dispatch.orders
    due := s.dispatch.due + heldOccasions true false s.dispatch.orders } } := by
  have horders : (s.dispatch.orders.map fun o => if o.isOpen then { o with suspension := o.suspension.drop .hold } else o)
      = ordersUnderHold true false s.dispatch.orders := by
    rw [ordersUnderHold, if_neg (by decide)]
    refine List.map_congr_left fun o _ => ?_
    by_cases hstate : o.state = .ended
    · rw [if_neg (by rw [isOpen_iff]; exact not_not.2 hstate), if_pos (.inl hstate)]
    · rw [if_pos (isOpen_iff.2 hstate)]
      cases hold : o.suspension.hold with
      | true =>
        rw [if_neg (by simp [hstate])]
        simp [Suspension.drop]
      | false =>
        rw [if_pos (.inr rfl)]
        simp [Suspension.drop, ← hold]
  have hfreed : (s.dispatch.orders.any fun o =>
      o.state == .waiting && o.suspension.hold && (o.suspension.drop .hold).isEmpty) = s.dispatch.orders.any fun o =>
        o.state == .waiting && o.suspension.hold && !o.suspension.host && !o.suspension.zone := by
    congr 1
    funext o
    simp [Suspension.isEmpty, Suspension.drop, Bool.and_assoc]
  rw [State.dropHold, horders, hfreed, heldOccasions]
  split_ifs with h h2 h2
  · rfl
  · exact absurd ⟨rfl, rfl, h⟩ h2
  · exact absurd h2.2.2 h
  · rfl

end Sys2Proof.Machine
end

section
set_option Elab.async false
/-! PROOFS. HOLD reaches the orders one after another while one pass is watched (R56, R82, R111). -/

namespace Sys2Proof.Machine

/-- A cannon, its node and the permits, piles and clock after reasons have reached the orders of some ids, none of which has
its pass there; the cannons bound to other orders, and the other orders, are as they were. -/
structure State.Passes (s t : State) (k a : Nat) (ids : List Nat) : Prop where
  cannon : t.cannon? k = s.cannon? k
  node : t.node? a = s.node? a
  orders : ∀ j, j ∉ ids → t.order? j = s.order? j
  cannons : ∀ j d, s.cannon? j = some d → (∀ id ∈ ids, d.bound ≠ some id) → t.cannon? j = some d
  origins : ∀ o ∈ t.dispatch.orders, ∃ y ∈ s.dispatch.orders, o.origin = y.origin
  clock : t.clock = s.clock
  piles : t.piles = s.piles
  permits : t.permits = s.permits

namespace State.Passes
variable {s t u : State} {k a : Nat} {ids js : List Nat}

theorem refl (s : State) (k a : Nat) (ids : List Nat) : s.Passes s k a ids :=
  ⟨rfl, rfl, fun _ _ => rfl, fun _ _ h _ => h, fun o ho => ⟨o, ho, rfl⟩, rfl, rfl, rfl⟩

theorem trans (h : s.Passes t k a ids) (g : t.Passes u k a js) : s.Passes u k a (ids ++ js) where
  cannon := g.cannon.trans h.cannon
  node := g.node.trans h.node
  orders j hj := by
    rw [List.mem_append, not_or] at hj
    exact (g.orders j hj.2).trans (h.orders j hj.1)
  cannons j d hd hb := g.cannons j d (h.cannons j d hd fun id hid => hb id (List.mem_append_left _ hid))
    fun id hid => hb id (List.mem_append_right _ hid)
  origins o ho :=
    have ⟨y, hy, e⟩ := g.origins o ho
    have ⟨z, hz, e'⟩ := h.origins y hy
    ⟨z, hz, e.trans e'⟩
  clock := g.clock.trans h.clock
  piles := g.piles.trans h.piles
  permits := g.permits.trans h.permits

theorem mapOrder (s : State) (k a id : Nat) {f : Order → Order} (hf : ∀ o, (f o).id = o.id ∧ (f o).origin = o.origin) :
    s.Passes (s.mapOrder id f) k a [id] where
  cannon := rfl
  node := rfl
  orders j hj := order?_mapOrder_of_ne (fun o => (hf o).1) fun h => hj (List.mem_singleton.2 h)
  cannons _ _ h _ := h
  origins o ho := by
    obtain ⟨y, hy, rfl⟩ := mem_mapOrder ho
    refine ⟨y, hy, ?_⟩
    split_ifs
    · exact (hf y).2
    · rfl
  clock := rfl
  piles := rfl
  permits := rfl

theorem closing {n b id : Nat} {f : Cannon → Cannon} {c : Cannon} (hk : k ≠ n) (ha : a ≠ b) (hc : s.cannon? n = some c)
    (hb : c.bound = some id) : s.Passes (s.closing n b f) k a [id] where
  cannon := cannon_closing_of_ne hk
  node := node_closing_of_ne ha
  orders _ _ := rfl
  cannons j d hd hne := by
    rw [cannon_closing_of_ne, hd]
    rintro rfl
    rw [hc] at hd
    exact hne id List.mem_cons_self (Option.some.inj hd ▸ hb)
  origins o ho := ⟨o, ho, rfl⟩
  clock := rfl
  piles := rfl
  permits := rfl

end State.Passes

/-- The pass of an order, where it has one that runs, is on another cannon and node than those watched, and none aims. -/
def State.Aside (s : State) (k a id : Nat) : Prop := ∀ y, s.order? id = some y → y.state = .ended ∨ y.pass = none ∨
  ∃ q d, y.pass = some q ∧ q.cannon ≠ k ∧ s.cannon? q.cannon = some d ∧ d.bound = some id ∧ d.state ≠ .aiming
    ∧ d.config.node ≠ a

theorem State.Aside.of_passes {s t : State} {k a id : Nat} {ids : List Nat} (h : s.Aside k a id) (g : s.Passes t k a ids)
    (hid : id ∉ ids) : t.Aside k a id := by
  intro y hy
  rw [g.orders id hid] at hy
  obtain hended | hnone | ⟨q, d, hpass, hk, hd, hb, hs, ha⟩ := h y hy
  · exact .inl hended
  · exact .inr (.inl hnone)
  · refine .inr (.inr ⟨q, d, hpass, hk, g.cannons _ d hd fun j hj e => hid ?_, hb, hs, ha⟩)
    rw [hb] at e
    exact Option.some.inj e ▸ hj

/-- A reason that reaches an order whose pass is elsewhere brings nothing about. -/
theorem addReason_aside {s : State} {k a id : Nat} (r : Reason) (h : s.Aside k a id) :
    ∃ t, s.addReason id r = (t, []) ∧ s.Passes t k a [id] := by
  rcases addReason_cases s id r with ⟨-, heq⟩ | ⟨y, hy, hopen, -, heq⟩
  · exact ⟨s, heq, .refl s k a [id]⟩
  · have hjoin : s.Passes (s.mapOrder id fun o => o.withReason r) k a [id] := .mapOrder s k a id fun _ => ⟨rfl, rfl⟩
    rcases closePass_cases (s.mapOrder id fun o => o.withReason r) y with ⟨-, hclose⟩ | ⟨q, hq, -, hclose⟩
    · exact ⟨_, heq.trans hclose, hjoin⟩
    · obtain hended | hnone | ⟨q', d, hpass, hk, hd, hb, hs, ha⟩ := h y hy
      · exact absurd hended (isOpen_iff.1 hopen)
      · rw [hnone] at hq; cases hq
      · obtain rfl : q = q' := Option.some.inj (hq.symm.trans hpass)
        rcases closeDown_cases (s.mapOrder id fun o => o.withReason r) q.cannon with
          ⟨hdown, -⟩ | ⟨c, hc, ⟨-, hdown⟩ | ⟨haim, -⟩ | ⟨haim, -⟩⟩
        · exact ⟨_, heq.trans (hclose.trans hdown), hjoin⟩
        · obtain rfl : d = c := Option.some.inj (hd.symm.trans hc)
          rw [rampDown_of_bound hc hb] at hdown
          refine ⟨_, heq.trans (hclose.trans hdown), ?_⟩
          have hclosing : (s.mapOrder id fun o => o.withReason r).Passes
              ((s.mapOrder id fun o => o.withReason r).closing q.cannon d.config.node Cannon.ramping) k a [id] :=
            .closing hk.symm ha.symm hc hb
          have hpasses := (hjoin.trans hclosing).trans (.mapOrder _ k a id (f := fun o => o.mapPass Pass.ramping)
            fun _ => ⟨rfl, rfl⟩)
          exact ⟨hpasses.cannon, hpasses.node, fun j hj => hpasses.orders j (by simpa using hj),
            fun j e he hne => hpasses.cannons j e he (by simpa using hne), hpasses.origins, hpasses.clock, hpasses.piles,
            hpasses.permits⟩
        · exact absurd (Option.some.inj (hd.symm.trans hc) ▸ haim) hs
        · exact absurd (Option.some.inj (hd.symm.trans hc) ▸ haim) hs

/-- Reasons that reach orders whose passes are elsewhere, one after another. -/
theorem reaches_aside {q : Option Nat} {s : State} {k a : Nat} (r : Reason) {ids : List Nat} (hnodup : ids.Nodup)
    (h : ∀ id ∈ ids, s.Aside k a id) :
    ∃ t, Reaches q (ids.map fun id => .addReason id r) s ids.length t ∧ s.Passes t k a ids := by
  induction ids generalizing s with
  | nil => exact ⟨s, .nil s, .refl s k a []⟩
  | cons id ids ih =>
    obtain ⟨hid, hnodup⟩ := List.nodup_cons.1 hnodup
    obtain ⟨u, hu, hpasses⟩ := addReason_aside r (h id List.mem_cons_self)
    obtain ⟨t, hreach, hrest⟩ := ih hnodup fun j hj => (h j (List.mem_cons_of_mem _ hj)).of_passes hpasses
      fun e => hid (List.mem_singleton.1 e ▸ hj)
    refine ⟨t, ?_, hpasses.trans hrest⟩
    rw [List.length_cons, Nat.add_comm]
    exact .cons (.single hu) hreach

end Sys2Proof.Machine
end

section
set_option Elab.async false
/-! PROOFS. What HOLD's coming makes of a running pass (R56, R82, R111). -/

namespace Sys2Proof.Machine

/-- A state keeps the orders but one and the cannons but one. -/
def State.spares (s t : State) (id k : Nat) : Prop :=
  (∀ j, j ≠ id → t.order? j = s.order? j) ∧ ∀ j, j ≠ k → t.cannon? j = s.cannon? j

theorem withReason_hold {o : Order} (ha : o.state = .active) :
    o.withReason .hold = { o with suspension := { o.suspension with hold := true } } := by
  rw [withReason_eq, if_neg (by rw [ha]; decide)]
  rfl

section
variable {u : State} {o : Order} {p : Pass} {c : Cannon} {n : Node} (ho : u.order? o.id = some o) (ha : o.state = .active)
  (hold : o.suspension.hold = false) (hpass : o.pass = some p) (hc : u.cannon? p.cannon = some c) (hb : c.bound = some o.id)
  (hn : u.node? c.config.node = some n)
include ho ha hold hpass hc hb hn

/-- HOLD reaches a pass that sprays or ramps down. -/
theorem reaches_hold_running {q : Option Nat}
    (hstates : (p.state = .spraying ∧ c.state = .spraying) ∨ (p.state = .rampDown ∧ c.state = .rampDown)) :
    ∃ t, Reaches q [.addReason o.id .hold] u 4 t
      ∧ t.order? o.id = some { o with suspension := { o.suspension with hold := true }, pass := some p.ramping }
      ∧ t.cannon? p.cannon = some (if c.state = .rampDown then c else c.ramping)
      ∧ t.node? c.config.node = some (if c.state = .rampDown then n else { n with slot := some .close })
      ∧ u.spares t o.id p.cannon := by
  have hself : (u.mapOrder o.id fun o => o.withReason .hold).order? o.id = some (o.withReason .hold) :=
    order?_mapOrder_self (f := fun o => o.withReason .hold) ho fun _ => rfl
  obtain ⟨t, ht, horder, horders, hcannon, hcannons, hnode, -, -⟩ := closePass_of_running hpass hself hpass hc hb hn hstates
  have hdo : doTask q (.addReason o.id .hold) u = (t, []) :=
    (addReason_none (r := .hold) ho (by rw [ha]; decide) hold).trans ht
  refine ⟨t, (Reaches.single hdo).mono (by decide), ?_,
    hcannon, hnode, fun j hj => (horders j hj).trans
      (order?_mapOrder_of_ne (f := fun o => o.withReason .hold) (fun _ => rfl) hj), hcannons⟩
  rw [horder, withReason_hold ha]

/-- HOLD reaches a pass in AIMING: it is abandoned, and its order waits again. -/
theorem reaches_hold_aiming {q : Option Nat} (haim : p.state = .aiming) (hcs : c.state = .aiming) (hheader : c.header ≠ none)
    (hcancel : o.cancelPending = false) (hplan : o.plan = none) (hdose : o.delivered + 50 ≤ o.dose) (hmax : o.dose ≤ 65535)
    (hpermits : u.permits.list = []) (horigins : ∀ x ∈ u.dispatch.orders, x.origin = .host) :
    ∃ t, Reaches q [.addReason o.id .hold] u 4 t
      ∧ t.order? o.id = some { o with
        suspension := { o.suspension with hold := true }, state := .waiting, pass := none, lastEnd := some .abandoned
        lapseRef := u.clock.minute }
      ∧ t.cannon? p.cannon = some c.abandoned ∧ t.node? c.config.node = some { n with slot := some .close }
      ∧ u.spares t o.id p.cannon := by
  have hself : (u.mapOrder o.id fun o => o.withReason .hold).order? o.id = some (o.withReason .hold) :=
    order?_mapOrder_self (f := fun o => o.withReason .hold) ho fun _ => rfl
  obtain ⟨f, k, hf, hdown⟩ := closeDown_of_aiming (s := u.mapOrder o.id fun o => o.withReason .hold) hc hcs hb hheader
  set v := (u.mapOrder o.id fun o => o.withReason .hold).closingDue p.cannon c.config.node f k with hv
  have hfound : v.order? o.id = some (o.withReason .hold) := hself
  rw [withReason_hold ha] at hfound
  have hprewet : ∀ y ∈ v.dispatch.orders, y.origin ≠ .prewet := fun y hy => by
    obtain ⟨z, hz, rfl⟩ := mem_mapOrder (s := u) (f := fun o => o.withReason .hold) hy
    have hhost := horigins z hz
    split_ifs
    · rw [show (z.withReason .hold).origin = z.origin from rfl, hhost]; decide
    · rw [hhost]; decide
  have htold : doTask q (.passTold o.tag) (v.waitsAfter o.id) = (v.waitsAfter o.id, []) :=
    passTold_quiet _ q _ ((congrArg Permits.list (permits_waitsAfter v o.id)).trans hpermits)
      (forall_origin_of_restates (restates_waitsAfter v o.id) hprewet)
  have hvolume : o.delivered ≤ 4294967295 := by omega
  have hrun := reaches_abandoned_waits (q := q) hfound hplan hvolume hcancel hdose htold
  have hclose := (closePass_of_some (s := u.mapOrder o.id fun o => o.withReason .hold) hpass (by rw [haim]; decide)).trans hdown
  refine ⟨_, .one ((addReason_none (r := .hold) ho (by rw [ha]; decide) hold).trans hclose) hrun,
    order?_waitsAfter hfound hplan hvolume, ?_, ?_, fun j hj => ?_, fun j hj => ?_⟩
  · rw [cannon?_waitsAfter, ← hf]
    exact cannon_closing_self (s := u) (a := c.config.node) (f := f) hc
  · rw [node?_waitsAfter]
    exact node_closing_self (s := u) (n := p.cannon) (f := f) hn
  · exact (order?_waitsAfter_of_ne hj).trans (order?_mapOrder_of_ne (s := u) (f := fun o => o.withReason .hold) (fun _ => rfl) hj)
  · rw [cannon?_waitsAfter]
    exact cannon_closing_of_ne (s := u) (a := c.config.node) (f := f) hj

end

/-- HOLD reaches one order among others whose passes are elsewhere: what it makes of that order, its cannon and its node is
what it makes of them alone. -/
theorem reaches_holdTasks_among {q : Option Nat} {s : State} {o x : Order} {k a : Nat} {d : Cannon} {m : Node}
    (hnodup : (s.dispatch.orders.map fun o => o.id).Nodup) (ho : s.order? o.id = some o) (hopen : o.state ≠ .ended)
    (haside : ∀ y ∈ s.dispatch.orders, y.id ≠ o.id → s.Aside k a y.id)
    (hstep : ∀ u ids, o.id ∉ ids → s.Passes u k a ids → ∃ t, Reaches q [.addReason o.id .hold] u 4 t ∧ t.order? o.id = some x
      ∧ t.cannon? k = some d ∧ t.node? a = some m ∧ u.spares t o.id k) :
    ∃ t, Reaches q s.holdTasks s (s.dispatch.orders.length + 4) t ∧ t.order? o.id = some x ∧ t.cannon? k = some d
      ∧ t.node? a = some m := by
  have hmem : o.id ∈ (s.dispatch.orders.filter Order.isOpen).map fun o => o.id :=
    List.mem_map_of_mem (List.mem_filter.2 ⟨(State.order_mem ho).1, isOpen_iff.2 hopen⟩)
  have hsub : ((s.dispatch.orders.filter Order.isOpen).map fun o => o.id).Sublist (s.dispatch.orders.map fun o => o.id) :=
    List.filter_sublist.map _
  have hids := hsub.nodup hnodup
  have hlength := hsub.length_le
  have hall : ∀ id ∈ (s.dispatch.orders.filter Order.isOpen).map fun o => o.id, id ≠ o.id → s.Aside k a id := by
    intro id hid hne
    obtain ⟨y, hy, rfl⟩ := List.mem_map.1 hid
    exact haside y (List.mem_filter.1 hy).1 hne
  rw [holdTasks_eq]
  generalize ((s.dispatch.orders.filter Order.isOpen).map fun o => o.id) = ids at hmem hids hlength hall
  obtain ⟨before, after, rfl⟩ := List.append_of_mem hmem
  obtain ⟨hbefore, hrest, hdisjoint⟩ := List.nodup_append.1 hids
  obtain ⟨hself, hafter⟩ := List.nodup_cons.1 hrest
  have hout : o.id ∉ before := fun h => hdisjoint o.id h o.id List.mem_cons_self rfl
  obtain ⟨u, hu, hpasses⟩ := reaches_aside (q := q) .hold hbefore fun id hid =>
    hall id (List.mem_append_left _ hid) fun e => hout (e ▸ hid)
  obtain ⟨w, hw, horder, hcannon, hnode, hothers, hcannons⟩ := hstep u before hout hpasses
  have hthen : ∀ id ∈ after, w.Aside k a id := by
    intro id hid y hy
    have hne : id ≠ o.id := fun e => hself (e ▸ hid)
    have hfresh : id ∉ before := fun h => hdisjoint id h id (List.mem_cons_of_mem _ hid) rfl
    have hpast := (hall id (List.mem_append_right _ (List.mem_cons_of_mem _ hid)) hne).of_passes hpasses hfresh
    rw [hothers id hne] at hy
    obtain hended | hnone | ⟨p, e, hp, hk, he, hrest⟩ := hpast y hy
    · exact .inl hended
    · exact .inr (.inl hnone)
    · exact .inr (.inr ⟨p, e, hp, hk, (hcannons _ hk).trans he, hrest⟩)
  obtain ⟨t, ht, hlast⟩ := reaches_aside (q := q) .hold hafter hthen
  refine ⟨t, ?_, (hlast.orders _ hself).trans horder, hlast.cannon.trans hcannon, hlast.node.trans hnode⟩
  rw [List.map_append, List.map_cons]
  refine (hu.append (hw.cons ht)).mono ?_
  simp only [List.length_append, List.length_cons, List.length_map] at hlength
  omega

end Sys2Proof.Machine
end

section
set_option Elab.async false
/-! PROOFS. A selection of the weather, and what follows it: the holds, the WIND notice and the orders (R50, R54 to R56). -/

namespace Sys2Proof.Machine

/-! ## The holds evaluated -/

/-- The wind monitor with both holds moved by their thresholds. -/
def Wind.swayed (w : Wind) : Wind :=
  { w with cutOut := cutOutNext w.limits w.weather.speed w.cutOut, frost := frostNext w.limits w.weather.temp w.frost }

/-- Both holds moved, and WIND raised by a change. -/
def State.swayed (s : State) : State := { s with
  wind := s.wind.swayed
  notices := { s.notices with flags := { s.notices.flags with
    wind := s.notices.flags.wind || s.wind.swayed.cutOut != s.wind.cutOut || s.wind.swayed.frost != s.wind.frost } } }

theorem evalHolds_swayed (s : State) :
    (s.wind.swayed.hold = s.wind.hold ∧ s.evalHolds = (s.swayed, []))
    ∨ (s.wind.hold = false ∧ s.wind.swayed.hold = true ∧ s.evalHolds = (s.swayed, s.swayed.holdTasks))
    ∨ (s.wind.hold = true ∧ s.wind.swayed.hold = false ∧ s.evalHolds = (s.swayed.dropHold, [])) := by
  obtain ⟨u, ⟨cut, fr, hcut, hfr, hu⟩, hcases⟩ := evalHolds_cases s
  have hswayed : u = s.swayed := by
    rw [hu, State.swayed, Wind.swayed, ← hcut, ← hfr]
    split_ifs with h
    · simp [h.1, h.2]
    · have : (s.notices.flags.wind || cut != s.wind.cutOut || fr != s.wind.frost) = true := by
        rcases Classical.not_and_iff_not_or_not.1 h with h | h <;> simp [h]
      rw [this]
      rfl
  subst hswayed
  exact hcases

theorem sky_dropHold (s : State) : s.dropHold.sky = s.sky := by
  rw [dropHold_eq]
  rfl

theorem calm_holdTasks (s : State) : ∀ t ∈ s.holdTasks, t.calm = true := fun t ht => by
  obtain ⟨o, -, rfl⟩ := List.mem_map.1 ht
  rfl

/-- The wind monitor and its notice once the holds have been evaluated, whatever that brings about. -/
theorem sky_runTasks_evalHolds (q : Option Nat) (fuel : Nat) (s : State) :
    (runTasks q (fuel + 1) [.evalHolds] s).sky = s.swayed.sky := by
  rw [runTasks_cons, List.append_nil]
  change (runTasks q fuel s.evalHolds.2 s.evalHolds.1).sky = _
  obtain ⟨-, h⟩ | ⟨-, -, h⟩ | ⟨-, -, h⟩ := evalHolds_swayed s <;> rw [h]
  · rw [runTasks_nil]
  · exact sky_runTasks q fuel _ _ (calm_holdTasks _)
  · rw [runTasks_nil, sky_dropHold]

theorem sky_settled_evalHolds (s : State) : (settled (s, [.evalHolds])).sky = s.swayed.sky :=
  sky_runTasks_evalHolds none 4095 s

/-! ## The weather selected -/

/-- The weather selected, and WIND raised by a change of its source. -/
def State.selected (s : State) : State := { s with
  wind := s.wind.withWeather s.weatherNow
  notices := { s.notices with flags := { s.notices.flags with
    wind := s.notices.flags.wind || s.weatherNow.source != s.wind.weather.source } } }

theorem selectWeather_selected (s : State) :
    s.selectWeather = (s.selected, if s.weatherNow = s.wind.weather then [] else [.evalHolds]) := by
  rw [State.selectWeather, State.selected]
  by_cases h : s.weatherNow.source = s.wind.weather.source
  · simp [h]
  · have : (s.notices.flags.wind || s.weatherNow.source != s.wind.weather.source) = true := by simp [h]
    rw [this]
    simp only [if_neg h]
    rfl

/-- The wind monitor and its notice after a selection. -/
theorem sky_settled_selectWeather (s : State) : (settled (s, [.selectWeather])).sky =
    if s.weatherNow = s.wind.weather then s.selected.sky else s.selected.swayed.sky := by
  change (runTasks none (4095 + 1) [.selectWeather] s).sky = _
  rw [runTasks_cons, List.append_nil]
  change (runTasks none 4095 s.selectWeather.2 s.selectWeather.1).sky = _
  rw [selectWeather_selected]
  split_ifs with h
  · rw [runTasks_nil]
  · exact sky_runTasks_evalHolds none 4094 _

/-! ## What follows -/

/-- The dispatcher, the cannons with their nodes, the piles and the permits are those of another state, and the holds too. -/
structure State.Under (s u : State) : Prop where
  cutOut : u.wind.cutOut = s.wind.cutOut
  frost : u.wind.frost = s.wind.frost
  dispatch : u.dispatch = s.dispatch
  cannons : u.cannons = s.cannons
  permits : u.permits = s.permits
  node : ∀ a n k, s.node? a = some n → n.owner = .cannon k → u.node? a = some n

theorem State.Under.selected {s u : State} (h : s.Under u) : s.Under u.selected :=
  ⟨h.cutOut, h.frost, h.dispatch, h.cannons, h.permits, h.node⟩

/-- The weather, the limits, the holds and the notice are those of another state, but for a gust that turned ON. -/
structure State.Skied (s u : State) (gusted : Bool) : Prop where
  weather : u.wind.weather = s.wind.weather
  cutOut : u.wind.cutOut = s.wind.cutOut
  frost : u.wind.frost = s.wind.frost
  limits : u.wind.limits = s.wind.limits
  flag : u.notices.flags.wind = (s.notices.flags.wind || gusted)

/-- Where nothing was selected the holds and the notice stand. -/
theorem State.Skied.holdsFollow {s u : State} {gusted : Bool} (h : s.Skied u gusted) : holdsFollow s u gusted := by
  obtain ⟨hw, hc, hf, -, hflag⟩ := h
  refine ⟨fun _ => ⟨hc, hf⟩, fun hne => absurd hw hne, ?_⟩
  rw [hflag, hw, hc, hf]
  simp

theorem cutOutNext_iff (l : WindLimits) (speed : Nat) (on : Bool) :
    cutOutNext l speed on = true ↔ if on = true then l.release < speed else l.cutOut ≤ speed := by
  cases on <;> simp [cutOutNext]

theorem frostNext_iff (l : WindLimits) (temp : Int) (on : Bool) :
    frostNext l temp on = true ↔ if on = true then temp < l.frostRelease else temp ≤ l.frost := by
  cases on <;> simp [frostNext]

/-- After a selection the holds stand at their thresholds, and the notice with them. -/
theorem holdsFollow_selected {s u t : State} {gusted : Bool} (h : s.Skied u gusted)
    (ht : t.sky = if u.weatherNow = u.wind.weather then u.selected.sky else u.selected.swayed.sky) :
    t.wind.weather = u.weatherNow ∧ holdsFollow s t gusted := by
  obtain ⟨hw, hc, hf, hl, hflag⟩ := h
  by_cases hsame : u.weatherNow = u.wind.weather
  · rw [if_pos hsame] at ht
    obtain ⟨hwind, hnotice⟩ := Prod.mk.inj ht
    have hx : t.wind.weather = u.weatherNow := congrArg Wind.weather hwind
    have hcut : t.wind.cutOut = u.wind.cutOut := (congrArg Wind.cutOut hwind :)
    have hfrost : t.wind.frost = u.wind.frost := (congrArg Wind.frost hwind :)
    have hkept : t.wind.weather = s.wind.weather := hx.trans (hsame.trans hw)
    refine ⟨hx, fun _ => ⟨hcut.trans hc, hfrost.trans hf⟩, fun hne => absurd hkept hne, ?_⟩
    rw [hnotice, hkept, hcut, hfrost, hc, hf]
    simp [State.selected, hsame, hflag]
  · rw [if_neg hsame] at ht
    obtain ⟨hwind, hnotice⟩ := Prod.mk.inj ht
    have hx : t.wind.weather = u.weatherNow := congrArg Wind.weather hwind
    have hcut : t.wind.cutOut = cutOutNext s.wind.limits t.wind.weather.speed s.wind.cutOut := by
      rw [hx, ← hl, ← hc]
      exact congrArg Wind.cutOut hwind
    have hfrost : t.wind.frost = frostNext s.wind.limits t.wind.weather.temp s.wind.frost := by
      rw [hx, ← hl, ← hf]
      exact congrArg Wind.frost hwind
    refine ⟨hx, fun he => absurd ((hx.symm.trans he).trans hw.symm) hsame, fun _ => ⟨?_, ?_⟩, ?_⟩
    · rw [hcut, cutOutNext_iff]
    · rw [hfrost, frostNext_iff]
    · rw [hnotice, hwind, ← hc, ← hf, ← hw, ← hflag]
      rfl

/-- Where the holds stand the orders stand. -/
theorem holdReachesOrders_of_same {s t : State} (hcut : t.wind.cutOut = s.wind.cutOut) (hfrost : t.wind.frost = s.wind.frost)
    (hdispatch : t.dispatch = s.dispatch) : holdReachesOrders s t := by
  refine ⟨fun before after hb haft _ _ _ => ?_, fun o p c n hb haft => ?_⟩
  · obtain rfl : before = after := by rw [hb, haft, hcut, hfrost]
    rw [hdispatch, ordersUnderHold, if_pos rfl, heldOccasions, if_neg (by cases before <;> simp)]
    rfl
  · rw [hcut, hfrost, hb] at haft
    exact absurd haft (by decide)

/-- What HOLD's coming makes of one running pass, once it has been told to the orders. -/
theorem holdReachesRunning {s w t : State} {o held : Order} {p : Pass} {c : Cannon} {n : Node}
    (heval : w.evalHolds = (w.swayed, w.swayed.holdTasks)) (hdispatch : w.dispatch = s.dispatch)
    (hcannons : w.cannons = s.cannons) (hpermits : w.permits = s.permits)
    (hnode : ∀ a n k, s.node? a = some n → n.owner = .cannon k → w.node? a = some n) (hclock : t.clock = w.clock)
    (hrun : ∀ k u, k ≤ 4000 → Reaches none [.evalHolds] w k u → t = u)
    (hnodup : (s.dispatch.orders.map fun y => y.id).Nodup) (hlen : s.dispatch.orders.length ≤ 32)
    (ho : s.order? o.id = some o) (ha : o.state = .active) (hold : o.suspension.hold = false) (hpass : o.pass = some p)
    (hothers : ∀ y ∈ s.dispatch.orders, y.id ≠ o.id → y.state = .ended ∨ y.pass = none ∨ ∃ q d, y.pass = some q
      ∧ q.state ≠ .aiming ∧ q.cannon ≠ p.cannon ∧ s.cannon? q.cannon = some d ∧ d.bound = some y.id ∧ d.state ≠ .aiming
      ∧ d.config.node ≠ c.config.node)
    (hc : s.cannon? p.cannon = some c) (hb : c.bound = some o.id) (hn : s.node? c.config.node = some n)
    (howner : n.owner = .cannon p.cannon) (hheld : held = { o with suspension := { o.suspension with hold := true } }) :
    (p.state = .spraying → c.state = .spraying →
      t.order? o.id = some { held with pass := some { p with state := .rampDown } }
      ∧ t.cannon? p.cannon = some { c with
        state := .rampDown, closeWait := some (c.closeWait.getD (c.config.rampTime + 5)), blankingOn := false }
      ∧ t.node? c.config.node = some { n with slot := some .close })
    ∧ (p.state = .rampDown → c.state = .rampDown →
      t.order? o.id = some held ∧ t.cannon? p.cannon = some c ∧ t.node? c.config.node = some n)
    ∧ (p.state = .aiming → c.state = .aiming → o.origin = .host → o.cancelPending = false → o.plan = none →
      o.delivered + 50 ≤ o.dose → o.dose ≤ 65535 → s.permits.list = [] → (∀ x ∈ s.dispatch.orders, x.origin = .host) →
      (∀ e ∈ s.piles, e.2.life = .live) → c.header ≠ none →
      t.order? o.id = some { held with
        state := .waiting, pass := none, lastEnd := some .abandoned, lapseRef := t.clock.minute }
      ∧ (c.aimPhase = some .slewing → t.cannon? p.cannon = some { c with
        state := .idle, aimPhase := none, header := none, bound := none, slew := none, blankingOn := false
        aimWaiting := false })
      ∧ (c.aimPhase = some .opening → t.cannon? p.cannon = some { c with
        state := .rampDown, aimPhase := none, bound := none, slew := none, blankingOn := false, aimWaiting := false
        closeWait := some (c.closeWait.getD (c.config.rampTime + 5)) })
      ∧ t.node? c.config.node = some { n with slot := some .close }) := by
  have horders : ∀ id, w.swayed.order? id = s.order? id := fun id =>
    congrArg (fun d : Dispatcher => d.orders.find? fun o : Order => o.id == id) hdispatch
  have hcs : ∀ k, w.swayed.cannon? k = s.cannon? k := fun k => congrArg (Table.get · k) hcannons
  have hopen : o.state ≠ .ended := by rw [ha]; decide
  have haside : ∀ y ∈ w.swayed.dispatch.orders, y.id ≠ o.id → w.swayed.Aside p.cannon c.config.node y.id := by
    intro y _ hne z hz
    rw [horders] at hz
    obtain ⟨hmem, hid⟩ := State.order_mem hz
    obtain h | h | ⟨q, d, hq, -, hk, hd, hbd, hsd, hnd⟩ := hothers z hmem (by rw [hid]; exact hne)
    · exact .inl h
    · exact .inr (.inl h)
    · exact .inr (.inr ⟨q, d, hq, hk, (hcs _).trans hd, by rw [hbd, hid], hsd, hnd⟩)
  have hfound : ∀ u ids, o.id ∉ ids → w.swayed.Passes u p.cannon c.config.node ids →
      u.order? o.id = some o ∧ u.cannon? p.cannon = some c ∧ u.node? c.config.node = some n := fun u ids hid h =>
    ⟨(h.orders _ hid).trans ((horders _).trans ho), h.cannon.trans ((hcs _).trans hc), h.node.trans (hnode _ n _ hn howner)⟩
  have hall : ∀ (x : Order) (d : Cannon) (m : Node),
      (∀ u ids, o.id ∉ ids → w.swayed.Passes u p.cannon c.config.node ids → ∃ t, Reaches none [.addReason o.id .hold] u 4 t
        ∧ t.order? o.id = some x ∧ t.cannon? p.cannon = some d ∧ t.node? c.config.node = some m ∧ u.spares t o.id p.cannon) →
      t.order? o.id = some x ∧ t.cannon? p.cannon = some d ∧ t.node? c.config.node = some m := by
    intro x d m hstep
    have hlist : w.swayed.dispatch.orders = s.dispatch.orders := congrArg Dispatcher.orders hdispatch
    obtain ⟨u, hu, hx, hd, hm⟩ := reaches_holdTasks_among (q := none) (by rw [hlist]; exact hnodup) ((horders _).trans ho)
      hopen haside hstep
    rw [hlist] at hu
    rw [hrun _ _ (by omega) (.one heval hu)]
    exact ⟨hx, hd, hm⟩
  refine ⟨fun hps hcst => ?_, fun hps hcst => ?_, fun hps hcst _ hcancel hplan hdose hmax hlist horigins _ hheader => ?_⟩
  · subst hheld
    refine hall _ _ _ fun u ids hid h => ?_
    obtain ⟨huo, huc, hun⟩ := hfound u ids hid h
    obtain ⟨t, ht, hx, hd, hm, hspares⟩ := reaches_hold_running (q := none) huo ha hold hpass huc hb hun (.inl ⟨hps, hcst⟩)
    rw [if_neg (by rw [hcst]; decide)] at hd hm
    exact ⟨t, ht, hx, hd, hm, hspares⟩
  · subst hheld
    refine hall _ _ _ fun u ids hid h => ?_
    obtain ⟨huo, huc, hun⟩ := hfound u ids hid h
    obtain ⟨t, ht, hx, hd, hm, hspares⟩ := reaches_hold_running (q := none) huo ha hold hpass huc hb hun (.inr ⟨hps, hcst⟩)
    rw [if_pos hcst] at hd hm
    refine ⟨t, ht, hx.trans ?_, hd, hm, hspares⟩
    rw [Pass.ramping, ← hps, hpass]
  · obtain ⟨hx, hd, hm⟩ := hall _ _ _ fun u ids hid h => by
      obtain ⟨huo, huc, hun⟩ := hfound u ids hid h
      have hnone : u.permits.list = [] := by
        rw [h.permits]
        exact (congrArg Permits.list hpermits).trans hlist
      have hhost : ∀ x ∈ u.dispatch.orders, x.origin = .host := fun x hx => by
        obtain ⟨y, hy, e⟩ := h.origins x hx
        rw [show w.swayed.dispatch.orders = s.dispatch.orders from congrArg Dispatcher.orders hdispatch] at hy
        exact e.trans (horigins y hy)
      have hstep := reaches_hold_aiming (q := none) huo ha hold hpass huc hb hun hps hcst hheader hcancel hplan hdose hmax
        hnone hhost
      rwa [h.clock] at hstep
    subst hheld
    refine ⟨?_, fun hphase => ?_, fun hphase => ?_, hm⟩
    · rw [hx, hclock]
      rfl
    · rw [hd, Cannon.abandoned, if_neg (by rw [hphase]; decide)]
      rfl
    · rw [hd, Cannon.abandoned, if_pos hphase]
      rfl

/-- What HOLD's coming or leaving makes of the orders, once the holds have been evaluated in such a yard. -/
theorem holdReachesOrders_of_evaluated {s w t : State} (h : s.Under w) (hclock : t.clock = w.clock)
    (hcut : t.wind.cutOut = w.wind.swayed.cutOut) (hfrost : t.wind.frost = w.wind.swayed.frost)
    (hrun : ∀ k u, k ≤ 4000 → Reaches none [.evalHolds] w k u → t = u) : holdReachesOrders s t := by
  obtain ⟨hc, hf, hdispatch, hcannons, hpermits, hnode⟩ := h
  have hbefore : (s.wind.cutOut || s.wind.frost) = w.wind.hold := by rw [Wind.hold, hc, hf]
  have hafter : (t.wind.cutOut || t.wind.frost) = w.wind.swayed.hold := by rw [Wind.hold, hcut, hfrost]
  refine ⟨fun before after hb haft hnodup hlen hpass => ?_, fun o p c n hb haft hnodup hlen ho ha hold hop hothers hc hbound hn
    howner held hheld => ?_⟩
  · rw [hbefore] at hb
    rw [hafter] at haft
    subst hb haft
    rcases evalHolds_swayed w with ⟨hsame, heval⟩ | ⟨hoff, hon, heval⟩ | ⟨hon, hoff, heval⟩
    · rw [hrun 1 w.swayed (by decide) (.single heval), hsame, ordersUnderHold, if_pos rfl, heldOccasions,
        if_neg (by cases w.wind.hold <;> simp)]
      exact hdispatch
    · have horders : w.swayed.dispatch = s.dispatch := hdispatch
      have hreach := reaches_holdTasks (q := none) (s := w.swayed) (by rw [horders]; exact hnodup) (by rw [horders]; exact hpass)
      rw [horders] at hreach
      rw [hrun _ _ (by omega) (.one heval hreach), hoff, hon]
      rfl
    · rw [hrun 1 _ (by decide) (.single heval), dropHold_eq, hoff, hon, ← hdispatch]
      rfl
  · rw [hbefore] at hb
    rw [hafter] at haft
    rcases evalHolds_swayed w with ⟨hsame, -⟩ | ⟨-, -, heval⟩ | ⟨hon, -⟩
    · rw [hsame, hb] at haft
      exact absurd haft (by decide)
    · exact holdReachesRunning heval hdispatch hcannons hpermits hnode hclock hrun hnodup hlen ho ha hold hop hothers hc hbound hn
        howner hheld
    · rw [hb] at hon
      exact absurd hon (by decide)

end Sys2Proof.Machine
end

section
set_option Elab.async false
/-! PROOFS. The weather selected in a yard; retiring and clearing of forecasts, yard codes, and the wind limits
(R50, R57, R69, R71, R73). -/

namespace Sys2Proof.Machine

/-- A selection in a yard whose wind monitor alone has been touched: the weather, and what follows it. -/
theorem weather_selected {s u : State} {gusted : Bool} (hunder : s.Under u) (hskied : s.Skied u gusted) :
    (settled (u, [.selectWeather])).wind.weather = u.weatherNow ∧ holdsFollow s (settled (u, [.selectWeather])) gusted
      ∧ holdReachesOrders s (settled (u, [.selectWeather])) := by
  have hsky := sky_settled_selectWeather u
  have hclock : (settled (u, [.selectWeather])).clock = u.clock := skeleton_clock (settled_skeleton (u, [.selectWeather]))
  obtain ⟨hweather, hfollow⟩ := holdsFollow_selected hskied hsky
  refine ⟨hweather, hfollow, ?_⟩
  by_cases hsame : u.weatherNow = u.wind.weather
  · have hdo : doTask none .selectWeather u = (u.selected, []) := (selectWeather_selected u).trans (by rw [if_pos hsame])
    rw [(Reaches.single hdo).settled_eq (by decide)]
    exact holdReachesOrders_of_same hunder.cutOut hunder.frost hunder.dispatch
  · rw [if_neg hsame] at hsky
    have hdo : doTask none .selectWeather u = (u.selected, [.evalHolds]) :=
      (selectWeather_selected u).trans (by rw [if_neg hsame])
    exact holdReachesOrders_of_evaluated hunder.selected hclock (congrArg (fun x : Wind × Bool => x.1.cutOut) hsky)
      (congrArg (fun x : Wind × Bool => x.1.frost) hsky) fun k x hk hx => (Reaches.one hdo hx).settled_eq (by omega)

theorem port_answer_of_eq {s u : State} {code : Nat} {x : Status} {b : List Byte} (h : u.port = s.port) :
    (u.answer code x b).port = s.replied x code b := by
  rw [port_answer, State.replied, h]
  rfl

/-! ## The forecast table (R69, R71, R73) -/

/-- A selection goes by the wind monitor, the forecast table and the yard minute. -/
theorem weatherNow_congr {s u : State} (hwind : u.wind = s.wind) (hforecast : u.forecast = s.forecast) (hnow : u.now = s.now) :
    u.weatherNow = s.weatherNow := by
  simp only [State.weatherNow, hwind, hforecast, hnow]

/-- The forecast table replaced, in an event at the minute that stands: the weather selected from it, and what follows. -/
theorem withForecast_spec (s : State) (c : Clock) (e : Nat) (f : Forecast) (hminute : c.minute = s.clock.minute) {t : State}
    (ht : t = ({ s with clock := c, events := e } : State).withForecast f) :
    t.forecast = f ∧ t.wind.weather = State.weatherNow { s with forecast := f } ∧ holdsFollow s t false
      ∧ holdReachesOrders s t ∧ t.port = s.port ∧ t.clock = c ∧ t.grades = s.grades ∧ t.model = s.model
      ∧ t.wind.masts = s.wind.masts := by
  have hskel : t.skeleton = State.skeleton { s with clock := c, events := e, forecast := f } := by
    rw [ht]
    exact settled_skeleton _
  have hunder : s.Under { s with clock := c, events := e, forecast := f } := ⟨rfl, rfl, rfl, rfl, rfl, fun _ _ _ h _ => h⟩
  have hskied : s.Skied { s with clock := c, events := e, forecast := f } false :=
    ⟨rfl, rfl, rfl, rfl, (Bool.or_false _).symm⟩
  have hselected := weather_selected hunder hskied
  rw [show settled (({ s with clock := c, events := e, forecast := f } : State), [.selectWeather]) = t from ht.symm]
    at hselected
  obtain ⟨hweather, hfollow, hreach⟩ := hselected
  exact ⟨skeleton_forecast hskel, hweather.trans (weatherNow_congr rfl rfl hminute), hfollow, hreach, (skeleton_port hskel :),
    skeleton_clock hskel, (skeleton_grades hskel :), (skeleton_model hskel :), (skeleton_masts hskel :)⟩

theorem unended_eq (f : Forecast) (now : Nat) :
    f.unended now = f.slots.filter fun y => decide (now < y.start + y.length) := by
  rw [Forecast.unended]
  congr 1
  funext y
  rw [Slot.endedAt, Slot.stop, Bool.eq_iff_iff]
  simp

theorem unended_self_iff (f : Forecast) (now : Nat) :
    f.unended now = f.slots ↔ ∀ y ∈ f.slots, now < y.start + y.length := by
  rw [unended_eq, List.filter_eq_self]
  simp

/-- Settles O29: the slots not ended are those left, and a table replaced has the weather selected from it. -/
theorem forecastsRetireClearAndRecode : Obligations.ForecastsRetireClearAndRecode := by
  unfold Obligations.ForecastsRetireClearAndRecode
  intro s
  refine ⟨fun hdue hleft => ?none, fun hdue => ?some, ?clear, fun c1 c2 c3 c4 d1 d2 d3 d4 l0 l1 l2 l3 l4 hcodes hlatest => ?codes⟩
  case none =>
    have hnone : s.clock.retireDue.taken? s.clock.stepLeft = none := by
      obtain ⟨h, -⟩ | ⟨-, hl, ha, -⟩ | ⟨-, -, h⟩ := taken_cases s.clock.retireDue s.clock.stepLeft
      · omega
      · exact absurd hleft (by simp [hl, ha])
      · exact h
    obtain ⟨x, hx, -⟩ | ⟨-, h⟩ := slotRetirement_cases s
    · rw [hnone] at hx; cases hx
    · exact congrArg Host.Outcome.next h
  case some =>
    have hsome : s.clock.retireDue.taken? s.clock.stepLeft = some (if 0 < s.clock.retireDue.due then
        { s.clock.retireDue with due := s.clock.retireDue.due - 1 } else ⟨0, true⟩) := by
      obtain ⟨h, htaken⟩ | ⟨hzero, -, -, htaken⟩ | ⟨hzero, hno, -⟩ := taken_cases s.clock.retireDue s.clock.stepLeft
      · rw [htaken, if_pos h]
      · rw [htaken, if_neg (by omega)]
      · rcases hdue with h | ⟨h, h'⟩
        · omega
        · rcases hno with hno | hno
          · exact absurd h hno
          · rw [h'] at hno; cases hno
    generalize (if 0 < s.clock.retireDue.due then
      { s.clock.retireDue with due := s.clock.retireDue.due - 1 } else ⟨0, true⟩ : Expiries) = x at hsome ⊢
    have hrow : s.slotRetirement = ({ s with clock := { s.clock with retireDue := x } } : State).retireSlots := by
      obtain ⟨y, hy, h⟩ | ⟨hnone, -⟩ := slotRetirement_cases s
      · rw [hsome] at hy
        cases hy
        exact h
      · rw [hsome] at hnone; cases hnone
    by_cases hall : ∀ y ∈ s.forecast.slots, s.clock.minute < y.start + y.length
    · have hsame := (unended_self_iff s.forecast s.clock.minute).2 hall
      have hstands : s.slotRetirement = { s with clock := { s.clock with retireDue := x } } := by
        rw [hrow, State.retireSlots]
        exact if_pos hsame
      refine ⟨_, congrArg Host.Outcome.next hstands, ?_, rfl, fun _ => rfl, fun ⟨y, hy, hend⟩ => ?_, ?_, ?_, rfl, rfl, rfl, rfl⟩
      · rw [← unended_eq, hsame]
      · exact absurd (hall y hy) (by omega)
      · exact State.Skied.holdsFollow ⟨rfl, rfl, rfl, rfl, (Bool.or_false _).symm⟩
      · exact holdReachesOrders_of_same rfl rfl rfl
    · have hne : ¬ s.forecast.unended s.clock.minute = s.forecast.slots := fun h => hall ((unended_self_iff _ _).1 h)
      have hretired : s.slotRetirement = ({ s with
          clock := { s.clock with retireDue := x }, events := s.events + 1 } : State).withForecast
            { s.forecast with slots := s.forecast.unended s.clock.minute } := by
        rw [hrow, State.retireSlots]
        exact if_neg hne
      obtain ⟨hforecast, hweather, hfollow, hreach, hport, hclock, hgrades, hmodel, hmasts⟩ :=
        withForecast_spec s { s.clock with retireDue := x } (s.events + 1) _ rfl hretired
      refine ⟨_, rfl, ?_, hclock, fun h => absurd h hall, fun _ => ?_, hfollow, hreach, hport, hgrades, hmodel, hmasts⟩
      · rw [hforecast, unended_eq]
      · rw [hforecast]
        exact hweather
  case clear =>
    obtain ⟨hforecast, hweather, hfollow, hreach, hport, hclock, hgrades, hmodel, hmasts⟩ :=
      withForecast_spec s s.clock (s.events + 1) { s.forecast with slots := [], latest := [none, none, none, none, none] } rfl rfl
    refine ⟨_, rfl, hforecast, ?_, hfollow, hreach, ?_, hclock, hgrades, hmodel, hmasts⟩
    · exact hweather.trans (weatherNow_congr rfl hforecast.symm rfl)
    · exact port_answer_of_eq hport
  case codes =>
    refine congrArg Host.Outcome.next ?_
    simp [State.setYardCodes, State.answer, Forecast.latestRecoded, hcodes, hlatest, State.replied]

end Sys2Proof.Machine
end

section
set_option Elab.async false
/-! PROOFS. SET-WIND-LIMITS (R57). -/

namespace Sys2Proof.Machine

theorem windLimitsOk_iff (a : WindLimitArgs) : windLimitsOk (windLimitsOf a) = true ↔ 1 ≤ a.gust.toNat ∧ a.gust.toNat ≤ 600
    ∧ a.hysteresis.toNat < a.gust.toNat ∧ 1 ≤ a.cutOut.toNat ∧ a.cutOut.toNat ≤ 600 ∧ a.release.toNat < a.cutOut.toNat
    ∧ -40 ≤ a.frost.toInt ∧ a.frost.toInt ≤ 59 ∧ a.frost.toInt < a.frostRelease.toInt ∧ a.frostRelease.toInt ≤ 60 := by
  simp only [windLimitsOk, within, withinInt, Bool.and_eq_true, decide_eq_true_eq, and_assoc]
  simp only [windLimitsOf]

/-- HOLD's coming where no pass runs changes the orders alone. -/
theorem runTasks_hold_frame (q : Option Nat) (fuel : Nat) (ts : List Task) (s : State)
    (hts : ∀ t ∈ ts, ∃ id, t = .addReason id .hold) (hpass : ∀ o ∈ s.dispatch.orders, o.state = .ended ∨ o.pass = none) :
    runTasks q fuel ts s
      = { s with dispatch := { s.dispatch with orders := (runTasks q fuel ts s).dispatch.orders } } := by
  induction fuel generalizing ts s with
  | zero => rfl
  | succ n ih =>
    cases ts with
    | nil => rfl
    | cons t ts =>
      obtain ⟨id, rfl⟩ := hts t List.mem_cons_self
      have hrest : ∀ t ∈ ts, ∃ id, t = Task.addReason id .hold := fun t ht => hts t (List.mem_cons_of_mem _ ht)
      rw [runTasks_cons]
      rcases addReason_cases s id .hold with ⟨-, h⟩ | ⟨o, ho, hopen, -, h⟩
      · rw [show doTask q (.addReason id .hold) s = (s, []) from h]
        exact ih ts s hrest hpass
      · have hnone := (hpass o (State.order_mem ho).1).resolve_left (isOpen_iff.1 hopen)
        rw [closePass_none hnone] at h
        rw [show doTask q (.addReason id .hold) s = (s.mapOrder id fun o => o.withReason .hold, []) from h]
        refine (ih ts _ hrest fun y hy => ?_).trans rfl
        obtain ⟨z, hz, rfl⟩ := mem_mapOrder hy
        split_ifs
        · exact hpass z hz
        · exact hpass z hz

/-- Settles O26: the new limits stand before the holds are evaluated against the weather held, and HOLD's coming or leaving
is told to the orders. -/
theorem windLimitsMoveTheHolds : Obligations.WindLimitsMoveTheHolds := by
  unfold Obligations.WindLimitsMoveTheHolds
  intro a s
  refine ⟨fun hbad => ?refused, fun h1 h2 h3 h4 h5 h6 h7 h8 h9 h10 => ?taken⟩
  case refused =>
    have : ¬ windLimitsOk (windLimitsOf a) = true := by
      rw [windLimitsOk_iff]
      omega
    refine congrArg Host.Outcome.next ?_
    rw [State.setWindLimits, if_neg this]
    rfl
  case taken =>
    have hok : windLimitsOk (windLimitsOf a) = true := (windLimitsOk_iff a).2 ⟨h1, h2, h3, h4, h5, h6, h7, h8, h9, h10⟩
    obtain ⟨w, hw⟩ : ∃ w : State, w = { s with
      events := s.events + 1
      wind := { s.wind with
        limits := windLimitsOf a, masts := s.wind.masts.map fun e => (e.1, { e.2 with gustCount := 0 }) } } := ⟨_, rfl⟩
    obtain ⟨t, ht⟩ : ∃ t, t = settled (w, [.evalHolds]) := ⟨_, rfl⟩
    have hexec : exec (.setWindLimits a) s
        = .next (t.answer Code.setWindLimits .ok (flag t.wind.cutOut ++ flag t.wind.frost)) := by
      refine congrArg Host.Outcome.next ?_
      rw [ht, hw, State.setWindLimits, if_pos hok]
      rfl
    have hsky : t.sky = w.swayed.sky := ht ▸ sky_settled_evalHolds w
    obtain ⟨hwind, hnotice⟩ := Prod.mk.inj hsky
    have hskel : t.skeleton = w.skeleton := ht ▸ settled_skeleton (w, [.evalHolds])
    have hcut : t.wind.cutOut = cutOutNext (windLimitsOf a) s.wind.weather.speed s.wind.cutOut := by
      rw [hwind, hw]
      rfl
    have hfrost : t.wind.frost = frostNext (windLimitsOf a) s.wind.weather.temp s.wind.frost := by
      rw [hwind, hw]
      rfl
    have hreach : holdReachesOrders s t := by
      refine holdReachesOrders_of_evaluated (w := w) (hw ▸ ⟨rfl, rfl, rfl, rfl, rfl, fun _ _ _ h _ => h⟩) (skeleton_clock hskel)
        (congrArg Wind.cutOut hwind) (congrArg Wind.frost hwind) fun k u hk hu => ?_
      rw [ht]
      exact hu.settled_eq (by omega)
    refine ⟨_, hexec, ?_, ?_, ?_, ?_, ?_, hreach, fun hpass => ?_⟩
    · refine Eq.trans (b := w.swayed.wind) hwind ?_
      rw [show (t.answer _ _ _).wind.cutOut = w.swayed.wind.cutOut from congrArg Wind.cutOut hwind,
        show (t.answer _ _ _).wind.frost = w.swayed.wind.frost from congrArg Wind.frost hwind, hw]
      rfl
    · exact (iff_of_eq (congrArg (· = true) hcut)).trans (cutOutNext_iff _ _ _)
    · exact (iff_of_eq (congrArg (· = true) hfrost)).trans (frostNext_iff _ _ _)
    · exact port_answer_of_eq ((skeleton_port hskel).trans (by rw [hw]))
    · change t.notices.flags.wind = (s.notices.flags.wind || t.wind.cutOut != s.wind.cutOut || t.wind.frost != s.wind.frost)
      rw [hnotice, hwind, hw]
      rfl
    · have hframe : t = { w with
          wind := t.wind
          notices := { w.notices with flags := { w.notices.flags with wind := t.notices.flags.wind } }
          dispatch := { w.dispatch with orders := t.dispatch.orders, due := t.dispatch.due } } := by
        have hrun : t = runTasks none 4095 w.evalHolds.2 w.evalHolds.1 := by
          rw [ht]
          exact congrArg (runTasks none 4095 · w.evalHolds.1) (List.append_nil w.evalHolds.2)
        rcases evalHolds_swayed w with ⟨-, h⟩ | ⟨-, -, h⟩ | ⟨-, -, h⟩
        · rw [hrun, h, runTasks_nil]
          rfl
        · rw [hrun, h, runTasks_hold_frame none _ _ _ (fun u hu => ?_) fun o ho => hpass o (by rw [hw] at ho; exact ho)]
          · rfl
          · obtain ⟨o, -, rfl⟩ := List.mem_map.1 hu
            exact ⟨o.id, rfl⟩
        · rw [hrun, h, runTasks_nil, dropHold_eq]
          rfl
      have hevents : t.events = s.events + 1 := (skeleton_events hskel).trans (by rw [hw])
      have hport : ∀ p : Port, ({ t with port := p } : State) = { s with
          port := p, wind := t.wind, events := t.events
          notices := { s.notices with flags := { s.notices.flags with wind := t.notices.flags.wind } }
          dispatch := { s.dispatch with orders := t.dispatch.orders, due := t.dispatch.due } } := fun p => by
        rw [hw] at hframe
        rw [hevents]
        conv_lhs => rw [hframe]
      exact hport _

end Sys2Proof.Machine
end

section
set_option Elab.async false
/-! PROOFS. LOAD-MAST and the stale expiry of a mast (R45, R49). -/

namespace Sys2Proof.Machine

/-! ## Nodes -/

/-- No telling changes more of a node than its slot. -/
theorem node?_of_skeleton {s t : State} (h : t.skeleton = s.skeleton) (a : Nat) :
    (t.node? a).map (fun n => ({ n with slot := none } : Node)) = (s.node? a).map fun n => ({ n with slot := none } : Node) := by
  have key : ∀ u : State, (u.node? a).map (fun n => ({ n with slot := none } : Node))
      = Table.get (u.loop.nodes.map fun e => (e.1, ({ e.2 with slot := none } : Node))) a := fun u =>
    (Table.get_map u.loop.nodes (fun n : Node => ({ n with slot := none } : Node)) a).symm
  rw [key t, key s, skeleton_nodes h]

theorem node?_none_of_skeleton {s t : State} (h : t.skeleton = s.skeleton) {a : Nat} (ha : s.node? a = none) :
    t.node? a = none := by
  have := node?_of_skeleton h a
  rwa [ha, Option.map_none, Option.map_eq_none_iff] at this

/-- The first node of a list is the only one: a node added leaves the others as they were. -/
theorem node_addNode_of_ne {s : State} {a d b : Nat} {o : Owner} (hne : b ≠ a) : (s.addNode a o d).node? b = s.node? b := by
  unfold State.addNode State.node?
  dsimp only
  split
  · rename_i h
    have hset := Table.get_set_of_ne s.loop.nodes (Node.added o d) hne
    have hself := Table.get_set_self s.loop.nodes a (Node.added o d)
    rw [nodes_startRound, ← hset]
    obtain ⟨e, he⟩ := List.length_eq_one_iff.1 h.1
    have he : Table.set s.loop.nodes a (Node.added o d) = [e] := he
    dsimp only
    rw [he] at hself ⊢
    have hkey : e.1 = a := congrArg Prod.fst (List.mem_singleton.1 (Table.mem_of_get hself)).symm
    have hb : Table.get [e] b = none := by
      rw [Table.get, if_neg fun hk => hne (hk.symm.trans hkey)]
      rfl
    rw [hb]
    rfl
  · exact Table.get_set_of_ne _ _ hne

/-! ## A change of the mast table -/

/-- The mast table and the node list changed, the nodes of the cannons being as they were. -/
structure State.Remasted (s u : State) : Prop where
  frame : u = { s with
    wind := { s.wind with masts := u.wind.masts }, loop := u.loop, events := u.events, notices := u.notices }
  node : ∀ a n k, s.node? a = some n → n.owner = .cannon k → u.node? a = some n

theorem State.Remasted.under {s u : State} (h : s.Remasted u) : s.Under u where
  cutOut := by rw [h.frame]
  frost := by rw [h.frame]
  dispatch := by rw [h.frame]
  cannons := by rw [h.frame]
  permits := by rw [h.frame]
  node := h.node

theorem State.Remasted.skied {s u : State} {gusted : Bool} (h : s.Remasted u)
    (hflag : u.notices.flags.wind = (s.notices.flags.wind || gusted)) : s.Skied u gusted where
  weather := by rw [h.frame]
  cutOut := by rw [h.frame]
  frost := by rw [h.frame]
  limits := by rw [h.frame]
  flag := hflag

theorem State.Remasted.weatherNow {s u : State} (h : s.Remasted u) :
    u.weatherNow = State.weatherNow { s with wind := { s.wind with masts := u.wind.masts } } :=
  weatherNow_congr (by conv_lhs => rw [h.frame]) (by rw [h.frame]) (by rw [h.frame]; rfl)

/-- A selection after a change of the mast table. -/
theorem State.Remasted.selected {s u t : State} {gusted : Bool} (h : s.Remasted u)
    (hflag : u.notices.flags.wind = (s.notices.flags.wind || gusted)) (ht : t = settled (u, [.selectWeather])) :
    t.skeleton = u.skeleton ∧ t.wind.masts = u.wind.masts
      ∧ t.wind.weather = State.weatherNow { s with wind := { s.wind with masts := t.wind.masts } }
      ∧ holdsFollow s t gusted ∧ holdReachesOrders s t
      ∧ t.port = s.port ∧ t.clock = s.clock ∧ t.forecast = s.forecast ∧ t.grades = s.grades := by
  have hskel : t.skeleton = u.skeleton := ht ▸ settled_skeleton (u, [.selectWeather])
  have hselected := weather_selected h.under (h.skied hflag)
  rw [← ht] at hselected
  obtain ⟨hweather, hfollow, hreach⟩ := hselected
  have hmasts := skeleton_masts hskel
  refine ⟨hskel, hmasts, ?_, hfollow, hreach, (skeleton_port hskel).trans ?_, (skeleton_clock hskel).trans ?_,
    (skeleton_forecast hskel).trans ?_, (skeleton_grades hskel).trans ?_⟩
  · rw [hweather, h.weatherNow, hmasts]
  all_goals rw [h.frame]

/-- Without a selection the weather stands. -/
theorem State.Remasted.stands {s u : State} (h : s.Remasted u) (hflag : u.notices = s.notices) :
    u.wind.weather = s.wind.weather ∧ holdsFollow s u false ∧ holdReachesOrders s u ∧ u.port = s.port ∧ u.clock = s.clock
      ∧ u.forecast = s.forecast ∧ u.grades = s.grades := by
  refine ⟨?_, (h.skied (gusted := false) (by rw [hflag, Bool.or_false])).holdsFollow,
    holdReachesOrders_of_same h.under.cutOut h.under.frost h.under.dispatch, ?_, ?_, ?_, ?_⟩
  all_goals rw [h.frame]

/-! ## LOAD-MAST (R45) -/

theorem staleArgOk_iff (stale : Half) : staleArgOk stale = true ↔ stale = 0 ∨ (10 ≤ stale.toNat ∧ stale.toNat ≤ 600) := by
  simp only [staleArgOk, within, Bool.or_eq_true, beq_iff_eq, Bool.and_eq_true, decide_eq_true_eq]

theorem mastArgsOk_iff (mast node : Byte) (stale : Half) : mastArgsOk mast node stale = true ↔ mast.toNat ≤ 1
    ∧ node.toNat ≤ 31 ∧ (stale = 0 ∨ (10 ≤ stale.toNat ∧ stale.toNat ≤ 600)) := by
  rw [mastArgsOk, Bool.and_eq_true, Bool.and_eq_true, decide_eq_true_eq, decide_eq_true_eq, staleArgOk_iff, and_assoc]
  exact and_congr_left fun _ => Nat.lt_succ_iff

section
variable {s : State} {mast node : Byte} {stale : Half}

theorem loadMast_of_badArgument (h : mastArgsOk mast node stale = false) :
    s.loadMast mast node stale = s.answer Code.loadMast .badArgument [] := by
  rw [State.loadMast, if_pos h]

theorem loadMast_of_duplicate (h : mastArgsOk mast node stale = true) (hnode : node ≠ 0)
    (hheld : s.heldByOther node.toNat (.mast mast.toNat) = true) :
    s.loadMast mast node stale = s.answer Code.loadMast .duplicate [] := by
  rw [State.loadMast, if_neg (by rw [h]; decide), if_pos ⟨hnode, hheld⟩]

theorem loadMast_of_taken (h : mastArgsOk mast node stale = true)
    (hheld : node ≠ 0 → s.heldByOther node.toNat (.mast mast.toNat) = false) :
    s.loadMast mast node stale
      = (s.openEvent.takeMast mast.toNat node.toNat (staleOf stale)).answer Code.loadMast .ok [] := by
  rw [State.loadMast, if_neg (by rw [h]; decide), if_neg fun ⟨hn, ht⟩ => by rw [hheld hn] at ht; cases ht]

end

section
variable {s : State} {n a stale : Nat}

theorem takeMast_of_absent (h : Table.get s.wind.masts n = none) : s.takeMast n a stale = if a = 0 then s
    else (s.withMasts (Table.set s.wind.masts n (Mast.loaded a stale))).addNode a (.mast n) 0 := by
  simp only [State.takeMast, h]

theorem takeMast_of_unloaded {m : Mast} (h : Table.get s.wind.masts n = some m) :
    s.takeMast n 0 stale = ((s.withMasts (Table.erase s.wind.masts n)).removeNode m.node).reselect m := by
  simp only [State.takeMast, h, if_true]

theorem takeMast_of_same {m : Mast} (h : Table.get s.wind.masts n = some m) (ha : a ≠ 0) (hm : a = m.node) :
    s.takeMast n a stale = settled ((s.mapMast n fun m => { m with stale := stale }).staleMast n) := by
  simp only [State.takeMast, h, if_neg ha, if_pos hm]

theorem takeMast_of_moved {m : Mast} (h : Table.get s.wind.masts n = some m) (ha : a ≠ 0) (hm : a ≠ m.node) :
    s.takeMast n a stale = (((s.withMasts (Table.set s.wind.masts n (Mast.loaded a stale))).removeNode m.node).addNode a
      (.mast n) 0).reselect m := by
  simp only [State.takeMast, h, if_neg ha, if_neg hm]

end

/-- A mast goes stale where its age has reached the limit. -/
theorem staleMast_of_overdue {s : State} {n : Nat} {m : Mast} (h : Table.get s.wind.masts n = some m) (hf : m.fresh = true)
    (ha : m.stale ≤ m.age.getD 0) : s.staleMast n = (s.mapMast n Mast.staled, [.selectWeather]) := by
  obtain ⟨-, -, -, -, heq⟩ | ⟨hno, -⟩ := staleMast_cases s n
  · exact heq
  · rcases hno m h with hno | hno
    · rw [hf] at hno; cases hno
    · omega

theorem staleMast_of_standing {s : State} {n : Nat}
    (h : ∀ m, Table.get s.wind.masts n = some m → m.fresh = false ∨ m.age.getD 0 < m.stale) : s.staleMast n = (s, []) := by
  obtain ⟨m, hm, hf, ha, -⟩ | ⟨-, heq⟩ := staleMast_cases s n
  · rcases h m hm with hno | hno
    · rw [hf] at hno; cases hno
    · omega
  · exact heq

end Sys2Proof.Machine
end

section
set_option Elab.async false
/-! PROOFS. LOAD-MAST in its forms (R45). -/

namespace Sys2Proof.Machine

section
variable (s : State) (a d : Nat) (o : Owner)

theorem loop_addNode_of_first (hnodes : s.loop.nodes = []) (hrun : s.loop.running = false) :
    (s.addNode a o d).loop.running = true
      ∧ (s.addNode a o d).loop.roundCount = (s.loop.roundCount + 1) % 4294967296
      ∧ (s.addNode a o d).loop.timer = .running s.loop.period := by
  have hone : (Table.set s.loop.nodes a (Node.added o d)).length = 1 ∧ s.loop.running = false := by
    rw [hnodes]
    exact ⟨rfl, hrun⟩
  rw [State.addNode]
  dsimp only
  rw [if_pos hone]
  exact ⟨rfl, rfl, rfl⟩

theorem loop_addNode_of_running (hrun : s.loop.running = true) :
    (s.addNode a o d).loop = { s.loop with nodes := (s.addNode a o d).loop.nodes } := by
  have hno : ¬ ((Table.set s.loop.nodes a (Node.added o d)).length = 1 ∧ s.loop.running = false) := fun h => by
    rw [hrun] at h
    cases h.2
  rw [State.addNode]
  dsimp only
  rw [if_neg hno]

end

theorem mast_mapMast_self {s : State} {n : Nat} {m : Mast} (f : Mast → Mast) (h : Table.get s.wind.masts n = some m) :
    Table.get (s.mapMast n f).wind.masts n = some (f m) :=
  (Table.get_update_self _ _ f).trans (congrArg (Option.map f) h)

theorem mast_mapMast_of_ne (s : State) {n k : Nat} (f : Mast → Mast) (h : k ≠ n) :
    Table.get (s.mapMast n f).wind.masts k = Table.get s.wind.masts k :=
  Table.get_update_of_ne _ f h

/-- A mast record taken out of the table or put in, its old node gone. -/
theorem remasted_removed {s : State} {n a : Nat} (masts : Table Mast) (events : Nat)
    (howner : ∀ x, s.node? a = some x → x.owner = .mast n) :
    s.Remasted ((({ s with events := events } : State).withMasts masts).removeNode a) where
  frame := by
    rw [removeNode_eq]
    rfl
  node b x k hx hk := by
    rw [node_removeNode, if_neg]
    · exact hx
    · rintro rfl
      rw [howner x hx] at hk
      cases hk

/-- … and a new node in the list, at an address that no node held. -/
theorem remasted_moved {s : State} {n a b : Nat} (masts : Table Mast) (events : Nat)
    (howner : ∀ x, s.node? a = some x → x.owner = .mast n) (hfree : s.node? b = none) :
    s.Remasted (((({ s with events := events } : State).withMasts masts).removeNode a).addNode b (.mast n) 0) where
  frame := by
    rw [removeNode_eq]
    rfl
  node j x k hx hk := by
    have hne : j ≠ b := fun h => by rw [h, hfree] at hx; cases hx
    rw [node_addNode_of_ne hne]
    exact (remasted_removed masts events howner).node j x k hx hk

/-- The selection that a change of the mast table is followed by when the mast had a sample. -/
theorem reselected {s u : State} {m : Mast} (h : s.Remasted u) (hnotices : u.notices = s.notices) : ∃ t, t = u.reselect m
    ∧ t.skeleton = u.skeleton ∧ t.wind.masts = u.wind.masts
    ∧ (m.inst ≠ none → t.wind.weather = State.weatherNow { s with wind := { s.wind with masts := t.wind.masts } })
    ∧ (m.inst = none → t.wind.weather = s.wind.weather) ∧ holdsFollow s t false ∧ holdReachesOrders s t
    ∧ t.port = s.port ∧ t.clock = s.clock ∧ t.forecast = s.forecast ∧ t.grades = s.grades := by
  refine ⟨_, rfl, ?_⟩
  cases hinst : m.inst with
  | none =>
    obtain ⟨hweather, hfollow, hreach, hport, hclock, hforecast, hgrades⟩ := h.stands hnotices
    rw [State.reselect, hinst]
    exact ⟨rfl, rfl, fun hne => absurd rfl hne, fun _ => hweather, hfollow, hreach, hport, hclock, hforecast, hgrades⟩
  | some v =>
    obtain ⟨hskel, hmasts, hweather, hfollow, hreach, hport, hclock, hforecast, hgrades⟩ :=
      h.selected (gusted := false) (by rw [hnotices, Bool.or_false]) rfl
    rw [State.reselect, hinst]
    exact ⟨hskel, hmasts, fun _ => hweather, fun hne => absurd hne (by simp), hfollow, hreach, hport, hclock, hforecast,
      hgrades⟩

/-- Settles O25: a mast loaded, moved or unloaded changes the mast table and the node list; the selection that follows is told
to the holds and the orders. -/
theorem mastsLoadAndGoStale : Obligations.MastsLoadAndGoStale := by
  unfold Obligations.MastsLoadAndGoStale
  intro mast node stale limit s hlimit
  have hlimit : limit = staleOf stale := hlimit
  subst hlimit
  refine ⟨fun hbad => ?refused, fun hmast hnode hstale => ⟨fun hn hheld => ?duplicate, fun hn hfree habsent => ?added,
    fun hn habsent => ?nothing, fun m hm => ⟨fun hsame hn hfresh howner => ?relimited, fun hsame hn hfresh hold howner => ?stale,
      fun hn hne hfree howner => ?moved, fun hn howner => ?unloaded⟩⟩, fun m hm hfresh hold => ?expired, fun hno => ?waits⟩
  case refused =>
    refine congrArg Host.Outcome.next (loadMast_of_badArgument (Bool.eq_false_iff.2 fun h => ?_))
    obtain ⟨h1, h2, h3⟩ := (mastArgsOk_iff mast node stale).1 h
    rcases hbad with hbad | hbad | ⟨hbad, hbad'⟩
    · omega
    · omega
    · rcases h3 with h3 | h3
      · exact hbad h3
      · omega
  case duplicate =>
    refine congrArg Host.Outcome.next (loadMast_of_duplicate ((mastArgsOk_iff mast node stale).2 ⟨hmast, hnode, hstale⟩) hn ?_)
    exact (heldByOther_iff s _ _).2 hheld
  case expired =>
    have hstaled : s.openEvent.staleMast mast.toNat = (s.openEvent.mapMast mast.toNat Mast.staled, [.selectWeather]) :=
      staleMast_of_overdue (s := s.openEvent) hm hfresh hold
    have hre : s.Remasted (s.openEvent.mapMast mast.toNat Mast.staled) := ⟨rfl, fun _ _ _ h _ => h⟩
    obtain ⟨t, ht⟩ : ∃ t, t = settled (s.openEvent.mapMast mast.toNat Mast.staled, [.selectWeather]) := ⟨_, rfl⟩
    obtain ⟨hskel, hmasts, hweather, hfollow, hreach, hport, hclock, hforecast, -⟩ :=
      hre.selected (gusted := false) (Bool.or_false _).symm ht
    refine ⟨t, congrArg Host.Outcome.next ((congrArg settled hstaled).trans ht.symm), ?_, fun k hk => ?_, hweather, hfollow,
      hreach, hport, hclock, hforecast, (skeleton_phase hskel :)⟩
    · rw [hmasts]
      exact mast_mapMast_self _ hm
    · rw [hmasts]
      exact Table.get_update_of_ne _ _ hk
  case waits =>
    refine congrArg Host.Outcome.next ((congrArg settled (staleMast_of_standing (s := s.openEvent) hno)).trans ?_)
    exact settled_nil _
  case nothing =>
    refine congrArg Host.Outcome.next ((loadMast_of_taken ((mastArgsOk_iff mast node stale).2 ⟨hmast, hnode, hstale⟩)
      fun h => absurd hn h).trans ?_)
    rw [takeMast_of_absent (s := s.openEvent) habsent, if_pos (by rw [hn]; rfl)]
    rfl
  all_goals
    have hok := (mastArgsOk_iff mast node stale).2 ⟨hmast, hnode, hstale⟩
  case added =>
    have hzero : node.toNat ≠ 0 := fun h => hn ((toNat_eq_zero node).1 h)
    have hheld : s.heldByOther node.toNat (.mast mast.toNat) = false := by rw [State.heldByOther, hfree]; rfl
    obtain ⟨u, hu⟩ : ∃ u, u = (s.openEvent.withMasts (Table.set s.wind.masts mast.toNat (Mast.loaded node.toNat
      (staleOf stale)))).addNode node.toNat (.mast mast.toNat) 0 := ⟨_, rfl⟩
    have hexec : exec (.loadMast mast node stale) s = .next (u.answer Code.loadMast .ok []) := by
      refine congrArg Host.Outcome.next ((loadMast_of_taken hok fun _ => hheld).trans ?_)
      rw [takeMast_of_absent (s := s.openEvent) habsent, if_neg hzero, hu]
      rfl
    refine ⟨_, hexec, ?_, ?_, fun k hk => ?_, ?_, fun hnodes hrun => ?_, fun hrun => ?_⟩
    · rw [hu]; rfl
    · rw [hu]; exact Table.get_set_self _ _ _
    · rw [hu]; exact Table.get_set_of_ne _ _ hk
    · rw [hu]; exact node_addNode_self _ _ _ _
    · rw [hu]; exact loop_addNode_of_first _ _ _ _ hnodes hrun
    · rw [hu]; exact loop_addNode_of_running _ _ _ _ hrun
  case relimited =>
    have hzero : node.toNat ≠ 0 := fun h => hn ((toNat_eq_zero node).1 h)
    have hheld : s.heldByOther node.toNat (.mast mast.toNat) = false := Bool.eq_false_iff.2 fun h => by
      obtain ⟨x, hx, hne⟩ := (heldByOther_iff s _ _).1 h
      exact hne (howner x hx)
    have hstands : (s.openEvent.mapMast mast.toNat fun m => { m with stale := staleOf stale }).staleMast mast.toNat
        = (s.openEvent.mapMast mast.toNat fun m => { m with stale := staleOf stale }, []) := by
      refine staleMast_of_standing fun k hk => ?_
      obtain rfl := Option.some.inj ((mast_mapMast_self _ hm).symm.trans hk)
      exact hfresh
    refine congrArg Host.Outcome.next ((loadMast_of_taken hok fun _ => hheld).trans ?_)
    rw [takeMast_of_same (s := s.openEvent) hm hzero hsame, hstands, settled_nil]
    rfl
  case stale =>
    have hzero : node.toNat ≠ 0 := fun h => hn ((toNat_eq_zero node).1 h)
    have hheld : s.heldByOther node.toNat (.mast mast.toNat) = false := Bool.eq_false_iff.2 fun h => by
      obtain ⟨x, hx, hne⟩ := (heldByOther_iff s _ _).1 h
      exact hne (howner x hx)
    have hlimited : Table.get (s.openEvent.mapMast mast.toNat fun m => { m with stale := staleOf stale }).wind.masts mast.toNat
        = some { m with stale := staleOf stale } :=
      mast_mapMast_self _ hm
    have hstaled := staleMast_of_overdue hlimited hfresh hold
    obtain ⟨u, hu⟩ : ∃ u, u = (s.openEvent.mapMast mast.toNat fun m => { m with stale := staleOf stale }).mapMast mast.toNat
      Mast.staled := ⟨_, rfl⟩
    have hre : s.Remasted u := hu ▸ ⟨rfl, fun _ _ _ h _ => h⟩
    obtain ⟨t, ht⟩ : ∃ t, t = settled (u, [.selectWeather]) := ⟨_, rfl⟩
    obtain ⟨-, hmasts, hweather, hfollow, hreach, hport, hclock, hforecast, hgrades⟩ :=
      hre.selected (gusted := false) (by rw [hu]; exact (Bool.or_false _).symm) ht
    have hexec : exec (.loadMast mast node stale) s = .next (t.answer Code.loadMast .ok []) := by
      refine congrArg Host.Outcome.next ((loadMast_of_taken hok fun _ => hheld).trans ?_)
      rw [takeMast_of_same (s := s.openEvent) hm hzero hsame, hstaled, ht, hu]
    refine ⟨_, hexec, port_answer_of_eq hport, ?_, fun k hk => ?_, hweather, hfollow, hreach, hclock, hforecast, hgrades⟩
    · refine Eq.trans (congrArg (Table.get · mast.toNat) hmasts) ?_
      rw [hu]
      exact mast_mapMast_self _ hlimited
    · refine Eq.trans (congrArg (Table.get · k) hmasts) ?_
      rw [hu]
      exact (mast_mapMast_of_ne _ _ hk).trans (mast_mapMast_of_ne _ _ hk)
  case moved =>
    have hzero : node.toNat ≠ 0 := fun h => hn ((toNat_eq_zero node).1 h)
    have hheld : s.heldByOther node.toNat (.mast mast.toNat) = false := by rw [State.heldByOther, hfree]; rfl
    obtain ⟨u, hu⟩ : ∃ u, u = ((s.openEvent.withMasts (Table.set s.wind.masts mast.toNat (Mast.loaded node.toNat
      (staleOf stale)))).removeNode m.node).addNode node.toNat (.mast mast.toNat) 0 := ⟨_, rfl⟩
    have hre : s.Remasted u := hu ▸ remasted_moved _ (s.events + 1) howner hfree
    have hmast' : u.wind.masts = Table.set s.wind.masts mast.toNat (Mast.loaded node.toNat (staleOf stale)) := by
      rw [hu, removeNode_eq]
      rfl
    obtain ⟨t, ht, hskel, hmasts, hselected, hkept, hfollow, hreach, hport, hclock, hforecast, hgrades⟩ :=
      reselected (m := m) hre (by rw [hu, removeNode_eq]; rfl)
    have hexec : exec (.loadMast mast node stale) s = .next (t.answer Code.loadMast .ok []) := by
      refine congrArg Host.Outcome.next ((loadMast_of_taken hok fun _ => hheld).trans ?_)
      rw [takeMast_of_moved (s := s.openEvent) hm hzero hne, ht, hu]
      rfl
    refine ⟨_, hexec, port_answer_of_eq hport, ?_, fun k hk => ?_, ?_, ?_, hselected, hkept, hfollow, hreach, hclock,
      hforecast, hgrades⟩
    · refine Eq.trans (congrArg (Table.get · mast.toNat) (hmasts.trans hmast')) (Table.get_set_self _ _ _)
    · exact Eq.trans (congrArg (Table.get · k) (hmasts.trans hmast')) (Table.get_set_of_ne _ _ hk)
    · refine node?_none_of_skeleton hskel ?_
      rw [hu, node_addNode_of_ne (Ne.symm hne), node_removeNode, if_pos rfl]
    · have hnew : u.node? node.toNat = some (Node.added (.mast mast.toNat) 0) := hu ▸ node_addNode_self _ _ _ _
      have hslotless := node?_of_skeleton hskel node.toNat
      rw [hnew] at hslotless
      obtain ⟨x, hx, hfields⟩ := Option.map_eq_some_iff.1 hslotless
      rw [node?_answer, hx]
      have hall := Node.mk.inj hfields
      obtain ⟨h1, h2, -, h3, h4, -, h5⟩ := hall
      rw [Option.map_some, h1, h2, h3, h4, h5]
      rfl
  case unloaded =>
    obtain ⟨u, hu⟩ : ∃ u, u = (s.openEvent.withMasts (Table.erase s.wind.masts mast.toNat)).removeNode m.node := ⟨_, rfl⟩
    have hre : s.Remasted u := hu ▸ remasted_removed _ (s.events + 1) howner
    have hmast' : u.wind.masts = Table.erase s.wind.masts mast.toNat := by
      rw [hu, removeNode_eq]
      rfl
    obtain ⟨t, ht, hskel, hmasts, hselected, hkept, hfollow, hreach, hport, -, hforecast, hgrades⟩ :=
      reselected (m := m) hre (by rw [hu, removeNode_eq]; rfl)
    have hexec : exec (.loadMast mast node stale) s = .next (t.answer Code.loadMast .ok []) := by
      refine congrArg Host.Outcome.next ((loadMast_of_taken hok fun h => absurd hn h).trans ?_)
      rw [(toNat_eq_zero node).2 hn, takeMast_of_unloaded (s := s.openEvent) hm, ht, hu]
      rfl
    refine ⟨_, hexec, ?_, ?_, hselected, hkept, hfollow, hreach, port_answer_of_eq hport, hforecast, hgrades⟩
    · exact Eq.trans (congrArg (Table.get · mast.toNat) (hmasts.trans hmast')) (Table.get_erase_self _ _)
    · refine node?_none_of_skeleton hskel ?_
      rw [hu, node_removeNode, if_pos rfl]

end Sys2Proof.Machine
end

section
set_option Elab.async false
/-! PROOFS. A mast's reply (R46 to R48, R164). -/

namespace Sys2Proof.Machine

theorem parseReply_mast {a n : Nat} {x : Node} (ha : a ≤ 31) (hx : x.owner = .mast n) (speed direction rain : Half)
    (rh temp : Byte) :
    parseReply a x.owner.kind ((NodeReply.mast speed.toNat direction.toNat rh.toNat rain.toNat temp.toInt).bytes a)
      = some (.mast speed.toNat direction.toNat rh.toNat rain.toNat temp.toInt) := by
  rw [hx, parseReply_bytes _ _ (by omega), if_pos ⟨rfl, rfl⟩]
  exact replyPayload_mast speed.isLt direction.isLt rh.isLt rain.isLt (BitVec.le_toInt temp)
    (Int.le_of_lt_add_one BitVec.toInt_lt)

/-- Of a mast's node no more than the slot is emptied. -/
theorem emptySlot_of_mast (s : State) (a n : Nat) (sent : Sent) : s.emptySlot a (.mast n) sent = s
    ∨ s.emptySlot a (.mast n) sent = s.mapNode a fun x => { x with slot := none } := by
  cases sent with
  | probe => exact .inl rfl
  | poll => exact .inl rfl
  | command c =>
    rw [State.emptySlot]
    split
    · exact .inr rfl
    · exact .inl rfl

/-- The state in which a mast's reply is handed on: the exchange has ended, and the slot is emptied where it still held the
command. -/
theorem emptySlot_answering {s : State} {a n : Nat} {sent : Sent} {rest : List Nat} {x : Node} (hx : s.node? a = some x) :
    ∃ u, u = (s.answering a rest).emptySlot a (.mast n) sent
      ∧ u = { s with loop := { s.loop with phase := .between rest, nodes := u.loop.nodes }, events := s.events + 1 }
      ∧ (u.node? a).map (fun y => ({ y with slot := none } : Node)) = some { x.answered with slot := none }
      ∧ ∀ b, b ≠ a → u.node? b = s.node? b := by
  have hself : (s.answering a rest).node? a = some x.answered := node_mapNode_self (f := Node.answered) hx
  have hothers : ∀ b, b ≠ a → (s.answering a rest).node? b = s.node? b := fun b hb => node_mapNode_of_ne hb
  refine ⟨_, rfl, ?_⟩
  rcases emptySlot_of_mast (s.answering a rest) a n sent with h | h <;> rw [h]
  · exact ⟨rfl, by rw [hself]; rfl, hothers⟩
  · refine ⟨rfl, ?_, fun b hb => (node_mapNode_of_ne hb).trans (hothers b hb)⟩
    rw [node_mapNode_self (f := fun x => { x with slot := none }) hself]
    rfl

/-! ## The sample, field by field (R46 to R48) -/

theorem octantNext_none (accepted pending : Option Nat) : octantNext accepted pending none = (accepted, none) := rfl

theorem octantNext_agrees {accepted pending : Option Nat} {d : Nat}
    (h : accepted = none ∨ accepted = some (octantOf d) ∨ pending = some (octantOf d)) :
    octantNext accepted pending (some d) = (some (octantOf d), none) := by
  simp only [octantNext]
  split_ifs with h1 h2 h3
  · rfl
  · rw [h2]
  · rfl
  · exact absurd h (by simp [h1, h2, h3])

theorem octantNext_differs {accepted pending : Option Nat} {d : Nat} (h1 : accepted ≠ none) (h2 : accepted ≠ some (octantOf d))
    (h3 : pending ≠ some (octantOf d)) : octantNext accepted pending (some d) = (accepted, some (octantOf d)) := by
  simp only [octantNext, if_neg h1, if_neg h2, if_neg h3]

theorem ringNext_of_short {ring : List Nat} {v : Nat} (h : ring.length < 4) : ringNext ring v = ring ++ [v] := by
  rw [ringNext]
  exact if_neg (by rw [List.length_append, List.length_singleton]; omega)

theorem ringNext_of_full {x v : Nat} {y : List Nat} (h : (x :: y).length = 4) : ringNext (x :: y) v = y ++ [v] := by
  rw [ringNext]
  exact if_pos (by rw [List.length_append, h]; rfl)

theorem ringNext_ne_nil (ring : List Nat) (v : Nat) : ringNext ring v ≠ [] := by
  cases ring with
  | nil => exact List.cons_ne_nil v []
  | cons x y =>
    rw [ringNext]
    split
    · exact List.append_ne_nil_of_right_ne_nil y (List.cons_ne_nil v [])
    · exact List.cons_ne_nil _ _

/-- Whether a speed tends away from the gust state (R48). -/
theorem gustNext_spec (l : WindLimits) (v : Nat) (on : Bool) (count : Nat) (toward : Prop)
    (h : toward ↔ if on = true then v ≤ l.gust - l.hysteresis else l.gust ≤ v) :
    (¬ toward → gustNext l v on count = (on, 0)) ∧ (toward → count = 0 → gustNext l v on count = (on, 1))
      ∧ (toward → count = 1 → gustNext l v on count = (!on, 0)) := by
  have hbool : (if on = true then decide (v ≤ l.gust - l.hysteresis) else decide (l.gust ≤ v)) = true ↔ toward := by
    rw [h]
    cases on <;> simp
  simp only [gustNext]
  refine ⟨fun hn => if_neg fun hb => hn (hbool.1 hb), fun ht hc => ?_, fun ht hc => ?_⟩
  · rw [if_pos (hbool.2 ht), if_pos hc]
  · rw [if_pos (hbool.2 ht), if_neg (by omega)]

/-! ## The reply taken -/

section
variable {s : State} {a n : Nat} {sent : Sent} {rest : List Nat} {x : Node} {m : Mast}

/-- A mast's reply in an exchange. -/
theorem validReply_mast (ha : a ≤ 31) (hp : s.loop.phase = .exchange a sent rest) (hx : s.node? a = some x)
    (ho : x.owner = .mast n) (speed direction rain : Half) (rh temp : Byte) :
    exec (.validReply ((NodeReply.mast speed.toNat direction.toNat rh.toNat rain.toNat temp.toInt).bytes a)) s =
      .next (settled (((s.answering a rest).emptySlot a (.mast n) sent).takeSample n speed.toNat direction.toNat rh.toNat
        rain.toNat temp.toInt)) := by
  refine congrArg Host.Outcome.next ((endExchange_of_some (s := s.openEvent) hp hx
    (parseReply_mast ha ho speed direction rain rh temp)).trans ?_)
  rw [State.takeReply, ho]
  rfl

theorem takeSample_of_some (h : Table.get s.wind.masts n = some m) (speed direction rh rain : Nat) (temp : Int) :
    ∃ u, s.takeSample n speed direction rh rain temp = (u, [.selectWeather])
      ∧ u = { s with
        wind := { s.wind with
          masts := Table.update s.wind.masts n fun _ => m.sampled s.wind.limits speed direction rh rain temp }
        notices := { s.notices with flags := { s.notices.flags with wind := s.notices.flags.wind
          || ((m.sampled s.wind.limits speed direction rh rain temp).gust && !m.gust) } } } := by
  refine ⟨_, by rw [State.takeSample, h], ?_⟩
  cases hg : (m.sampled s.wind.limits speed direction rh rain temp).gust && !m.gust
  · simp only [Bool.false_eq_true, if_false, Bool.or_false]
    rfl
  · simp only [if_true, Bool.or_true]
    rfl

end

/-- The weather that a mast alone and FRESH has observed. -/
theorem weatherNow_of_alone {s : State} {n : Nat} {k : Mast} (h : s.wind.masts = [(n, k)]) (hk : k.fresh = true) :
    s.weatherNow = s.wind.observed [k] k := by
  have hfresh : s.wind.freshMasts = [k] := by rw [Wind.freshMasts, h]; simp [hk]
  simp only [State.weatherNow, hfresh, chosenMast]

end Sys2Proof.Machine
end

section
set_option Elab.async false
/-! PROOFS. A mast's reply is one sample (R46 to R48). -/

namespace Sys2Proof.Machine

theorem established_settled (u : State) : (settled (u, [.selectWeather])).wind.established
    = (u.wind.established || u.weatherNow.source.establishes) := by
  have hsky := congrArg (fun x : Wind × Bool => x.1.established) (sky_settled_selectWeather u)
  refine Eq.trans hsky ?_
  split <;> rfl

/-- What a sample makes of a mast's record. -/
theorem sampled_spec (m : Mast) (l : WindLimits) (speed direction rh rain : Nat) (temp : Int) {k : Mast}
    (hk : k = m.sampled l speed direction rh rain temp) :
    k = { m with
      fresh := true, inst := some (min speed 600), rh := some (min rh 100), rain := some (min rain 999)
      temp := some (max (-40) (min temp 60)), age := some 0, direction := if direction < 360 then some direction else none
      ring := k.ring, octant := k.octant, pendingOctant := k.pendingOctant, gust := k.gust, gustCount := k.gustCount }
    ∧ (m.ring.length < 4 → k.ring = m.ring ++ [min speed 600])
    ∧ (∀ x y, m.ring = x :: y → m.ring.length = 4 → k.ring = y ++ [min speed 600])
    ∧ (360 ≤ direction → k.octant = m.octant ∧ k.pendingOctant = none)
    ∧ (direction < 360 → ∀ o, o = ((direction + 22) / 45) % 8 →
        ((m.octant = none ∨ m.octant = some o ∨ m.pendingOctant = some o) → k.octant = some o ∧ k.pendingOctant = none)
        ∧ (m.octant ≠ none → m.octant ≠ some o → m.pendingOctant ≠ some o →
            k.octant = m.octant ∧ k.pendingOctant = some o))
    ∧ (∀ toward : Prop, (toward ↔ if m.gust = true then min speed 600 ≤ l.gust - l.hysteresis else l.gust ≤ min speed 600) →
        (¬ toward → k.gust = m.gust ∧ k.gustCount = 0)
        ∧ (toward → m.gustCount = 0 → k.gust = m.gust ∧ k.gustCount = 1)
        ∧ (toward → m.gustCount = 1 → k.gust = !m.gust ∧ k.gustCount = 0))
    ∧ k.ring ≠ [] := by
  have hring : k.ring = ringNext m.ring (min speed 600) := hk ▸ rfl
  have hoctant : (k.octant, k.pendingOctant)
      = octantNext m.octant m.pendingOctant (if direction < 360 then some direction else none) := hk ▸ rfl
  have hgust : (k.gust, k.gustCount) = gustNext l (min speed 600) m.gust m.gustCount := hk ▸ rfl
  refine ⟨by rw [hk]; rfl, fun h => hring.trans (ringNext_of_short h), fun x y hxy h => ?_, fun h => ?_,
    fun h o ho => ⟨fun hagrees => ?_, fun h1 h2 h3 => ?_⟩, fun toward htoward => ?_, hring ▸ ringNext_ne_nil _ _⟩
  · rw [hring, hxy]
    exact ringNext_of_full (hxy ▸ h)
  · rw [if_neg (by omega), octantNext_none] at hoctant
    exact Prod.mk.inj hoctant
  · subst ho
    rw [if_pos h, octantNext_agrees hagrees] at hoctant
    exact Prod.mk.inj hoctant
  · subst ho
    rw [if_pos h, octantNext_differs h1 h2 h3] at hoctant
    exact Prod.mk.inj hoctant
  · obtain ⟨hstill, hfirst, hsecond⟩ := gustNext_spec l (min speed 600) m.gust m.gustCount toward htoward
    exact ⟨fun h => Prod.mk.inj (hgust.trans (hstill h)), fun h hc => Prod.mk.inj (hgust.trans (hfirst h hc)),
      fun h hc => Prod.mk.inj (hgust.trans (hsecond h hc))⟩

/-- Settles O27: the reply is parsed and the exchange ended; the sample taken changes the mast's record and no more, and the
selection that follows is told to the holds and the orders. -/
theorem mastSampleIsTaken : Obligations.MastSampleIsTaken := by
  unfold Obligations.MastSampleIsTaken
  intro a n sent rest node m speed direction rain rh temp s ha hp hnode howner hm
  obtain ⟨v, hv, hvframe, hvnode, hvnodes⟩ := emptySlot_answering (n := n) (sent := sent) (rest := rest) hnode
  obtain ⟨u, hu, huframe⟩ := takeSample_of_some (s := v) (n := n) (m := m) (by rw [hvframe]; exact hm) speed.toNat
    direction.toNat rh.toNat rain.toNat temp.toInt
  obtain ⟨k, hk⟩ : ∃ k, k = m.sampled s.wind.limits speed.toNat direction.toNat rh.toNat rain.toNat temp.toInt := ⟨_, rfl⟩
  have hlimits : v.wind.limits = s.wind.limits := by rw [hvframe]
  rw [hlimits, ← hk] at huframe
  obtain ⟨t, ht⟩ : ∃ t, t = settled (u, [.selectWeather]) := ⟨_, rfl⟩
  have hexec : exec (.validReply ((NodeReply.mast speed.toNat direction.toNat rh.toNat rain.toNat temp.toInt).bytes a)) s
      = .next t := by
    rw [validReply_mast ha hp hnode howner, ← hv, hu, ht]
  have hunodes : ∀ b, u.node? b = v.node? b := fun b => by rw [huframe]; rfl
  have hre : s.Remasted u := by
    refine ⟨?_, fun b x c hx hc => ?_⟩
    · rw [huframe, hvframe]
    · rw [hunodes, hvnodes b, hx]
      rintro rfl
      obtain rfl := Option.some.inj (hnode.symm.trans hx)
      rw [howner] at hc
      cases hc
  have hflag : u.notices.flags.wind = (s.notices.flags.wind || (k.gust && !m.gust)) := by rw [huframe, hvframe]
  obtain ⟨hskel, hmasts, hweather, hfollow, hreach, -⟩ := hre.selected hflag ht
  have hmasts : t.wind.masts = Table.update s.wind.masts n fun _ => k := by
    rw [hmasts, huframe, hvframe]
  obtain ⟨hfields, hshort, hfull, hcalm, hoctant, hgust, hring⟩ := sampled_spec m s.wind.limits _ _ _ _ _ hk
  refine ⟨t, k, hexec, ?_, hfields, hshort, hfull, hcalm, hoctant, hgust, ?_, ?_, hweather, hfollow, hreach,
    fun halone _ => ?_⟩
  · rw [hmasts, Table.get_update_self, hm]
    rfl
  · rw [skeleton_phase hskel, huframe, hvframe]
  · have hslotless := node?_of_skeleton hskel a
    rw [hunodes, hvnode] at hslotless
    obtain ⟨x, hx, hfields⟩ := Option.map_eq_some_iff.1 hslotless
    obtain ⟨h1, -, -, h2, h3, h4, -⟩ := Node.mk.inj hfields
    rw [hx, Option.map_some, h1, h2, h3, h4]
    exact congrArg (fun o => some (o, 0, false, none)) howner
  · have htable : t.wind.masts = [(n, k)] := by
      rw [hmasts, halone]
      simp [Table.update]
    have hfresh : k.fresh = true := by rw [hk]; rfl
    have hnow : State.weatherNow { s with wind := { s.wind with masts := t.wind.masts } }
        = ({ s.wind with masts := t.wind.masts } : Wind).observed [k] k :=
      weatherNow_of_alone (s := { s with wind := { s.wind with masts := t.wind.masts } }) htable hfresh
    have haverage : k.average.getD 0 = k.ring.sum / k.ring.length := by simp [Mast.average, hring]
    have hpeak : k.peak.getD 0 = k.ring.foldl max 0 := by simp [Mast.peak, hring]
    rw [hweather, hnow]
    refine ⟨rfl, haverage, ?_, ?_, ?_, ?_, fun o ho => ?_, ?_⟩
    · simp only [Wind.observed, haverage, hpeak, List.any_cons, List.any_nil, Bool.or_false]
    · exact congrArg (fun r : Option Nat => r.getD 0) (congrArg Mast.rh hk)
    · exact congrArg (fun r : Option Nat => r.getD 0) (congrArg Mast.rain hk)
    · have hlow : lowestTemp [k] = k.temp := by cases h : k.temp <;> simp [lowestTemp, h]
      exact (congrArg (fun r : Option Int => r.getD 0) hlow).trans
        (congrArg (fun r : Option Int => r.getD 0) (congrArg Mast.temp hk))
    · exact congrArg (fun r : Option Nat => r.getD _) ho
    · have hsource : u.weatherNow.source = .observed := by
        rw [weatherNow_of_alone (s := u) (by rw [← htable, hmasts, huframe, hvframe]) hfresh]
        rfl
      rw [ht, established_settled, hsource]
      exact Bool.or_true _

end Sys2Proof.Machine
end

section
set_option Elab.async false
/-! PROOFS. POST-FORECAST (R62 to R68). -/

namespace Sys2Proof.Machine

/-! ## Slots and issues -/

theorem insertSlot_perm (x : Slot) (l : List Slot) : (insertSlot x l).Perm (x :: l) := by
  induction l with
  | nil => exact .refl _
  | cons y t ih =>
    rw [insertSlot]
    split
    · exact .refl _
    · exact (ih.cons y).trans (.swap x y t)

theorem insertSlot_sorted {x : Slot} {l : List Slot} (h : l.Pairwise fun y z => y.start ≤ z.start) :
    (insertSlot x l).Pairwise fun y z => y.start ≤ z.start := by
  induction l with
  | nil => exact List.pairwise_singleton _ _
  | cons y t ih =>
    obtain ⟨hy, ht⟩ := List.pairwise_cons.1 h
    rw [insertSlot]
    split
    · rename_i hlt
      exact List.pairwise_cons.2 ⟨fun z hz => (List.mem_cons.1 hz).elim (fun e => e ▸ hlt.le) fun hz => hlt.le.trans (hy z hz), h⟩
    · rename_i hlt
      refine List.pairwise_cons.2 ⟨fun z hz => ?_, ih ht⟩
      rcases mem_insertSlot hz with rfl | hz
      · exact Nat.not_lt.1 hlt
      · exact hy z hz

theorem overlaps_eq (x y : Slot) :
    x.overlaps y = decide (x.start < y.start + y.length ∧ y.start < x.start + x.length) := by
  rw [Slot.overlaps, Slot.stop, Slot.stop, Bool.decide_and]

theorem endedAt_iff (x : Slot) (now : Nat) : x.endedAt now = true ↔ x.start + x.length ≤ now := by
  rw [Slot.endedAt, Slot.stop, decide_eq_true_eq]

theorem endedAt_not (x : Slot) (now : Nat) : (!x.endedAt now) = decide (now < x.start + x.length) := by
  rw [Bool.eq_iff_iff, Bool.not_eq_true', ← Bool.not_eq_true, endedAt_iff, decide_eq_true_eq, Nat.not_le]

theorem issueStands_iff (a b : Nat) : issueStands a b = true ↔ a = b
    ∨ (1 ≤ (a + 65536 - b % 65536) % 65536 ∧ (a + 65536 - b % 65536) % 65536 ≤ 32767) := by
  rw [issueStands, issueNewer, within, Bool.or_eq_true, beq_iff_eq, Bool.and_eq_true, decide_eq_true_eq, decide_eq_true_eq]

theorem keeps_eq (x : Slot) (ys : List Slot) : x.keeps ys = ys.filter fun y =>
    !decide (x.start < y.start + y.length ∧ y.start < x.start + x.length) := by
  rw [Slot.keeps]
  congr 1
  funext y
  rw [overlaps_eq]

/-- The slot that refuses a new one by its issue. -/
theorem refuser?_eq (f : Forecast) (now : Nat) (x : Slot) : f.refuser? now x = f.slots.find? fun y =>
    decide (x.start < y.start + y.length ∧ y.start < x.start + x.length ∧ now < y.start + y.length ∧ x.issue ≠ y.issue
      ∧ ¬ (1 ≤ (x.issue + 65536 - y.issue % 65536) % 65536 ∧ (x.issue + 65536 - y.issue % 65536) % 65536 ≤ 32767)) := by
  rw [Forecast.refuser?]
  congr 1
  funext y
  rw [Bool.eq_iff_iff, Bool.and_eq_true, Bool.and_eq_true, overlaps_eq, endedAt_not, Bool.not_eq_true', ← Bool.not_eq_true,
    issueStands_iff, decide_eq_true_eq, decide_eq_true_eq, decide_eq_true_eq, not_or, and_assoc, and_assoc]

theorem refuser?_eq_none {f : Forecast} {now : Nat} {x : Slot} (h : ∀ y ∈ f.slots, x.start < y.start + y.length →
    y.start < x.start + x.length → now < y.start + y.length → x.issue = y.issue
    ∨ (1 ≤ (x.issue + 65536 - y.issue % 65536) % 65536 ∧ (x.issue + 65536 - y.issue % 65536) % 65536 ≤ 32767)) :
    f.refuser? now x = none := by
  rw [refuser?_eq]
  refine List.find?_eq_none.2 fun y hy hd => ?_
  obtain ⟨h1, h2, h3, h4, h5⟩ := of_decide_eq_true hd
  rcases h y hy h1 h2 h3 with h | h
  · exact h4 h
  · exact h5 h

theorem slotOf_eq (a : ForecastArgs) : slotOf a = ⟨a.code.toNat, a.issue.toNat, a.start.toNat,
    max 10 (min a.length.toNat 360), min a.wind.toNat 600, min a.gust.toNat 600, a.octant.toNat, min a.rh.toNat 100,
    min a.rain.toNat 999, max (-40) (min a.temp.toInt 60)⟩ := rfl

theorem slotOk_iff (x : Slot) : slotOk x = true ↔ x.octant ≤ 8 ∧ x.start + x.length ≤ 4294967296 := by
  rw [slotOk, Bool.and_eq_true, decide_eq_true_eq, decide_eq_true_eq]
  rfl

theorem mine_iff (f : Forecast) (code : Nat) : f.mine code = true ↔ code = 0 ∨ code ∈ f.codes := by
  simp [Forecast.mine]

/-! ## The latest issues (R68) -/

section
variable {f : Forecast} {x : Slot} (hlatest : f.latest.length = 5)
include hlatest

theorem latestAfter_first : (f.latestAfter x)[0]? = if x.code = 0 then some (some x.issue) else f.latest[0]? := by
  obtain ⟨l, hl⟩ : ∃ l, f.latest[0]? = some l := ⟨_, List.getElem?_eq_getElem (by omega)⟩
  rw [Forecast.latestAfter, List.getElem?_zipWith, hl]
  simp only [List.getElem?_cons_zero, @eq_comm Nat 0]
  split <;> rfl

variable (hcodes : f.codes.length = 4)
include hcodes

theorem latestAfter_length : (f.latestAfter x).length = 5 := by
  rw [Forecast.latestAfter, List.length_zipWith, List.length_cons, List.length_map, hcodes, hlatest]
  rfl

/-- The latest issue of a position becomes that of a slot of its code, and of no other. -/
theorem latestAfter_later (hcode : x.code < 256) {i : Nat} (hi : i < 4) : (f.latestAfter x)[i + 1]? =
    if x.code ≠ 0 ∧ f.codes[i]? = some x.code then some (some x.issue) else f.latest[i + 1]? := by
  obtain ⟨l, hl⟩ : ∃ l, f.latest[i + 1]? = some l := ⟨_, List.getElem?_eq_getElem (by omega)⟩
  obtain ⟨c, hc⟩ : ∃ c, f.codes[i]? = some c := ⟨_, List.getElem?_eq_getElem (by omega)⟩
  have hiff : (if c = 0 then 256 else c) = x.code ↔ x.code ≠ 0 ∧ some c = some x.code := by
    rw [Option.some.injEq]
    split <;> omega
  rw [Forecast.latestAfter, List.getElem?_zipWith, hl, List.getElem?_cons_succ, List.getElem?_map, hc]
  simp only [Option.map_some]
  by_cases h : (if c = 0 then 256 else c) = x.code
  · rw [if_pos h, if_pos (hiff.1 h)]
  · rw [if_neg h, if_neg fun hx => h (hiff.2 hx)]

theorem latestAfter_zero (hcode : x.code = 0) : f.latestAfter x = some x.issue :: f.latest.drop 1 := by
  refine List.ext_getElem? fun i => ?_
  cases i with
  | zero => rw [latestAfter_first hlatest, if_pos hcode, List.getElem?_cons_zero]
  | succ i =>
    rw [List.getElem?_cons_succ, List.getElem?_drop, Nat.add_comm 1 i]
    by_cases hi : i < 4
    · rw [latestAfter_later hlatest hcodes (by omega) hi, if_neg fun h => h.1 hcode]
    · rw [List.getElem?_eq_none (by rw [latestAfter_length hlatest hcodes]; omega), List.getElem?_eq_none (by omega)]

end

end Sys2Proof.Machine
end

section
set_option Elab.async false
/-! PROOFS. POST-FORECAST inserts or refuses (R62 to R68). -/

namespace Sys2Proof.Machine

section
variable {s : State} {a : ForecastArgs} {b : Bool}

theorem postForecast_of_badArgument (h : slotOk (slotOf a) = false) :
    s.postForecast b a = s.answerUnless b Code.postForecast .badArgument [] := by
  rw [State.postForecast]
  exact if_pos h

theorem postForecast_of_notMine (h : slotOk (slotOf a) = true) (hmine : s.forecast.mine (slotOf a).code = false) :
    s.postForecast b a = s.answerUnless b Code.postForecast .notMine [] := by
  rw [State.postForecast]
  exact (if_neg (by rw [h]; decide)).trans (if_pos hmine)

section
variable (h : slotOk (slotOf a) = true) (hmine : s.forecast.mine (slotOf a).code = true)
include h hmine

theorem postForecast_of_ended (hended : (slotOf a).endedAt s.now = true) :
    s.postForecast b a = s.answerUnless b Code.postForecast .stale (be8 0 ++ be16 0) := by
  rw [State.postForecast]
  exact (if_neg (by rw [h]; decide)).trans ((if_neg (by rw [hmine]; decide)).trans (if_pos hended))

variable (hstands : (slotOf a).endedAt s.now = false)
include hstands

theorem postForecast_of_refused {y : Slot} (hy : s.forecast.refuser? s.now (slotOf a) = some y) :
    s.postForecast b a = s.answerUnless b Code.postForecast .stale (be8 1 ++ be16 y.issue) := by
  rw [State.postForecast]
  refine (if_neg (by rw [h]; decide)).trans ((if_neg (by rw [hmine]; decide)).trans ((if_neg (by rw [hstands]; decide)).trans ?_))
  simp only [hy]

theorem postForecast_of_taken (hnone : s.forecast.refuser? s.now (slotOf a) = none) :
    s.postForecast b a = s.openEvent.insertForecast b (slotOf a) := by
  rw [State.postForecast]
  refine (if_neg (by rw [h]; decide)).trans ((if_neg (by rw [hmine]; decide)).trans ((if_neg (by rw [hstands]; decide)).trans ?_))
  simp only [hnone]

end
end

section
variable {s : State} {x : Slot} {b : Bool}

theorem insertForecast_of_room (h : (x.keeps (s.forecast.roomed s.now x).slots).length < 48) :
    s.insertForecast b x = (s.withForecast ((s.forecast.roomed s.now x).inserted x)).answerUnless b Code.postForecast .ok
      (be8 (x.indexIn (x.keeps (s.forecast.roomed s.now x).slots))
        ++ be8 ((s.forecast.roomed s.now x).slots.length - (x.keeps (s.forecast.roomed s.now x).slots).length)
        ++ be8 (s.forecast.slots.length - (s.forecast.roomed s.now x).slots.length)
        ++ be8 ((x.keeps (s.forecast.roomed s.now x).slots).length + 1)) :=
  if_pos h

theorem insertForecast_of_full (h : 48 ≤ (x.keeps s.forecast.slots).length)
    (hroom : s.forecast.roomed s.now x = s.forecast) :
    s.insertForecast b x = s.answerUnless b Code.postForecast .full [] := by
  rw [State.insertForecast, hroom]
  refine (if_neg (Nat.not_lt.2 h)).trans ?_
  rw [if_pos (Nat.sub_self _)]

end

/-- A slot inserted in a table: what the table, the weather and the reply become, and that the broadcast form differs in the
reply alone. -/
theorem posted_spec {s : State} {a : ForecastArgs} {f : Forecast} {p : List Byte}
    (h : ∀ b, s.postForecast b a = (s.openEvent.withForecast f).answerUnless b Code.postForecast .ok p) :
    ∃ t, exec (.postForecast false a) s = .next t ∧ t.forecast = f ∧ t.port = s.replied .ok 0x30 p ∧ t.clock = s.clock
      ∧ t.grades = s.grades ∧ t.wind.masts = s.wind.masts ∧ t.wind.weather = State.weatherNow { s with forecast := t.forecast }
      ∧ holdsFollow s t false ∧ holdReachesOrders s t
      ∧ ∃ u, exec (.postForecast true a) s = .next u ∧ u = { t with port := s.port } := by
  obtain ⟨hforecast, hweather, hfollow, hreach, hport, hclock, hgrades, -, hmasts⟩ :=
    withForecast_spec s s.clock (s.events + 1) f rfl (t := s.openEvent.withForecast f) rfl
  refine ⟨_, congrArg Host.Outcome.next (h false), hforecast, port_answer_of_eq hport, hclock, hgrades, hmasts,
    hweather.trans (weatherNow_congr rfl hforecast.symm rfl), hfollow, hreach, _, congrArg Host.Outcome.next (h true), ?_⟩
  change s.openEvent.withForecast f = { s.openEvent.withForecast f with port := s.port }
  rw [← hport]

theorem indexIn_eq (x : Slot) (ys : List Slot) : x.indexIn ys = ys.countP fun y => decide (y.start < x.start) :=
  List.countP_eq_length_filter.symm

/-- Settles O28: the refusals one after another; then the table with room found, by retiring or without, and the slot inserted
in it. -/
theorem postForecastInsertsOrRefuses : Obligations.PostForecastInsertsOrRefuses := by
  unfold Obligations.PostForecastInsertsOrRefuses
  intro a x s hx
  refine ⟨hx.trans (slotOf_eq a), fun hbad => ?_, fun hoctant hstop => ⟨fun hcode hcodes => ?_, fun hcode => ⟨fun hend => ?_,
    fun hend => ⟨fun y hy => ?_, fun hnew kept hkept => ⟨fun hlen hlive => ?_, fun hlen => ?_,
      fun live left hlive hleft hlen hroom => ?_⟩⟩⟩⟩⟩
  · have hok : slotOk (slotOf a) = false := Bool.eq_false_iff.2 fun h => by
      have := (slotOk_iff _).1 h
      rw [← hx] at this
      omega
    exact ⟨congrArg Host.Outcome.next (postForecast_of_badArgument hok),
      congrArg Host.Outcome.next (postForecast_of_badArgument hok)⟩
  all_goals
    have hok : slotOk (slotOf a) = true := (slotOk_iff _).2 ⟨hx ▸ hoctant, hx ▸ hstop⟩
  · have hmine : s.forecast.mine (slotOf a).code = false := Bool.eq_false_iff.2 fun h => by
      rcases (mine_iff _ _).1 h with h | h
      · exact hcode (hx ▸ h)
      · exact hcodes (hx ▸ h)
    exact ⟨congrArg Host.Outcome.next (postForecast_of_notMine hok hmine),
      congrArg Host.Outcome.next (postForecast_of_notMine hok hmine)⟩
  all_goals
    have hmine : s.forecast.mine (slotOf a).code = true := (mine_iff _ _).2 (hx ▸ hcode)
  · have hended : (slotOf a).endedAt s.now = true := (endedAt_iff _ _).2 (hx ▸ hend)
    exact ⟨congrArg Host.Outcome.next (postForecast_of_ended hok hmine hended),
      congrArg Host.Outcome.next (postForecast_of_ended hok hmine hended)⟩
  all_goals
    have hstands : (slotOf a).endedAt s.now = false := Bool.eq_false_iff.2 fun h => by
      have h := (endedAt_iff _ _).1 h
      rw [← hx] at h
      exact absurd hend (Nat.not_lt.2 h)
  · have hrefused : s.forecast.refuser? s.now (slotOf a) = some y := by
      rw [refuser?_eq, ← hx]
      exact hy
    exact ⟨congrArg Host.Outcome.next (postForecast_of_refused hok hmine hstands hrefused),
      congrArg Host.Outcome.next (postForecast_of_refused hok hmine hstands hrefused)⟩
  all_goals
    have hnone : s.forecast.refuser? s.now (slotOf a) = none := refuser?_eq_none (hx ▸ hnew)
    have htaken : ∀ b, s.postForecast b a = s.openEvent.insertForecast b x := fun b => by
      rw [postForecast_of_taken hok hmine hstands hnone, hx]
    have hkeeps : x.keeps s.forecast.slots = kept := (keeps_eq x _).trans hkept.symm
    have hcode256 : x.code < 256 := by rw [hx]; exact a.code.isLt
  · have hroomed : s.openEvent.forecast.roomed s.openEvent.now x = s.openEvent.forecast := by
      have hun := (unended_self_iff s.forecast s.clock.minute).2 hlive
      refine (if_neg (by rw [show s.openEvent.forecast = s.forecast from rfl, hkeeps]; exact Nat.not_lt.2 hlen)).trans ?_
      exact congrArg (fun l => ({ s.forecast with slots := l } : Forecast)) hun
    have hfull : ∀ b, s.postForecast b a = s.openEvent.answerUnless b Code.postForecast .full [] := fun b =>
      (htaken b).trans (insertForecast_of_full (by rw [show s.openEvent.forecast = s.forecast from rfl, hkeeps]; exact hlen)
        hroomed)
    exact ⟨congrArg Host.Outcome.next (hfull false), congrArg Host.Outcome.next (hfull true)⟩
  · have hroomed : s.openEvent.forecast.roomed s.openEvent.now x = s.forecast :=
      if_pos (by rw [show s.openEvent.forecast = s.forecast from rfl, hkeeps]; exact hlen)
    have hposted : ∀ b, s.postForecast b a = (s.openEvent.withForecast (s.forecast.inserted x)).answerUnless b
        Code.postForecast .ok (be8 (kept.countP fun y => decide (y.start < x.start))
          ++ be8 (s.forecast.slots.length - kept.length) ++ [0] ++ be8 (kept.length + 1)) := fun b => by
      rw [htaken, insertForecast_of_room (by rw [hroomed, hkeeps]; exact hlen), hroomed, hkeeps, indexIn_eq,
        show s.openEvent.forecast = s.forecast from rfl, Nat.sub_self]
      rfl
    obtain ⟨t, hexec, hforecast, hport, hclock, hgrades, hmasts, hweather, hfollow, hreach, hbroadcast⟩ := posted_spec hposted
    have hslots : t.forecast.slots = insertSlot x kept := by rw [hforecast, Forecast.inserted, hkeeps]
    have hlatest : t.forecast.latest = s.forecast.latestAfter x := by rw [hforecast]; rfl
    refine ⟨t, hexec, ?_, ?_, fun hsorted => ?_, fun hz hl hc => ?_, fun hz hl hc => ⟨?_, ?_, fun i hi => ?_⟩, hport, hclock, hgrades, hmasts,
      hweather, hfollow, hreach, hbroadcast⟩
    · rw [hslots]; exact insertSlot_perm x kept
    · rw [hforecast]; rfl
    · rw [hslots]; exact insertSlot_sorted hsorted
    · rw [hlatest]; exact latestAfter_zero hl hc hz
    · rw [hlatest]; exact latestAfter_length hl hc
    · rw [hlatest, latestAfter_first hl, if_neg hz]
    · rw [hlatest, latestAfter_later hl hc hcode256 hi]
      simp only [ne_eq, hz, not_false_eq_true, true_and]
  · have hunended : s.forecast.unended s.clock.minute = live := (unended_eq _ _).trans hlive.symm
    have hroomed : s.openEvent.forecast.roomed s.openEvent.now x = { s.forecast with slots := live } := by
      refine (if_neg (by rw [show s.openEvent.forecast = s.forecast from rfl, hkeeps]; exact Nat.not_lt.2 hlen)).trans ?_
      exact congrArg (fun l => ({ s.forecast with slots := l } : Forecast)) hunended
    have hkeptLive : x.keeps live = left := by
      rw [hleft, ← hkeeps, Slot.keeps, Slot.keeps, hlive, List.filter_filter, List.filter_filter]
      congr 1
      funext y
      exact Bool.and_comm _ _
    have hposted : ∀ b, s.postForecast b a = (s.openEvent.withForecast (({ s.forecast with slots := live } : Forecast).inserted
        x)).answerUnless b Code.postForecast .ok (be8 (left.countP fun y => decide (y.start < x.start))
          ++ be8 (live.length - left.length) ++ be8 (s.forecast.slots.length - live.length) ++ be8 (left.length + 1)) := fun b => by
      rw [htaken, insertForecast_of_room (by rw [hroomed, hkeptLive]; exact hroom), hroomed, hkeptLive, indexIn_eq]
      rfl
    obtain ⟨t, hexec, hforecast, hport, hclock, hgrades, hmasts, hweather, hfollow, hreach, hbroadcast⟩ := posted_spec hposted
    have hslots : t.forecast.slots = insertSlot x left := by rw [hforecast, Forecast.inserted, hkeptLive]
    have hlatest : t.forecast.latest = s.forecast.latestAfter x := by rw [hforecast]; rfl
    refine ⟨t, hexec, ?_, ?_, fun hsorted => ?_, fun hl hc => ⟨?_, ?_, fun i hi => ?_⟩, hport, hclock, hgrades, hmasts, hweather, hfollow, hreach,
      hbroadcast⟩
    · rw [hslots]; exact insertSlot_perm x left
    · rw [hforecast]; rfl
    · rw [hslots]; exact insertSlot_sorted hsorted
    · rw [hlatest]; exact latestAfter_length hl hc
    · rw [hlatest]; exact latestAfter_first hl
    · rw [hlatest]; exact latestAfter_later hl hc hcode256 hi

end Sys2Proof.Machine
end

section
set_option Elab.async false
/-! PROOFS. A node that no cannon stands at and that is not the pond's: no telling reaches its slot. -/

namespace Sys2Proof.Machine

/-- No cannon stands at an address, nor the transfer station. -/
def State.far (s : State) (a : Nat) : Prop := (∀ k d, s.cannon? k = some d → d.config.node ≠ a) ∧ s.water.pond.node ≠ some a

theorem far_of_skeleton {s t : State} {a : Nat} (h : t.skeleton = s.skeleton) (hs : s.far a) : t.far a := by
  refine ⟨fun k d hd => ?_, by rw [skeleton_pondNode h]; exact hs.2⟩
  have haddress := skeleton_addressOf h (.cannon k)
  have ht : t.addressOf (.cannon k) = some d.config.node := congrArg (Option.map fun c : Cannon => c.config.node) hd
  rw [ht] at haddress
  obtain ⟨c, hc, hnode⟩ := Option.map_eq_some_iff.1 (show (s.cannon? k).map (fun c => c.config.node) = some d.config.node from
    haddress.symm)
  rw [← hnode]
  exact hs.1 k c hc

section
variable {s : State} {a : Nat}

/-! ## Operations that leave the loop alone -/

theorem foldl_loop {β : Type} (f : State → β → State) (h : ∀ s b, (f s b).loop = s.loop) (l : List β) (s : State) :
    (l.foldl f s).loop = s.loop := by
  induction l generalizing s with
  | nil => rfl
  | cons b l ih => rw [List.foldl_cons, ih, h]

@[simp] theorem loop_releaseHeader (n : Nat) : (s.releaseHeader n).loop = s.loop := by
  rcases releaseHeader_cases s n with ⟨c, -, -, h⟩ | ⟨-, h⟩ <;> rw [h]
  rfl

@[simp] theorem loop_handPermit (q : Option Nat) (m : Nat) : (s.handPermit q m).loop = s.loop := by
  rw [State.handPermit]; split <;> rfl

@[simp] theorem loop_mapBoundPass (c : Cannon) (f : Pass → Pass) : (s.mapBoundPass c f).loop = s.loop := by
  rw [State.mapBoundPass]; split <;> rfl

@[simp] theorem loop_dropReason (i : Nat) (r : Reason) : (s.dropReason i r).loop = s.loop := by
  simp only [State.dropReason]
  split
  · rfl
  · split
    · split <;> rfl
    · rfl

@[simp] theorem loop_rollOver : s.rollOver.loop = s.loop := by
  rw [State.rollOver]
  split
  · rfl
  · exact loop_evalSpent _

@[simp] theorem loop_askGrant (q : Option Nat) (tag : Nat) : (s.askGrant q tag).loop = s.loop := by
  rw [State.askGrant]
  split
  · rfl
  · exact foldl_loop _ (fun s (p : Permit) => loop_handPermit q p.machine) _ _

@[simp] theorem loop_endOpenPrewet (tag : Nat) : (s.endOpenPrewet tag).1.loop = s.loop := by
  rw [State.endOpenPrewet]
  split
  · split <;> rfl
  · rfl

@[simp] theorem loop_tellPile (q : Option Nat) (tag : Nat) : (s.tellPile q tag).1.loop = s.loop := by
  simp only [State.tellPile]
  split
  · rfl
  · split
    · exact (loop_endOpenPrewet tag).trans (foldl_loop _ (fun s (p : Permit) => loop_handPermit q p.machine) _ _)
    · rfl

@[simp] theorem loop_passTold (q : Option Nat) (tag : Nat) : (s.passTold q tag).1.loop = s.loop := by
  simp only [State.passTold]
  split
  · split
    · exact loop_askGrant q tag
    · exact loop_askGrant q tag
  · exact loop_askGrant q tag

theorem loop_accept (r : OrderRequest) : (s.accept r).1.loop = s.loop := by
  simp only [State.accept]
  split <;> split <;> rfl

@[simp] theorem loop_askPrewet (tag : Nat) (only : Option Nat) : (s.askPrewet tag only).1.loop = s.loop := by
  rcases askPrewet_cases s tag only with ⟨-, h⟩ | ⟨o, -, h⟩ | ⟨-, -, h⟩ | ⟨slot, p, g, a, -, -, -, -, rfl, h⟩ <;> rw [h]
  · rfl
  · exact loop_accept _

@[simp] theorem loop_prewetEnded (i : Nat) (x : OrderOutcome) : (s.prewetEnded i x).1.loop = s.loop := by
  cases x <;> rfl

@[simp] theorem loop_endPermit (q : Option Nat) (m : Nat) (x : PermitOutcome) (w : Bool) :
    (s.endPermit q m x w).1.loop = s.loop := by
  rw [State.endPermit]
  split
  · rfl
  · exact loop_handPermit q m

@[simp] theorem loop_checkRetire (tag : Nat) : (s.checkRetire tag).1.loop = s.loop := by
  rw [State.checkRetire]
  split
  · rfl
  · split <;> rfl

@[simp] theorem loop_liftZone (tag : Nat) : (s.liftZone tag).loop = s.loop := by
  rw [State.liftZone]
  split
  · rfl
  · split
    · exact foldl_loop _ (fun s (o : Order) => loop_dropReason o.id .zone) _ _
    · rfl

@[simp] theorem loop_checkFree (tag : Nat) : (s.checkFree tag).loop = s.loop := by
  rw [State.checkFree]
  split
  · rfl
  · split <;> rfl

@[simp] theorem loop_blendPile (tag f : Nat) (mf : Option Nat) : (s.blendPile tag f mf).loop = s.loop := by
  rw [State.blendPile]
  split
  · rfl
  · split <;> rfl

@[simp] theorem loop_markEstimated (tag : Nat) : (s.markEstimated tag).loop = s.loop := by
  rw [State.markEstimated]
  split
  · rfl
  · split <;> rfl

@[simp] theorem loop_lapseOrder (i : Nat) : (s.lapseOrder i).1.loop = s.loop := by
  rw [State.lapseOrder]
  split
  · split <;> rfl
  · rfl

@[simp] theorem loop_expirePrewet (m : Nat) : (s.expirePrewet m).1.loop = s.loop := by
  rw [State.expirePrewet]
  split
  · split <;> rfl
  · rfl

@[simp] theorem loop_lapsePermit (m : Nat) : (s.lapsePermit m).1.loop = s.loop := by
  rw [State.lapsePermit]
  split
  · split
    · exact (loop_markEstimated _).trans (loop_blendPile _ _ _)
    · rfl
  · rfl

@[simp] theorem loop_passNext (i : Nat) (k : PassKind) : (s.passNext i k).1.loop = s.loop := by
  simp only [State.passNext]
  split
  · rfl
  · split
    · exact loop_evalSpent _
    · exact loop_evalSpent _

@[simp] theorem loop_orderEnded (i : Nat) : (s.orderEnded i).1.loop = s.loop := by
  rw [State.orderEnded]
  split <;> rfl

@[simp] theorem loop_selectWeather : s.selectWeather.1.loop = s.loop := by
  rw [selectWeather_selected]; rfl

@[simp] theorem loop_evalHolds : s.evalHolds.1.loop = s.loop := by
  obtain ⟨-, h⟩ | ⟨-, -, h⟩ | ⟨-, -, h⟩ := evalHolds_swayed s <;> rw [h]
  · rfl
  · rfl
  · rw [dropHold_eq]; rfl

/-! ## Operations that place commands -/

theorem node_of_loop {t : State} (h : t.loop = s.loop) (a : Nat) : t.node? a = s.node? a :=
  congrArg (fun l : Loop => Table.get l.nodes a) h

theorem node_placeStop_of_ne {b : Nat} {c : LoopCommand} (h : a ≠ b) : (s.placeStop b c).node? a = s.node? a :=
  node_mapNode_of_ne h

theorem node_evalTransfer_of_ne (h : s.water.pond.node ≠ some a) : s.evalTransfer.node? a = s.node? a := by
  have hstop : ∀ e, (s.stopRun e).node? a = s.node? a := fun e => by rw [node_stopRun, if_neg h]
  rcases evalTransfer_cases s with ⟨-, -, -, heq⟩ | ⟨-, -, heq⟩ | heq <;> rw [heq]
  · rw [State.startRun]
    split
    · rename_i b hb
      have hne : a ≠ b := fun e => h (by rw [hb, e])
      split
      · exact node_mapNode_of_ne hne
      · rfl
    · rfl
  · exact hstop _

variable (hfar : s.far a)
include hfar

theorem node_placeClose_of_far (n : Nat) : (s.placeClose n).node? a = s.node? a := by
  rw [State.placeClose]
  split
  · rename_i c hc
    exact node_placeStop_of_ne (Ne.symm (hfar.1 n c hc))
  · rfl

theorem node_rampDown_of_far (n : Nat) : (s.rampDown n).node? a = s.node? a := by
  rw [State.rampDown]
  split
  · exact (node_of_loop (loop_mapBoundPass _ _) a).trans (node_placeClose_of_far hfar n)
  · rfl

theorem node_closeDown_of_far (n : Nat) : (s.closeDown n).1.node? a = s.node? a := by
  rcases closeDown_cases s n with ⟨h, -⟩ | ⟨c, -, ⟨-, h⟩ | ⟨-, -, h⟩ | ⟨-, -, h⟩⟩ <;> rw [h]
  · exact node_rampDown_of_far hfar n
  · exact node_placeClose_of_far hfar n
  · exact (node_of_loop (loop_releaseHeader n) a).trans (node_placeClose_of_far hfar n)

theorem node_closePass_of_far (o : Order) : (s.closePass o).1.node? a = s.node? a := by
  rcases closePass_cases s o with ⟨-, h⟩ | ⟨p, -, -, h⟩ <;> rw [h]
  exact node_closeDown_of_far hfar p.cannon

theorem node_applyGain_of_far (tag v : Nat) : (s.applyGain tag v).1.node? a = s.node? a := by
  simp only [State.applyGain]
  split
  · rfl
  · split
    · rfl
    · split
      · rfl
      · split
        · rfl
        · rw [creditPond_eq]
          exact node_evalTransfer_of_ne hfar.2

/-- No telling reaches the slot of such a node. -/
theorem node_doTask_of_far (q : Option Nat) (t : Task) : (doTask q t s).1.node? a = s.node? a := by
  cases t with
  | addReason id r =>
    rcases addReason_cases s id r with ⟨-, h⟩ | ⟨o, -, -, -, h⟩
    · exact congrArg (fun x : State × List Task => x.1.node? a) h
    · refine (congrArg (fun x : State × List Task => x.1.node? a) h).trans ?_
      exact node_closePass_of_far (s := s.mapOrder id fun o => o.withReason r) hfar o
  | cancel id =>
    change (s.cancel id).1.node? a = _
    rw [State.cancel]
    split
    · rfl
    · split
      · rfl
      · rfl
      · rfl
      · split
        · rfl
        · exact node_closePass_of_far (s := s.mapOrder id fun o => { o with cancelPending := true }) hfar _
  | passEnd id k v =>
    change (s.passEnd id k v).1.node? a = _
    rw [State.passEnd]
    split
    · rfl
    · exact node_applyGain_of_far (s := s.mapOrder id fun o => o.creditedEnd k v) hfar _ _
  | closePass id =>
    change (s.closePassOf id).1.node? a = _
    rw [State.closePassOf]
    split
    · exact node_closePass_of_far hfar _
    · rfl
  | _ => exact node_of_loop (by simp [doTask, State.retryPrewets, State.permitMinute, State.decayTrips]) a

theorem node_settled_of_far (ts : List Task) : (settled (s, ts)).node? a = s.node? a :=
  (settle_induction (fun x => x.far a ∧ x.node? a = s.node? a) none (fun t _ hx =>
    ⟨far_of_skeleton (doTask_skeleton none t) hx.1, (node_doTask_of_far hx.1 none t).trans hx.2⟩) ts s ⟨hfar, rfl⟩).2

end

end Sys2Proof.Machine
end

section
set_option Elab.async false
/-! PROOFS. The call slot (R167). -/

namespace Sys2Proof.Machine

/-! ## What a reply handed on leaves of the round -/

/-- The round, but for the slots, and the blocks no reply touches. -/
structure State.Rounds (s t : State) : Prop where
  loop : t.skeleton.loop = s.skeleton.loop
  port : t.port = s.port
  clock : t.clock = s.clock
  grades : t.grades = s.grades
  forecast : t.forecast = s.forecast

namespace State.Rounds
variable {s t u : State}

theorem of_skeleton (h : t.skeleton = s.skeleton) : s.Rounds t :=
  ⟨congrArg State.loop h, skeleton_port h, skeleton_clock h, skeleton_grades h, skeleton_forecast h⟩

theorem trans (h : s.Rounds t) (g : t.Rounds u) : s.Rounds u :=
  ⟨g.loop.trans h.loop, g.port.trans h.port, g.clock.trans h.clock, g.grades.trans h.grades, g.forecast.trans h.forecast⟩

theorem handOn (s : State) (o : Owner) (r : NodeReply) (b : Bool) : s.Rounds (s.handOn o r b).1 := by
  unfold State.handOn
  split
  · exact of_skeleton (Keeps.takeCannonReply s _ _ _).skeleton
  · unfold State.takeSample
    split
    · exact ⟨rfl, rfl, rfl, rfl, rfl⟩
    · dsimp only
      split <;> exact ⟨rfl, rfl, rfl, rfl, rfl⟩
  · unfold State.takeReading
    dsimp only
    split
    · exact ⟨rfl, rfl, rfl, rfl, rfl⟩
    · rw [retank_eq]
      refine trans (t := State.occasion _) ?_ (of_skeleton State.evalTransfer_skeleton)
      exact ⟨rfl, rfl, rfl, rfl, rfl⟩
  · exact of_skeleton (Keeps.takeTransferReply s _ _ _).skeleton
  · exact ⟨rfl, rfl, rfl, rfl, rfl⟩

theorem node (h : s.Rounds t) (a : Nat) :
    (t.node? a).map (fun n => ({ n with slot := none } : Node)) = (s.node? a).map fun n => ({ n with slot := none } : Node) := by
  have key : ∀ u : State, (u.node? a).map (fun n => ({ n with slot := none } : Node)) = Table.get u.skeleton.loop.nodes a :=
    fun u => (Table.get_map u.loop.nodes (fun n : Node => ({ n with slot := none } : Node)) a).symm
  rw [key t, key s, h.loop]

end State.Rounds

/-! ## The round's end -/

theorem node_endRound_of_alive {s : State} {a : Nat} {x : Node} (h : s.node? a = some x) (hl : x.lost = false) :
    s.endRound.node? a = some x := by
  change Table.get s.loop.endRound.nodes a = some x
  rw [Loop.endRound]
  split
  · rw [nodes_startRound, show Table.get s.loop.nodes a = some x from h, Option.map_some, counted_of_answering hl]
  · exact h
  · exact h

theorem endCall_of_other {s : State} {b : List Byte} (h : s.loop.phase ≠ .calling) : s.endCall b = s := by
  rw [State.endCall]
  split
  · rename_i hp; exact absurd hp h
  all_goals rfl

theorem endCall_of_failed {s : State} {b : List Byte} (hp : s.loop.phase = .calling)
    (h : ∀ n, s.node? (u8 b 0).toNat = some n → parseReply (u8 b 0).toNat n.owner.kind b = none) : s.endCall b = s.endRound := by
  simp only [State.endCall, hp]
  split
  · rename_i n hn
    rw [h n hn]
  · rfl

theorem endCall_of_passed {s : State} {b : List Byte} {n : Node} {r : NodeReply} (hp : s.loop.phase = .calling)
    (hn : s.node? (u8 b 0).toNat = some n) (hr : parseReply (u8 b 0).toNat n.owner.kind b = some r) :
    s.endCall b = s.takeCall (u8 b 0).toNat n r := by
  simp only [State.endCall, hp, hn, hr]

/-! ## Owners that send nothing -/

section
variable {s : State} {a : Nat} {x : Node} {r : NodeReply} {rejoined : Bool}

theorem node_handOn_mast (hfar : s.far a) (k : Nat) : (settled (s.handOn (.mast k) r rejoined)).node? a = s.node? a := by
  cases r with
  | mast speed direction rh rain temp =>
    change (settled (s.takeSample k speed direction rh rain temp)).node? a = _
    cases hm : Table.get s.wind.masts k with
    | none =>
      have hnone : s.takeSample k speed direction rh rain temp = (s, []) := by rw [State.takeSample, hm]
      rw [hnone, settled_nil]
    | some m =>
      obtain ⟨u, hu, hframe⟩ := takeSample_of_some hm speed direction rh rain temp
      have hufar : u.far a := by rw [hframe]; exact hfar
      rw [hu, node_settled_of_far hufar, hframe]
      rfl
  | _ => exact congrArg (State.node? · a) (settled_nil s)

theorem node_handOn_tank (hpond : s.water.pond.node ≠ some a) : (settled (s.handOn .tank r rejoined)).node? a = s.node? a := by
  cases r with
  | gauge level turbidity alarm =>
    change (settled (s.takeReading level turbidity alarm, [])).node? a = _
    rw [settled_nil, State.takeReading]
    split
    · rfl
    · rw [retank_eq]
      exact node_evalTransfer_of_ne (s := State.occasion _) hpond
  | _ => exact congrArg (State.node? · a) (settled_nil s)

theorem handOn_idle {k : Nat} {d : Cannon} (hd : s.cannon? k = some d) (hs : d.state = .idle) (hb : d.bound = none)
    (hh : d.header = none) : (settled (s.handOn (.cannon k) r rejoined)).loop = s.loop
      ∧ ∀ report meter, r = .cannon report meter → (settled (s.handOn (.cannon k) r rejoined)) =
        s.mapCannon k fun c => c.heardFrom report meter (meterDelta d.meterLast meter) := by
  cases r with
  | cannon report meter =>
    have htaken : settled (s.handOn (.cannon k) (.cannon report meter) rejoined)
        = s.mapCannon k fun c => c.heardFrom report meter (meterDelta d.meterLast meter) :=
      (congrArg settled (takeCannonReply_of_idle hd hb hh report meter hs)).trans (settled_nil _)
    refine ⟨by rw [htaken]; rfl, ?_⟩
    rintro _ _ ⟨⟩
    exact htaken
  | _ => exact ⟨congrArg State.loop (settled_nil s), nofun⟩

end

/-- Settles O52: the answer is handed on without a slot emptied, and the round ends with its node the winner. -/
theorem callAnswersChooseAWinner : Obligations.CallAnswersChooseAWinner := by
  unfold Obligations.CallAnswersChooseAWinner
  intro bytes s
  refine ⟨fun hp => congrArg Host.Outcome.next (endCall_of_other (s := s.openEvent) hp), fun hp hfail => ?_,
    fun a n r hp ha hn hr => ?_⟩
  · refine congrArg Host.Outcome.next ((endCall_of_failed (s := s.openEvent) hp hfail).trans ?_)
    exact (endCallSilent_of_calling (s := s.openEvent) hp).symm
  subst ha
  generalize ha : (u8 bytes 0).toNat = a at hn hr ⊢
  obtain ⟨v, hv⟩ : ∃ v, v = s.openEvent.mapNode a Node.answered := ⟨_, rfl⟩
  obtain ⟨u, hu⟩ : ∃ u, u = settled (v.handOn n.owner r n.lost) := ⟨_, rfl⟩
  obtain ⟨t, ht⟩ : ∃ t, t = State.endRound { u with loop := { u.loop with winner := some a } } := ⟨_, rfl⟩
  have hexec : exec (.callAnswer bytes) s = .next t := by
    refine congrArg Host.Outcome.next ?_
    rw [endCall_of_passed (s := s.openEvent) hp (by rw [ha]; exact hn) (by rw [ha]; exact hr), ha, ht, hu, hv]
    rfl
  have hself : v.node? a = some n.answered := hv ▸ node_mapNode_self (s := s.openEvent) (f := Node.answered) hn
  have hrounds : v.Rounds u := hu ▸ (State.Rounds.handOn v n.owner r n.lost).trans (.of_skeleton (settled_skeleton _))
  have hnode : ∀ x, u.node? a = some x → x.lost = false → t.node? a = some x := fun x hx hl =>
    ht ▸ node_endRound_of_alive (s := { u with loop := { u.loop with winner := some a } }) hx hl
  have hstands : u.node? a = v.node? a → t.node? a = some { n with misses := 0, lost := false, countdown := none } :=
    fun h => hnode n.answered (h.trans hself) rfl
  have htimer : u.loop.timer = s.loop.timer := by
    rw [show u.loop.timer = v.loop.timer from (congrArg Loop.timer hrounds.loop :), hv]
    rfl
  have hcount : u.loop.roundCount = s.loop.roundCount := by
    rw [show u.loop.roundCount = v.loop.roundCount from (congrArg Loop.roundCount hrounds.loop :), hv]
    rfl
  have hperiod : u.loop.period = s.loop.period := by
    rw [show u.loop.period = v.loop.period from (congrArg Loop.period hrounds.loop :), hv]
    rfl
  refine ⟨t, hexec, ?_, fun hquiet => ?_, fun k d report meter ho hd hreport hs hb hh _ => ?_, fun p hrun => ?_,
    fun hexpired => ?_, ?_, ?_, ?_, ?_⟩
  · have hslotless := hrounds.node a
    rw [hself] at hslotless
    obtain ⟨x, hx, hfields⟩ := Option.map_eq_some_iff.1 hslotless
    obtain ⟨h1, h2, -, h3, h4, h5, h6⟩ := Node.mk.inj hfields
    rw [hnode x hx h4, Option.map_some, h1, h2, h3, h4, h5, h6]
    rfl
  · refine hstands ?_
    rcases hquiet with ⟨⟨k, ho⟩, hcannons, hpond⟩ | ⟨ho, hpond⟩ | ⟨k, d, ho, hd, hs, hb, hh, -⟩
    · rw [hu, ho]
      exact node_handOn_mast (hv ▸ ⟨hcannons, hpond⟩) k
    · rw [hu, ho]
      exact node_handOn_tank (hv ▸ hpond)
    · rw [hu, ho]
      exact node_of_loop (handOn_idle (hv ▸ hd) hs hb hh).1 a
  · have hvd : v.cannon? k = some d := hv ▸ hd
    have hall : u = v.mapCannon k fun c => c.heardFrom report meter (meterDelta d.meterLast meter) := by
      rw [hu, ho]
      exact (handOn_idle hvd hs hb hh).2 report meter hreport
    have hcannons : ∀ i, t.cannon? i = u.cannon? i := fun i => by rw [ht]; rfl
    refine ⟨?_, fun i hi => ?_⟩
    · rw [hcannons, hall]
      exact cannon_mapCannon_self (f := fun c => c.heardFrom report meter (meterDelta d.meterLast meter)) hvd
    · rw [hcannons, hall, cannon_mapCannon_of_ne hi, hv]
      rfl
  · rw [ht, endRound_of_running (s := { u with loop := { u.loop with winner := some a } }) (htimer.trans hrun)]
    exact ⟨rfl, rfl, htimer.trans hrun, hcount⟩
  · rw [ht, endRound_of_expired (s := { u with loop := { u.loop with winner := some a } }) (htimer.trans hexpired)]
    refine ⟨rfl, congrArg RoundTimer.running hperiod, congrArg (fun c => (c + 1) % 4294967296) hcount, ?_⟩
    refine ⟨_, congrArg Phase.between (todo_of_winner (l := { u.loop with winner := some a }) rfl), fun hmem => ?_⟩
    obtain ⟨e, he, rfl⟩ := List.mem_map.1 hmem
    have := (List.mem_filter.1 he).2
    simp at this
  · rw [ht]
    exact hrounds.port.trans (by rw [hv]; rfl)
  · rw [ht]
    exact hrounds.clock.trans (by rw [hv]; rfl)
  · rw [ht]
    exact hrounds.grades.trans (by rw [hv]; rfl)
  · rw [ht]
    exact hrounds.forecast.trans (by rw [hv]; rfl)

end Sys2Proof.Machine
end

section
set_option Elab.async false
/-! PROOFS. The orders of a retiring pile cancelled one after another, and its slot freed with the last (R19, R20). -/

namespace Sys2Proof.Machine

/-! ## The slot freed -/

/-- A pile's slot freed and handed over. -/
def State.freed (s : State) (slot : Nat) : State := { s with piles := Table.erase s.piles slot }.hand .pile slot

/-- Some open order stands on a pile. -/
def State.busyOn (s : State) (tag : Nat) : Prop := ∃ y ∈ s.dispatch.orders, y.tag = tag ∧ y.state ≠ .ended

theorem openOn_eq_nil_iff (s : State) (tag : Nat) : s.openOn tag = [] ↔ ¬ s.busyOn tag := by
  rw [State.openOn, List.filter_eq_nil_iff, State.busyOn]
  simp only [not_exists, not_and, Bool.and_eq_true, beq_iff_eq, isOpen_iff]

theorem checkFree_of_busy {s : State} {tag : Nat} (h : s.busyOn tag) : s.checkFree tag = s := by
  simp only [State.checkFree]
  split
  · rfl
  · exact if_neg fun hc => (openOn_eq_nil_iff s tag).1 hc.2 h

theorem checkFree_of_retiring {s : State} {tag slot : Nat} {p : Pile} (hp : s.pileAt? tag = some (slot, p))
    (hlife : p.life = .retiring) (h : ¬ s.busyOn tag) : s.checkFree tag = s.freed slot := by
  simp only [State.checkFree, hp, if_pos (And.intro hlife ((openOn_eq_nil_iff s tag).2 h))]
  rfl

theorem checkFree_of_absent {s : State} {tag : Nat} (h : s.pileAt? tag = none) : s.checkFree tag = s := by
  simp only [State.checkFree, h]

theorem permits_checkFree (s : State) (tag : Nat) : (s.checkFree tag).permits = s.permits := by
  simp only [State.checkFree]
  split
  · rfl
  · split <;> rfl

theorem erase_update_self {α : Type} (t : Table α) (k : Nat) (f : α → α) :
    Table.erase (Table.update t k f) k = Table.erase t k := by
  induction t with
  | nil => rfl
  | cons e t ih =>
    simp only [Table.erase, Table.update, List.map_cons] at ih ⊢
    by_cases h : e.1 = k
    · simp only [h, if_true, bne_self_eq_false, List.filter_cons_of_neg, Bool.false_eq_true, not_false_eq_true]
      exact ih
    · have hb : (e.1 != k) = true := bne_iff_ne.2 h
      simp only [if_neg h]
      rw [List.filter_cons_of_pos (p := fun e : Nat × α => e.1 != k) hb, ih, List.filter_cons_of_pos (p := fun e : Nat × α => e.1 != k) hb]

/-- Of piles with tags of their own none carries the tag of one that has left its slot. -/
theorem pileAt_erase {s t : State} {tag slot : Nat} {p : Pile} (hp : s.pileAt? tag = some (slot, p))
    (hnodup : (s.piles.map fun e => e.2.tag).Nodup) (ht : t.piles = Table.erase s.piles slot) : t.pileAt? tag = none := by
  rw [State.pileAt?, ht]
  refine List.find?_eq_none.2 fun e he htag => ?_
  obtain ⟨hmem, hne⟩ := List.mem_filter.1 he
  obtain ⟨hp, hptag⟩ := State.pileAt_mem hp
  have := List.inj_on_of_nodup_map hnodup hmem hp ((beq_iff_eq.1 htag).trans hptag.symm)
  rw [this] at hne
  exact bne_iff_ne.1 hne rfl

/-! ## One order ended -/

/-- The ending of an order that no permit names is told to its pile alone. -/
theorem reaches_orderEnded_free {q : Option Nat} {s : State} {id : Nat} {o : Order} (ho : s.order? id = some o)
    (hprewet : o.origin = .prewet → o.outcome ≠ some .done ∧ ∀ x ∈ s.permits.list, x.names id = false) :
    Reaches q [.orderEnded id] s 3 ((s.hand .order id).checkFree o.tag) := by
  have hcheck : Reaches q [.checkFree o.tag] (s.hand .order id) 1 ((s.hand .order id).checkFree o.tag) := .single rfl
  by_cases h : o.origin ≠ .prewet ∨ o.outcome = none
  · exact (Reaches.one (doTask_orderEnded ho h) hcheck).mono (by omega)
  · obtain ⟨horigin, hout⟩ := not_or.1 h
    obtain ⟨x, hx⟩ := Option.ne_none_iff_exists'.1 hout
    obtain ⟨hdone, hnames⟩ := hprewet (not_not.1 horigin)
    have hquiet := doTask_prewetEnded_unnamed (q := q) (s := (s.hand .order id).checkFree o.tag) (x := x)
      (fun hd => hdone (by rw [hx, hd])) (by rw [permits_checkFree]; exact hnames)
    exact .one (doTask_orderEnded_prewet ho (not_not.1 horigin) hx) (hcheck.cons (.single hquiet))

/-- An order that waits or is held, on a pile, that no waiting permit names. -/
def State.inertOn (s : State) (tag id : Nat) : Prop := ∃ x, s.order? id = some x ∧ (x.state = .waiting ∨ x.state = .volleyHeld)
  ∧ x.tag = tag ∧ (x.origin = .prewet → ∀ p ∈ s.permits.list, p.names id = false)

theorem endAll_single (s : State) (id : Nat) (x : OrderOutcome) :
    (s.mapOrder id fun o => o.ended x s.now s.events).hand .order id = s.endAll [id] x := by
  have := endAll_snoc s [] x (id := id) List.not_mem_nil
  rwa [endAll_nil] at this

theorem endAll_cons {s : State} {id : Nat} {ids : List Nat} (x : OrderOutcome) (h : id ∉ ids) :
    (s.endAll [id] x).endAll ids x = s.endAll (id :: ids) x := by
  simp only [State.endAll, List.map_map, Notices.handAll]
  refine congrArg (fun l : List Order => { s with
    notices := List.foldl (fun n k => n.hand .order k) s.notices (id :: ids)
    dispatch := { s.dispatch with orders := l } }) (List.map_congr_left fun o _ => ?_)
  by_cases hid : o.id = id
  · simp [hid, h, Order.ended]
  · simp only [Function.comp, hid, List.mem_cons, false_or]
    rfl

/-- The cancellation of such an order: it ends, and its pile is checked. -/
theorem reaches_cancel_inert {q : Option Nat} {s : State} {tag id : Nat} (h : s.inertOn tag id) :
    Reaches q [.cancel id] s 4 ((s.endAll [id] .cancelled).checkFree tag) := by
  obtain ⟨x, hx, hinert, rfl, hnames⟩ := h
  have hended := order?_mapOrder_self (f := fun o => o.ended .cancelled s.now s.events) hx fun _ => rfl
  have hend := reaches_orderEnded_free (q := q) hended fun horigin =>
    ⟨fun e => OrderOutcome.noConfusion (Option.some.inj e), hnames horigin⟩
  rw [endAll_single] at hend
  exact .one (cancel_of_inert hx hinert) hend

theorem inertOn_endAll {s : State} {tag id : Nat} {ids : List Nat} {x : OrderOutcome} (h : s.inertOn tag id) (hid : id ∉ ids) :
    (s.endAll ids x).inertOn tag id := by
  obtain ⟨o, ho, hrest⟩ := h
  exact ⟨o, (order?_endAll_of_not_mem hid).trans ho, hrest⟩

/-- Another open order stands on the pile. -/
def State.otherOn (s : State) (tag : Nat) (ids : List Nat) : Prop :=
  ∃ y ∈ s.dispatch.orders, y.tag = tag ∧ y.state ≠ .ended ∧ y.id ∉ ids

theorem busyOn_endAll {s : State} {tag : Nat} {ids : List Nat} {x : OrderOutcome} (h : s.otherOn tag ids) :
    (s.endAll ids x).busyOn tag := by
  obtain ⟨y, hy, htag, hopen, hid⟩ := h
  exact ⟨y, List.mem_map.2 ⟨y, hy, if_neg hid⟩, htag, hopen⟩

theorem otherOn_endAll {s : State} {tag : Nat} {ids js : List Nat} {x : OrderOutcome} (h : s.otherOn tag (ids ++ js)) :
    (s.endAll ids x).otherOn tag js := by
  obtain ⟨y, hy, htag, hopen, hid⟩ := h
  rw [List.mem_append, not_or] at hid
  exact ⟨y, List.mem_map.2 ⟨y, hy, if_neg hid.1⟩, htag, hopen, hid.2⟩

/-- Orders cancelled one after another while another stands open on the pile. -/
theorem reaches_cancels {q : Option Nat} {s : State} {tag : Nat} {ids : List Nat} (hnodup : ids.Nodup)
    (hother : s.otherOn tag ids) (h : ∀ id ∈ ids, s.inertOn tag id) :
    Reaches q (ids.map Task.cancel) s (4 * ids.length) (s.endAll ids .cancelled) := by
  induction ids generalizing s with
  | nil => rw [endAll_nil]; exact .nil s
  | cons id ids ih =>
    obtain ⟨hid, hnodup⟩ := List.nodup_cons.1 hnodup
    have hfirst := reaches_cancel_inert (q := q) (h id List.mem_cons_self)
    have hone : s.otherOn tag [id] := by
      obtain ⟨y, hy, htag, hopen, hmem⟩ := hother
      exact ⟨y, hy, htag, hopen, fun hm => hmem (List.mem_singleton.1 hm ▸ List.mem_cons_self)⟩
    rw [checkFree_of_busy (busyOn_endAll hone)] at hfirst
    have hrest := ih (s := s.endAll [id] .cancelled) hnodup (otherOn_endAll (ids := [id]) hother) fun j hj =>
      inertOn_endAll (h j (List.mem_cons_of_mem _ hj)) fun hm => hid (List.mem_singleton.1 hm ▸ hj)
    rw [endAll_cons _ hid] at hrest
    refine (hfirst.cons hrest).mono ?_
    rw [List.length_cons]
    omega

/-- The pile of a tag retires, and no open order but those of some ids stands on it. -/
structure State.RetiresOn (s : State) (tag slot : Nat) (ids : List Nat) : Prop where
  pile : ∃ p, s.pileAt? tag = some (slot, p) ∧ p.life = .retiring
  tags : (s.piles.map fun e => e.2.tag).Nodup
  only : ∀ y ∈ s.dispatch.orders, y.tag = tag → y.state ≠ .ended → y.id ∈ ids

theorem not_busyOn_endAll {s : State} {tag : Nat} {ids : List Nat} {x : OrderOutcome}
    (h : ∀ y ∈ s.dispatch.orders, y.tag = tag → y.state ≠ .ended → y.id ∈ ids) : ¬ (s.endAll ids x).busyOn tag := by
  rintro ⟨y, hy, htag, hopen⟩
  obtain ⟨z, hz, rfl⟩ := List.mem_map.1 hy
  split_ifs at htag hopen with hid
  · exact hopen rfl
  · exact hid (h z hz htag hopen)

/-- The pile checked once the last of its orders has ended: its slot is freed, and a further check finds no pile. -/
theorem reaches_check_last {q : Option Nat} {s v : State} {tag slot : Nat} {ids : List Nat} (h : s.RetiresOn tag slot ids)
    (hpiles : v.piles = s.piles) (hidle : ¬ v.busyOn tag) :
    v.checkFree tag = v.freed slot ∧ Reaches q [.checkFree tag] (v.freed slot) 1 (v.freed slot) := by
  obtain ⟨⟨p, hp, hlife⟩, htags, -⟩ := h
  have hvp : v.pileAt? tag = some (slot, p) := by rw [State.pileAt?, hpiles]; exact hp
  have hgone : (v.freed slot).pileAt? tag = none :=
    pileAt_erase hvp (by rw [hpiles]; exact htags) rfl
  exact ⟨checkFree_of_retiring hvp hlife hidle, .single (congrArg (·, ([] : List Task)) (checkFree_of_absent hgone))⟩

/-- All the orders of a retiring pile cancelled, and the pile gone. -/
theorem reaches_retired {q : Option Nat} {s : State} {tag slot : Nat} {ids : List Nat} (h : s.RetiresOn tag slot ids)
    (hnodup : ids.Nodup) (hinert : ∀ id ∈ ids, s.inertOn tag id) :
    Reaches q (ids.map Task.cancel ++ [.checkFree tag]) s (4 * ids.length + 1) ((s.endAll ids .cancelled).freed slot) := by
  rcases List.eq_nil_or_concat' ids with rfl | ⟨init, last, rfl⟩
  · obtain ⟨hfree, hlast⟩ := reaches_check_last (q := q) h rfl fun ⟨y, hy, htag, hopen⟩ => by
      simpa using h.only y hy htag hopen
    rw [endAll_nil]
    exact .single (congrArg (·, ([] : List Task)) hfree)
  · obtain ⟨hinit, -, hdisjoint⟩ := List.nodup_append.1 hnodup
    have hnew : last ∉ init := fun hm => hdisjoint last hm last List.mem_cons_self rfl
    have hlastInert := hinert last (by simp)
    have hother : s.otherOn tag init := by
      obtain ⟨x, hx, hstate, htag, -⟩ := hlastInert
      obtain ⟨hmem, hid⟩ := State.order_mem hx
      exact ⟨x, hmem, htag, by rcases hstate with e | e <;> rw [e] <;> decide, hid ▸ hnew⟩
    have hfirst := reaches_cancels (q := q) hinit hother fun id hid => hinert id (List.mem_append_left _ hid)
    have hthen := reaches_cancel_inert (q := q) (inertOn_endAll (x := .cancelled) hlastInert hnew)
    have hjoined : (s.endAll init .cancelled).endAll [last] .cancelled = s.endAll (init ++ [last]) .cancelled :=
      (endAll_single _ _ _).symm.trans (endAll_snoc _ _ _ hnew)
    rw [hjoined] at hthen
    obtain ⟨hfree, hcheck⟩ := reaches_check_last (q := q) (v := s.endAll (init ++ [last]) .cancelled) h rfl
      (not_busyOn_endAll h.only)
    rw [hfree] at hthen
    rw [List.map_append]
    refine ((hfirst.append hthen).append hcheck).mono ?_
    rw [List.length_append, List.length_singleton]
    omega

end Sys2Proof.Machine
end

section
set_option Elab.async false
/-! PROOFS. RETIRE-PILE (R18 to R20). -/

namespace Sys2Proof.Machine

/-! ## Orders told by their ids -/

theorem ids_mapOrder (s : State) (id : Nat) {f : Order → Order} (hf : ∀ o, (f o).id = o.id) :
    ((s.mapOrder id f).dispatch.orders.map fun o => o.id) = s.dispatch.orders.map fun o => o.id := by
  rw [State.mapOrder, List.map_map]
  refine List.map_congr_left fun o _ => ?_
  dsimp only [Function.comp]
  split
  · exact hf o
  · rfl

theorem ids_closePass (s : State) (o : Order) :
    ((s.closePass o).1.dispatch.orders.map fun o => o.id) = s.dispatch.orders.map fun o => o.id := by
  have hbound : ∀ (t : State) (c : Cannon) (f : Pass → Pass),
      ((t.mapBoundPass c f).dispatch.orders.map fun o => o.id) = t.dispatch.orders.map fun o => o.id := fun t c f => by
    rw [State.mapBoundPass]
    split
    · exact ids_mapOrder t _ fun _ => rfl
    · rfl
  rcases closePass_cases s o with ⟨-, h⟩ | ⟨p, -, -, h⟩ <;> rw [h]
  have hplace : (s.placeClose p.cannon).dispatch = s.dispatch := by
    rw [State.placeClose]
    split <;> rfl
  generalize hu : s.placeClose p.cannon = u at hplace
  rcases closeDown_cases s p.cannon with ⟨h, -⟩ | ⟨c, -, ⟨-, h⟩ | ⟨-, -, h⟩ | ⟨-, -, h⟩⟩ <;> rw [h]
  · rw [State.rampDown]
    split
    · rw [hbound, hu, ← hplace]
      rfl
    · rfl
  · rw [hu, ← hplace]
    rfl
  · rw [hu, ← hplace]
    rcases releaseHeader_cases (u.mapCannon p.cannon Cannon.unbound) p.cannon with ⟨-, -, -, h⟩ | ⟨-, h⟩ <;> (rw [h]; rfl)

/-- Orders with ids of their own are told by what stands under each id. -/
theorem orders_eq_map {s t : State} {f : Order → Order} (hids : (t.dispatch.orders.map fun o => o.id) = s.dispatch.orders.map fun o => o.id)
    (hnodup : (s.dispatch.orders.map fun o => o.id).Nodup) (h : ∀ o ∈ s.dispatch.orders, t.order? o.id = some (f o)) :
    t.dispatch.orders = s.dispatch.orders.map f := by
  have hself : ∀ o ∈ t.dispatch.orders, t.order? o.id = some o := fun o ho => order?_of_mem (hids ▸ hnodup) ho
  have hsome : t.dispatch.orders.map some = (s.dispatch.orders.map f).map some := by
    calc t.dispatch.orders.map some
        = t.dispatch.orders.map fun o => t.order? o.id := (List.map_congr_left hself).symm
      _ = (t.dispatch.orders.map fun o => o.id).map t.order? := by rw [List.map_map]; rfl
      _ = (s.dispatch.orders.map fun o => o.id).map t.order? := by rw [hids]
      _ = s.dispatch.orders.map fun o => t.order? o.id := by rw [List.map_map]; rfl
      _ = s.dispatch.orders.map fun o => some (f o) := List.map_congr_left h
      _ = (s.dispatch.orders.map f).map some := by rw [List.map_map]; rfl
  exact List.map_injective_iff.2 (Option.some_injective _) hsome

/-! ## The order whose pass runs -/

/-- The cancellation of an order with a spraying pass, or one that ramps down: it stays open, its pass ramping down. -/
theorem cancel_running {s : State} {o : Order} {p : Pass} {c : Cannon} {n : Node}
    (hnodup : (s.dispatch.orders.map fun o => o.id).Nodup) (ho : s.order? o.id = some o) (ha : o.state = .active)
    (hcancel : o.cancelPending = false) (hpass : o.pass = some p) (hc : s.cannon? p.cannon = some c) (hb : c.bound = some o.id)
    (hn : s.node? c.config.node = some n)
    (hstates : (p.state = .spraying ∧ c.state = .spraying) ∨ (p.state = .rampDown ∧ c.state = .rampDown)) :
    ∃ v : State, s.cancel o.id = (v, [])
      ∧ v.dispatch.orders = s.dispatch.orders.map (fun x =>
        if x.id = o.id then { x with cancelPending := true, pass := some p.ramping } else x)
      ∧ v.cannon? p.cannon = some (if c.state = .rampDown then c else c.ramping)
      ∧ (∀ k, k ≠ p.cannon → v.cannon? k = s.cannon? k)
      ∧ v.node? c.config.node = some (if c.state = .rampDown then n else { n with slot := some .close })
      ∧ (∀ k, k ≠ c.config.node → v.node? k = s.node? k)
      ∧ v = { s with
        cannons := v.cannons, dispatch := { s.dispatch with orders := v.dispatch.orders }
        loop := { s.loop with nodes := v.loop.nodes } } := by
  have hx := order?_mapOrder_self (f := fun o : Order => { o with cancelPending := true }) ho fun _ => rfl
  obtain ⟨v, hv, hself, hother, hcannon, hcannons, hnode, hnodes, hframe⟩ := closePass_of_running hpass hx
    (show ({ o with cancelPending := true } : Order).pass = some p from hpass) hc hb hn hstates
  have hids : (v.dispatch.orders.map fun o => o.id) = s.dispatch.orders.map fun o => o.id := by
    have h := ids_closePass (s.mapOrder o.id fun o => { o with cancelPending := true }) o
    rw [hv] at h
    exact h.trans (ids_mapOrder s o.id fun _ => rfl)
  refine ⟨v, (cancel_of_active ho ha hcancel).trans hv, orders_eq_map hids hnodup fun x hxmem => ?_, hcannon, hcannons, hnode,
    hnodes, hframe⟩
  by_cases hid : x.id = o.id
  · have hxo : x = o := List.inj_on_of_nodup_map hnodup hxmem (State.order_mem ho).1 hid
    rw [if_pos hid, hxo]
    exact hself
  · rw [if_neg hid, hother x.id hid, order?_mapOrder_of_ne (f := fun o : Order => { o with cancelPending := true })
      (fun _ => rfl) hid]
    exact order?_of_mem hnodup hxmem

/-- An abandonment in aim phase SLEWING, whatever slot the cannon holds. -/
theorem closeDown_slewing_any {s : State} {n id : Nat} {c : Cannon} (hc : s.cannon? n = some c) (hs : c.state = .aiming)
    (hb : c.bound = some id) (hphase : c.aimPhase ≠ some .opening) : ∃ (f : Cannon → Cannon) (k : Nat), f c = c.slewedOff ∧
      s.closeDown n = (s.closingDue n c.config.node f k, [.passEnd id .abandoned 0]) := by
  by_cases hheader : c.header = none
  · have hself : ((s.placeStop c.config.node .close).mapCannon n Cannon.unbound).cannon? n = some c.unbound :=
      cannon_closing_self (f := Cannon.unbound) hc
    have hrelease := releaseHeader_of_none hself (show c.unbound.header = none from hheader)
    refine ⟨fun c => { c.unbound with state := .idle, aimPhase := none }, 1, ?_, ?_⟩
    · rw [Cannon.slewedOff, show ({ c.unbound with header := none, state := .idle, aimPhase := none } : Cannon)
        = { c.unbound with header := c.header, state := .idle, aimPhase := none } by rw [hheader]]
      rfl
    · simp only [State.closeDown, hc, hs, placeClose_of_some hc, if_neg hphase, Cannon.passEndTasks, hb, hrelease, State.toIdle,
        mapCannon_mapCannon]
      rfl
  · exact ⟨Cannon.slewedOff, 2, rfl, closeDown_of_slewing hc hs hb hphase hheader⟩

end Sys2Proof.Machine
end

section
set_option Elab.async false
/-! PROOFS. RETIRE-PILE: its refusals, and what becomes of the pile's orders (R18 to R20). -/

namespace Sys2Proof.Machine

/-- A pile enters RETIRING. -/
def State.retiring (s : State) (slot : Nat) : State := s.openEvent.mapPile slot fun p => { p with life := .retiring }

section
variable {s : State} {tag : Half} {slot : Nat} {p : Pile}

theorem retirePile_of_unknown (h : s.pileAt? tag.toNat = none) :
    s.retirePile tag = s.answer Code.retirePile .unknown [] := by
  simp only [State.retirePile, h]

theorem retirePile_of_retiring (h : s.pileAt? tag.toNat = some (slot, p)) (hl : p.life = .retiring) :
    s.retirePile tag = s.answer Code.retirePile .retiring [] := by
  simp only [State.retirePile, h, if_pos hl]

theorem permitsOn_eq_nil_iff (s : State) (tag : Nat) : s.permitsOn tag = [] ↔ ∀ x ∈ s.permits.list, x.tag ≠ tag := by
  rw [State.permitsOn, List.filter_eq_nil_iff]
  simp

theorem retirePile_of_inUse (h : s.pileAt? tag.toNat = some (slot, p)) (hl : p.life = .live)
    (hx : ∃ x ∈ s.permits.list, x.tag = tag.toNat) : s.retirePile tag = s.answer Code.retirePile .inUse [] := by
  have hne : s.permitsOn tag.toNat ≠ [] := fun hnil => by
    obtain ⟨x, hx, htag⟩ := hx
    exact (permitsOn_eq_nil_iff s tag.toNat).1 hnil x hx htag
  simp only [State.retirePile, h, if_neg (show ¬ p.life = .retiring by rw [hl]; decide), if_pos hne]

/-- RETIRE-PILE taken: what its tellings reach is what the reply tells. -/
theorem retirePile_of_taken (h : s.pileAt? tag.toNat = some (slot, p)) (hl : p.life = .live)
    (hno : ∀ x ∈ s.permits.list, x.tag ≠ tag.toNat) {here : List Order} (hhere : s.openOn tag.toNat = here) {t : State} {k : Nat}
    (hrun : Reaches none ((here.map fun o => o.id).map Task.cancel ++ [.checkFree tag.toNat]) (s.retiring slot) k t)
    (hk : k ≤ 4096) : exec (.retirePile tag) s = .next (t.answer 0x17 .ok (be8 here.length ++ be8 (t.openOn tag.toNat).length
      ++ be8 (((t.pileAt? tag.toNat).map fun e => e.2.life.code).getD 0))) := by
  have hnil : ¬ s.permitsOn tag.toNat ≠ [] := not_not.2 ((permitsOn_eq_nil_iff s tag.toNat).2 hno)
  have hsettled := hrun.settled_eq hk
  rw [List.map_map] at hsettled
  refine congrArg Host.Outcome.next ?_
  simp only [State.retirePile, h, if_neg (show ¬ p.life = .retiring by rw [hl]; decide), if_neg hnil]
  rw [hhere, ← hsettled]
  rfl

theorem retiring_pileAt (h : s.pileAt? tag.toNat = some (slot, p)) :
    (s.retiring slot).pileAt? tag.toNat = some (slot, { p with life := .retiring }) :=
  pileAt_mapPile (s := s.openEvent) (f := fun p => { p with life := .retiring }) h fun _ => rfl

theorem retiring_tags (hnodup : (s.piles.map fun e => e.2.tag).Nodup) :
    ((s.retiring slot).piles.map fun e => e.2.tag).Nodup := by
  have : ((s.retiring slot).piles.map fun e => e.2.tag) = s.piles.map fun e => e.2.tag := by
    change ((Table.update s.piles slot fun p => { p with life := .retiring }).map fun e => e.2.tag) = _
    rw [Table.update_eq_map, List.map_map]
    refine List.map_congr_left fun e _ => ?_
    dsimp only [Function.comp]
    split <;> rfl
  rwa [this]

theorem mem_openOn {o : Order} {tag : Nat} : o ∈ s.openOn tag ↔ o ∈ s.dispatch.orders ∧ o.tag = tag ∧ o.state ≠ .ended := by
  rw [State.openOn, List.mem_filter, Bool.and_eq_true, beq_iff_eq, isOpen_iff]

theorem retiresOn (h : s.pileAt? tag.toNat = some (slot, p)) (hnodup : (s.piles.map fun e => e.2.tag).Nodup) :
    (s.retiring slot).RetiresOn tag.toNat slot ((s.openOn tag.toNat).map fun o => o.id) where
  pile := ⟨_, retiring_pileAt h, rfl⟩
  tags := retiring_tags hnodup
  only _ hy htag hopen := List.mem_map_of_mem (mem_openOn.2 ⟨hy, htag, hopen⟩)

theorem inertOn_retiring (hids : (s.dispatch.orders.map fun o => o.id).Nodup) {o : Order} (ho : o ∈ s.openOn tag.toNat)
    (hinert : o.state = .waiting ∨ o.state = .volleyHeld)
    (hnames : o.origin = .prewet → ∀ x ∈ s.permits.list, x.prewetOrder ≠ some o.id) :
    (s.retiring slot).inertOn tag.toNat o.id := by
  obtain ⟨hmem, htag, -⟩ := mem_openOn.1 ho
  refine ⟨o, order?_of_mem hids hmem, hinert, htag, fun horigin x hx => ?_⟩
  rw [names_eq]
  exact decide_eq_false fun hn => hnames horigin x hx hn.2

theorem openOn_nodup (hids : (s.dispatch.orders.map fun o => o.id).Nodup) (tag : Nat) :
    ((s.openOn tag).map fun o => o.id).Nodup := (List.filter_sublist.map _).nodup hids

theorem openOn_length (s : State) (tag : Nat) : (s.openOn tag).length ≤ s.dispatch.orders.length := List.length_filter_le _ _

theorem openOn_freed {v : State} (h : ¬ v.busyOn tag.toNat) : (v.freed slot).openOn tag.toNat = [] :=
  (openOn_eq_nil_iff v tag.toNat).2 h

/-- The pile's orders, all of which wait or are held, end, and the slot is freed. -/
theorem retirePile_of_inert (h : s.pileAt? tag.toNat = some (slot, p)) (hl : p.life = .live)
    (hno : ∀ x ∈ s.permits.list, x.tag ≠ tag.toNat) (htags : (s.piles.map fun e => e.2.tag).Nodup) {here : List Order}
    (hhere : s.openOn tag.toNat = here) (hnodup : (here.map fun o => o.id).Nodup) (hlen : here.length ≤ 1000)
    (hinert : ∀ o ∈ here, (s.retiring slot).inertOn tag.toNat o.id) :
    exec (.retirePile tag) s = .next ((((s.retiring slot).endAll (here.map fun o => o.id) .cancelled).freed slot).answer 0x17 .ok
      (be8 here.length ++ [0, 0])) := by
  have hretires := retiresOn h htags
  rw [hhere] at hretires
  have hrun := reaches_retired (q := none) hretires hnodup fun id hid => by
    obtain ⟨o, ho, rfl⟩ := List.mem_map.1 hid
    exact hinert o ho
  refine (retirePile_of_taken h hl hno hhere hrun (by rw [List.length_map]; omega)).trans ?_
  rw [openOn_freed (not_busyOn_endAll hretires.only), pileAt_erase (s := s.retiring slot) (retiring_pileAt h)
    hretires.tags rfl]
  rfl

end

theorem piles_freed_retiring (s : State) (slot : Nat) (ids : List Nat) (x : OrderOutcome) :
    (((s.retiring slot).endAll ids x).freed slot).piles = Table.erase s.piles slot :=
  erase_update_self s.piles slot fun p : Pile => { p with life := .retiring }

end Sys2Proof.Machine
end

section
set_option Elab.async false
/-! PROOFS. RETIRE-PILE of a pile whose orders wait or are held (R19, R20). -/

namespace Sys2Proof.Machine

section
variable {s : State} {tag : Half} {slot : Nat} {p : Pile}

/-- A pile with neither permits nor open orders leaves its slot at once. -/
theorem retirePile_of_bare (h : s.pileAt? tag.toNat = some (slot, p)) (hl : p.life = .live)
    (hno : ∀ x ∈ s.permits.list, x.tag ≠ tag.toNat) (htags : (s.piles.map fun e => e.2.tag).Nodup)
    (hended : ∀ o ∈ s.dispatch.orders, o.tag = tag.toNat → o.state = .ended) :
    ∃ t, exec (.retirePile tag) s = .next t
      ∧ t = { s with
          port := s.replied .ok 0x17 [0, 0, 0], piles := Table.erase s.piles slot
          notices := s.notices.hand .pile slot, events := t.events }
      ∧ t.pileAt? tag.toNat = none := by
  have hnil : s.openOn tag.toNat = [] := (openOn_eq_nil_iff s tag.toNat).2 fun ⟨y, hy, htag, hopen⟩ => hopen (hended y hy htag)
  have hexec := retirePile_of_inert h hl hno htags hnil List.nodup_nil (by simp) (fun o ho => absurd ho List.not_mem_nil)
  rw [List.map_nil, endAll_nil] at hexec
  have hpiles : ((s.retiring slot).freed slot).piles = Table.erase s.piles slot :=
    erase_update_self s.piles slot fun p : Pile => { p with life := .retiring }
  exact ⟨_, hexec, congrArg (fun l : Table Pile => ({ s with
    port := s.replied .ok 0x17 [0, 0, 0], piles := l
    notices := s.notices.hand .pile slot, events := s.events + 1 } : State)) hpiles, pileAt_erase h htags hpiles⟩

/-- Its one open order, a host order that waits, ends CANCELLED. -/
theorem retirePile_of_lone {o : Order} (h : s.pileAt? tag.toNat = some (slot, p)) (hl : p.life = .live)
    (hno : ∀ x ∈ s.permits.list, x.tag ≠ tag.toNat) (htags : (s.piles.map fun e => e.2.tag).Nodup)
    (hhere : s.openOn tag.toNat = [o]) (hids : (s.dispatch.orders.map fun o => o.id).Nodup) (hw : o.state = .waiting)
    (horigin : o.origin = .host) :
    ∃ t, exec (.retirePile tag) s = .next t
      ∧ t.port = s.replied .ok 0x17 [1, 0, 0] ∧ t.piles = Table.erase s.piles slot
      ∧ t.notices = (s.notices.hand .order o.id).hand .pile slot
      ∧ t.order? o.id = some { o with
          state := .ended, outcome := some .cancelled, endedMinute := some s.clock.minute
          endedEvent := t.events, starved := false }
      ∧ t = { s with
          port := t.port, piles := t.piles, notices := t.notices, events := t.events
          dispatch := { s.dispatch with orders := t.dispatch.orders } } := by
  have ho : o ∈ s.openOn tag.toNat := hhere ▸ List.mem_cons_self
  have hexec := retirePile_of_inert h hl hno htags hhere (List.nodup_singleton _) (by simp) fun x hx => by
    obtain rfl := List.mem_singleton.1 hx
    exact inertOn_retiring hids ho (.inl hw) fun e => by rw [horigin] at e; cases e
  refine ⟨_, hexec, rfl, piles_freed_retiring s slot [o.id] .cancelled, rfl, ?_, rfl⟩
  have hfound : (s.retiring slot).order? o.id = some o := order?_of_mem hids (mem_openOn.1 ho).1
  have hended := order?_endAll (s.retiring slot) [o.id] .cancelled o.id
  rw [hfound, Option.map_some, if_pos List.mem_cons_self] at hended
  exact hended

/-- The orders open on a pile, told as the statement tells them. -/
theorem openOn_eq (s : State) (tag : Nat) :
    s.openOn tag = s.dispatch.orders.filter fun o => decide (o.tag = tag ∧ o.state ≠ .ended) := by
  refine List.filter_congr fun o _ => ?_
  rw [Bool.eq_iff_iff, Bool.and_eq_true, beq_iff_eq, isOpen_iff, decide_eq_true_iff]

/-- Whether an order's id is among those of the orders open on a pile. -/
theorem id_mem_openOn (hids : (s.dispatch.orders.map fun o => o.id).Nodup) {o : Order} (ho : o ∈ s.dispatch.orders) (tag : Nat) :
    o.id ∈ (s.openOn tag).map (fun o => o.id) ↔ o.tag = tag ∧ o.state ≠ .ended := by
  constructor
  · intro h
    obtain ⟨y, hy, hid⟩ := List.mem_map.1 h
    obtain ⟨hmem, hrest⟩ := mem_openOn.1 hy
    rwa [← List.inj_on_of_nodup_map hids hmem ho hid]
  · exact fun h => List.mem_map_of_mem (mem_openOn.2 ⟨ho, h⟩)

/-- Its open orders, all of which wait or are held, end CANCELLED. -/
theorem retirePile_of_waiting (h : s.pileAt? tag.toNat = some (slot, p)) (hl : p.life = .live)
    (hno : ∀ x ∈ s.permits.list, x.tag ≠ tag.toNat) (htags : (s.piles.map fun e => e.2.tag).Nodup)
    (hids : (s.dispatch.orders.map fun o => o.id).Nodup) (hlen : s.dispatch.orders.length ≤ 32) {here : List Order}
    (hhere : s.openOn tag.toNat = here) (hnames : ∀ o ∈ here, ∀ x ∈ s.permits.list, x.prewetOrder ≠ some o.id)
    (hinert : ∀ o ∈ here, o.state = .waiting ∨ o.state = .volleyHeld) :
    ∃ t, exec (.retirePile tag) s = .next t
      ∧ t.port = s.replied .ok 0x17 (be8 here.length ++ [0, 0])
      ∧ t = { s with
          port := t.port, piles := Table.erase s.piles slot, notices := t.notices, events := t.events
          dispatch := { s.dispatch with orders := s.dispatch.orders.map fun o =>
            if o.tag = tag.toNat ∧ o.state ≠ .ended then { o with
              state := .ended, outcome := some .cancelled, endedMinute := some s.clock.minute
              endedEvent := t.events, starved := false } else o } }
      ∧ (∀ k, k ∈ t.notices.orders ↔ k ∈ s.notices.orders ∨ ∃ o ∈ here, o.id = k)
      ∧ t.notices = { s.notices.hand .pile slot with
          orders := t.notices.orders
          flags := { s.notices.flags with
            pile := s.notices.flags.pile || s.notices.piles.isEmpty
            order := s.notices.flags.order || (s.notices.orders.isEmpty && !here.isEmpty) } } := by
  subst hhere
  have hexec := retirePile_of_inert h hl hno htags rfl (openOn_nodup hids _) (by have := openOn_length s tag.toNat; omega)
    fun o ho => inertOn_retiring hids ho (hinert o ho) fun _ => hnames o ho
  have horders : (s.dispatch.orders.map fun o => if o.id ∈ (s.openOn tag.toNat).map (fun o => o.id) then
      o.ended .cancelled s.clock.minute (s.events + 1) else o) = s.dispatch.orders.map fun o =>
        if o.tag = tag.toNat ∧ o.state ≠ .ended then o.ended .cancelled s.clock.minute (s.events + 1) else o :=
    List.map_congr_left fun o ho => if_congr (id_mem_openOn hids ho tag.toNat) rfl rfl
  have hhanded : (((s.retiring slot).endAll ((s.openOn tag.toNat).map fun o => o.id) .cancelled).freed slot).notices
      = (s.notices.handAll .order ((s.openOn tag.toNat).map fun o => o.id)).hand .pile slot := rfl
  rw [Notices.handAll_order] at hhanded
  refine ⟨_, hexec, rfl, ?_, fun k => ?_, ?_⟩
  · exact congrArg₂ (fun (l : List Order) (t : Table Pile) => ({ s with
      port := s.replied .ok 0x17 (be8 (s.openOn tag.toNat).length ++ [0, 0]), piles := t
      notices := (s.notices.handAll .order ((s.openOn tag.toNat).map fun o => o.id)).hand .pile slot, events := s.events + 1
      dispatch := { s.dispatch with orders := l } } : State)) horders
        (erase_update_self s.piles slot fun p : Pile => { p with life := .retiring })
  · rw [show ∀ t : State, (t.answer 0x17 .ok (be8 (s.openOn tag.toNat).length ++ [0, 0])).notices = t.notices from fun _ => rfl,
      hhanded]
    refine mem_insertKeys.trans (or_congr_right ?_)
    rw [List.mem_map]
  · refine hhanded.trans ?_
    rw [show ∀ t : State, (t.answer 0x17 .ok (be8 (s.openOn tag.toNat).length ++ [0, 0])).notices = t.notices from fun _ => rfl,
      hhanded]
    simp [Notices.hand]

end

end Sys2Proof.Machine
end

section
set_option Elab.async false
/-! PROOFS. RETIRE-PILE of a pile with a pass that sprays or ramps down: that order stays open, and the pile with it (R19, R20). -/

namespace Sys2Proof.Machine

theorem ids_endAll (s : State) (ids : List Nat) (x : OrderOutcome) :
    ((s.endAll ids x).dispatch.orders.map fun o => o.id) = s.dispatch.orders.map fun o => o.id := by
  rw [State.endAll, List.map_map]
  refine List.map_congr_left fun o _ => ?_
  dsimp only [Function.comp]
  split <;> rfl

/-- The ids of a list of orders, cut at one of them. -/
theorem ids_cut {l1 l2 : List Order} {o : Order} (h : ((l1 ++ o :: l2).map fun o => o.id).Nodup) :
    (l1.map fun o => o.id).Nodup ∧ (l2.map fun o => o.id).Nodup ∧ o.id ∉ (l1.map fun o => o.id)
      ∧ o.id ∉ (l2.map fun o => o.id) ∧ ∀ k ∈ (l1.map fun o => o.id), k ∉ l2.map fun o => o.id := by
  rw [List.map_append, List.map_cons] at h
  obtain ⟨h1, h2, hdisjoint⟩ := List.nodup_append.1 h
  obtain ⟨ho, h2⟩ := List.nodup_cons.1 h2
  exact ⟨h1, h2, fun hm => hdisjoint _ hm _ List.mem_cons_self rfl, ho,
    fun k hk hk2 => hdisjoint k hk k (List.mem_cons_of_mem _ hk2) rfl⟩

/-- What becomes of the orders on a retiring pile, one of which has a running pass. -/
def Order.retired (x : Order) (l1 l2 : List Nat) (id : Nat) (q : Pass) (now event : Nat) : Order :=
  if x.id = id then { x with cancelPending := true, pass := some q.ramping }
  else if x.id ∈ l1 ∨ x.id ∈ l2 then x.ended .cancelled now event else x

/-- The orders on a retiring pile cancelled in turn, where one of them has a spraying pass or one that ramps down. -/
theorem reaches_retire_running {u : State} {tag : Nat} {l1 l2 : List Order} {o : Order} {q : Pass} {c : Cannon}
    {n : Node} (hids : (u.dispatch.orders.map fun o => o.id).Nodup)
    (hnodup : ((l1 ++ o :: l2).map fun o => o.id).Nodup) (ho : o ∈ u.dispatch.orders) (htag : o.tag = tag)
    (h1 : ∀ x ∈ l1, u.inertOn tag x.id) (h2 : ∀ x ∈ l2, u.inertOn tag x.id) (ha : o.state = .active)
    (hcancel : o.cancelPending = false) (hpass : o.pass = some q) (hc : u.cannon? q.cannon = some c) (hb : c.bound = some o.id)
    (hn : u.node? c.config.node = some n)
    (hstates : (q.state = .spraying ∧ c.state = .spraying) ∨ (q.state = .rampDown ∧ c.state = .rampDown)) :
    ∃ w : State, Reaches none (((l1 ++ o :: l2).map fun o => o.id).map Task.cancel ++ [.checkFree tag]) u
        (4 * (l1 ++ o :: l2).length + 1) w
      ∧ w.dispatch.orders = u.dispatch.orders.map (fun x =>
        x.retired (l1.map fun o => o.id) (l2.map fun o => o.id) o.id q u.now u.events)
      ∧ w.cannon? q.cannon = some (if c.state = .rampDown then c else c.ramping)
      ∧ (∀ k, k ≠ q.cannon → w.cannon? k = u.cannon? k)
      ∧ w.node? c.config.node = some (if c.state = .rampDown then n else { n with slot := some .close })
      ∧ (∀ k, k ≠ c.config.node → w.node? k = u.node? k)
      ∧ w = { u with
        cannons := w.cannons, dispatch := { u.dispatch with orders := w.dispatch.orders }
        loop := { u.loop with nodes := w.loop.nodes }
        notices := u.notices.handAll .order ((l1.map fun o => o.id) ++ l2.map fun o => o.id) } := by
  obtain ⟨hnodup1, hnodup2, ho1, ho2, hdisjoint⟩ := ids_cut hnodup
  obtain ⟨i1, hi1⟩ : ∃ i1, i1 = l1.map fun o => o.id := ⟨_, rfl⟩
  obtain ⟨i2, hi2⟩ : ∃ i2, i2 = l2.map fun o => o.id := ⟨_, rfl⟩
  rw [List.map_append, List.map_cons]
  rw [← hi1] at hnodup1 ho1 hdisjoint ⊢
  rw [← hi2] at hnodup2 ho2 hdisjoint ⊢
  have hopen : o.state ≠ .ended := by rw [ha]; decide
  have hfirst := reaches_cancels (q := none) (s := u) (tag := tag) hnodup1 ⟨o, ho, htag, hopen, ho1⟩ fun id hid => by
    rw [hi1] at hid
    obtain ⟨x, hx, rfl⟩ := List.mem_map.1 hid
    exact h1 x hx
  obtain ⟨u1, hu1⟩ : ∃ u1, u1 = u.endAll i1 .cancelled := ⟨_, rfl⟩
  rw [← hu1] at hfirst
  have hids1 : (u1.dispatch.orders.map fun o => o.id).Nodup := by rw [hu1, ids_endAll]; exact hids
  have hfound : u1.order? o.id = some o := by rw [hu1, order?_endAll_of_not_mem ho1]; exact order?_of_mem hids ho
  obtain ⟨v, hv, horders, hcannon, hcannons, hnode, hnodes, hframe⟩ := cancel_running hids1 hfound ha hcancel hpass
    (by rw [hu1]; exact hc) hb (by rw [hu1]; exact hn) hstates
  have hone : Reaches none [.cancel o.id] u1 1 v := .single hv
  have hvpermits : v.permits = u.permits := by
    rw [hframe, hu1]
    rfl
  have hvother : v.otherOn tag i2 := by
    refine ⟨{ o with cancelPending := true, pass := some q.ramping }, ?_, htag, hopen, ho2⟩
    rw [horders]
    exact List.mem_map.2 ⟨o, (State.order_mem hfound).1, if_pos rfl⟩
  have hthen := reaches_cancels (q := none) (s := v) (tag := tag) hnodup2 hvother fun id hid => by
    have hne : id ≠ o.id := fun e => ho2 (e ▸ hid)
    have h1n : id ∉ i1 := fun hm => hdisjoint id hm hid
    rw [hi2] at hid
    obtain ⟨x, hx, rfl⟩ := List.mem_map.1 hid
    obtain ⟨y, hy, hstate, hytag, hnames⟩ := h2 x hx
    refine ⟨y, ?_, hstate, hytag, by rw [hvpermits]; exact hnames⟩
    have hy1 : u1.order? x.id = some y := by rw [hu1, order?_endAll_of_not_mem h1n]; exact hy
    obtain ⟨hymem, hyid⟩ := State.order_mem hy1
    rw [← hyid]
    refine order?_of_mem ?_ ?_
    · rw [horders, List.map_map]
      have : (u1.dispatch.orders.map fun o => o.id) = u1.dispatch.orders.map
          ((fun o => o.id) ∘ fun x => if x.id = o.id then { x with cancelPending := true, pass := some q.ramping } else x) :=
        List.map_congr_left fun z _ => by dsimp only [Function.comp]; split <;> rfl
      rwa [← this]
    · rw [horders]
      exact List.mem_map.2 ⟨y, hymem, if_neg fun e => hne (hyid.symm.trans e)⟩
  have hlast : Reaches none [.checkFree tag] (v.endAll i2 .cancelled) 1 (v.endAll i2 .cancelled) :=
    .single (congrArg (·, ([] : List Task)) (checkFree_of_busy (busyOn_endAll hvother)))
  have hvnow : v.now = u.now := by
    rw [hframe, hu1]
    rfl
  have hvevents : v.events = u.events := by
    rw [hframe, hu1]
    rfl
  refine ⟨v.endAll i2 .cancelled, ?_, ?_, hcannon, fun k hk => ?_, hnode, fun k hk => ?_, ?_⟩
  · rw [List.map_append, List.map_cons]
    have hlen1 : i1.length = l1.length := by rw [hi1, List.length_map]
    have hlen2 : i2.length = l2.length := by rw [hi2, List.length_map]
    have := ((hfirst.append (hone.append hthen)).append hlast).mono (m := 4 * (l1 ++ o :: l2).length + 1) (by
      rw [List.length_append, List.length_cons]
      omega)
    exact this
  · rw [show (v.endAll i2 .cancelled).dispatch.orders = v.dispatch.orders.map fun o =>
      if o.id ∈ i2 then o.ended .cancelled v.now v.events else o from rfl, horders, hvnow, hvevents, hu1,
      show (u.endAll i1 .cancelled).dispatch.orders = u.dispatch.orders.map fun o =>
        if o.id ∈ i1 then o.ended .cancelled u.now u.events else o from rfl, List.map_map, List.map_map]
    refine List.map_congr_left fun x _ => ?_
    by_cases hid : x.id = o.id
    · simp only [Function.comp, Order.retired, hid, ho1, ho2, if_true, if_false]
    · by_cases hx1 : x.id ∈ i1
      · have hx2 := hdisjoint x.id hx1
        simp only [Function.comp, Order.retired, hx1, if_true, Order.ended, hid, if_false, hx2, true_or]
      · simp only [Function.comp, Order.retired, hx1, hid, if_false, false_or]
  · exact (hcannons k hk).trans (by rw [hu1]; rfl)
  · exact (hnodes k hk).trans (by rw [hu1]; rfl)
  · have hsplit : u.notices.handAll .order (i1 ++ i2) = (u.notices.handAll .order i1).handAll .order i2 := List.foldl_append
    rw [hsplit]
    rw [hu1] at hframe
    exact congrArg (fun z : State => { z with
      notices := z.notices.handAll .order i2
      dispatch := { z.dispatch with orders := (v.endAll i2 .cancelled).dispatch.orders } }) hframe

/-- How many orders stay open on such a pile: that one alone. -/
theorem openOn_retired {s w : State} {tag : Nat} {i1 i2 : List Nat} {o : Order} {q : Pass} {now event : Nat}
    (hids : (s.dispatch.orders.map fun o => o.id).Nodup) (ho : o ∈ s.dispatch.orders) (htag : o.tag = tag)
    (hopen : o.state ≠ .ended) (honly : ∀ x ∈ s.dispatch.orders, x.tag = tag → x.state ≠ .ended → x.id = o.id ∨ x.id ∈ i1 ∨ x.id ∈ i2)
    (hw : w.dispatch.orders = s.dispatch.orders.map fun x => x.retired i1 i2 o.id q now event) :
    (w.openOn tag).length = 1 := by
  rw [State.openOn, hw, ← List.countP_eq_length_filter, List.countP_map]
  have hone : s.dispatch.orders.countP (fun x => x.id == o.id) = 1 := by
    have := List.count_eq_one_of_mem hids (List.mem_map_of_mem (f := fun o : Order => o.id) ho)
    rwa [List.count, List.countP_map] at this
  refine (List.countP_congr fun x hx => ?_).trans hone
  dsimp only [Function.comp]
  rw [Bool.and_eq_true, beq_iff_eq, isOpen_iff, beq_iff_eq, Order.retired]
  by_cases hid : x.id = o.id
  · have hxo : x = o := List.inj_on_of_nodup_map hids hx ho hid
    rw [if_pos hid, hxo]
    exact ⟨fun _ => rfl, fun _ => ⟨htag, hopen⟩⟩
  · rw [if_neg hid]
    refine ⟨fun hon => absurd ?_ hid, fun e => absurd e hid⟩
    split_ifs at hon with hin
    · exact absurd rfl hon.2
    · exact (honly x hx hon.1 hon.2).resolve_right hin

end Sys2Proof.Machine
end

section
set_option Elab.async false
/-! PROOFS. RETIRE-PILE of a pile with a pass that still slews: its order ends with the others, and the slot is freed (R19, R20). -/

namespace Sys2Proof.Machine

theorem ids_cancelledAfter (s : State) (id : Nat) :
    ((s.cancelledAfter id).dispatch.orders.map fun o => o.id) = s.dispatch.orders.map fun o => o.id := by
  refine (ids_mapOrder _ id (f := fun o => o.ended .cancelled s.now s.events) fun _ => rfl).trans ?_
  rw [State.unpassed, dispatch_evalSpent]
  exact (ids_mapOrder _ id (f := fun o => { o with pass := none }) fun _ => rfl).trans
    (ids_mapOrder s id (f := fun o => o.creditedEnd .abandoned 0) fun _ => rfl)

/-- The cancellation of an order whose pass still slews: the pass is abandoned, the order ends, and its pile is checked. -/
theorem reaches_cancel_slewing {s : State} {o : Order} {q : Pass} {c : Cannon} (hids : (s.dispatch.orders.map fun o => o.id).Nodup)
    (ho : s.order? o.id = some o) (ha : o.state = .active) (hcancel : o.cancelPending = false) (hpass : o.pass = some q)
    (hq : q.state = .aiming) (hc : s.cannon? q.cannon = some c) (hcs : c.state = .aiming) (hb : c.bound = some o.id)
    (hphase : c.aimPhase = some .slewing) (hplan : o.plan = none) (hd : o.delivered ≤ 4294967295)
    (hpermits : ∀ x ∈ s.permits.list, x.tag ≠ o.tag)
    (horigins : ∀ x ∈ s.dispatch.orders, x.tag = o.tag → x.state ≠ .ended → x.origin ≠ .prewet) :
    ∃ (f : Cannon → Cannon) (k : Nat) (v : State), f c = c.slewedOff
      ∧ v = (s.mapOrder o.id fun o => { o with cancelPending := true }).closingDue q.cannon c.config.node f k
      ∧ Reaches none [.cancel o.id] s 7 ((v.cancelledAfter o.id).checkFree o.tag) := by
  obtain ⟨hmem, -⟩ := State.order_mem ho
  have hopen : o.state ≠ .ended := by rw [ha]; decide
  have hx := order?_mapOrder_self (f := fun o : Order => { o with cancelPending := true }) ho fun _ => rfl
  obtain ⟨f, k, hf, hdown⟩ := closeDown_slewing_any (s := s.mapOrder o.id fun o => { o with cancelPending := true }) hc hcs hb
    (by rw [hphase]; decide)
  refine ⟨f, k, _, hf, rfl, ?_⟩
  obtain ⟨v, hv⟩ : ∃ v, v = (s.mapOrder o.id fun o => { o with cancelPending := true }).closingDue q.cannon c.config.node f k :=
    ⟨_, rfl⟩
  have hvo : v.order? o.id = some { o with cancelPending := true } := by rw [hv]; exact hx
  have hvorigins : ∀ y ∈ v.dispatch.orders, y.tag = o.tag → y.state ≠ .ended → y.origin ≠ .prewet := fun y hy => by
    rw [hv] at hy
    obtain ⟨z, hz, rfl⟩ := List.mem_map.1 hy
    have hzprewet := horigins z hz
    split_ifs with hid
    · exact hzprewet
    · exact hzprewet
  have htold : doTask none (.passTold o.tag) (v.endedAfter o.id) = (v.endedAfter o.id, []) := by
    refine passTold_of_none (fun x hx => ?_) (openPrewet_of_none fun y hy htag hyopen => ?_)
    · have hx : x ∈ v.permits.list := permits_cancelledAfter v o.id ▸ hx
      rw [hv] at hx
      exact Bool.eq_false_iff.2 fun hclears => hpermits x hx ((clearsOn_iff x _).1 hclears).1
    · obtain ⟨z, hz, hzid, hztag, horigin, hsame⟩ := restates_endedAfter v o.id y hy
      rw [horigin]
      by_cases hid : z.id = o.id
      · have hvids : (v.dispatch.orders.map fun o => o.id).Nodup := by
          rw [hv]
          exact (ids_mapOrder s o.id (f := fun o : Order => { o with cancelPending := true }) fun _ => rfl) ▸ hids
        have hzo := order?_of_mem hvids hz
        rw [hid, hvo] at hzo
        rw [← Option.some.inj hzo]
        exact horigins o hmem rfl hopen
      · exact hvorigins z hz (hztag.symm.trans htag) (hsame hid ▸ hyopen)
  have hended : (v.endedAfter o.id).order? o.id = some { o with
      pass := none, lastEnd := some .abandoned, state := .ended, outcome := some .cancelled, endedMinute := some v.now
      endedEvent := v.events, starved := false, cancelPending := true } := order?_cancelledAfter hvo hplan hd
  have hend := reaches_orderEnded_free (q := none) hended fun hprewet => absurd hprewet (horigins o hmem rfl hopen)
  have hpassEnd := reaches_abandoned_ends hvo hplan hd rfl htold hend
  rw [← hv] at hdown
  have hdo : doTask none (.cancel o.id) s = (v, [.passEnd o.id .abandoned 0]) :=
    (cancel_of_active ho ha hcancel).trans ((closePass_of_some hpass (by rw [hq]; decide)).trans hdown)
  rw [← hv]
  exact .one hdo hpassEnd

end Sys2Proof.Machine
end

section
set_option Elab.async false
/-! PROOFS. RETIRE-PILE of a pile with a pass that still slews: all its orders end, and the slot is freed (R19, R20). -/

namespace Sys2Proof.Machine

/-- A pile whose orders all end while one of them abandons its pass: the tellings, and what is left. -/
theorem reaches_retire_slewing {u : State} {tag slot : Nat} {l1 l2 : List Order} {o : Order} {q : Pass} {c : Cannon} {n : Node}
    (hretires : u.RetiresOn tag slot ((l1 ++ o :: l2).map fun o => o.id))
    (hids : (u.dispatch.orders.map fun o => o.id).Nodup) (hnodup : ((l1 ++ o :: l2).map fun o => o.id).Nodup)
    (ho : o ∈ u.dispatch.orders) (htag : o.tag = tag) (h1 : ∀ x ∈ l1, u.inertOn tag x.id) (h2 : ∀ x ∈ l2, u.inertOn tag x.id)
    (ha : o.state = .active) (hcancel : o.cancelPending = false) (hpass : o.pass = some q) (hq : q.state = .aiming)
    (hc : u.cannon? q.cannon = some c) (hcs : c.state = .aiming) (hb : c.bound = some o.id) (hphase : c.aimPhase = some .slewing)
    (hn : u.node? c.config.node = some n) (hplan : o.plan = none) (hd : o.delivered ≤ 4294967295)
    (hpermits : ∀ x ∈ u.permits.list, x.tag ≠ tag)
    (horigins : ∀ x ∈ u.dispatch.orders, x.tag = tag → x.state ≠ .ended → x.origin ≠ .prewet) :
    ∃ w : State, Reaches none (((l1 ++ o :: l2).map fun o => o.id).map Task.cancel ++ [.checkFree tag]) u
        (4 * (l1 ++ o :: l2).length + 4) w
      ∧ w.piles = Table.erase u.piles slot ∧ ¬ w.busyOn tag ∧ w.port = u.port ∧ w.events = u.events
      ∧ w.order? o.id = some { o with
          state := .ended, cancelPending := true, pass := none, lastEnd := some .abandoned
          starved := false, outcome := some .cancelled, endedMinute := some u.now, endedEvent := u.events }
      ∧ (∀ x ∈ u.dispatch.orders, x.id ∈ (l1.map fun o => o.id) ∨ x.id ∈ (l2.map fun o => o.id) →
        w.order? x.id = some (x.ended .cancelled u.now u.events))
      ∧ w.cannon? q.cannon = some c.slewedOff
      ∧ w.node? c.config.node = some { n with slot := some .close }
      ∧ w.notices.orders = insertKeys (insertKey (insertKeys u.notices.orders (l1.map fun o => o.id)) o.id)
        (l2.map fun o => o.id)
      ∧ slot ∈ w.notices.piles := by
  obtain ⟨hnodup1, hnodup2, ho1, ho2, hdisjoint⟩ := ids_cut hnodup
  obtain ⟨i1, hi1⟩ : ∃ i1, i1 = l1.map fun o => o.id := ⟨_, rfl⟩
  obtain ⟨i2, hi2⟩ : ∃ i2, i2 = l2.map fun o => o.id := ⟨_, rfl⟩
  rw [List.map_append, List.map_cons] at hretires ⊢
  rw [← hi1] at hnodup1 ho1 hdisjoint hretires ⊢
  rw [← hi2] at hnodup2 ho2 hdisjoint hretires ⊢
  have hopen : o.state ≠ .ended := by rw [ha]; decide
  have hfirst := reaches_cancels (q := none) (s := u) (tag := tag) hnodup1 ⟨o, ho, htag, hopen, ho1⟩ fun id hid => by
    rw [hi1] at hid
    obtain ⟨x, hx, rfl⟩ := List.mem_map.1 hid
    exact h1 x hx
  have hids1 : ((u.endAll i1 .cancelled).dispatch.orders.map fun o => o.id).Nodup := by rw [ids_endAll]; exact hids
  have hfound : (u.endAll i1 .cancelled).order? o.id = some o := by
    rw [order?_endAll_of_not_mem ho1]
    exact order?_of_mem hids ho
  obtain ⟨f, k, v, hf, hv, hcancelled⟩ := reaches_cancel_slewing (s := u.endAll i1 .cancelled) hids1 hfound ha hcancel hpass hq
    hc hcs hb hphase hplan hd (fun x hx => htag ▸ hpermits x hx) fun x hx hxtag hxopen => by
      obtain ⟨y, hy, rfl⟩ := List.mem_map.1 hx
      split_ifs at hxopen hxtag ⊢ with hid
      · exact absurd rfl hxopen
      · exact horigins y hy (hxtag.trans htag) hxopen
  rw [htag] at hcancelled
  obtain ⟨z, hz⟩ : ∃ z, z = v.cancelledAfter o.id := ⟨_, rfl⟩
  have hvo : v.order? o.id = some { o with cancelPending := true } := by
    rw [hv]
    exact order?_mapOrder_self (f := fun o : Order => { o with cancelPending := true }) hfound fun _ => rfl
  have hzo : z.order? o.id = some { o with
      state := .ended, cancelPending := true, pass := none, lastEnd := some .abandoned
      starved := false, outcome := some .cancelled, endedMinute := some u.now, endedEvent := u.events } := by
    rw [hz, order?_cancelledAfter hvo hplan hd, hv]
    rfl
  have hzother : ∀ j, j ≠ o.id → z.order? j = (u.endAll i1 .cancelled).order? j := fun j hj => by
    rw [hz, order?_cancelledAfter_of_ne hj, hv]
    exact order?_mapOrder_of_ne (s := u.endAll i1 .cancelled) (f := fun o : Order => { o with cancelPending := true })
      (fun _ => rfl) hj
  have hzids : (z.dispatch.orders.map fun o => o.id).Nodup := by
    have : (z.dispatch.orders.map fun o => o.id) = (u.endAll i1 .cancelled).dispatch.orders.map fun o => o.id := by
      rw [hz, ids_cancelledAfter, hv]
      exact ids_mapOrder (u.endAll i1 .cancelled) o.id (f := fun o : Order => { o with cancelPending := true }) fun _ => rfl
    rw [this]
    exact hids1
  have hzpiles : z.piles = u.piles := by
    rw [hz, piles_cancelledAfter, hv]
    rfl
  have hzpermits : z.permits = u.permits := by
    rw [hz, permits_cancelledAfter, hv]
    rfl
  have hznow : z.now = u.now := by
    rw [hz]
    refine (congrArg Clock.minute (clock_evalSpent _)).trans ?_
    rw [hv]
    rfl
  have hzevents : z.events = u.events := by
    rw [hz]
    refine (events_evalSpent _).trans ?_
    rw [hv]
    rfl
  have hzport : z.port = u.port := by
    rw [hz, port_cancelledAfter, hv]
    rfl
  have hzrest : z.RetiresOn tag slot i2 := by
    refine ⟨?_, by rw [hzpiles]; exact hretires.tags, fun y hy hytag hyopen => ?_⟩
    · obtain ⟨p, hp, hlife⟩ := hretires.pile
      exact ⟨p, by rw [State.pileAt?, hzpiles]; exact hp, hlife⟩
    · have hself := order?_of_mem hzids hy
      by_cases hid : y.id = o.id
      · rw [hid, hzo] at hself
        exact absurd (congrArg Order.state (Option.some.inj hself)).symm hyopen
      · rw [hzother y.id hid, order?_endAll] at hself
        obtain ⟨x, hx, hxy⟩ := Option.map_eq_some_iff.1 hself
        obtain ⟨hxmem, hxid⟩ := State.order_mem hx
        split_ifs at hxy with hin
        · exact absurd (congrArg Order.state hxy).symm hyopen
        · have hmem := hretires.only x hxmem (by rw [hxy]; exact hytag) (by rw [hxy]; exact hyopen)
          rw [hxid] at hmem hin
          exact (List.mem_cons.1 ((List.mem_append.1 hmem).resolve_left hin)).resolve_left hid
  have hzinert : ∀ id ∈ i2, z.inertOn tag id := fun id hid => by
    have hne : id ≠ o.id := fun e => ho2 (e ▸ hid)
    have hn1 : id ∉ i1 := fun hm => hdisjoint id hm hid
    have hid' := hid
    rw [hi2] at hid'
    obtain ⟨x, hx, rfl⟩ := List.mem_map.1 hid'
    obtain ⟨y, hy, hrest⟩ := h2 x hx
    exact ⟨y, (hzother _ hne).trans ((order?_endAll_of_not_mem hn1).trans hy), by rw [hzpermits]; exact hrest⟩
  have hchain : Reaches none (Task.cancel o.id :: (i2.map Task.cancel ++ [.checkFree tag])) (u.endAll i1 .cancelled)
      (4 * i2.length + 8) ((z.endAll i2 .cancelled).freed slot) := by
    rw [← hz] at hcancelled
    rcases i2.eq_nil_or_concat with hnil | ⟨init, last, hlast⟩
    · obtain ⟨hfree, hcheck⟩ := reaches_check_last (q := none) (v := z) hzrest rfl fun ⟨y, hy, hytag, hyopen⟩ => by
        have := hzrest.only y hy hytag hyopen
        rw [hnil] at this
        exact absurd this List.not_mem_nil
      rw [hfree] at hcancelled
      rw [hnil, endAll_nil]
      exact hcancelled.cons hcheck
    · have hmem : last ∈ i2 := by rw [hlast]; simp
      have hbusy : z.busyOn tag := by
        obtain ⟨y, hy, hstate, hytag, -⟩ := hzinert last hmem
        exact ⟨y, (State.order_mem hy).1, hytag, by rcases hstate with e | e <;> rw [e] <;> decide⟩
      rw [checkFree_of_busy hbusy] at hcancelled
      exact (hcancelled.cons (reaches_retired hzrest hnodup2 hzinert)).mono (by omega)
  have hlen1 : i1.length = l1.length := by rw [hi1, List.length_map]
  have hlen2 : i2.length = l2.length := by rw [hi2, List.length_map]
  refine ⟨(z.endAll i2 .cancelled).freed slot, ?_, ?_, ?_, hzport, hzevents, ?_, fun x hx hin => ?_, ?_, ?_, ?_, ?_⟩
  · rw [List.map_append, List.map_cons, List.append_assoc, List.cons_append]
    refine (hfirst.append hchain).mono ?_
    rw [List.length_append, List.length_cons]
    omega
  · exact congrArg (Table.erase · slot) hzpiles
  · exact not_busyOn_endAll hzrest.only
  · exact (order?_endAll_of_not_mem ho2).trans hzo
  · have hne : x.id ≠ o.id := fun e => hin.elim (fun h => ho1 (e ▸ h)) fun h => ho2 (e ▸ h)
    have hself := order?_of_mem hids hx
    refine (order?_endAll z i2 .cancelled x.id).trans ?_
    rw [hzother x.id hne, order?_endAll, hself, hznow, hzevents]
    by_cases hx1 : x.id ∈ i1
    · have hx2 := hdisjoint x.id hx1
      simp [hx1, hx2, Order.ended]
    · simp [hx1, hin.resolve_left hx1]
  · refine (show _ = z.cannon? q.cannon from rfl).trans ?_
    rw [hz, cannon?_cancelledAfter, hv, ← hf]
    exact cannon_closing_self (s := (u.endAll i1 .cancelled).mapOrder o.id fun o => { o with cancelPending := true }) hc
  · refine (show _ = z.node? c.config.node from rfl).trans ?_
    rw [hz, node?_cancelledAfter, hv]
    exact node_closing_self (s := (u.endAll i1 .cancelled).mapOrder o.id fun o => { o with cancelPending := true })
      (n := q.cannon) (f := f) hn
  · have hzset : z.notices.orders = insertKey (insertKeys u.notices.orders i1) o.id := by
      rw [hz, orderSet_cancelledAfter, hv]
      exact congrArg (fun l : Notices => insertKey l.orders o.id) (Notices.handAll_order u.notices i1)
    rw [← hzset]
    exact congrArg Notices.orders (Notices.handAll_order z.notices i2)
  · exact mem_insertKey_iff.2 (.inl rfl)

end Sys2Proof.Machine
end

section
set_option Elab.async false
/-! PROOFS. RETIRE-PILE of a pile with a running pass, and the whole command (R18 to R20). -/

namespace Sys2Proof.Machine

section
variable {s : State} {tag : Half} {slot : Nat} {p : Pile}

/-- A pile with a pass that sprays or ramps down stays RETIRING, and that order open. -/
theorem retirePile_of_running (h : s.pileAt? tag.toNat = some (slot, p)) (hl : p.life = .live)
    (hno : ∀ x ∈ s.permits.list, x.tag ≠ tag.toNat) (hids : (s.dispatch.orders.map fun o => o.id).Nodup)
    (hlen : s.dispatch.orders.length ≤ 32) {here : List Order} (hhere : s.openOn tag.toNat = here)
    (hnames : ∀ o ∈ here, ∀ x ∈ s.permits.list, x.prewetOrder ≠ some o.id) {o : Order} {q : Pass} {c : Cannon} {n : Node}
    (ho : o ∈ here) (ha : o.state = .active) (hpass : o.pass = some q) (hcancel : o.cancelPending = false)
    (hrest : ∀ x ∈ here, x.id ≠ o.id → x.state = .waiting ∨ x.state = .volleyHeld) (hc : s.cannon? q.cannon = some c)
    (hb : c.bound = some o.id) (hn : s.node? c.config.node = some n)
    (hstates : (q.state = .spraying ∧ c.state = .spraying) ∨ (q.state = .rampDown ∧ c.state = .rampDown)) :
    ∃ t, exec (.retirePile tag) s = .next t
      ∧ t.port = s.replied .ok 0x17 (be8 here.length ++ [1, 2])
      ∧ t = { s with
          port := t.port, piles := Table.update s.piles slot fun x => { x with life := .retiring }
          notices := t.notices, events := t.events, cannons := t.cannons
          loop := { s.loop with nodes := t.loop.nodes }
          dispatch := { s.dispatch with orders := s.dispatch.orders.map fun x =>
            if x.id = o.id then { x with cancelPending := true, pass := some { q with state := .rampDown } }
            else if x.tag = tag.toNat ∧ x.state ≠ .ended then { x with
              state := .ended, outcome := some .cancelled, endedMinute := some s.clock.minute
              endedEvent := t.events, starved := false } else x } }
      ∧ t.cannon? q.cannon = some (if c.state = .rampDown then c else { c with
          state := .rampDown, closeWait := some (c.closeWait.getD (c.config.rampTime + 5)), blankingOn := false })
      ∧ (∀ k, k ≠ q.cannon → t.cannon? k = s.cannon? k)
      ∧ t.node? c.config.node = some (if c.state = .rampDown then n else { n with slot := some .close })
      ∧ (∀ k, k ≠ c.config.node → t.node? k = s.node? k)
      ∧ (∀ k, k ∈ t.notices.orders ↔ k ∈ s.notices.orders ∨ ∃ x ∈ here, x.id = k ∧ x.id ≠ o.id)
      ∧ t.notices = { s.notices with
          orders := t.notices.orders
          flags := { s.notices.flags with
            order := s.notices.flags.order || (s.notices.orders.isEmpty && decide (1 < here.length)) } } := by
  obtain ⟨homem, hotag, hoopen⟩ := mem_openOn.1 (hhere ▸ ho)
  obtain ⟨l1, l2, hcut⟩ := List.append_of_mem ho
  have hnodup : ((l1 ++ o :: l2).map fun o => o.id).Nodup := by rw [← hcut, ← hhere]; exact openOn_nodup hids _
  obtain ⟨-, -, ho1, ho2, -⟩ := ids_cut hnodup
  have hinert : ∀ x ∈ here, x.id ≠ o.id → (s.retiring slot).inertOn tag.toNat x.id := fun x hx hne =>
    inertOn_retiring hids (hhere ▸ hx) (hrest x hx hne) fun _ => hnames x hx
  obtain ⟨w, hrun, horders, hcannon, hcannons, hnode, hnodes, hframe⟩ := reaches_retire_running (u := s.retiring slot)
    (tag := tag.toNat) (l1 := l1) (l2 := l2) hids hnodup homem hotag
    (fun x hx => hinert x (by rw [hcut]; simp [hx]) fun e => ho1 (e ▸ List.mem_map_of_mem hx))
    (fun x hx => hinert x (by rw [hcut]; simp [hx]) fun e => ho2 (e ▸ List.mem_map_of_mem hx))
    ha hcancel hpass hc hb hn hstates
  rw [← hcut] at hrun
  have hlen' : here.length ≤ 32 := hhere ▸ (openOn_length s tag.toNat).trans hlen
  have htaken := retirePile_of_taken h hl hno hhere hrun (by omega)
  have hin : ∀ x ∈ s.dispatch.orders, (x.tag = tag.toNat ∧ x.state ≠ .ended ↔
      x.id = o.id ∨ x.id ∈ (l1.map fun o => o.id) ∨ x.id ∈ l2.map fun o => o.id) := fun x hx => by
    rw [← id_mem_openOn hids hx, hhere, hcut, List.map_append, List.mem_append, List.map_cons, List.mem_cons]
    tauto
  have hone : (w.openOn tag.toNat).length = 1 := openOn_retired hids homem hotag hoopen
    (fun x hx htag hopen => (hin x hx).1 ⟨htag, hopen⟩) horders
  have hpile : w.pileAt? tag.toNat = some (slot, { p with life := .retiring }) := by
    rw [hframe]
    exact retiring_pileAt h
  have hexec : exec (.retirePile tag) s = .next (w.answer 0x17 .ok (be8 here.length ++ [1, 2])) := by
    rw [hone, hpile, List.append_assoc] at htaken
    exact htaken
  have hmap : w.dispatch.orders = s.dispatch.orders.map fun x =>
      if x.id = o.id then { x with cancelPending := true, pass := some { q with state := .rampDown } }
      else if x.tag = tag.toNat ∧ x.state ≠ .ended then { x with
        state := .ended, outcome := some .cancelled, endedMinute := some s.clock.minute
        endedEvent := s.events + 1, starved := false } else x := by
    refine horders.trans (List.map_congr_left fun x hx => ?_)
    rw [Order.retired]
    by_cases hid : x.id = o.id
    · rw [if_pos hid, if_pos hid]
      rfl
    · rw [if_neg hid, if_neg hid]
      exact if_congr (by rw [hin x hx]; tauto) rfl rfl
  have hnotices : w.notices = s.notices.handAll .order ((l1.map fun o => o.id) ++ l2.map fun o => o.id) := by
    rw [hframe]
    rfl
  rw [Notices.handAll_order] at hnotices
  have hport : w.port = s.port := by
    rw [hframe]
    rfl
  refine ⟨_, hexec, ?_, ?_, hcannon, hcannons, hnode, hnodes, fun k => ?_, ?_⟩
  · rw [port_answer, State.replied, hport]
    rfl
  · have hevents : w.events = s.events + 1 := by
      rw [hframe]
      rfl
    have hframe' : w = { s.retiring slot with
        cannons := w.cannons, notices := w.notices, loop := { s.loop with nodes := w.loop.nodes }
        dispatch := { s.dispatch with orders := s.dispatch.orders.map fun x =>
          if x.id = o.id then { x with cancelPending := true, pass := some { q with state := .rampDown } }
          else if x.tag = tag.toNat ∧ x.state ≠ .ended then { x with
            state := .ended, outcome := some .cancelled, endedMinute := some s.clock.minute
            endedEvent := w.events, starved := false } else x } } := by
      rw [hevents, ← hmap, hnotices, ← Notices.handAll_order]
      exact hframe
    exact congrArg (fun z : State => { z with
      port := (w.answer 0x17 .ok (be8 here.length ++ [1, 2])).port, events := w.events }) hframe'
  · rw [show ∀ (z : State) b, (z.answer 0x17 .ok b).notices = z.notices from fun _ _ => rfl, hnotices]
    refine mem_insertKeys.trans (or_congr_right ?_)
    rw [← List.map_append, List.mem_map]
    constructor
    · rintro ⟨x, hx, rfl⟩
      refine ⟨x, by rw [hcut]; simp only [List.mem_append, List.mem_cons] at hx ⊢; tauto, rfl, fun e => ?_⟩
      rcases List.mem_append.1 hx with hx | hx
      · exact ho1 (e ▸ List.mem_map_of_mem hx)
      · exact ho2 (e ▸ List.mem_map_of_mem hx)
    · rintro ⟨x, hx, rfl, hne⟩
      rw [hcut] at hx
      simp only [List.mem_append, List.mem_cons] at hx ⊢
      exact ⟨x, hx.imp_right fun hx => hx.resolve_left fun e => hne (congrArg Order.id e), rfl⟩
  · have hany : (!((l1.map fun o => o.id) ++ l2.map fun o => o.id).isEmpty) = decide (1 < here.length) := by
      rw [hcut, ← List.map_append, Bool.eq_iff_iff, decide_eq_true_iff, Bool.not_eq_true', List.isEmpty_eq_false_iff,
        ← List.length_pos_iff, List.length_map, List.length_append, List.length_append, List.length_cons]
      omega
    rw [show ∀ (z : State) b, (z.answer 0x17 .ok b).notices = z.notices from fun _ _ => rfl, hnotices, hany]

/-- A pile whose one running pass still slews: its orders all end, and its slot is freed. -/
theorem retirePile_of_slewing (h : s.pileAt? tag.toNat = some (slot, p)) (hl : p.life = .live)
    (hno : ∀ x ∈ s.permits.list, x.tag ≠ tag.toNat) (htags : (s.piles.map fun e => e.2.tag).Nodup)
    (hids : (s.dispatch.orders.map fun o => o.id).Nodup)
    (hlen : s.dispatch.orders.length ≤ 32) {here : List Order} (hhere : s.openOn tag.toNat = here)
    (hnames : ∀ o ∈ here, ∀ x ∈ s.permits.list, x.prewetOrder ≠ some o.id) {o : Order} {q : Pass} {c : Cannon} {n : Node}
    (ho : o ∈ here) (ha : o.state = .active) (hpass : o.pass = some q) (hcancel : o.cancelPending = false)
    (hrest : ∀ x ∈ here, x.id ≠ o.id → x.state = .waiting ∨ x.state = .volleyHeld) (hc : s.cannon? q.cannon = some c)
    (hb : c.bound = some o.id) (hn : s.node? c.config.node = some n) (hq : q.state = .aiming) (hcs : c.state = .aiming)
    (hphase : c.aimPhase = some .slewing) (hplan : o.plan = none) (hd : o.delivered ≤ 4294967295)
    (horigins : ∀ x ∈ here, x.origin ≠ .prewet) :
    ∃ t, exec (.retirePile tag) s = .next t
      ∧ t.port = s.replied .ok 0x17 (be8 here.length ++ [0, 0]) ∧ t.piles = Table.erase s.piles slot
      ∧ t.order? o.id = some { o with
          state := .ended, cancelPending := true, pass := none, lastEnd := some .abandoned
          starved := false, outcome := some .cancelled, endedMinute := some s.clock.minute
          endedEvent := t.events }
      ∧ (∀ x ∈ here, x.id ≠ o.id → t.order? x.id = some { x with
          state := .ended, outcome := some .cancelled, endedMinute := some s.clock.minute
          endedEvent := t.events, starved := false })
      ∧ t.cannon? q.cannon = some { c with
          state := .idle, aimPhase := none, header := none, bound := none, slew := none
          blankingOn := false, aimWaiting := false }
      ∧ t.node? c.config.node = some { n with slot := some .close }
      ∧ (∀ k, k ∈ t.notices.orders ↔ k ∈ s.notices.orders ∨ ∃ x ∈ here, x.id = k)
      ∧ slot ∈ t.notices.piles := by
  obtain ⟨homem, hotag, hoopen⟩ := mem_openOn.1 (hhere ▸ ho)
  obtain ⟨l1, l2, hcut⟩ := List.append_of_mem ho
  have hnodup : ((l1 ++ o :: l2).map fun o => o.id).Nodup := by rw [← hcut, ← hhere]; exact openOn_nodup hids _
  obtain ⟨-, -, ho1, ho2, -⟩ := ids_cut hnodup
  have hinert : ∀ x ∈ here, x.id ≠ o.id → (s.retiring slot).inertOn tag.toNat x.id := fun x hx hne =>
    inertOn_retiring hids (hhere ▸ hx) (hrest x hx hne) fun _ => hnames x hx
  have hretires := retiresOn h htags
  rw [hhere, hcut] at hretires
  obtain ⟨w, hrun, hpiles, hidle, hport, hevents, hself, hothers, hcannon, hnode, hset, hslot⟩ :=
    reaches_retire_slewing (u := s.retiring slot) hretires hids hnodup homem hotag
    (fun x hx => hinert x (by rw [hcut]; simp [hx]) fun e => ho1 (e ▸ List.mem_map_of_mem hx))
    (fun x hx => hinert x (by rw [hcut]; simp [hx]) fun e => ho2 (e ▸ List.mem_map_of_mem hx))
    ha hcancel hpass hq hc hcs hb hphase hn hplan hd hno fun x hx htag hopen =>
      horigins x (hhere ▸ mem_openOn.2 ⟨hx, htag, hopen⟩)
  rw [← hcut] at hrun
  have hlen' : here.length ≤ 32 := hhere ▸ (openOn_length s tag.toNat).trans hlen
  have hexec := retirePile_of_taken h hl hno hhere hrun (by omega)
  have herased : w.piles = Table.erase s.piles slot :=
    hpiles.trans (erase_update_self s.piles slot fun p : Pile => { p with life := .retiring })
  rw [(openOn_eq_nil_iff w tag.toNat).2 hidle, pileAt_erase h htags herased] at hexec
  refine ⟨_, hexec, ?_, herased, ?_, fun x hx hne => ?_, hcannon, hnode, fun k => ?_, hslot⟩
  · rw [port_answer, State.replied, hport]
    rfl
  · rw [order?_answer, hself, show ∀ (z : State) b, (z.answer 0x17 .ok b).events = z.events from fun _ _ => rfl, hevents]
    rfl
  · rw [order?_answer, hothers x (mem_openOn.1 (hhere ▸ hx)).1, show ∀ (z : State) b, (z.answer 0x17 .ok b).events = z.events
      from fun _ _ => rfl, hevents]
    · rfl
    · rw [hcut] at hx
      rcases List.mem_append.1 hx with hx | hx
      · exact .inl (List.mem_map_of_mem hx)
      · rcases List.mem_cons.1 hx with rfl | hx
        · exact absurd rfl hne
        · exact .inr (List.mem_map_of_mem hx)
  · rw [show ∀ (z : State) b, (z.answer 0x17 .ok b).notices = z.notices from fun _ _ => rfl, hset, mem_insertKeys,
      mem_insertKey_iff, mem_insertKeys, hcut]
    simp only [List.mem_map, List.mem_append, List.mem_cons, or_and_right, exists_or, exists_eq_left]
    rw [eq_comm (a := k), show (s.retiring slot).notices.orders = s.notices.orders from rfl, or_comm (a := o.id = k)]
    simp only [or_assoc]

end

/-- Settles O21: the pile enters RETIRING, its orders are cancelled one after another by their states, and the slot is freed
with the last that is open. -/
theorem retirePileFreesTheSlot : Obligations.RetirePileFreesTheSlot := by
  unfold Obligations.RetirePileFreesTheSlot
  refine fun tag s => ⟨fun h => congrArg Host.Outcome.next (retirePile_of_unknown h), fun slot p h => ⟨fun hl =>
    congrArg Host.Outcome.next (retirePile_of_retiring h hl), fun hl hx => congrArg Host.Outcome.next (retirePile_of_inUse h hl hx),
    fun hl hno _ htags => ⟨fun hended => retirePile_of_bare h hl hno htags hended, fun o hhere hids hw horigin =>
      retirePile_of_lone h hl hno htags hhere hids hw horigin⟩, fun hl hno _ htags hids hlen here hhere hnames => ?_⟩⟩
  have hhere' : s.openOn tag.toNat = here := (openOn_eq s tag.toNat).trans hhere.symm
  refine ⟨fun hinert => retirePile_of_waiting h hl hno htags hids hlen hhere' hnames hinert,
    fun o q c n ho ha hpass hcancel hrest hc hb hn => ⟨fun hstates => ?_, fun hq hcs hphase hplan hd horigins => ?_⟩⟩
  · exact retirePile_of_running h hl hno hids hlen hhere' hnames ho ha hpass hcancel hrest hc hb hn hstates
  · exact retirePile_of_slewing h hl hno htags hids hlen hhere' hnames ho ha hpass hcancel hrest hc hb hn hq hcs hphase hplan hd
      horigins

end Sys2Proof.Machine
end

section
set_option Elab.async false
/-! PROOFS. The model step: which expiry it is taken for, and its arithmetic on every pile (R23 to R29, R34). -/

namespace Sys2Proof.Machine

/-! ## The expiry (R23, R177) -/

/-- The expiries left to the moisture model once a step is taken for one. -/
def State.modelDueLess (s : State) : Expiries :=
  if 0 < s.clock.modelDue.due then { s.clock.modelDue with due := s.clock.modelDue.due - 1 } else ⟨0, true⟩

/-- An expiry of the step timer stands for the moisture model, handed over or falling in the coming second. -/
def State.stepsNow (s : State) : Prop :=
  0 < s.clock.modelDue.due ∨ (s.clock.stepLeft = 1 ∧ s.clock.modelDue.ahead = false)

/-- The state a model step starts from: its event counted, its expiry acted on. -/
def State.stepStart (s : State) : State :=
  { s with clock := { s.clock with modelDue := s.modelDueLess }, events := s.events + 1 }

theorem modelStep_of_none {s : State} (h : s.clock.modelDue.due = 0)
    (hno : s.clock.stepLeft ≠ 1 ∨ s.clock.modelDue.ahead = true) : exec .modelStep s = .next s := by
  refine congrArg Host.Outcome.next (?_ : s.modelStep = s)
  rcases taken_cases s.clock.modelDue s.clock.stepLeft with ⟨hdue, -⟩ | ⟨-, hleft, hahead, -⟩ | ⟨-, -, hnone⟩
  · omega
  · rcases hno with hno | hno
    · exact absurd hleft hno
    · rw [hahead] at hno
      exact absurd hno Bool.false_ne_true
  · simp only [State.modelStep, hnone]

/-- A model step taken: every pile in slot order, the record of the step, and the tellings. -/
theorem modelStep_of_due {s v : State} {short : Nat} (h : s.stepsNow)
    (hfold : (Table.keys s.piles).foldl State.stepPile (s.stepStart, 0) = (v, short)) :
    exec .modelStep s = .next (settled ({ v with model := { v.model with
      lastStep := some s.now, stepped := s.piles.length, shortfall := short } }, stepTold s.piles v.piles)) := by
  have htaken : s.clock.modelDue.taken? s.clock.stepLeft = some s.modelDueLess := by
    rw [Expiries.taken?, State.modelDueLess]
    by_cases hdue : 0 < s.clock.modelDue.due
    · rw [if_pos hdue, if_pos hdue]
    · rw [if_neg hdue, if_neg hdue, if_pos (h.resolve_left hdue)]
  refine congrArg Host.Outcome.next (?_ : s.modelStep = _)
  simp only [State.modelStep, htaken]
  change settled (_, _) = _
  rw [show (Table.keys (State.openEvent { s with clock := { s.clock with modelDue := s.modelDueLess } }).piles).foldl State.stepPile
    (State.openEvent { s with clock := { s.clock with modelDue := s.modelDueLess } }, 0) = (v, short) from hfold]
  rfl

/-! ## The eight stages on one pile (R23) -/

/-- A slot's pile after stages 1 to 5, its band handed on. -/
def State.banded (s : State) (slot : Nat) (p q : Pile) : State :=
  if q.band = p.band then s.mapPile slot fun _ => q else (s.mapPile slot fun _ => q).hand .pile slot

/-- The notices once a stepped pile has handed on its slot. -/
def Notices.stepped (n : Notices) (slot : Nat) (band degraded : Prop) [Decidable band] [Decidable degraded] : Notices :=
  if degraded then (if band then n.hand .pile slot else n).hand .pile slot else if band then n.hand .pile slot else n

theorem stepPile_eq {s : State} {n slot : Nat} {p q : Pile} {g : Grade} (hp : Table.get s.piles slot = some p)
    (hg : s.gradeOf? p = some g) (hq : q = stages1to5 s.model s.wind.weather g p) {v : State} {m : Nat}
    (hauto : (s.banded slot p q).stageAuto g q (stageLook g s.model.lead (s.forecast.lookup (s.now + s.model.lead)) q) = (v, m)) :
    State.stepPile (s, n) slot = (if (stageDegraded s.wind.weather q).degraded && !p.degraded
      then (v.mapPile slot fun p => stageDegraded s.wind.weather p).hand .pile slot
      else v.mapPile slot fun p => stageDegraded s.wind.weather p, n + m) := by
  subst hq
  simp only [State.stepPile, hp, hg]
  rw [State.banded] at hauto
  rw [hauto]

/-- Stage 7 in a yard without orders, on a pile not on auto: nothing. -/
theorem stageAuto_of_still {s : State} {g : Grade} {p : Pile} {look : Look} (ho : s.dispatch.orders = [])
    (hauto : p.auto = false) : s.stageAuto g p look = (s, 0) := by
  have hnone : s.openAuto? p.tag = none := by rw [State.openAuto?, State.openOn, ho]; rfl
  have hwithdraw : s.withdrawAuto p.tag p.band look = s := by simp only [State.withdrawAuto, hnone]
  simp only [State.stageAuto, hwithdraw, hnone, State.placeAuto]
  exact if_neg fun h => by rw [hauto] at h; exact Bool.false_ne_true h.2.1

/-! ## Every pile (R23, R34) -/

/-- A pile's record after a model step of a yard in which stage 7 does nothing. -/
def State.stepped (s : State) (p : Pile) : Pile :=
  (s.gradeOf? p).elim p fun g => stageDegraded s.wind.weather (stages1to5 s.model s.wind.weather g p)

/-- The step of a pile hands its slot on: its band has changed, or its degraded flag has become set. -/
def State.handsOn (s : State) (p : Pile) : Prop :=
  (s.stepped p).band ≠ p.band ∨ ((s.stepped p).degraded = true ∧ p.degraded = false)

/-- The piles of some slots stepped, in a yard in which stage 7 does nothing. -/
structure State.SteppedOn (s t : State) (ks : List Nat) : Prop where
  frame : t = { s with piles := t.piles, notices := { s.notices with piles := t.notices.piles, flags := t.notices.flags } }
  piles : ∀ k, Table.get t.piles k = if k ∈ ks then (Table.get s.piles k).map s.stepped else Table.get s.piles k
  handed : ∀ k, k ∈ t.notices.piles ↔ k ∈ s.notices.piles ∨ (k ∈ ks ∧ ∃ p, Table.get s.piles k = some p ∧ s.handsOn p)

/-- A yard in which stage 7 does nothing: no orders, and no pile on auto; each pile's grade is loaded. -/
structure State.Still (s : State) : Prop where
  orders : s.dispatch.orders = []
  auto : ∀ e ∈ s.piles, e.2.auto = false
  graded : ∀ e ∈ s.piles, (Table.get s.grades e.2.grade).isSome = true

theorem stages1to5_auto (l : Model) (w : Weather) (g : Grade) (p : Pile) :
    (stages1to5 l w g p).auto = p.auto ∧ (stages1to5 l w g p).degraded = p.degraded := by
  simp only [stages1to5, stageBand, stageRisk, stageDry]
  split <;> exact ⟨rfl, rfl⟩

theorem mem_hand_pile {n : Notices} {j k : Nat} : k ∈ (n.hand .pile j).piles ↔ k = j ∨ k ∈ n.piles := mem_insertKey_iff

theorem notices_stepped {n m : Notices} {k : Nat} {band degraded : Prop} [Decidable band] [Decidable degraded]
    (h : m = n.stepped k band degraded) : m = { n with piles := m.piles, flags := m.flags }
      ∧ ∀ j, j ∈ m.piles ↔ j ∈ n.piles ∨ (j = k ∧ (band ∨ degraded)) := by
  subst h
  rw [Notices.stepped]
  refine ⟨by split <;> split <;> rfl, fun j => ?_⟩
  by_cases hd : degraded <;> by_cases hb : band <;> simp [hd, hb, mem_hand_pile, or_comm]

/-- Where stage 7 does nothing a stepped pile is written back, and its slot handed on. -/
theorem stepped_update {t : State} {k n : Nat} {p q r : Pile} (hband : q.band = r.band) :
    ((if r.degraded && !p.degraded then ((t.banded k p q).mapPile k fun p => stageDegraded t.wind.weather p).hand .pile k
      else (t.banded k p q).mapPile k fun p => stageDegraded t.wind.weather p), n + 0)
    = (({ t with
        piles := Table.update (Table.update t.piles k fun _ => q) k fun p => stageDegraded t.wind.weather p
        notices := t.notices.stepped k (r.band ≠ p.band) (r.degraded = true ∧ p.degraded = false) } : State), n) := by
  rw [State.banded, Notices.stepped, hband]
  by_cases hb : r.band = p.band <;> by_cases hd : (r.degraded && !p.degraded) = true
  all_goals
    have hd' := hd
    rw [Bool.and_eq_true, Bool.not_eq_true'] at hd'
    simp only [hb, hd, hd', if_true, if_false, ne_eq, not_true_eq_false, not_false_eq_true]
    rfl

/-- The stages on one more pile. -/
theorem SteppedOn_snoc {s t : State} {ks : List Nat} {k n : Nat} (hs : s.Still) (ht : s.SteppedOn t ks) (hk : k ∉ ks) :
    ∃ u, State.stepPile (t, n) k = (u, n) ∧ s.SteppedOn u (ks ++ [k]) := by
  have hget : Table.get t.piles k = Table.get s.piles k := (ht.piles k).trans (if_neg hk)
  cases hp : Table.get s.piles k with
  | none =>
    refine ⟨t, ?_, ht.frame, fun j => ?_, fun j => ?_⟩
    · simp only [State.stepPile, hget, hp]
    · rw [ht.piles j]
      by_cases hj : j = k
      · rw [hj, if_neg hk, hp, Option.map_none, ite_self]
      · simp [hj]
    · rw [ht.handed j]
      refine or_congr_right ⟨fun h => ⟨List.mem_append_left _ h.1, h.2⟩, fun h => ⟨?_, h.2⟩⟩
      rcases List.mem_append.1 h.1 with hm | hm
      · exact hm
      · obtain ⟨p, hp', -⟩ := h.2
        rw [List.mem_singleton.1 hm, hp] at hp'
        exact absurd hp' (by simp)
  | some p =>
    have hmem := Table.mem_of_get hp
    obtain ⟨g, hg⟩ := Option.isSome_iff_exists.1 (hs.graded _ hmem)
    have hgt : t.gradeOf? p = some g := by rw [ht.frame]; exact hg
    obtain ⟨q, hq⟩ : ∃ q, q = stages1to5 t.model t.wind.weather g p := ⟨_, rfl⟩
    have hstepped : stageDegraded t.wind.weather q = s.stepped p := by
      rw [State.stepped, show s.gradeOf? p = some g from hg, hq, ht.frame]
      rfl
    have hqauto : q.auto = false := by rw [hq, (stages1to5_auto _ _ _ _).1]; exact hs.auto _ hmem
    have horders : ∀ v : State, v.dispatch = t.dispatch → v.dispatch.orders = [] := fun v hv => by
      rw [hv, ht.frame]
      exact hs.orders
    have hbanded : (t.banded k p q).dispatch = t.dispatch := by
      rw [State.banded]
      split <;> rfl
    have hstep := stepPile_eq (n := n) (hget.trans hp) hgt hq (stageAuto_of_still (horders _ hbanded) hqauto)
    rw [hstepped] at hstep
    have hband : q.band = (s.stepped p).band := by rw [← hstepped]; rfl
    rw [stepped_update hband] at hstep
    obtain ⟨N, hN⟩ : ∃ N, N = t.notices.stepped k ((s.stepped p).band ≠ p.band)
      ((s.stepped p).degraded = true ∧ p.degraded = false) := ⟨_, rfl⟩
    obtain ⟨hframeN, hmemN⟩ := notices_stepped hN
    rw [← hN] at hstep
    have hnotices : N = { s.notices with piles := N.piles, flags := N.flags } := hframeN.trans
      (congrArg (fun m : Notices => { m with piles := N.piles, flags := N.flags }) (congrArg State.notices ht.frame))
    refine ⟨_, hstep, ?_, fun j => ?_, fun j => ?_⟩
    · refine (congrArg (fun z : State => { z with
        piles := Table.update (Table.update t.piles k fun _ => q) k fun p => stageDegraded t.wind.weather p
        notices := N }) ht.frame).trans ?_
      exact congrArg (fun m : Notices => { s with
        piles := Table.update (Table.update t.piles k fun _ => q) k fun p => stageDegraded t.wind.weather p
        notices := m }) hnotices
    · change Table.get (Table.update (Table.update t.piles k fun _ => q) k fun p => stageDegraded t.wind.weather p) j = _
      by_cases hj : j = k
      · rw [hj, Table.get_update_self, Table.get_update_self, hget, hp, if_pos (by simp), Option.map_some, Option.map_some,
          Option.map_some, hstepped]
      · rw [Table.get_update_of_ne _ _ hj, Table.get_update_of_ne _ _ hj, ht.piles j]
        simp [hj]
    · refine (hmemN j).trans ?_
      rw [ht.handed j, or_assoc]
      refine or_congr_right ⟨?_, ?_⟩
      · rintro (⟨hj, h⟩ | ⟨rfl, h⟩)
        · exact ⟨List.mem_append_left _ hj, h⟩
        · exact ⟨by simp, p, hp, h⟩
      · rintro ⟨hj, p', hp', h⟩
        rcases List.mem_append.1 hj with hm | hm
        · exact .inl ⟨hm, p', hp', h⟩
        · obtain rfl := List.mem_singleton.1 hm
          rw [hp] at hp'
          exact .inr ⟨rfl, Option.some.inj hp' ▸ h⟩

end Sys2Proof.Machine
end

section
set_option Elab.async false
/-! PROOFS. The arithmetic of a model step, on every pile (R23 to R29, R34). -/

namespace Sys2Proof.Machine

/-- The stages on the piles of some slots, one after another. -/
theorem foldl_stepPile {s : State} {ks : List Nat} {n : Nat} (hs : s.Still) (hks : ks.Nodup) :
    ∃ t, ks.foldl State.stepPile (s, n) = (t, n) ∧ s.SteppedOn t ks := by
  induction ks using List.reverseRecOn with
  | nil => exact ⟨s, rfl, rfl, fun k => (if_neg List.not_mem_nil).symm, fun k => by simp⟩
  | append_singleton ks k ih =>
    obtain ⟨h1, -, hdisjoint⟩ := List.nodup_append.1 hks
    obtain ⟨t, hfold, ht⟩ := ih h1
    obtain ⟨u, hstep, hu⟩ := SteppedOn_snoc (n := n) hs ht fun hm => hdisjoint k hm k List.mem_cons_self rfl
    exact ⟨u, by rw [List.foldl_append, hfold]; exact hstep, hu⟩

theorem keys_nodup {α : Type} {t : Table α} (h : Table.wf t = true) : (Table.keys t).Nodup := by
  rw [Table.keys, List.Nodup, List.pairwise_map]
  exact ((Table.wf_iff_pairwise t).1 h).imp fun hlt => Nat.ne_of_lt hlt

theorem mem_keys_of_get {α : Type} {t : Table α} {k : Nat} {x : α} (h : Table.get t k = some x) : k ∈ Table.keys t :=
  List.mem_map_of_mem (f := Prod.fst) (Table.mem_of_get h)

theorem stepTold_tells (old new : Table Pile) : ∀ t ∈ stepTold old new, ∃ tag, t = .tellPile tag := fun t ht => by
  obtain ⟨e, -, rfl⟩ := List.mem_map.1 ht
  exact ⟨_, rfl⟩

/-- The exposure value of a definite octant, and that of a variable one. -/
theorem exposure_spec (p : Profile) (octant : Nat) :
    (octant < 8 → ((profileBytes p)[octant]?).map (fun b => b.toNat) = some (exposure p octant))
    ∧ (8 ≤ octant → (∃ b ∈ profileBytes p, b.toNat = exposure p octant) ∧ ∀ b ∈ profileBytes p, b.toNat ≤ exposure p octant) := by
  constructor
  · intro h
    rw [exposure, if_pos h]
    interval_cases octant <;> rfl
  · intro h
    rw [exposure, if_neg (by omega), exposureMax, profileBytes]
    simp only [List.mem_cons, List.not_mem_nil, or_false, exists_eq_or_imp, exists_eq_left, forall_eq_or_imp, forall_eq]
    omega

/-- The third stage: what evaporates, and what is carried over. -/
theorem stageDry_spec (w : Weather) (g : Grade) (p : Pile) :
    let n := g.kg * (p.lastWp + 20) * (100 - w.rh) + p.residue
    (p.m < n / 65536 → (stageDry w g p).m = 0 ∧ (stageDry w g p).residue = 0)
    ∧ (n / 65536 ≤ p.m → (stageDry w g p).m = p.m - n / 65536 ∧ (stageDry w g p).residue = n % 65536)
    ∧ stageDry w g p = { p with m := (stageDry w g p).m, residue := (stageDry w g p).residue } := by
  intro n
  have hdry : stageDry w g p = if p.m < n / 65536 then { p with m := 0, residue := 0 }
      else { p with m := p.m - n / 65536, residue := n % 65536 } := rfl
  rw [hdry]
  refine ⟨fun h => ?_, fun h => ?_, ?_⟩
  · rw [if_pos h]
    exact ⟨rfl, rfl⟩
  · rw [if_neg (by omega)]
    exact ⟨rfl, rfl⟩
  · split <;> rfl

/-- The stages of the moisture arithmetic, told of one pile. -/
theorem stages_spec (l : Model) (w : Weather) (g : Grade) (p : Pile) :
    ∃ (q : Pile) (x m1 n : Nat), stageDegraded w (stages1to5 l w g p) = q
      ∧ q = { p with
          lastWp := q.lastWp, lastWgp := q.lastWgp, m := q.m, residue := q.residue, risk := q.risk, band := q.band
          degraded := q.degraded }
      ∧ x = exposure p.profile w.octant
      ∧ q.lastWp = min 600 (w.speed * x / 128)
      ∧ q.lastWgp = min 600 (w.gustSpeed * x / 128)
      ∧ m1 = min g.msat (p.m + w.rain * g.gk / 256)
      ∧ n = g.kg * (q.lastWp + 20) * (100 - w.rh) + p.residue
      ∧ (m1 < n / 65536 → q.m = 0 ∧ q.residue = 0)
      ∧ (n / 65536 ≤ m1 → q.m = m1 - n / 65536 ∧ q.residue = n % 65536)
      ∧ q.risk = min 255 ((if q.m < g.mt then g.mt - q.m else 0) * q.lastWgp / (g.dg * 64))
      ∧ q.band = (if q.risk < l.b1 then .calm else if q.risk < l.b2 then .watch else if q.risk < l.b3 then .act else .severe)
      ∧ (q.degraded = true ↔ w.source = .held ∨ w.source = .unset) := by
  obtain ⟨hover, hunder, hdry⟩ := stageDry_spec w g (stageRain w g (stageWind w p))
  obtain ⟨d, hd⟩ : ∃ d, d = stageDry w g (stageRain w g (stageWind w p)) := ⟨_, rfl⟩
  rw [← hd] at hover hunder hdry
  have hwp : d.lastWp = (stageWind w p).lastWp := by rw [hdry]; rfl
  have hstages : stageDegraded w (stages1to5 l w g p) = stageDegraded w (stageBand l (stageRisk g d)) := by rw [hd]; rfl
  refine ⟨_, exposure p.profile w.octant, (stageRain w g (stageWind w p)).m, _, hstages, ?_, rfl, ?_, ?_, rfl, rfl, ?_, ?_, ?_,
    rfl, ?_⟩
  · obtain ⟨r, hr⟩ : ∃ r, r = stageDegraded w (stageBand l (stageRisk g d)) := ⟨_, rfl⟩
    have hkept : r = { d with risk := r.risk, band := r.band, degraded := r.degraded } := by rw [hr]; rfl
    have hlast : r.lastWp = d.lastWp ∧ r.lastWgp = d.lastWgp ∧ r.m = d.m ∧ r.residue = d.residue := by rw [hr]; exact ⟨rfl, rfl, rfl, rfl⟩
    obtain ⟨hl1, hl2, hl3, hl4⟩ := hlast
    rw [← hr]
    conv_lhs => rw [hkept, hdry, ← hl3, ← hl4]
    rw [hl1, hl2, hwp, hdry]
    rfl
  · exact hwp
  · change d.lastWgp = _
    rw [hdry]
    rfl
  · change _ < (g.kg * (d.lastWp + 20) * (100 - w.rh) + p.residue) / 65536 → _
    rw [hwp]
    exact hover
  · change (g.kg * (d.lastWp + 20) * (100 - w.rh) + p.residue) / 65536 ≤ _ → _ ∧ _ = (g.kg * (d.lastWp + 20) * (100 - w.rh) + p.residue) % 65536
    rw [show (stageDegraded w (stageBand l (stageRisk g d))).lastWp = (stageWind w p).lastWp from hwp, hwp]
    exact hunder
  · change min 255 ((g.mt - d.m) * d.lastWgp / (g.dg * 64)) = min 255 ((if d.m < g.mt then g.mt - d.m else 0) * d.lastWgp / (g.dg * 64))
    by_cases h : d.m < g.mt
    · rw [if_pos h]
    · rw [if_neg h, Nat.sub_eq_zero_of_le (by omega)]
  · cases hsource : w.source <;> simp [stageDegraded, hsource]

/-- Settles O23: the piles are stepped one after another, and in a yard where stage 7 does nothing each is stepped by itself. -/
theorem modelStepArithmetic : Obligations.ModelStepArithmetic := by
  unfold Obligations.ModelStepArithmetic
  refine ⟨fun s hdue hno => modelStep_of_none hdue hno, fun s x hx hdue hwf hauto horders hpermits hgraded => ?_⟩
  have hstill : s.stepStart.Still := ⟨horders, hauto, hgraded⟩
  obtain ⟨v, hfold, hv⟩ := foldl_stepPile (n := 0) hstill (keys_nodup hwf)
  have hquiet := settled_tellPiles_quiet (s := { v with model := { v.model with
    lastStep := some s.now, stepped := s.piles.length, shortfall := 0 } }) (stepTold_tells s.piles v.piles)
    (by rw [hv.frame]; exact hpermits)
  have hexec := modelStep_of_due hdue hfold
  rw [hquiet] at hexec
  have hexpiries : s.modelDueLess = x := hx.symm
  refine ⟨_, hexec, ?_, fun slot hslot => ?_, fun slot p g hp hg => ?_⟩
  · refine (congrArg (fun z : State => { z with
      model := { z.model with lastStep := some s.now, stepped := s.piles.length, shortfall := 0 }
      piles := v.piles, notices := v.notices, events := v.events }) hv.frame).trans ?_
    have hn := congrArg State.notices hv.frame
    rw [← hexpiries]
    exact congrArg (fun m : Notices => { s with
      clock := { s.clock with modelDue := s.modelDueLess }, piles := v.piles, notices := m
      model := { s.model with lastStep := some s.clock.minute, stepped := s.piles.length, shortfall := 0 }
      events := v.events }) hn
  · refine (hv.piles slot).trans ?_
    rw [show Table.get s.stepStart.piles slot = none from hslot, Option.map_none, ite_self]
  · obtain ⟨q, x, m1, n, hq, hkept, rfl, hwp, hwgp, hm1, hn, hover, hunder, hrisk, hband, hdegraded⟩ :=
      stages_spec s.model s.wind.weather g p
    have hstepped : s.stepStart.stepped p = q := by
      rw [State.stepped, show s.stepStart.gradeOf? p = some g from hg]
      exact hq
    have hkey : slot ∈ Table.keys s.piles := mem_keys_of_get hp
    obtain ⟨hlow, hhigh⟩ := exposure_spec p.profile s.wind.weather.octant
    refine ⟨q, _, m1, n, ?_, hkept, fun i hi hlt => hi ▸ hlow (hi ▸ hlt), hhigh, hwp, hwgp, hm1, hn, hover, hunder, hrisk, hband,
      hdegraded, ?_⟩
    · refine (hv.piles slot).trans ?_
      rw [if_pos hkey, show Table.get s.stepStart.piles slot = some p from hp, Option.map_some, hstepped]
    · refine (hv.handed slot).trans (or_congr_right ⟨?_, fun h => ⟨hkey, p, hp, ?_⟩⟩)
      · rintro ⟨-, p', hp', h⟩
        obtain rfl := Option.some.inj ((show Table.get s.stepStart.piles slot = some p from hp).symm.trans hp')
        rwa [State.handsOn, hstepped] at h
      · rwa [State.handsOn, hstepped]

end Sys2Proof.Machine
end

section
set_option Elab.async false
/-! PROOFS. Stage 7 of a model step: what an auto order is asked for, and what becomes of one (R30 to R33, R35). -/

namespace Sys2Proof.Machine

/-! ## The look-ahead and the dose -/

/-- What the look-ahead compares the moisture threshold with (R30). -/
theorem projected_eq (g : Grade) (lead : Nat) (f : Slot) (p : Pile) : projected g lead f p =
    max 0 (min (g.msat : Int) ((p.m : Int) + (((f.rain * g.gk / 256 : Nat) : Int)
      - ((g.kg * (min 600 (f.wind * exposure p.profile f.octant / 128) + 20) * (100 - f.rh) / 65536 : Nat) : Int)) * (lead : Int))) := by
  rw [min_comm (g.msat : Int)]
  rfl

section
variable {g : Grade} {lead : Nat} {slot : Option Slot} {p : Pile}

theorem stageLook_eq_failed (hlive : p.life = .live) : stageLook g lead slot p = .failed ↔
    p.auto = true ∧ lead ≠ 0 ∧ ∃ f, slot = some f ∧ projected g lead f p < g.mt := by
  unfold stageLook
  by_cases hoff : lead = 0 ∨ p.life ≠ .live ∨ p.auto = false
  · rw [if_pos hoff]
    refine ⟨fun h => (nomatch h), fun ⟨hauto, hlead, _⟩ => ?_⟩
    rcases hoff with h | h | h
    · exact absurd h hlead
    · exact absurd hlive h
    · rw [hauto] at h
      exact nomatch h
  · rw [if_neg hoff]
    rw [not_or, not_or, Bool.not_eq_false] at hoff
    cases slot with
    | none => simp
    | some f => simp [hoff]

theorem stageLook_eq_passed (hlive : p.life = .live) : stageLook g lead slot p = .passed ↔
    p.auto = true ∧ lead ≠ 0 ∧ ∃ f, slot = some f ∧ (g.mt : Int) ≤ projected g lead f p := by
  unfold stageLook
  by_cases hoff : lead = 0 ∨ p.life ≠ .live ∨ p.auto = false
  · rw [if_pos hoff]
    refine ⟨fun h => (nomatch h), fun ⟨hauto, hlead, _⟩ => ?_⟩
    rcases hoff with h | h | h
    · exact absurd h hlead
    · exact absurd hlive h
    · rw [hauto] at h
      exact nomatch h
  · rw [if_neg hoff]
    rw [not_or, not_or, Bool.not_eq_false] at hoff
    cases slot with
    | none => simp
    | some f => simp [hoff]

theorem autoDose_eq (g : Grade) (maxDose : Nat) (p : Pile) : autoDose g maxDose p =
    if p.m < sprayTarget g ∧ 50 ≤ litresFor g p (sprayTarget g) then
      some (min (litresFor g p (sprayTarget g)) maxDose, decide (maxDose < litresFor g p (sprayTarget g))) else none := by
  rw [autoDose, Config.trickle]
  by_cases h1 : sprayTarget g ≤ p.m
  · rw [if_pos h1, if_neg (by omega)]
  · by_cases h2 : litresFor g p (sprayTarget g) < 50
    · rw [if_neg h1, if_pos h2, if_neg (by omega)]
    · rw [if_neg h1, if_neg h2, if_pos (by omega)]
      rfl

end

/-! ## Whether an order is asked for -/

/-- Band and look-ahead ask for an order. -/
def asksFor (b : Band) (look : Look) : Prop := b = .act ∨ b = .severe ∨ look = .failed

theorem autoWanted_eq_none {b : Band} {look : Look} (h : ¬ asksFor b look) : autoWanted b look = none := by
  simp only [asksFor, not_or] at h
  obtain ⟨hact, hsevere, hlook⟩ := h
  cases b with
  | severe => exact absurd rfl hsevere
  | act => exact absurd rfl hact
  | watch => exact if_neg hlook
  | calm => exact if_neg hlook

/-- The origin and priority an order is asked for with. -/
theorem autoWanted_of_asks {b : Band} {look : Look} (h : asksFor b look) : ∃ x k, autoWanted b look = some (x, k)
    ∧ (b = .severe → x = .autoRisk ∧ k = 2) ∧ (b = .act → x = .autoRisk ∧ k = 1)
    ∧ (b = .calm ∨ b = .watch → x = .autoLookahead ∧ k = 0) := by
  cases b with
  | severe => exact ⟨.autoRisk, 2, rfl, by simp⟩
  | act => exact ⟨.autoRisk, 1, rfl, by simp⟩
  | watch => exact ⟨.autoLookahead, 0, if_pos (h.resolve_left (by simp) |>.resolve_left (by simp)), by simp⟩
  | calm => exact ⟨.autoLookahead, 0, if_pos (h.resolve_left (by simp) |>.resolve_left (by simp)), by simp⟩

/-- The conditions under which stage 7 places an order, room in the table apart. -/
structure State.PlacesAuto (s : State) (g : Grade) (p : Pile) (look : Look) : Prop where
  live : p.life = .live
  auto : p.auto = true
  hold : s.wind.hold = false
  asks : asksFor p.band look
  short : p.m < sprayTarget g
  litres : 50 ≤ litresFor g p (sprayTarget g)

section
variable {s : State} {g : Grade} {p : Pile} {look : Look}

theorem placeAuto_of_not (h : ¬ s.PlacesAuto g p look) : s.placeAuto g p look = (s, 0) := by
  simp only [State.placeAuto]
  split
  · rename_i hgo
    obtain ⟨hlive, hauto, hhold⟩ := hgo
    by_cases hasks : asksFor p.band look
    · have hdose : autoDose g s.dispatch.maxDose p = none := by
        rw [autoDose_eq]
        exact if_neg fun hd => h ⟨hlive, hauto, hhold, hasks, hd.1, hd.2⟩
      rw [hdose]
      split
      · rename_i heq
        exact nomatch heq
      · rfl
    · rw [autoWanted_eq_none hasks]
  · rfl

/-- The request of an order that stage 7 places. -/
def autoRequest (p : Pile) (x : Origin) (k litres maxDose : Nat) : OrderRequest :=
  ⟨p.tag, x, k, min litres maxDose, decide (maxDose < litres), .reuseThenFresh, none, none⟩

theorem placeAuto_of_places (h : s.PlacesAuto g p look) {x : Origin} {k : Nat} (hw : autoWanted p.band look = some (x, k)) :
    s.placeAuto g p look = if s.ordersFull then (s, 1) else
      (settled ((s.accept (autoRequest p x k (litresFor g p (sprayTarget g)) s.dispatch.maxDose)).1,
        (s.accept (autoRequest p x k (litresFor g p (sprayTarget g)) s.dispatch.maxDose)).2.2.2), 0) := by
  have hdose := (autoDose_eq g s.dispatch.maxDose p).trans (if_pos ⟨h.short, h.litres⟩)
  simp only [State.placeAuto, if_pos (And.intro h.live (And.intro h.auto h.hold)), hw, hdose]
  rfl

/-- The first record of an order that stage 7 places, in a yard without permits. -/
theorem newOrder_auto {x : Origin} {k litres id : Nat} (hhold : s.wind.hold = false) (hpermits : s.permits.list = []) :
    s.newOrder (autoRequest p x k litres s.dispatch.maxDose) id =
      { id := id, tag := p.tag, origin := x, priority := k, dose := min litres s.dispatch.maxDose, delivered := 0
        policy := .reuseThenFresh, volley := none, plan := none, state := .waiting, suspension := ⟨false, false, false⟩
        starved := false, clamped := decide (s.dispatch.maxDose < litres), cancelPending := false, accepted := s.clock.minute
        lapseRef := s.clock.minute, passes := 0, lastEnd := none, pass := none, outcome := none, endedMinute := none
        endedEvent := 0 } := by
  have hzoned : s.zoned p.tag = false := by rw [zoned_eq, hpermits]; rfl
  simp only [State.newOrder, State.suspensionAt, autoRequest, hhold, hzoned]
  rfl

/-- An order placed by stage 7 where the table has room and fewer than 32 entries. -/
theorem placeAuto_of_room (h : s.PlacesAuto g p look) {x : Origin} {k : Nat} (hw : autoWanted p.band look = some (x, k))
    (hpermits : s.permits.list = []) (hlen : s.dispatch.orders.length < 32) (hmax : 50 ≤ s.dispatch.maxDose) :
    s.placeAuto g p look = ({ s with dispatch := { s.dispatch with
      orders := s.dispatch.orders ++ [s.newOrder (autoRequest p x k (litresFor g p (sprayTarget g)) s.dispatch.maxDose) s.acceptedId]
      nextId := s.acceptedId % 65535 + 1, due := s.dispatch.due + 1 } }, 0) := by
  have hroom : s.withRoom = s := withRoom_of_evicted_none (evicted_of_room hlen)
  have hfull : s.ordersFull = false := by
    rw [State.ordersFull, decide_eq_false_iff_not]
    have := List.length_filter_le Order.isOpen s.dispatch.orders
    simp only [Config.orders]
    omega
  have hincomplete : (s.newOrder (autoRequest p x k (litresFor g p (sprayTarget g)) s.dispatch.maxDose) s.acceptedId).complete
      = false := by
    rw [newOrder_auto h.hold hpermits, Order.complete]
    have := h.litres
    refine decide_eq_false ?_
    simp only [Order.outstanding, Config.trickle]
    omega
  have haccept := accept_incomplete (s := s) (r := autoRequest p x k (litresFor g p (sprayTarget g)) s.dispatch.maxDose)
    (by rw [hroom]; exact hincomplete)
  rw [if_pos (show (autoRequest p x k (litresFor g p (sprayTarget g)) s.dispatch.maxDose).volley = none from rfl)] at haccept
  rw [placeAuto_of_places h hw, hfull, if_neg Bool.false_ne_true, haccept, settled_nil, accepted_eq, hroom,
    acceptedOrder_incomplete hincomplete]
  rfl

/-! ## An open auto order -/

theorem reasonGone_iff {o : Order} {b : Band} {look : Look} : o.reasonGone b look = true ↔
    (o.origin = .autoRisk ∧ (b = .calm ∨ b = .watch)) ∨ (o.origin = .autoLookahead ∧ look = .passed) := by
  rw [Order.reasonGone]
  cases o.origin <;> simp

/-- An open auto order leaves with the reason it was placed for. -/
def Order.leaves (o : Order) (b : Band) (look : Look) : Prop := o.state = .waiting ∧ o.passes = 0 ∧ o.reasonGone b look = true

theorem stageAuto_of_kept {o : Order} (ho : s.openAuto? p.tag = some o) (hkept : ¬ o.leaves p.band look) :
    s.stageAuto g p look = (s.raiseAuto o p.band, 0) := by
  have hwithdraw : s.withdrawAuto p.tag p.band look = s := by
    simp only [State.withdrawAuto, ho]
    exact if_neg hkept
  simp only [State.stageAuto, hwithdraw, ho]

theorem stageAuto_of_none (ho : s.openAuto? p.tag = none) : s.stageAuto g p look = s.placeAuto g p look := by
  have hwithdraw : s.withdrawAuto p.tag p.band look = s := by simp only [State.withdrawAuto, ho]
  simp only [State.stageAuto, hwithdraw, ho]

theorem openAuto?_of_lone {o : Order} (hs : s.dispatch.orders = [o]) (htag : o.tag = p.tag) (hopen : o.state ≠ .ended)
    (hauto : o.origin = .autoRisk ∨ o.origin = .autoLookahead) : s.openAuto? p.tag = some o := by
  have hin : (o.tag == p.tag && o.isOpen) = true := by rw [Bool.and_eq_true, beq_iff_eq, isOpen_iff]; exact ⟨htag, hopen⟩
  have hisAuto : o.isAuto = true := by rw [Order.isAuto]; rcases hauto with h | h <;> rw [h] <;> rfl
  rw [State.openAuto?, State.openOn, hs, List.filter_cons_of_pos (by exact hin), List.find?_cons_of_pos hisAuto]

/-- The one order of the yard withdrawn: it ends, and stage 7 goes on without it. -/
theorem stageAuto_of_gone {o : Order} {slot : Nat} (hs : s.dispatch.orders = [o]) (htag : o.tag = p.tag)
    (hauto : o.origin = .autoRisk ∨ o.origin = .autoLookahead) (hgone : o.leaves p.band look)
    (hp : s.pileAt? p.tag = some (slot, p)) (hlive : p.life = .live) :
    s.stageAuto g p look = (s.endAll [o.id] .withdrawn).placeAuto g p look := by
  have ho := openAuto?_of_lone hs htag (by rw [hgone.1]; decide) hauto
  have hfound : s.order? o.id = some o := by rw [State.order?, hs, List.find?_cons_of_pos (by simp)]
  have hended := order?_mapOrder_self (f := fun o => o.ended .withdrawn s.now s.events) hfound fun _ => rfl
  have hend := reaches_orderEnded_free (q := none) hended fun horigin => by
    rcases hauto with h | h <;> (rw [show (o.ended .withdrawn s.now s.events).origin = o.origin from rfl, h] at horigin; cases horigin)
  rw [endAll_single, show (o.ended .withdrawn s.now s.events).tag = p.tag from htag,
    checkFree_quiet (s.endAll [o.id] .withdrawn) p.tag fun slot' p' hp' => by
      obtain ⟨rfl, rfl⟩ := Prod.mk.inj (Option.some.inj (hp.symm.trans hp'))
      exact hlive] at hend
  have hwithdraw : s.withdrawAuto p.tag p.band look = s.endAll [o.id] .withdrawn := by
    simp only [State.withdrawAuto, ho]
    exact (if_pos hgone).trans (hend.settled_eq (by omega))
  have hnone : (s.endAll [o.id] .withdrawn).openAuto? p.tag = none := by
    have : (s.endAll [o.id] .withdrawn).openOn p.tag = [] := (openOn_eq_nil_iff _ _).2 fun ⟨y, hy, _, hopen⟩ => by
      rw [State.endAll, hs] at hy
      obtain rfl := List.mem_singleton.1 hy
      exact hopen (by simp [Order.ended])
    rw [State.openAuto?, this]
    rfl
  simp only [State.stageAuto, hwithdraw, hnone]

/-- A raise, by band: none in CALM and WATCH. -/
theorem raiseAuto_of_calm {o : Order} {b : Band} (h : b = .calm ∨ b = .watch) : s.raiseAuto o b = s := by
  rcases h with rfl | rfl <;> rfl

theorem raiseAuto_of_band {o : Order} {b : Band} {k : Nat} (hs : s.dispatch.orders = [o]) (h : (b = .act ∧ k = 1) ∨ (b = .severe ∧ k = 2)) :
    s.raiseAuto o b = { s with dispatch := { s.dispatch with
      orders := [if o.origin = .autoLookahead ∨ o.priority < k then { o with origin := .autoRisk, priority := k } else o]
      due := s.dispatch.due + if o.state = .waiting ∧ o.priority < k then 1 else 0 } } := by
  have hraise : s.raiseAuto o b = if o.origin = .autoLookahead ∨ o.priority < k then s.raiseTo o k else s := by
    rcases h with ⟨rfl, rfl⟩ | ⟨rfl, rfl⟩ <;> rfl
  rw [hraise]
  by_cases hr : o.origin = .autoLookahead ∨ o.priority < k
  · rw [if_pos hr, if_pos hr, State.raiseTo, State.mapOrder, hs, List.map_singleton, if_pos rfl]
    by_cases hw : o.state = .waiting ∧ o.priority < k
    · rw [if_pos hw, if_pos hw]
      rfl
    · rw [if_neg hw, if_neg hw]
      rfl
  · rw [if_neg hr, if_neg hr, if_neg fun hw => hr (.inr hw.2), ← hs]
    rfl

end

end Sys2Proof.Machine
end

section
set_option Elab.async false
/-! PROOFS. A model step of a yard of one pile: stage 7 and the auto orders (R30 to R33, R35). -/

namespace Sys2Proof.Machine

theorem stages1to5_area (l : Model) (w : Weather) (g : Grade) (p : Pile) : (stages1to5 l w g p).area = p.area
    ∧ (stages1to5 l w g p).profile = p.profile := by
  simp only [stages1to5, stageBand, stageRisk, stageDry]
  split <;> exact ⟨rfl, rfl⟩

/-- The state of a yard of one pile when stage 7 comes. -/
def State.readied (s : State) (slot : Nat) (q : Pile) (n : Notices) : State := { s.stepStart with piles := [(slot, q)], notices := n }

/-- The look-ahead of a model step on a pile (R30). -/
def State.lookOf (s : State) (g : Grade) (q : Pile) : Look :=
  stageLook g s.model.lead (s.forecast.lookup (s.clock.minute + s.model.lead)) q

/-- A model step of a yard of one pile without permits: what stage 7 leaves of the order table is what the step leaves. -/
theorem modelStep_of_lone {s : State} {slot : Nat} {p q : Pile} {g : Grade} (hdue : s.stepsNow) (hpiles : s.piles = [(slot, p)])
    (hg : Table.get s.grades p.grade = some g) (hpermits : s.permits.list = []) (hq : q = stages1to5 s.model s.wind.weather g p) :
    ∃ n : Notices, n.orders = s.notices.orders ∧ ∀ v m, (s.readied slot q n).stageAuto g q (s.lookOf g q) = (v, m) →
      v.permits = s.permits → ∃ t, exec .modelStep s = .next t ∧ t.dispatch = v.dispatch ∧ t.model.shortfall = m
        ∧ t.notices.orders = v.notices.orders ∧ t.events = v.events ∧ t.water = v.water ∧ t.cannons = v.cannons
        ∧ t.permits = v.permits ∧ t.forecast = v.forecast := by
  have hget : Table.get s.stepStart.piles slot = some p := by
    rw [show s.stepStart.piles = [(slot, p)] from hpiles]
    simp [Table.get]
  have hupdate : (Table.update s.stepStart.piles slot fun _ => q) = [(slot, q)] := by
    rw [show s.stepStart.piles = [(slot, p)] from hpiles]
    simp [Table.update]
  obtain ⟨n, hn, hbanded⟩ : ∃ n : Notices, n.orders = s.notices.orders ∧ s.stepStart.banded slot p q = s.readied slot q n := by
    rw [State.banded]
    split
    · exact ⟨s.notices, rfl, congrArg (fun l : Table Pile => { s.stepStart with piles := l }) hupdate⟩
    · exact ⟨s.notices.hand .pile slot, rfl, congrArg (fun l : Table Pile => { s.stepStart with
        piles := l, notices := s.notices.hand .pile slot }) hupdate⟩
  refine ⟨n, hn, fun v m hv hvpermits => ?_⟩
  have hstep := stepPile_eq (s := s.stepStart) (n := 0) (v := v) (m := m) hget hg hq (by rw [hbanded]; exact hv)
  obtain ⟨w, hw⟩ : ∃ w, w = (if (stageDegraded s.stepStart.wind.weather q).degraded && !p.degraded
    then (v.mapPile slot fun p => stageDegraded s.stepStart.wind.weather p).hand .pile slot
    else v.mapPile slot fun p => stageDegraded s.stepStart.wind.weather p) := ⟨_, rfl⟩
  rw [← hw] at hstep
  have hkept : w.dispatch = v.dispatch ∧ w.notices.orders = v.notices.orders ∧ w.events = v.events ∧ w.water = v.water
      ∧ w.cannons = v.cannons ∧ w.permits = v.permits ∧ w.forecast = v.forecast := by
    rw [hw]
    split <;> exact ⟨rfl, rfl, rfl, rfl, rfl, rfl, rfl⟩
  obtain ⟨hdispatch, horders, hevents, hwater, hcannons, hwpermits, hforecast⟩ := hkept
  have hfold : (Table.keys s.piles).foldl State.stepPile (s.stepStart, 0) = (w, m) := by
    rw [hpiles]
    exact hstep.trans (by rw [Nat.zero_add])
  have hexec := modelStep_of_due hdue hfold
  rw [settled_tellPiles_quiet (stepTold_tells s.piles w.piles) fun x hx => by
    change x ∈ w.permits.list at hx
    rw [hwpermits, hvpermits, hpermits] at hx
    exact absurd hx List.not_mem_nil] at hexec
  exact ⟨_, hexec, hdispatch, rfl, horders, hevents, hwater, hcannons, hwpermits, hforecast⟩

/-! ## Stage 7 in such a yard -/

section
variable {s : State} {slot : Nat} {p q : Pile} {g : Grade} {n : Notices}

/-- What a stage 7 of such a yard may place, when it may: the conditions, of the yard before the step. -/
theorem placesAuto_readied {u : State} {look : Look} (hu : u.wind = s.wind) (hlive : p.life = .live)
    (hq : q = stages1to5 s.model s.wind.weather g p) : u.PlacesAuto g q look ↔
      (p.auto = true ∧ s.wind.hold = false ∧ asksFor q.band look ∧ q.m < sprayTarget g
        ∧ 50 ≤ litresFor g q (sprayTarget g)) := by
  have hauto : q.auto = p.auto := by rw [hq]; exact (stages1to5_auto _ _ _ _).1
  have hlife : q.life = .live := by rw [hq]; exact (stages1to5_kept _ _ _ _).2.trans hlive
  constructor
  · rintro ⟨-, h1, h2, h3, h4, h5⟩
    exact ⟨hauto ▸ h1, hu ▸ h2, h3, h4, h5⟩
  · rintro ⟨h1, h2, h3, h4, h5⟩
    exact ⟨hlife, hauto.trans h1, hu.symm ▸ h2, h3, h4, h5⟩

/-- The litres of an auto dose, told of the pile before the step. -/
theorem litresFor_stages (hq : q = stages1to5 s.model s.wind.weather g p) : litresFor g q (sprayTarget g) =
    (((min g.msat (g.mt + g.margin) - q.m) * p.area + g.gk - 1) / g.gk * 256 + (256 - min 192 (q.lastWp / 4)) - 1)
      / (256 - min 192 (q.lastWp / 4)) := by
  have harea : q.area = p.area := by rw [hq]; exact (stages1to5_area _ _ _ _).1
  rw [← harea]
  rfl

theorem hold_eq_false_iff (w : Wind) : w.hold = false ↔ w.cutOut = false ∧ w.frost = false := Bool.or_eq_false_iff

/-- An order placed by stage 7 in a yard without permits, with the fields it starts with. -/
theorem placeAuto_spec {u : State} {look : Look} (h : u.PlacesAuto g q look) (hpermits : u.permits.list = [])
    (hlen : u.dispatch.orders.length < 32) (hmax : 50 ≤ u.dispatch.maxDose) :
    ∃ x : Order, u.placeAuto g q look = ({ u with dispatch := { u.dispatch with
        orders := u.dispatch.orders ++ [x], nextId := x.id % 65535 + 1, due := u.dispatch.due + 1 } }, 0)
      ∧ x.id = u.acceptedId ∧ x.tag = q.tag ∧ x.state = .waiting
      ∧ x.dose = min (litresFor g q (sprayTarget g)) u.dispatch.maxDose
      ∧ x.clamped = decide (u.dispatch.maxDose < litresFor g q (sprayTarget g)) ∧ x.delivered = 0 ∧ x.policy = .reuseThenFresh
      ∧ x.plan = none ∧ x.volley = none ∧ x.suspension = ⟨false, false, false⟩ ∧ x.pass = none
      ∧ x.accepted = u.clock.minute ∧ x.lapseRef = u.clock.minute ∧ x.passes = 0
      ∧ (q.band = .severe → x.origin = .autoRisk ∧ x.priority = 2)
      ∧ (q.band = .act → x.origin = .autoRisk ∧ x.priority = 1)
      ∧ (q.band = .calm ∨ q.band = .watch → x.origin = .autoLookahead ∧ x.priority = 0) := by
  obtain ⟨origin, k, hw, hsevere, hact, hcalm⟩ := autoWanted_of_asks h.asks
  have hrecord := newOrder_auto (s := u) (p := q) (x := origin) (k := k) (litres := litresFor g q (sprayTarget g))
    (id := u.acceptedId) h.hold hpermits
  refine ⟨_, placeAuto_of_room h hw hpermits hlen hmax, ?_⟩
  rw [hrecord]
  exact ⟨rfl, rfl, rfl, rfl, rfl, rfl, rfl, rfl, rfl, rfl, rfl, rfl, rfl, rfl, hsevere, hact, hcalm⟩

/-- The look-ahead FAILED, told of the pile before the step. -/
theorem lookOf_eq_failed (hlive : p.life = .live) (hq : q = stages1to5 s.model s.wind.weather g p) :
    s.lookOf g q = .failed ↔ p.auto = true ∧ s.model.lead ≠ 0 ∧ ∃ f, s.forecast.lookup (s.clock.minute + s.model.lead) = some f
      ∧ projected g s.model.lead f q < g.mt := by
  have hauto : q.auto = p.auto := by rw [hq]; exact (stages1to5_auto _ _ _ _).1
  have hlife : q.life = .live := by rw [hq]; exact (stages1to5_kept _ _ _ _).2.trans hlive
  rw [State.lookOf, stageLook_eq_failed hlife, hauto]

theorem lookOf_eq_passed (hlive : p.life = .live) (hq : q = stages1to5 s.model s.wind.weather g p) :
    s.lookOf g q = .passed ↔ p.auto = true ∧ s.model.lead ≠ 0 ∧ ∃ f, s.forecast.lookup (s.clock.minute + s.model.lead) = some f
      ∧ (g.mt : Int) ≤ projected g s.model.lead f q := by
  have hauto : q.auto = p.auto := by rw [hq]; exact (stages1to5_auto _ _ _ _).1
  have hlife : q.life = .live := by rw [hq]; exact (stages1to5_kept _ _ _ _).2.trans hlive
  rw [State.lookOf, stageLook_eq_passed hlife, hauto]

/-- The projected moisture, told of the pile before the step. -/
theorem projected_stages (hq : q = stages1to5 s.model s.wind.weather g p) (lead : Nat) (f : Slot) : projected g lead f q =
    max 0 (min (g.msat : Int) ((q.m : Int) + (((f.rain * g.gk / 256 : Nat) : Int)
      - ((g.kg * (min 600 (f.wind * exposure p.profile f.octant / 128) + 20) * (100 - f.rh) / 65536 : Nat) : Int)) * (lead : Int))) := by
  have hprofile : q.profile = p.profile := by rw [hq]; exact (stages1to5_area _ _ _ _).2
  rw [projected_eq, hprofile]

end

end Sys2Proof.Machine
end

section
set_option Elab.async false
/-! PROOFS. A model step and the auto orders of a yard of one pile (R31 to R33). -/

namespace Sys2Proof.Machine

section
variable {s : State} {slot : Nat} {p q : Pile} {g : Grade}

theorem stages_kept (hq : q = stages1to5 s.model s.wind.weather g p) : q.tag = p.tag ∧ q.life = p.life ∧ q.auto = p.auto := by
  rw [hq]
  exact ⟨(stages1to5_kept _ _ _ _).1, (stages1to5_kept _ _ _ _).2, (stages1to5_auto _ _ _ _).1⟩

/-- Stage 7 on a pile on auto in a yard without orders, HOLD inactive: an order is placed exactly when it is asked for. -/
theorem modelStep_of_unordered (hdue : s.stepsNow) (hpiles : s.piles = [(slot, p)]) (hg : Table.get s.grades p.grade = some g)
    (hlive : p.life = .live) (hauto : p.auto = true) (horders : s.dispatch.orders = []) (hpermits : s.permits.list = [])
    (hcutOut : s.wind.cutOut = false) (hfrost : s.wind.frost = false) (hq : q = stages1to5 s.model s.wind.weather g p)
    (hmax : 50 ≤ s.dispatch.maxDose) :
    ∃ (t : State) (failed : Bool) (target landed litres : Nat), exec .modelStep s = .next t
      ∧ (failed = true ↔ ∃ (f : Slot) (wpf : Nat), s.model.lead ≠ 0 ∧ s.forecast.lookup (s.clock.minute + s.model.lead) = some f
          ∧ wpf = min 600 (f.wind * exposure p.profile f.octant / 128)
          ∧ max 0 (min (g.msat : Int) ((q.m : Int) + (((f.rain * g.gk / 256 : Nat) : Int)
              - ((g.kg * (wpf + 20) * (100 - f.rh) / 65536 : Nat) : Int)) * (s.model.lead : Int))) < (g.mt : Int))
      ∧ target = min g.msat (g.mt + g.margin)
      ∧ landed = ((target - q.m) * p.area + g.gk - 1) / g.gk
      ∧ litres = (landed * 256 + (256 - min 192 (q.lastWp / 4)) - 1) / (256 - min 192 (q.lastWp / 4))
      ∧ ((target ≤ q.m ∨ litres < 50 ∨ ((q.band = .calm ∨ q.band = .watch) ∧ failed = false)) → t.dispatch = s.dispatch)
      ∧ (q.m < target → 50 ≤ litres → (q.band = .act ∨ q.band = .severe ∨ failed = true) → ∃ o, t.dispatch = { s.dispatch with
            orders := [o], nextId := s.dispatch.nextId % 65535 + 1, due := s.dispatch.due + 1 }
          ∧ o.id = s.dispatch.nextId ∧ o.tag = p.tag ∧ o.state = .waiting ∧ o.dose = min litres s.dispatch.maxDose
          ∧ o.clamped = decide (s.dispatch.maxDose < litres) ∧ o.delivered = 0 ∧ o.policy = .reuseThenFresh
          ∧ o.plan = none ∧ o.volley = none ∧ o.suspension = ⟨false, false, false⟩ ∧ o.pass = none
          ∧ o.accepted = s.clock.minute ∧ o.lapseRef = s.clock.minute
          ∧ (q.band = .severe → o.origin = .autoRisk ∧ o.priority = 2)
          ∧ (q.band = .act → o.origin = .autoRisk ∧ o.priority = 1)
          ∧ (q.band = .calm ∨ q.band = .watch → o.origin = .autoLookahead ∧ o.priority = 0))
      ∧ t.water = s.water ∧ t.cannons = s.cannons ∧ t.permits = s.permits ∧ t.forecast = s.forecast := by
  obtain ⟨n, -, hstep⟩ := modelStep_of_lone hdue hpiles hg hpermits hq
  obtain ⟨htag, -, -⟩ := stages_kept hq
  have hlitres := litresFor_stages hq
  have hfailed : decide (s.lookOf g q = .failed) = true ↔ ∃ (f : Slot) (wpf : Nat), s.model.lead ≠ 0
      ∧ s.forecast.lookup (s.clock.minute + s.model.lead) = some f
      ∧ wpf = min 600 (f.wind * exposure p.profile f.octant / 128)
      ∧ max 0 (min (g.msat : Int) ((q.m : Int) + (((f.rain * g.gk / 256 : Nat) : Int)
          - ((g.kg * (wpf + 20) * (100 - f.rh) / 65536 : Nat) : Int)) * (s.model.lead : Int))) < (g.mt : Int) := by
    rw [decide_eq_true_iff, lookOf_eq_failed hlive hq]
    constructor
    · rintro ⟨-, hlead, f, hf, hlt⟩
      exact ⟨f, _, hlead, hf, rfl, projected_stages hq s.model.lead f ▸ hlt⟩
    · rintro ⟨f, wpf, hlead, hf, rfl, hlt⟩
      exact ⟨hauto, hlead, f, hf, (projected_stages hq s.model.lead f).symm ▸ hlt⟩
  have hnone : (s.readied slot q n).openAuto? q.tag = none := by
    rw [State.openAuto?, State.openOn, show (s.readied slot q n).dispatch.orders = [] from horders]
    rfl
  have hplaces := placesAuto_readied (u := s.readied slot q n) (look := s.lookOf g q) rfl hlive hq
  by_cases h : (s.readied slot q n).PlacesAuto g q (s.lookOf g q)
  · obtain ⟨-, -, hasks, hshort, hlt⟩ := hplaces.1 h
    obtain ⟨x, hplace, hid, hxtag, hstate, hdose, hclamped, hdelivered, hpolicy, hplan, hvolley, hsuspension, hpass, haccepted,
      hlapse, -, hsevere, hact, hcalm⟩ := placeAuto_spec h hpermits (by
        rw [show (s.readied slot q n).dispatch.orders = [] from horders]
        decide) hmax
    have hnext : x.id = s.dispatch.nextId := hid.trans (acceptedId_of_free (by
      have : (s.readied slot q n).evicted = none := evicted_of_room (by
        rw [show (s.readied slot q n).dispatch.orders = [] from horders]
        decide)
      rw [withRoom_of_evicted_none this, show (s.readied slot q n).dispatch.orders = [] from horders]
      exact List.not_mem_nil))
    obtain ⟨t, hexec, hdispatch, -, -, -, hwater, hcannons, htpermits, hforecast⟩ :=
      hstep _ _ ((stageAuto_of_none hnone).trans hplace) rfl
    refine ⟨t, _, _, _, _, hexec, hfailed, rfl, rfl, rfl, fun hno => ?_, fun _ _ _ => ⟨x, ?_, hnext, hxtag.trans htag, hstate, ?_,
      ?_, hdelivered, hpolicy, hplan, hvolley, hsuspension, hpass, haccepted, hlapse, hsevere, hact, hcalm⟩, hwater, hcannons,
      htpermits, hforecast⟩
    · rw [hlitres] at hlt
      rcases hno with hno | hno | ⟨hband, hlook⟩
      · exact absurd hshort (Nat.not_lt.2 hno)
      · exact absurd hlt (Nat.not_le.2 hno)
      · rw [decide_eq_false_iff_not] at hlook
        rcases hasks with e | e | e
        · rw [e] at hband
          rcases hband with hb | hb <;> cases hb
        · rw [e] at hband
          rcases hband with hb | hb <;> cases hb
        · exact absurd e hlook
    · rw [hdispatch, ← hnext, show (s.readied slot q n).dispatch = s.dispatch from rfl, horders]
      rfl
    · rw [hdose, hlitres]
      rfl
    · rw [hclamped, hlitres]
      rfl
  · obtain ⟨t, hexec, hdispatch, -, -, -, hwater, hcannons, htpermits, hforecast⟩ :=
      hstep _ _ ((stageAuto_of_none hnone).trans (placeAuto_of_not h)) rfl
    refine ⟨t, _, _, _, _, hexec, hfailed, rfl, rfl, rfl, fun _ => hdispatch, fun hshort hlt hasks => absurd (hplaces.2 ?_) h,
      hwater, hcannons, htpermits, hforecast⟩
    rw [hlitres]
    rw [decide_eq_true_iff] at hasks
    exact ⟨hauto, (hold_eq_false_iff _).2 ⟨hcutOut, hfrost⟩, hasks, hshort, hlt⟩

/-- Stage 7 on a pile with one open auto order that is withdrawn: it ends, its id is handed over, and stage 7 goes on. -/
theorem modelStep_of_gone {o : Order} (hdue : s.stepsNow) (hpiles : s.piles = [(slot, p)])
    (hg : Table.get s.grades p.grade = some g) (hlive : p.life = .live) (horders : s.dispatch.orders = [o]) (htag : o.tag = p.tag)
    (hpermits : s.permits.list = []) (hq : q = stages1to5 s.model s.wind.weather g p)
    (hauto : o.origin = .autoRisk ∨ o.origin = .autoLookahead) (hgone : o.leaves q.band (s.lookOf g q)) :
    ∃ u : State, u.wind = s.wind ∧ u.permits = s.permits ∧ o.id ∈ u.notices.orders
      ∧ u.dispatch = { s.dispatch with orders := [o.ended .withdrawn s.clock.minute u.events] }
      ∧ ∀ v m, u.placeAuto g q (s.lookOf g q) = (v, m) → v.permits = u.permits → v.notices = u.notices → v.events = u.events →
        ∃ t, exec .modelStep s = .next t ∧ t.dispatch = v.dispatch ∧ t.events = u.events ∧ o.id ∈ t.notices.orders := by
  obtain ⟨n, hn, hstep⟩ := modelStep_of_lone hdue hpiles hg hpermits hq
  obtain ⟨hqtag, hqlife, -⟩ := stages_kept hq
  have hfound : (s.readied slot q n).pileAt? q.tag = some (slot, q) := by simp [State.pileAt?, State.readied]
  have hstage := stageAuto_of_gone (s := s.readied slot q n) (g := g) (look := s.lookOf g q) horders (htag.trans hqtag.symm) hauto
    hgone hfound (hqlife.trans hlive)
  have hset : o.id ∈ ((s.readied slot q n).endAll [o.id] .withdrawn).notices.orders := by
    change o.id ∈ insertKey n.orders o.id
    exact mem_insertKey_iff.2 (.inl rfl)
  refine ⟨(s.readied slot q n).endAll [o.id] .withdrawn, rfl, rfl, hset, ?_, fun v m hv hvpermits hvnotices hvevents => ?_⟩
  · have hended : ((s.readied slot q n).endAll [o.id] .withdrawn).dispatch.orders
        = [o.ended .withdrawn s.clock.minute (s.events + 1)] := by
      rw [State.endAll, show (s.readied slot q n).dispatch.orders = [o] from horders, List.map_singleton,
        if_pos List.mem_cons_self]
      rfl
    exact congrArg (fun l : List Order => { s.dispatch with orders := l }) hended
  · obtain ⟨t, hexec, hdispatch, -, htorders, hevents, -⟩ := hstep v m (hstage.trans hv) hvpermits
    exact ⟨t, hexec, hdispatch, hevents.trans hvevents, by rw [htorders, hvnotices]; exact hset⟩

/-- Stage 7 on a pile with one open auto order that is kept: it is raised, or left. -/
theorem modelStep_of_kept {o : Order} (hdue : s.stepsNow) (hpiles : s.piles = [(slot, p)])
    (hg : Table.get s.grades p.grade = some g) (horders : s.dispatch.orders = [o]) (htag : o.tag = p.tag)
    (hopen : o.state ≠ .ended) (hpermits : s.permits.list = []) (hq : q = stages1to5 s.model s.wind.weather g p)
    (hauto : o.origin = .autoRisk ∨ o.origin = .autoLookahead) (hkept : ¬ o.leaves q.band (s.lookOf g q)) :
    ∃ t, exec .modelStep s = .next t
      ∧ (q.band = .calm ∨ q.band = .watch → t.dispatch = s.dispatch)
      ∧ ∀ k, (q.band = .act ∧ k = 1) ∨ (q.band = .severe ∧ k = 2) → t.dispatch = { s.dispatch with
          orders := [if o.origin = .autoLookahead ∨ o.priority < k then { o with origin := .autoRisk, priority := k } else o]
          due := s.dispatch.due + if o.state = .waiting ∧ o.priority < k then 1 else 0 } := by
  obtain ⟨n, -, hstep⟩ := modelStep_of_lone hdue hpiles hg hpermits hq
  obtain ⟨hqtag, -, -⟩ := stages_kept hq
  have hstage := stageAuto_of_kept (g := g) (openAuto?_of_lone (s := s.readied slot q n) (p := q) horders (htag.trans hqtag.symm)
    hopen hauto) hkept
  cases hband : q.band with
  | calm =>
    rw [raiseAuto_of_calm (.inl hband)] at hstage
    obtain ⟨t, hexec, hdispatch, -⟩ := hstep _ _ hstage rfl
    exact ⟨t, hexec, fun _ => hdispatch, fun k hk => by simp at hk⟩
  | watch =>
    rw [raiseAuto_of_calm (.inr hband)] at hstage
    obtain ⟨t, hexec, hdispatch, -⟩ := hstep _ _ hstage rfl
    exact ⟨t, hexec, fun _ => hdispatch, fun k hk => by simp at hk⟩
  | act =>
    rw [raiseAuto_of_band (s := s.readied slot q n) (k := 1) horders (.inl ⟨hband, rfl⟩)] at hstage
    obtain ⟨t, hexec, hdispatch, -⟩ := hstep _ _ hstage rfl
    refine ⟨t, hexec, fun hb => by simp at hb, fun k hk => ?_⟩
    obtain rfl : k = 1 := by simpa using hk
    exact hdispatch
  | severe =>
    rw [raiseAuto_of_band (s := s.readied slot q n) (k := 2) horders (.inr ⟨hband, rfl⟩)] at hstage
    obtain ⟨t, hexec, hdispatch, -⟩ := hstep _ _ hstage rfl
    refine ⟨t, hexec, fun hb => by simp at hb, fun k hk => ?_⟩
    obtain rfl : k = 2 := by simpa using hk
    exact hdispatch

end

end Sys2Proof.Machine
end

section
set_option Elab.async false
/-! PROOFS. What a model step keeps, withdraws, raises and places (R31 to R33). -/

namespace Sys2Proof.Machine

/-- Settles O24: stage 7 of a step on the one pile of the yard, by whether an auto order is open and whether its reason holds. -/
theorem modelStepKeepsAutoOrders : Obligations.ModelStepKeepsAutoOrders := by
  unfold Obligations.ModelStepKeepsAutoOrders
  refine ⟨fun s slot p q g hdue hpiles hg hlive hauto horders hpermits hcut hfrost hq hmax =>
      modelStep_of_unordered hdue hpiles hg hlive hauto horders hpermits hcut hfrost hq hmax,
    fun s slot p q g o hdue hpiles hg hlive hauto horders htag hpermits hq => ?offAuto,
    fun s slot target landed litres p q g proj passed failed hold ended hdue hpiles hg hlive hpermits hq hmax hproj hpassed hfailed
      hhold htarget hlanded hlitres hended => ?anyAuto⟩
  case offAuto =>
    have hlook : s.lookOf g q ≠ .passed := fun h => by
      have := ((lookOf_eq_passed hlive hq).1 h).1
      rw [hauto] at this
      exact Bool.false_ne_true this
    have hstays : ∀ k, (q.band = .act ∧ k = 1) ∨ (q.band = .severe ∧ k = 2) → ¬ o.leaves q.band (s.lookOf g q) :=
      fun k hk hleaves => by
        rcases reasonGone_iff.1 hleaves.2.2 with ⟨-, hb⟩ | ⟨-, hb⟩
        · rcases hk with ⟨e, -⟩ | ⟨e, -⟩ <;> (rw [e] at hb; simp at hb)
        · exact hlook hb
    refine ⟨fun horigin hwaiting hpasses hband => ?_, fun k hk hopen horigin => ?_, fun k hk hopen horigin hle => ?_⟩
    · obtain ⟨u, huwind, -, -, hudispatch, hstep⟩ := modelStep_of_gone hdue hpiles hg hlive horders htag hpermits hq
        (.inl horigin) ⟨hwaiting, hpasses, reasonGone_iff.2 (.inl ⟨horigin, hband⟩)⟩
      obtain ⟨t, hexec, hdispatch, hevents, hset⟩ := hstep _ _ (placeAuto_of_not fun h => by
        have := ((placesAuto_readied huwind hlive hq).1 h).1
        rw [hauto] at this
        exact Bool.false_ne_true this) rfl rfl rfl
      exact ⟨t, hexec, by rw [hdispatch, hudispatch, hevents]; rfl, hset⟩
    · obtain ⟨t, hexec, -, hraised⟩ := modelStep_of_kept hdue hpiles hg horders htag hopen hpermits hq
        (horigin.elim .inr fun h => .inl h.1) (hstays k hk)
      have := hraised k hk
      rw [if_pos (horigin.imp id fun h => h.2)] at this
      exact ⟨t, hexec, this⟩
    · obtain ⟨t, hexec, -, hraised⟩ := modelStep_of_kept hdue hpiles hg horders htag hopen hpermits hq (.inl horigin) (hstays k hk)
      have := hraised k hk
      rw [if_neg (by rw [horigin]; simp; omega), if_neg (by omega), Nat.add_zero, ← horders] at this
      exact ⟨t, hexec, this⟩
  case anyAuto =>
    have hlitres' : litresFor g q (sprayTarget g) = litres := by rw [litresFor_stages hq, hlitres, hlanded, htarget]
    have htarget' : sprayTarget g = target := htarget.symm
    have hpassed' : s.lookOf g q = .passed ↔ passed := by
      rw [lookOf_eq_passed hlive hq, hpassed]
      simp only [projected_stages hq, hproj]
    have hfailed' : s.lookOf g q = .failed ↔ failed := by
      rw [lookOf_eq_failed hlive hq, hfailed]
      simp only [projected_stages hq, hproj]
    have hhold' : s.wind.hold = false ↔ ¬ hold := by
      rw [hold_eq_false_iff, hhold, not_or, Bool.not_eq_true, Bool.not_eq_true]
    have hplaces : ∀ u : State, u.wind = s.wind → (u.PlacesAuto g q (s.lookOf g q) ↔
        (q.band = .act ∨ q.band = .severe ∨ failed) ∧ p.auto = true ∧ ¬ hold ∧ q.m < target ∧ 50 ≤ litres) := fun u hu => by
      rw [placesAuto_readied hu hlive hq, asksFor, hfailed', hhold', hlitres', htarget']
      exact ⟨fun ⟨hauto, hheld, hband, hrest⟩ => ⟨hband, hauto, hheld, hrest⟩,
        fun ⟨hband, hauto, hheld, hrest⟩ => ⟨hauto, hheld, hband, hrest⟩⟩
    refine ⟨fun o horders htag hopen hauto hlow hhigh gone asks hgone hasks => ?_, fun hnone => ⟨fun hheld => ?_,
      fun hheld hauto hband hshort hlt hfull => ?_⟩⟩
    · have hleaves : o.leaves q.band (s.lookOf g q) ↔ gone := by
        rw [hgone, Order.leaves, reasonGone_iff, hpassed']
      by_cases hg' : gone
      · obtain ⟨u, huwind, hupermits, -, hudispatch, hstep⟩ := modelStep_of_gone hdue hpiles hg hlive horders htag hpermits hq
          hauto (hleaves.2 hg')
        by_cases ha : asks
        · have hulen : u.dispatch.orders.length < 32 := by rw [hudispatch]; exact Nat.one_lt_ofNat
          obtain ⟨x, hplace, hid, hxtag, hstate, hdose, -, -, -, -, -, -, -, -, -, hxpasses, hsevere, hact, hcalm⟩ :=
            placeAuto_spec ((hplaces u huwind).2 (hasks.1 ha)) (by rw [hupermits]; exact hpermits) hulen
              (by rw [hudispatch]; exact hmax)
          obtain ⟨t, hexec, hdispatch, hevents, hset⟩ := hstep _ _ hplace rfl rfl rfl
          have hroom : u.withRoom = u := withRoom_of_evicted_none (evicted_of_room hulen)
          have hfresh : u.acceptedId ∉ u.withRoom.dispatch.orders.map Order.id :=
            (acceptedId_fresh (by omega) (by rw [hudispatch]; exact hlow) (by rw [hudispatch]; exact hhigh) (by
              rw [State.ordersFull, hudispatch]; rfl)).1
          have hids : u.withRoom.dispatch.orders.map Order.id = [o.id] := by rw [hroom, hudispatch]; rfl
          rw [hids] at hfresh
          refine ⟨t, hexec, fun hn => absurd hg' hn, fun _ hn => absurd hg' hn, fun _ => hset, fun _ hn => absurd ha hn,
            fun _ _ => ⟨x, ?_, ?_, fun hne => ?_, hxtag.trans (stages_kept hq).1, hstate, ?_, hxpasses, hsevere, hact, hcalm⟩⟩
          · rw [hdispatch, hudispatch, hevents, hended]
            rfl
          · rw [hid]
            simpa using hfresh
          · have hnext : u.dispatch.nextId = s.dispatch.nextId := by rw [hudispatch]
            rw [hid, acceptedId_of_free, hnext]
            rw [hids, hnext]
            simpa using hne
          · rw [hdose, hlitres', hudispatch]
        · obtain ⟨t, hexec, hdispatch, hevents, hset⟩ := hstep _ _
            (placeAuto_of_not fun h => ha (hasks.2 ((hplaces u huwind).1 h))) rfl rfl rfl
          refine ⟨t, hexec, fun hn => absurd hg' hn, fun _ hn => absurd hg' hn, fun _ => hset, fun _ _ => ?_,
            fun _ h => absurd h ha⟩
          rw [hdispatch, hudispatch, hevents, hended]
          rfl
      · obtain ⟨t, hexec, hcalm, hraised⟩ := modelStep_of_kept hdue hpiles hg horders htag hopen hpermits hq hauto
          fun h => hg' (hleaves.1 h)
        exact ⟨t, hexec, fun _ => hcalm, fun k _ => hraised k, fun h => absurd h hg', fun h => absurd h hg', fun h => absurd h hg'⟩
    all_goals
      obtain ⟨n, -, hstep⟩ := modelStep_of_lone hdue hpiles hg hpermits hq
      have hopenAuto : (s.readied slot q n).openAuto? q.tag = none := by
        refine List.find?_eq_none.2 fun o ho => ?_
        obtain ⟨hmem, htag, hopen⟩ := mem_openOn.1 ho
        obtain ⟨h1, h2⟩ := hnone o hmem (htag.trans (stages_kept hq).1) hopen
        simp [Order.isAuto, h1, h2]
    · obtain ⟨t, hexec, hdispatch, hshortfall, -⟩ := hstep _ _ ((stageAuto_of_none hopenAuto).trans
        (placeAuto_of_not fun h => ((hplaces (s.readied slot q n) rfl).1 h).2.2.1 hheld)) rfl
      exact ⟨t, hexec, hdispatch, hshortfall⟩
    · have hp := (hplaces (s.readied slot q n) rfl).2 ⟨hband, hauto, hheld, hshort, hlt⟩
      obtain ⟨x, k, hw, -⟩ := autoWanted_of_asks hp.asks
      have hfull' : (s.readied slot q n).ordersFull = true := (ordersFull_iff _).2 hfull
      obtain ⟨t, hexec, hdispatch, hshortfall, -⟩ := hstep _ _ ((stageAuto_of_none hopenAuto).trans
        ((placeAuto_of_places hp hw).trans (if_pos hfull'))) rfl
      exact ⟨t, hexec, hdispatch, hshortfall⟩

end Sys2Proof.Machine
end

section
set_option Elab.async false
/-! PROOFS. A permit that has reached its limit ends (R147, R150, R152). -/

namespace Sys2Proof.Machine

/-! ## The ending of a permit (R147) -/

/-- A permit gone from the list, with its outcome entry, its machine handed over. -/
def State.permitGone (s : State) (y : Permit) (e : OutcomeEntry) : State := { s with
  notices := s.notices.hand .permit y.machine
  permits := { s.permits with
    list := s.permits.list.filter fun z => z.machine != y.machine
    outcomes := Table.set s.permits.outcomes y.machine e } }

section
variable {s : State} {y : Permit}

theorem doTask_endPermit (h : s.permit? y.machine = some y) (x : PermitOutcome) (withM : Bool) :
    doTask none (.endPermit y.machine x withM) s = (s.permitGone y (s.outcomeEntry y x withM),
      (s.orphanPrewet? y).toList.map Task.cancel ++ [.checkRetire y.tag]
        ++ if y.state = .pendingWet then [] else [.liftZone y.tag]) := by
  change s.endPermit none y.machine x withM = _
  simp only [State.endPermit, h]
  rfl

theorem doTask_checkRetire {s : State} {tag : Nat} (h : ∀ slot p, s.pileAt? tag = some (slot, p) → p.retirePending = false) :
    doTask none (.checkRetire tag) s = (s, []) := checkRetire_quiet s tag h

/-- No order stands on the pile: there is no ZONE to lift. -/
theorem doTask_liftZone {s : State} {tag : Nat} (h : s.openOn tag = []) : doTask none (.liftZone tag) s = (s, []) := by
  refine congrArg (·, ([] : List Task)) ?_
  simp only [State.liftZone, h, List.foldl_nil]
  split
  · rfl
  · exact ite_self _

/-! ## A prewet wait (R150) -/

theorem expirePrewet_of_due (h : s.permit? y.machine = some y) (hstate : y.state = .pendingWet)
    (hwait : y.entered + s.permits.prewetWait ≤ s.now) :
    doTask none (.expirePrewet y.machine) s = (s, [.endPermit y.machine .refusedTooDry false]) := by
  change s.expirePrewet y.machine = _
  simp only [State.expirePrewet, h]
  exact if_pos ⟨hstate, by rw [minutesSince]; omega⟩

theorem expirePrewet_of_not (hwait : ∀ z, s.permit? y.machine = some z → z.state = .pendingWet →
    s.now < z.entered + s.permits.prewetWait) (hpos : 1 ≤ s.permits.prewetWait) :
    doTask none (.expirePrewet y.machine) s = (s, []) := by
  change s.expirePrewet y.machine = _
  simp only [State.expirePrewet]
  cases hz : s.permit? y.machine with
  | none => rfl
  | some z =>
    refine if_neg fun h => ?_
    have := hwait z hz h.1
    have := h.2
    rw [minutesSince] at this
    omega

/-- The refusal of a permit whose PREWET order another waits for too, or that has none. -/
theorem reaches_refused (h : s.permit? y.machine = some y) (hstate : y.state = .pendingWet) (horphan : s.orphanPrewet? y = none)
    (hretire : ∀ slot p, s.pileAt? y.tag = some (slot, p) → p.retirePending = false) :
    Reaches none [.endPermit y.machine .refusedTooDry false] s 2 (s.permitGone y ⟨.refusedTooDry, s.now, y.tag, y.id, none⟩) := by
  have hend := doTask_endPermit h .refusedTooDry false
  rw [horphan, if_pos hstate] at hend
  exact .one hend (.single (doTask_checkRetire hretire))

/-- The refusal of a permit that alone waited for its PREWET order, which waits or is held: that order is cancelled. -/
theorem reaches_refused_orphan {o : Order} (h : s.permit? y.machine = some y) (hstate : y.state = .pendingWet)
    (horphan : s.orphanPrewet? y = some o.id) (ho : s.order? o.id = some o) (hinert : o.state = .waiting ∨ o.state = .volleyHeld)
    (hothers : ∀ z ∈ s.permits.list, z.machine ≠ y.machine → z.names o.id = false)
    (hlive : ∀ slot p, s.pileAt? o.tag = some (slot, p) → p.life = .live)
    (hretire : ∀ slot p, s.pileAt? y.tag = some (slot, p) → p.retirePending = false) :
    Reaches none [.endPermit y.machine .refusedTooDry false] s 6
      ((s.permitGone y ⟨.refusedTooDry, s.now, y.tag, y.id, none⟩).endAll [o.id] .cancelled) := by
  have hend := doTask_endPermit h .refusedTooDry false
  rw [horphan, if_pos hstate] at hend
  have hcancel := reaches_cancel_inert (q := none) (s := s.permitGone y ⟨.refusedTooDry, s.now, y.tag, y.id, none⟩)
    (tag := o.tag) (id := o.id) ⟨o, ho, hinert, rfl, fun _ z hz => by
      obtain ⟨hmem, hne⟩ := List.mem_filter.1 hz
      exact hothers z hmem (bne_iff_ne.1 hne)⟩
  rw [checkFree_quiet ((s.permitGone y ⟨.refusedTooDry, s.now, y.tag, y.id, none⟩).endAll [o.id] .cancelled) o.tag hlive]
    at hcancel
  exact .one hend (hcancel.cons (.single (doTask_checkRetire hretire)))

/-! ## A max hold (R152) -/

/-- A pile on which a permit has lapsed: blended by the grade's fdef and Mcore, and marked estimated. -/
def Pile.lapsed (p : Pile) (g : Grade) : Pile :=
  { p with m := (p.m * (100 - g.fdef) + min p.mcore g.msat * g.fdef + 50) / 100, estimated := true }

/-- The pile of a slot after a lapse, its slot handed over where the flag was clear. -/
def State.pileLapsed (s : State) (slot : Nat) (p : Pile) (g : Grade) : State := { s with
  piles := Table.update s.piles slot fun q => q.lapsed g
  notices := if p.estimated then s.notices else s.notices.hand .pile slot }

variable {slot : Nat} {p : Pile} {g : Grade}

theorem blend_fdef (hfdef : g.fdef ≤ 100) (p : Pile) :
    blend g g.fdef none p = { p with m := (p.m * (100 - g.fdef) + min p.mcore g.msat * g.fdef + 50) / 100 } := by
  simp only [blend, Nat.min_eq_left hfdef]
  rfl

theorem lapsePermit_of_due (h : s.permit? y.machine = some y) (hstate : y.state = .granted)
    (hhold : y.entered + s.permits.maxHold.of y.kind ≤ s.now) (hp : s.pileAt? y.tag = some (slot, p))
    (hg : Table.get s.grades p.grade = some g) (hfdef : g.fdef ≤ 100) (hwf : Table.wf s.piles = true) :
    doTask none (.lapsePermit y.machine) s = (s.pileLapsed slot p g, [.tellPile y.tag, .endPermit y.machine .lapsed true]) := by
  have hfdefAt : s.fdefAt y.tag = g.fdef := by
    rw [State.fdefAt, hp, Option.bind_some, State.gradeOf?, hg]
    rfl
  have hblend : s.blendPile y.tag g.fdef none = s.mapPile slot fun q => blend g g.fdef none q := by
    simp only [State.blendPile, hp, State.gradeOf?, hg]
  have hat : (s.mapPile slot fun q => blend g g.fdef none q).pileAt? y.tag = some (slot, blend g g.fdef none p) :=
    pileAt_mapPile hp fun _ => rfl
  have hmarked : (s.mapPile slot fun q => blend g g.fdef none q).markEstimated y.tag = s.pileLapsed slot p g := by
    simp only [State.markEstimated, hat]
    have hget := State.pileAt_get hwf hp
    by_cases hest : p.estimated = true
    · rw [if_pos (show (blend g g.fdef none p).estimated = true from hest), State.pileLapsed, if_pos hest]
      have hsame : blend g g.fdef none p = p.lapsed g := by
        rw [blend_fdef hfdef, Pile.lapsed, ← hest]
      exact congrArg (fun l : Table Pile => { s with piles := l }) 
        (Table.update_congr (f := fun q => blend g g.fdef none q) (g := fun q => q.lapsed g) hwf hget hsame)
    · rw [if_neg (show ¬ (blend g g.fdef none p).estimated = true from hest), State.pileLapsed, if_neg hest]
      have hsame : (Table.update (Table.update s.piles slot fun q => blend g g.fdef none q) slot fun q =>
          { q with estimated := true }) = Table.update s.piles slot fun q => q.lapsed g := by
        rw [Table.update_eq_map, Table.update_eq_map, Table.update_eq_map, List.map_map]
        refine List.map_congr_left fun e _ => ?_
        dsimp only [Function.comp]
        split
        · rw [blend_fdef hfdef, Pile.lapsed]
        · rfl
      exact congrArg (fun l : Table Pile => { s with piles := l, notices := s.notices.hand .pile slot }) hsame
  change s.lapsePermit y.machine = _
  simp only [State.lapsePermit, h]
  rw [if_pos ⟨hstate, by rw [minutesSince]; omega⟩, hfdefAt, hblend, hmarked]

theorem lapsePermit_of_not (hhold : ∀ z, s.permit? y.machine = some z → z.state = .granted →
    s.now < z.entered + s.permits.maxHold.of z.kind) (hpos : ∀ k, 1 ≤ s.permits.maxHold.of k) :
    doTask none (.lapsePermit y.machine) s = (s, []) := by
  change s.lapsePermit y.machine = _
  simp only [State.lapsePermit]
  cases hz : s.permit? y.machine with
  | none => rfl
  | some z =>
    refine if_neg fun h => ?_
    have := hhold z hz h.1
    have hreached := h.2
    have := hpos z.kind
    rw [minutesSince] at hreached
    omega

theorem tellPile_of_unawaited {s : State} {tag : Nat} (h : ∀ z ∈ s.permits.list, z.tag = tag → z.state ≠ .pendingWet) :
    doTask none (.tellPile tag) s = (s, []) := by
  have hnil : (s.permits.list.filter fun x => x.waitsOn tag) = [] := List.filter_eq_nil_iff.2 fun z hz hw => by
    rw [Permit.waitsOn, Bool.and_eq_true, beq_iff_eq, beq_iff_eq] at hw
    exact h z hz hw.1 hw.2
  change s.tellPile none tag = _
  simp only [State.tellPile, hnil]
  split
  · rfl
  · exact if_neg fun h => h.2.2 rfl

/-- The lapse of a permit, up to the tellings that follow its end. -/
theorem lapsed_told (h : s.permit? y.machine = some y) (hstate : y.state = .granted)
    (hp : s.pileAt? y.tag = some (slot, p)) (hunawaited : ∀ z ∈ s.permits.list, z.tag = y.tag → z.state ≠ .pendingWet) {k : Nat} {t : State}
    (hrest : Reaches none [.checkRetire y.tag, .liftZone y.tag]
      ((s.pileLapsed slot p g).permitGone y ⟨.lapsed, s.now, y.tag, y.id, some (p.lapsed g).m⟩) k t) :
    Reaches none [.tellPile y.tag, .endPermit y.machine .lapsed true] (s.pileLapsed slot p g) (k + 2) t := by
  have hat : (s.pileLapsed slot p g).pileAt? y.tag = some (slot, p.lapsed g) :=
    pileAt_mapPile (f := fun q => q.lapsed g) hp fun _ => rfl
  have hend := doTask_endPermit (s := s.pileLapsed slot p g) h .lapsed true
  have horphan : (s.pileLapsed slot p g).orphanPrewet? y = none := if_neg (by rw [hstate]; decide)
  rw [horphan, if_neg (by rw [hstate]; decide), State.outcomeEntry, hat] at hend
  have hthen : Reaches none [.endPermit y.machine .lapsed true] (s.pileLapsed slot p g) (k + 1) t := .one hend hrest
  exact ((Reaches.single (tellPile_of_unawaited (s := s.pileLapsed slot p g) hunawaited)).cons hthen).mono (by omega)

/-- A permit lapses on a pile without orders and waiting permits. -/
theorem reaches_lapsed (h : s.permit? y.machine = some y) (hstate : y.state = .granted)
    (hhold : y.entered + s.permits.maxHold.of y.kind ≤ s.now) (hp : s.pileAt? y.tag = some (slot, p))
    (hg : Table.get s.grades p.grade = some g) (hfdef : g.fdef ≤ 100) (hwf : Table.wf s.piles = true)
    (hretire : p.retirePending = false) (horders : ∀ o ∈ s.dispatch.orders, o.tag ≠ y.tag)
    (hunawaited : ∀ z ∈ s.permits.list, z.tag = y.tag → z.state ≠ .pendingWet) :
    Reaches none [.lapsePermit y.machine] s 5
      ((s.pileLapsed slot p g).permitGone y ⟨.lapsed, s.now, y.tag, y.id, some (p.lapsed g).m⟩) := by
  have hat : (s.pileLapsed slot p g).pileAt? y.tag = some (slot, p.lapsed g) :=
    pileAt_mapPile (f := fun q => q.lapsed g) hp fun _ => rfl
  refine .one (lapsePermit_of_due h hstate hhold hp hg hfdef hwf) (lapsed_told h hstate hp hunawaited
    ((Reaches.single (doTask_checkRetire fun slot' p' hp' => ?_)).cons (.single (doTask_liftZone ?_))))
  · obtain ⟨-, rfl⟩ := Prod.mk.inj (Option.some.inj (hat.symm.trans hp'))
    exact hretire
  · exact (openOn_eq_nil_iff _ _).2 fun ⟨o, ho, htag, _⟩ => horders o ho htag

end

end Sys2Proof.Machine
end

section
set_option Elab.async false
/-! PROOFS. Permits that have reached their limits, ended one after another (R147 to R152). -/

namespace Sys2Proof.Machine

/-! ## The notices, the ORDER change set apart -/

/-- Two notice records that differ in the ORDER change set and the flags alone. -/
structure Notices.Like (n m : Notices) : Prop where
  piles : n.piles = m.piles
  cannons : n.cannons = m.cannons
  permits : n.permits = m.permits
  mask : n.mask = m.mask

theorem Notices.Like.eq {n m : Notices} (h : n.Like m) : n = { m with orders := n.orders, flags := n.flags } := by
  obtain ⟨h1, h2, h3, h4⟩ := h
  cases n
  cases m
  simp_all

theorem Notices.Like.handPermit {n m : Notices} (h : n.Like m) (k : Nat) : (n.hand .permit k).Like (m.hand .permit k) where
  piles := h.piles
  cannons := h.cannons
  permits := congrArg (insertKey · k) h.permits
  mask := h.mask

theorem Notices.Like.handPile {n m : Notices} (h : n.Like m) (k : Nat) : (n.hand .pile k).Like (m.hand .pile k) where
  piles := congrArg (insertKey · k) h.piles
  cannons := h.cannons
  permits := h.permits
  mask := h.mask

theorem Notices.Like.handOrder {n m : Notices} (h : n.Like m) (k : Nat) : (n.hand .order k).Like m where
  piles := h.piles
  cannons := h.cannons
  permits := h.permits
  mask := h.mask

/-- A notice record with the WATER flag at some value. -/
def Notices.wet (n : Notices) (w : Bool) : Notices := { n with flags := { n.flags with water := w } }

theorem wet_hand (n : Notices) (w : Bool) (c : ChangeSet) (k : Nat) : (n.wet w).hand c k = (n.hand c k).wet w := by
  cases c <;> rfl

/-! ## Permits ended in turn -/

/-- An open order that some permits gone have left without a permit that waits for it. -/
def State.orphanedBy (s : State) (gone : List Permit) (o : Order) : Bool :=
  o.isOpen && gone.any (fun z => z.names o.id) && s.permits.list.all fun z => !z.names o.id || decide (z ∈ gone)

theorem orphanedBy_iff {s : State} {gone : List Permit} {o : Order} : s.orphanedBy gone o = true ↔
    o.state ≠ .ended ∧ (∃ z ∈ gone, z.names o.id = true) ∧ ∀ z ∈ s.permits.list, z.names o.id = true → z ∈ gone := by
  rw [State.orphanedBy, Bool.and_eq_true, Bool.and_eq_true, isOpen_iff, List.any_eq_true, List.all_eq_true, and_assoc]
  refine and_congr_right fun _ => and_congr_right fun _ => forall_congr' fun z => imp_congr_right fun _ => ?_
  rw [Bool.or_eq_true, Bool.not_eq_true', decide_eq_true_iff, imp_iff_not_or, Bool.not_eq_true]

theorem orphanedBy_snoc {s : State} {gone : List Permit} {y : Permit} {o : Order} : s.orphanedBy (gone ++ [y]) o = true ↔
    s.orphanedBy gone o = true
      ∨ (y.names o.id = true ∧ o.state ≠ .ended ∧ ∀ z ∈ s.permits.list, z.names o.id = true → z ∈ gone ++ [y]) := by
  rw [orphanedBy_iff, orphanedBy_iff]
  constructor
  · rintro ⟨hopen, ⟨z, hz, hnames⟩, hall⟩
    by_cases hy : y.names o.id = true
    · exact .inr ⟨hy, hopen, hall⟩
    · have hin : ∀ w, w.names o.id = true → w ∈ gone ++ [y] → w ∈ gone := fun w hw hmem => by
        rcases List.mem_append.1 hmem with h | h
        · exact h
        · rw [List.mem_singleton.1 h] at hw
          exact absurd hw hy
      exact .inl ⟨hopen, ⟨z, hin z hnames hz, hnames⟩, fun w hmem hw => hin w hw (hall w hmem hw)⟩
  · rintro (⟨hopen, ⟨z, hz, hnames⟩, hall⟩ | ⟨hy, hopen, hall⟩)
    · exact ⟨hopen, ⟨z, List.mem_append_left _ hz, hnames⟩, fun w hmem hw => List.mem_append_left _ (hall w hmem hw)⟩
    · exact ⟨hopen, ⟨y, List.mem_append_right _ List.mem_cons_self, hy⟩, hall⟩

/-- A yard in which the permits due end each on its own. -/
structure State.RunsOut (s : State) (due : Permit → Bool) : Prop where
  machines : (s.permits.list.map fun y => y.machine).Nodup
  ids : (s.dispatch.orders.map fun o => o.id).Nodup
  wf : Table.wf s.piles = true
  tags : (s.piles.map fun e => e.2.tag).Nodup
  kept : ∀ y ∈ s.permits.list, ∀ slot p, s.pileAt? y.tag = some (slot, p) → p.retirePending = false
  orphans : ∀ y ∈ s.permits.list, due y = true → y.state = .pendingWet → ∀ o ∈ s.dispatch.orders, y.prewetOrder = some o.id →
    o.state ≠ .active ∧ ∀ slot p, s.pileAt? o.tag = some (slot, p) → p.life = .live
  lapses : ∀ y ∈ s.permits.list, due y = true → y.state = .granted →
    (∃ slot p g, s.pileAt? y.tag = some (slot, p) ∧ Table.get s.grades p.grade = some g ∧ g.fdef ≤ 100)
    ∧ (∀ o ∈ s.dispatch.orders, o.tag ≠ y.tag) ∧ ∀ z ∈ s.permits.list, z.tag = y.tag → z.state ≠ .pendingWet
  waits : ∀ y, due y = true ↔ limitReached s.now s.permits.prewetWait s.permits.maxHold.of y
  wait : 1 ≤ s.permits.prewetWait
  hold : ∀ k, 1 ≤ s.permits.maxHold.of k

/-- The piles, the outcome entries and the notices, as they stand while permits end. -/
abbrev Reckoned := Table Pile × Table OutcomeEntry × Notices

/-- A table of piles of which some have been blended and marked estimated. -/
def Stamped (l l' : Table Pile) : Prop := ∃ f : Pile → Pile,
  (∀ p, f p = p ∨ ∃ m, f p = { p with m := m, estimated := true }) ∧ l' = l.map fun e => (e.1, f e.2)

/-- Some permits of a yard have ended. -/
structure State.RanOut (s u : State) (gone : List Permit) (acc : Reckoned) : Prop where
  frame : u = { s with
    piles := acc.1, notices := u.notices
    permits := { s.permits with list := s.permits.list.filter fun z => decide (z ∉ gone), outcomes := acc.2.1 }
    dispatch := { s.dispatch with
      orders := s.dispatch.orders.map fun o => if s.orphanedBy gone o then o.ended .cancelled s.now s.events else o } }
  like : u.notices.Like acc.2.2
  orders : ∀ i, i ∈ u.notices.orders ↔ i ∈ s.notices.orders ∨ ∃ o ∈ s.dispatch.orders, s.orphanedBy gone o = true ∧ o.id = i
  same : (∀ o ∈ s.dispatch.orders, s.orphanedBy gone o = false) → u.notices = acc.2.2.wet s.notices.flags.water
  water : u.notices.flags.water = s.notices.flags.water
  stamped : Stamped s.piles acc.1

theorem ranOut_start {s : State} {n : Notices} (hn : s.notices = n.wet s.notices.flags.water) :
    s.RanOut s [] (s.piles, s.permits.outcomes, n) := by
  have hnone : ∀ o, s.orphanedBy [] o = false := fun o => by rw [State.orphanedBy]; simp
  have horders : (s.dispatch.orders.map fun o => if s.orphanedBy [] o then o.ended .cancelled s.now s.events else o)
      = s.dispatch.orders := (List.map_congr_left fun o _ => by rw [hnone]; rfl).trans (List.map_id _)
  have hlist : (s.permits.list.filter fun z => decide (z ∉ ([] : List Permit))) = s.permits.list :=
    List.filter_eq_self.2 fun z _ => by simp
  refine ⟨?_, ?_, fun i => by simp [hnone], fun _ => hn, rfl, ⟨id, fun p => .inl rfl, (List.map_id _).symm⟩⟩
  · rw [horders, hlist]
  · rw [hn]
    exact ⟨rfl, rfl, rfl, rfl⟩

section
variable {s u : State} {due : Permit → Bool} {gone : List Permit} {acc : Reckoned} {y : Permit}

theorem Stamped.pileAt {l l' : Table Pile} (h : Stamped l l') (tag : Nat) :
    (∀ slot p, l.find? (fun e => e.2.tag == tag) = some (slot, p) → ∃ p', l'.find? (fun e => e.2.tag == tag) = some (slot, p')
      ∧ (p' = p ∨ ∃ m, p' = { p with m := m, estimated := true }))
    ∧ (∀ slot p', l'.find? (fun e => e.2.tag == tag) = some (slot, p') → ∃ p, l.find? (fun e => e.2.tag == tag) = some (slot, p)
      ∧ (p' = p ∨ ∃ m, p' = { p with m := m, estimated := true })) := by
  obtain ⟨f, hf, rfl⟩ := h
  have htag : ∀ p, (f p).tag = p.tag := fun p => by rcases hf p with e | ⟨m, e⟩ <;> rw [e]
  have hfind : (l.map fun e => (e.1, f e.2)).find? (fun e => e.2.tag == tag)
      = (l.find? fun e => e.2.tag == tag).map fun e => (e.1, f e.2) := by
    have hcomp : ((fun e : Nat × Pile => e.2.tag == tag) ∘ fun e : Nat × Pile => (e.1, f e.2)) = fun e => e.2.tag == tag :=
      funext fun e => congrArg (· == tag) (htag e.2)
    rw [List.find?_map, hcomp]
  rw [hfind]
  refine ⟨fun slot p hp => ⟨f p, by rw [hp]; rfl, hf p⟩, fun slot p' hp' => ?_⟩
  obtain ⟨⟨k, p⟩, hp, heq⟩ := Option.map_eq_some_iff.1 hp'
  obtain ⟨rfl, rfl⟩ := Prod.mk.inj heq
  exact ⟨p, hp, hf p⟩

theorem Stamped.tags {l l' : Table Pile} (h : Stamped l l') : (l'.map fun e => e.2.tag) = l.map fun e => e.2.tag := by
  obtain ⟨f, hf, rfl⟩ := h
  rw [List.map_map]
  refine List.map_congr_left fun e _ => ?_
  dsimp only [Function.comp]
  rcases hf e.2 with h | ⟨m, h⟩ <;> rw [h]

theorem Stamped.wf {l l' : Table Pile} (h : Stamped l l') (hwf : Table.wf l = true) : Table.wf l' = true := by
  obtain ⟨f, -, rfl⟩ := h
  have hkeys : Table.keys (l.map fun e => (e.1, f e.2)) = Table.keys l := by
    rw [Table.keys, List.map_map]
    rfl
  rwa [Table.wf, hkeys]

/-- What stands of the permit list and the order table while permits end. -/
theorem State.RanOut.permit (hs : s.RunsOut due) (hu : s.RanOut u gone acc) (hy : y ∈ s.permits.list) (hnew : y ∉ gone) :
    u.permit? y.machine = some y := by
  rw [hu.frame]
  refine permit?_of_mem ?_ (List.mem_filter.2 ⟨hy, decide_eq_true hnew⟩)
  exact (List.filter_sublist.map _).nodup hs.machines

theorem State.RanOut.permit_sub (hu : s.RanOut u gone acc) {z : Permit} (hz : z ∈ u.permits.list) : z ∈ s.permits.list ∧ z ∉ gone := by
  rw [hu.frame] at hz
  obtain ⟨hmem, hnew⟩ := List.mem_filter.1 hz
  exact ⟨hmem, of_decide_eq_true hnew⟩

theorem State.RanOut.retire (hs : s.RunsOut due) (hu : s.RanOut u gone acc) (hy : y ∈ s.permits.list) :
    ∀ slot p, u.pileAt? y.tag = some (slot, p) → p.retirePending = false := fun slot p' hp' => by
  rw [hu.frame] at hp'
  obtain ⟨p, hp, hsame⟩ := (hu.stamped.pileAt y.tag).2 slot p' hp'
  have := hs.kept y hy slot p hp
  rcases hsame with rfl | ⟨m, rfl⟩ <;> exact this

/-- The list once another permit has gone. -/
theorem State.RanOut.list_snoc (hs : s.RunsOut due) (hy : y ∈ s.permits.list) :
    ((s.permits.list.filter fun z => decide (z ∉ gone)).filter fun z => z.machine != y.machine)
      = s.permits.list.filter fun z => decide (z ∉ gone ++ [y]) := by
  rw [List.filter_filter]
  refine List.filter_congr fun z hz => ?_
  have hne : z.machine ≠ y.machine ↔ z ≠ y :=
    ⟨fun h e => h (congrArg Permit.machine e), fun h e => h (List.inj_on_of_nodup_map hs.machines hz hy e)⟩
  rw [Bool.eq_iff_iff, Bool.and_eq_true, bne_iff_ne, decide_eq_true_iff, decide_eq_true_iff, List.mem_append, List.mem_singleton,
    not_or, hne, and_comm]

end

end Sys2Proof.Machine
end

section
set_option Elab.async false
/-! PROOFS. One more permit that has reached its limit (R147, R150, R152). -/

namespace Sys2Proof.Machine

section
variable {s u : State} {due : Permit → Bool} {gone : List Permit} {acc : Reckoned} {y : Permit}

/-- An order that a permit still standing waits for stands as it did. -/
theorem State.RanOut.order (hs : s.RunsOut due) (hu : s.RanOut u gone acc) (hy : y ∈ s.permits.list) (hnew : y ∉ gone) {o : Order}
    (ho : o ∈ s.dispatch.orders) (hnames : y.names o.id = true) : u.order? o.id = some o := by
  have hkept : s.orphanedBy gone o = false := Bool.eq_false_iff.2 fun h => hnew ((orphanedBy_iff.1 h).2.2 y hy hnames)
  rw [hu.frame, State.order?]
  change List.find? _ (s.dispatch.orders.map _) = _
  rw [order?_map (fun o => by split <;> rfl), show s.dispatch.orders.find? (fun x => x.id == o.id) = some o from
    order?_of_mem hs.ids ho, Option.map_some, hkept]
  rfl

theorem names_iff {x : Permit} {id : Nat} : x.names id = true ↔ x.state = .pendingWet ∧ x.prewetOrder = some id := by
  rw [names_eq, decide_eq_true_iff]

/-- The order a permit leaves behind when it is refused, if it does: what the ending looks up. -/
theorem State.RanOut.orphan_some (hs : s.RunsOut due) (hu : s.RanOut u gone acc) (hy : y ∈ s.permits.list) (hnew : y ∉ gone)
    {o : Order} (ho : o ∈ s.dispatch.orders) (hnames : y.names o.id = true) (hopen : o.state ≠ .ended)
    (hall : ∀ z ∈ s.permits.list, z.names o.id = true → z ∈ gone ++ [y]) :
    u.orphanPrewet? y = some o.id ∧ ∀ z ∈ u.permits.list, z.machine ≠ y.machine → z.names o.id = false := by
  obtain ⟨hstate, hprewet⟩ := names_iff.1 hnames
  have hothers : ∀ z ∈ u.permits.list, z.machine ≠ y.machine → z.names o.id = false := fun z hz hne => by
    obtain ⟨hmem, hstands⟩ := hu.permit_sub hz
    refine Bool.eq_false_iff.2 fun h => ?_
    rcases List.mem_append.1 (hall z hmem h) with hin | hin
    · exact hstands hin
    · exact hne (by rw [List.mem_singleton.1 hin])
  refine ⟨?_, hothers⟩
  have hany : (u.permits.list.any fun x => x.machine != y.machine && x.names o.id) = false := List.any_eq_false.2 fun z hz h => by
    rw [Bool.and_eq_true, bne_iff_ne] at h
    rw [hothers z hz h.1] at h
    exact Bool.false_ne_true h.2
  rw [State.orphanPrewet?, if_pos hstate, hprewet]
  simp only [Option.filter, hu.order hs hy hnew ho hnames, Option.any_some, isOpen_iff.2 hopen, hany]
  rfl

theorem State.RanOut.orphan_none (hs : s.RunsOut due) (hu : s.RanOut u gone acc) (hy : y ∈ s.permits.list) (hnew : y ∉ gone)
    (hno : ∀ o ∈ s.dispatch.orders, y.names o.id = true → o.state ≠ .ended →
      ∃ z ∈ s.permits.list, z.names o.id = true ∧ z ∉ gone ++ [y]) : u.orphanPrewet? y = none := by
  rw [State.orphanPrewet?]
  by_cases hstate : y.state = .pendingWet
  · rw [if_pos hstate]
    cases hprewet : y.prewetOrder with
    | none => rfl
    | some id =>
      have hlookup : u.order? id = (s.order? id).map fun o => if s.orphanedBy gone o then o.ended .cancelled s.now s.events else o := by
        rw [hu.frame]
        exact order?_map (fun o => by split <;> rfl) id
      cases hfound : s.order? id with
      | none =>
        rw [hfound, Option.map_none] at hlookup
        simp [Option.filter, hlookup]
      | some o =>
        obtain ⟨hmem, rfl⟩ := State.order_mem hfound
        have hself := hu.order hs hy hnew hmem (names_iff.2 ⟨hstate, hprewet⟩)
        by_cases hopen : o.state = .ended
        · simp [Option.filter, hself, Order.isOpen, hopen]
        · obtain ⟨z, hz, hnames, hstands⟩ := hno o hmem (names_iff.2 ⟨hstate, hprewet⟩) hopen
          rw [List.mem_append, not_or, List.mem_singleton] at hstands
          have hzu : z ∈ u.permits.list := by
            rw [hu.frame]
            exact List.mem_filter.2 ⟨hz, decide_eq_true hstands.1⟩
          have hany : (u.permits.list.any fun x => x.machine != y.machine && x.names o.id) = true :=
            List.any_eq_true.2 ⟨z, hzu, by
              rw [Bool.and_eq_true, bne_iff_ne]
              exact ⟨fun e => hstands.2 (List.inj_on_of_nodup_map hs.machines hz hy e), hnames⟩⟩
          simp [Option.filter, hany]
  · rw [if_neg hstate]

/-- The refusal of one more permit. -/
theorem State.RanOut.refuse (hs : s.RunsOut due) (hu : s.RanOut u gone acc) (hy : y ∈ s.permits.list) (hnew : y ∉ gone)
    (hdue : due y = true) (hstate : y.state = .pendingWet) :
    ∃ v, Reaches none [.endPermit y.machine .refusedTooDry false] u 6 v ∧ s.RanOut v (gone ++ [y]) (acc.1,
      Table.set acc.2.1 y.machine ⟨.refusedTooDry, s.now, y.tag, y.id, none⟩, acc.2.2.hand .permit y.machine) := by
  have hpermit := hu.permit hs hy hnew
  have hretire := hu.retire hs hy
  have hnow : u.now = s.now := by rw [hu.frame]; rfl
  have hevents : u.events = s.events := by rw [hu.frame]
  have hlist := State.RanOut.list_snoc (gone := gone) hs hy
  by_cases hlast : ∃ o ∈ s.dispatch.orders, y.names o.id = true ∧ o.state ≠ .ended
      ∧ ∀ z ∈ s.permits.list, z.names o.id = true → z ∈ gone ++ [y]
  · obtain ⟨o, ho, hnames, hopen, hall⟩ := hlast
    obtain ⟨horphan, hothers⟩ := hu.orphan_some hs hy hnew ho hnames hopen hall
    obtain ⟨hactive, hlive⟩ := hs.orphans y hy hdue hstate o ho (names_iff.1 hnames).2
    have hinert : o.state = .waiting ∨ o.state = .volleyHeld := by
      cases hos : o.state with
      | volleyHeld => exact .inr rfl
      | waiting => exact .inl rfl
      | active => exact absurd hos hactive
      | ended => exact absurd hos hopen
    have hkept : s.orphanedBy gone o = false := Bool.eq_false_iff.2 fun h => hnew ((orphanedBy_iff.1 h).2.2 y hy hnames)
    have hsnoc : ∀ x ∈ s.dispatch.orders, (s.orphanedBy (gone ++ [y]) x = true ↔ s.orphanedBy gone x = true ∨ x.id = o.id) :=
      fun x hx => by
        rw [orphanedBy_snoc]
        refine or_congr_right ⟨fun h => ?_, fun h => ?_⟩
        · have := (names_iff.1 h.1).2.symm.trans (names_iff.1 hnames).2
          exact Option.some.inj this
        · rw [List.inj_on_of_nodup_map hs.ids hx ho h]
          exact ⟨hnames, hopen, hall⟩
    refine ⟨_, reaches_refused_orphan hpermit hstate horphan (hu.order hs hy hnew ho hnames) hinert hothers (fun slot p hp => ?_)
      hretire, ?_, (hu.like.handPermit y.machine).handOrder o.id, fun i => ?_, fun h => ?_, ?_, hu.stamped⟩
    · rw [hu.frame] at hp
      obtain ⟨p', hp', hsame⟩ := (hu.stamped.pileAt o.tag).2 slot p hp
      have := hlive slot p' hp'
      rcases hsame with rfl | ⟨m, rfl⟩ <;> exact this
    · have horders : ((s.dispatch.orders.map fun x => if s.orphanedBy gone x then x.ended .cancelled s.now s.events else x).map
          fun x : Order => if x.id ∈ [o.id] then x.ended .cancelled s.now s.events else x)
          = s.dispatch.orders.map fun x => if s.orphanedBy (gone ++ [y]) x then x.ended .cancelled s.now s.events else x := by
        rw [List.map_map]
        refine List.map_congr_left fun x hx => ?_
        have hiff := hsnoc x hx
        by_cases hid : x.id = o.id
        · have hold : s.orphanedBy gone x = false := by rw [List.inj_on_of_nodup_map hs.ids hx ho hid]; exact hkept
          simp [hold, hid, hiff.2 (.inr hid)]
        · by_cases hold : s.orphanedBy gone x = true
          · have := hiff.2 (.inl hold)
            simp [hold, this, hid, Order.ended]
          · have hnot : s.orphanedBy (gone ++ [y]) x = false := Bool.eq_false_iff.2 fun h => (hiff.1 h).elim hold hid
            simp [Bool.eq_false_iff.2 hold, hnot, hid]
      refine (congrArg (fun z : State => { z with
        notices := (u.notices.hand .permit y.machine).hand .order o.id
        permits := { z.permits with
          list := z.permits.list.filter fun z => z.machine != y.machine
          outcomes := Table.set z.permits.outcomes y.machine ⟨.refusedTooDry, u.now, y.tag, y.id, none⟩ }
        dispatch := { z.dispatch with
          orders := z.dispatch.orders.map fun x : Order => if x.id ∈ [o.id] then x.ended .cancelled u.now u.events else x } })
        hu.frame).trans ?_
      rw [hnow, hevents, hlist, horders]
      rfl
    · refine mem_insertKey_iff.trans ?_
      refine (or_congr_right (hu.orders i)).trans ?_
      constructor
      · rintro (rfl | h | ⟨x, hx, hold, rfl⟩)
        · exact .inr ⟨o, ho, (hsnoc o ho).2 (.inr rfl), rfl⟩
        · exact .inl h
        · exact .inr ⟨x, hx, (hsnoc x hx).2 (.inl hold), rfl⟩
      · rintro (h | ⟨x, hx, hnew', rfl⟩)
        · exact .inr (.inl h)
        · rcases (hsnoc x hx).1 hnew' with hold | hid
          · exact .inr (.inr ⟨x, hx, hold, rfl⟩)
          · exact .inl hid
    · have := h o ho
      rw [(hsnoc o ho).2 (.inr rfl)] at this
      exact absurd this (by decide)
    · exact hu.water
  · have hno : ∀ o ∈ s.dispatch.orders, y.names o.id = true → o.state ≠ .ended →
        ∃ z ∈ s.permits.list, z.names o.id = true ∧ z ∉ gone ++ [y] := fun o ho hnames hopen => by
      by_contra hall
      refine hlast ⟨o, ho, hnames, hopen, fun z hz hzn => ?_⟩
      by_contra hstands
      exact hall ⟨z, hz, hzn, hstands⟩
    have hsnoc : ∀ x ∈ s.dispatch.orders, s.orphanedBy (gone ++ [y]) x = s.orphanedBy gone x := fun x hx => by
      rw [Bool.eq_iff_iff, orphanedBy_snoc]
      refine or_iff_left fun h => ?_
      obtain ⟨z, hz, hnames, hstands⟩ := hno x hx h.1 h.2.1
      exact hstands (h.2.2 z hz hnames)
    refine ⟨_, (reaches_refused hpermit hstate (hu.orphan_none hs hy hnew hno) hretire).mono (by omega), ?_,
      hu.like.handPermit y.machine, fun i => ?_, fun h => ?_, hu.water, hu.stamped⟩
    · have horders : (s.dispatch.orders.map fun x => if s.orphanedBy (gone ++ [y]) x then x.ended .cancelled s.now s.events else x)
          = s.dispatch.orders.map fun x => if s.orphanedBy gone x then x.ended .cancelled s.now s.events else x :=
        List.map_congr_left fun x hx => by rw [hsnoc x hx]
      refine (congrArg (fun z : State => { z with
        notices := u.notices.hand .permit y.machine
        permits := { z.permits with
          list := z.permits.list.filter fun z => z.machine != y.machine
          outcomes := Table.set z.permits.outcomes y.machine ⟨.refusedTooDry, u.now, y.tag, y.id, none⟩ } }) hu.frame).trans ?_
      rw [hnow, hlist, horders]
      rfl
    · refine (hu.orders i).trans (or_congr_right ⟨?_, ?_⟩) <;> rintro ⟨x, hx, h, rfl⟩
      · exact ⟨x, hx, by rw [hsnoc x hx]; exact h, rfl⟩
      · exact ⟨x, hx, by rw [← hsnoc x hx]; exact h, rfl⟩
    · exact (congrArg (fun n : Notices => n.hand .permit y.machine)
        (hu.same fun o ho => by rw [← hsnoc o ho]; exact h o ho)).trans (wet_hand _ _ _ _)

end

end Sys2Proof.Machine
end

section
set_option Elab.async false
/-! PROOFS. The permits of a yard evaluated under their limits, one after another (R148, R150, R152, R155). -/

namespace Sys2Proof.Machine

section
variable {s u : State} {due : Permit → Bool} {gone : List Permit} {acc : Reckoned} {y : Permit}

theorem Stamped.lapse {l l' : Table Pile} (h : Stamped l l') (tag : Nat) (g : Grade) :
    Stamped l (l'.map fun e => if e.2.tag = tag then (e.1, e.2.lapsed g) else e) := by
  obtain ⟨f, hf, rfl⟩ := h
  refine ⟨fun p => if (f p).tag = tag then (f p).lapsed g else f p, fun p => ?_, ?_⟩
  · dsimp only
    split
    · refine .inr ⟨((f p).lapsed g).m, ?_⟩
      rcases hf p with e | ⟨m, e⟩ <;> (rw [e]; rfl)
    · exact hf p
  · rw [List.map_map]
    refine List.map_congr_left fun e _ => ?_
    dsimp only [Function.comp]
    split <;> rfl

/-- The pile of a tag is the pile of its slot. -/
theorem update_lapsed {l : Table Pile} {tag slot : Nat} {p : Pile} (g : Grade) (hwf : Table.wf l = true)
    (htags : (l.map fun e => e.2.tag).Nodup) (hp : l.find? (fun e => e.2.tag == tag) = some (slot, p)) :
    (Table.update l slot fun q => q.lapsed g) = l.map fun e => if e.2.tag = tag then (e.1, e.2.lapsed g) else e := by
  rw [Table.update_eq_map]
  have hmem := List.mem_of_find?_eq_some hp
  have htag : p.tag = tag := by simpa using List.find?_some hp
  refine List.map_congr_left fun e he => ?_
  by_cases h : e.2.tag = tag
  · have heq : e = (slot, p) := List.inj_on_of_nodup_map htags he hmem (h.trans htag.symm)
    rw [if_pos h, heq, if_pos rfl]
  · rw [if_neg h, if_neg fun hslot => h ?_]
    have := (Table.get_of_mem hwf he).symm.trans ((congrArg (Table.get l) hslot).trans (Table.get_of_mem hwf hmem))
    rw [Option.some.inj this]
    exact htag

/-- The lapse of one more permit. -/
theorem State.RanOut.lapse (hs : s.RunsOut due) (hu : s.RanOut u gone acc) (hy : y ∈ s.permits.list) (hnew : y ∉ gone)
    (hdue : due y = true) (hstate : y.state = .granted) :
    ∃ slot p g, acc.1.find? (fun e => e.2.tag == y.tag) = some (slot, p) ∧ Table.get s.grades p.grade = some g
      ∧ ∃ v, Reaches none [.lapsePermit y.machine] u 5 v ∧ s.RanOut v (gone ++ [y])
        (acc.1.map (fun e => if e.2.tag = y.tag then (e.1, e.2.lapsed g) else e),
          Table.set acc.2.1 y.machine ⟨.lapsed, s.now, y.tag, y.id, some (p.lapsed g).m⟩,
          (if p.estimated then acc.2.2 else acc.2.2.hand .pile slot).hand .permit y.machine) := by
  obtain ⟨⟨slot, p0, g, hp0, hg0, hfdef⟩, horders, hunawaited⟩ := hs.lapses y hy hdue hstate
  obtain ⟨p, hp, hsame⟩ := (hu.stamped.pileAt y.tag).1 slot p0 hp0
  have hg : Table.get s.grades p.grade = some g := by rcases hsame with rfl | ⟨m, rfl⟩ <;> exact hg0
  have hup : u.pileAt? y.tag = some (slot, p) := by rw [hu.frame]; exact hp
  have hpiles : u.piles = acc.1 := by rw [hu.frame]
  have hwf : Table.wf u.piles = true := by rw [hpiles]; exact hu.stamped.wf hs.wf
  have htags : (u.piles.map fun e => e.2.tag).Nodup := by rw [hpiles, hu.stamped.tags]; exact hs.tags
  have hhold : y.entered + u.permits.maxHold.of y.kind ≤ u.now := by
    rw [hu.frame]
    rcases (hs.waits y).1 hdue with ⟨h, -⟩ | ⟨-, h⟩
    · rw [hstate] at h
      exact absurd h (by decide)
    · exact h
  have hnames : ∀ id, y.names id = false := fun id => by rw [names_eq, hstate]; simp
  have hsnoc : ∀ x, s.orphanedBy (gone ++ [y]) x = s.orphanedBy gone x := fun x => by
    rw [Bool.eq_iff_iff, orphanedBy_snoc, hnames]
    simp
  refine ⟨slot, p, g, hp, hg, _, reaches_lapsed (hu.permit hs hy hnew) hstate hhold hup (by rw [hu.frame]; exact hg) hfdef hwf
    (hu.retire hs hy slot p hup) (fun o ho => ?_) (fun z hz => hunawaited z (hu.permit_sub hz).1), ?_, ?_, fun i => ?_, fun h => ?_,
    ?_, hu.stamped.lapse y.tag g⟩
  · rw [hu.frame] at ho
    obtain ⟨x, hx, rfl⟩ := List.mem_map.1 ho
    have := horders x hx
    split <;> exact this
  · have hupdate := update_lapsed g hwf htags hup
    rw [hpiles] at hupdate
    have hlist := State.RanOut.list_snoc (gone := gone) hs hy
    have hnow : u.now = s.now := by rw [hu.frame]; rfl
    refine (congrArg (fun z : State => { z with
      piles := Table.update z.piles slot fun q => q.lapsed g
      notices := (if p.estimated then u.notices else u.notices.hand .pile slot).hand .permit y.machine
      permits := { z.permits with
        list := z.permits.list.filter fun z => z.machine != y.machine
        outcomes := Table.set z.permits.outcomes y.machine ⟨.lapsed, u.now, y.tag, y.id, some (p.lapsed g).m⟩ } }) hu.frame).trans ?_
    simp only [hupdate, hlist, hnow, hsnoc]
    rfl
  · change ((if p.estimated then u.notices else u.notices.hand .pile slot).hand .permit y.machine).Like _
    refine Notices.Like.handPermit ?_ y.machine
    split
    · exact hu.like
    · exact hu.like.handPile slot
  · have hset : (((u.pileLapsed slot p g).permitGone y ⟨.lapsed, u.now, y.tag, y.id, some (p.lapsed g).m⟩).notices).orders
        = u.notices.orders := by
      change (if p.estimated then u.notices else u.notices.hand .pile slot).orders = u.notices.orders
      split <;> rfl
    rw [hset]
    simp only [hsnoc]
    exact hu.orders i
  · simp only [hsnoc] at h
    change (if p.estimated then u.notices else u.notices.hand .pile slot).hand .permit y.machine = _
    rw [hu.same h]
    split
    · exact wet_hand _ _ _ _
    · exact (congrArg (fun n : Notices => n.hand .permit y.machine) (wet_hand _ _ _ _)).trans (wet_hand _ _ _ _)
  · have : (((u.pileLapsed slot p g).permitGone y ⟨.lapsed, u.now, y.tag, y.id, some (p.lapsed g).m⟩).notices).flags.water
        = u.notices.flags.water := by
      change (if p.estimated then u.notices else u.notices.hand .pile slot).flags.water = u.notices.flags.water
      split <;> rfl
    rw [this]
    exact hu.water

/-! ## What becomes of piles, entries and notices -/

/-- A reckoning of the permits that end, as the statement sets it out. -/
structure State.Expires (s : State) (ending : List Permit) (grade : Pile → Grade) (expire : Reckoned → Permit → Reckoned) : Prop where
  stamped : ∀ p m, grade { p with m := m, estimated := true } = grade p
  graded : ∀ e ∈ s.piles, (∃ y ∈ ending, y.state = .granted ∧ y.tag = e.2.tag) → Table.get s.grades e.2.grade = some (grade e.2)
  refused : ∀ acc y, y.state = .pendingWet → expire acc y =
    (acc.1, Table.set acc.2.1 y.machine ⟨.refusedTooDry, s.now, y.tag, y.id, none⟩, acc.2.2.hand .permit y.machine)
  lapsed : ∀ acc y slot p, y.state = .granted → acc.1.find? (fun e => e.2.tag == y.tag) = some (slot, p) → expire acc y =
    (acc.1.map (fun e => if e.2.tag = y.tag then (e.1, e.2.lapsed (grade e.2)) else e),
      Table.set acc.2.1 y.machine ⟨.lapsed, s.now, y.tag, y.id, some (p.lapsed (grade p)).m⟩,
      (if p.estimated then acc.2.2 else acc.2.2.hand .pile slot).hand .permit y.machine)

variable {ending : List Permit} {grade : Pile → Grade} {expire : Reckoned → Permit → Reckoned}

/-- One more permit ended, by its state. -/
theorem State.RanOut.refuseTo (hs : s.RunsOut due) (he : s.Expires ending grade expire) (hu : s.RanOut u gone acc)
    (hy : y ∈ s.permits.list) (hnew : y ∉ gone) (hdue : due y = true) (hstate : y.state = .pendingWet) :
    ∃ v, Reaches none [.expirePrewet y.machine] u 8 v ∧ s.RanOut v (gone ++ [y]) (expire acc y) := by
  obtain ⟨v, hv, hran⟩ := hu.refuse hs hy hnew hdue hstate
  refine ⟨v, ?_, by rw [he.refused acc y hstate]; exact hran⟩
  have hwait : y.entered + u.permits.prewetWait ≤ u.now := by
    rw [hu.frame]
    rcases (hs.waits y).1 hdue with ⟨-, h⟩ | ⟨h, -⟩
    · exact h
    · rw [hstate] at h
      exact absurd h (by decide)
  exact (Reaches.one (expirePrewet_of_due (hu.permit hs hy hnew) hstate hwait) hv).mono (by omega)

theorem State.RanOut.lapseTo (hs : s.RunsOut due) (he : s.Expires ending grade expire) (hu : s.RanOut u gone acc)
    (hy : y ∈ s.permits.list) (hin : y ∈ ending) (hnew : y ∉ gone) (hdue : due y = true) (hstate : y.state = .granted) :
    ∃ v, Reaches none [.lapsePermit y.machine] u 8 v ∧ s.RanOut v (gone ++ [y]) (expire acc y) := by
  obtain ⟨slot, p, g, hp, hg, v, hv, hran⟩ := hu.lapse hs hy hnew hdue hstate
  refine ⟨v, hv.mono (by omega), ?_⟩
  obtain ⟨p0, hp0, hsame⟩ := (hu.stamped.pileAt y.tag).2 slot p hp
  have hmem0 : (slot, p0) ∈ s.piles := List.mem_of_find?_eq_some hp0
  have htag0 : p0.tag = y.tag := by simpa using List.find?_some hp0
  have hg0 := he.graded (slot, p0) hmem0 ⟨y, hin, hstate, htag0.symm⟩
  have hgrade : grade p = g := by
    rcases hsame with rfl | ⟨m, rfl⟩
    · exact Option.some.inj (hg0.symm.trans hg)
    · rw [he.stamped]
      exact Option.some.inj (hg0.symm.trans hg)
  rw [he.lapsed acc y slot p hstate hp, hgrade]
  have htags : (acc.1.map fun e => e.2.tag).Nodup := by rw [hu.stamped.tags]; exact hs.tags
  have htag : p.tag = y.tag := by simpa using List.find?_some hp
  have hpiles : (acc.1.map fun e => if e.2.tag = y.tag then (e.1, e.2.lapsed (grade e.2)) else e)
      = acc.1.map fun e => if e.2.tag = y.tag then (e.1, e.2.lapsed g) else e := by
    refine List.map_congr_left fun e he' => ?_
    by_cases h : e.2.tag = y.tag
    · rw [if_pos h, if_pos h, List.inj_on_of_nodup_map htags he' (List.mem_of_find?_eq_some hp) (h.trans htag.symm), hgrade]
    · rw [if_neg h, if_neg h]
  rw [hpiles]
  exact hran

/-- Nothing else has a machine's permit. -/
theorem State.RanOut.permit_of (hs : s.RunsOut due) (hu : s.RanOut u gone acc) (hy : y ∈ s.permits.list) {z : Permit}
    (hz : u.permit? y.machine = some z) : z = y := by
  have hmem := (hu.permit_sub (List.mem_of_find?_eq_some hz)).1
  have hmachine : z.machine = y.machine := by simpa using List.find?_some hz
  exact List.inj_on_of_nodup_map hs.machines hmem hy hmachine

/-- The evaluation of a prewet wait. -/
theorem State.RanOut.expirePrewet (hs : s.RunsOut due) (he : s.Expires ending grade expire) (hu : s.RanOut u gone acc)
    (hy : y ∈ s.permits.list) (hnew : (due y && y.state == .pendingWet) = true → y ∉ gone) :
    ∃ v, Reaches none [.expirePrewet y.machine] u 8 v
      ∧ s.RanOut v (if due y && y.state == .pendingWet then gone ++ [y] else gone)
        (if due y && y.state == .pendingWet then expire acc y else acc) := by
  by_cases h : (due y && y.state == .pendingWet) = true
  · rw [if_pos h, if_pos h]
    have hnew := hnew h
    rw [Bool.and_eq_true, beq_iff_eq] at h
    exact hu.refuseTo hs he hy hnew h.1 h.2
  · rw [if_neg h, if_neg h]
    rw [Bool.and_eq_true, beq_iff_eq, not_and] at h
    refine ⟨u, (Reaches.single (expirePrewet_of_not (fun z hz hstate => ?_) ?_)).mono (by omega), hu⟩
    · obtain rfl := hu.permit_of hs hy hz
      rw [hu.frame]
      by_contra hlate
      exact h ((hs.waits z).2 (.inl ⟨hstate, Nat.not_lt.1 hlate⟩)) hstate
    · rw [hu.frame]
      exact hs.wait

/-- The evaluation of a max hold. -/
theorem State.RanOut.lapsePermit (hs : s.RunsOut due) (he : s.Expires ending grade expire) (hu : s.RanOut u gone acc)
    (hy : y ∈ s.permits.list) (hin : (due y && y.state == .granted) = true → y ∈ ending)
    (hnew : (due y && y.state == .granted) = true → y ∉ gone) :
    ∃ v, Reaches none [.lapsePermit y.machine] u 8 v
      ∧ s.RanOut v (if due y && y.state == .granted then gone ++ [y] else gone)
        (if due y && y.state == .granted then expire acc y else acc) := by
  by_cases h : (due y && y.state == .granted) = true
  · rw [if_pos h, if_pos h]
    have hin := hin h
    have hnew := hnew h
    rw [Bool.and_eq_true, beq_iff_eq] at h
    exact hu.lapseTo hs he hy hin hnew h.1 h.2
  · rw [if_neg h, if_neg h]
    rw [Bool.and_eq_true, beq_iff_eq, not_and] at h
    refine ⟨u, (Reaches.single (lapsePermit_of_not (fun z hz hstate => ?_) ?_)).mono (by omega), hu⟩
    · obtain rfl := hu.permit_of hs hy hz
      rw [hu.frame]
      by_contra hlate
      exact h ((hs.waits z).2 (.inr ⟨hstate, Nat.not_lt.1 hlate⟩)) hstate
    · rw [hu.frame]
      exact hs.hold

/-- Permits evaluated one after another, each by tellings of its own. -/
theorem ranOut_run {T : Permit → List Task} {a : Permit → Bool} {L : List Permit}
    (hstep : ∀ y ∈ L, ∀ gone acc u, s.RanOut u gone acc → (a y = true → y ∉ gone) → ∃ v, Reaches none (T y) u 8 v
      ∧ s.RanOut v (if a y then gone ++ [y] else gone) (if a y then expire acc y else acc))
    (hnodup : L.Nodup) (hfresh : ∀ y ∈ L, a y = true → y ∉ gone) (hu : s.RanOut u gone acc) :
    ∃ v, Reaches none (L.flatMap T) u (8 * L.length) v ∧ s.RanOut v (gone ++ L.filter a) ((L.filter a).foldl expire acc) := by
  induction L generalizing u gone acc with
  | nil => exact ⟨u, .nil u, by simpa using hu⟩
  | cons y L ih =>
    obtain ⟨hy, hnodup⟩ := List.nodup_cons.1 hnodup
    obtain ⟨v, hv, hvran⟩ := hstep y List.mem_cons_self gone acc u hu (hfresh y List.mem_cons_self)
    have hnew : ∀ z ∈ L, a z = true → z ∉ if a y then gone ++ [y] else gone := fun z hz ha hin => by
      split at hin
      · rcases List.mem_append.1 hin with h | h
        · exact hfresh z (List.mem_cons_of_mem _ hz) ha h
        · exact hy (List.mem_singleton.1 h ▸ hz)
      · exact hfresh z (List.mem_cons_of_mem _ hz) ha hin
    obtain ⟨w, hw, hwran⟩ := ih (fun z hz => hstep z (List.mem_cons_of_mem _ hz)) hnodup hnew hvran
    refine ⟨w, (hv.append hw).mono (by rw [List.length_cons]; omega), ?_⟩
    cases hay : a y with
    | true =>
      rw [hay, if_pos rfl, if_pos rfl] at hwran
      rw [List.filter_cons_of_pos hay, List.foldl_cons, ← List.singleton_append, ← List.append_assoc]
      exact hwran
    | false =>
      rw [hay, if_neg Bool.false_ne_true, if_neg Bool.false_ne_true] at hwran
      rw [List.filter_cons_of_neg (by rw [hay]; decide)]
      exact hwran

end

end Sys2Proof.Machine
end

section
set_option Elab.async false
/-! PROOFS. All the permits of a yard evaluated under their limits, and what is left (R148, R150, R152, R155). -/

namespace Sys2Proof.Machine

section
variable {s : State} {due : Permit → Bool} {ending : List Permit} {grade : Pile → Grade} {expire : Reckoned → Permit → Reckoned}
  {n : Notices}

/-! ## A reckoning there is -/

/-- The grade of a pile, or zeros. -/
def State.gradeOr (s : State) (p : Pile) : Grade := (Table.get s.grades p.grade).getD ⟨0, 0, 0, 0, 0, 0, 0, 0⟩

/-- What the end of one permit makes of piles, entries and notices. -/
def State.reckon (s : State) (acc : Reckoned) (y : Permit) : Reckoned :=
  if y.state = .pendingWet then
    (acc.1, Table.set acc.2.1 y.machine ⟨.refusedTooDry, s.now, y.tag, y.id, none⟩, acc.2.2.hand .permit y.machine)
  else (acc.1.find? fun e => e.2.tag == y.tag).elim acc fun x =>
    (acc.1.map (fun e => if e.2.tag = y.tag then (e.1, e.2.lapsed (s.gradeOr e.2)) else e),
      Table.set acc.2.1 y.machine ⟨.lapsed, s.now, y.tag, y.id, some (x.2.lapsed (s.gradeOr x.2)).m⟩,
      (if x.2.estimated then acc.2.2 else acc.2.2.hand .pile x.1).hand .permit y.machine)

theorem expires_reckon (hs : s.RunsOut due) (hin : ∀ y ∈ ending, y ∈ s.permits.list ∧ due y = true) :
    s.Expires ending s.gradeOr s.reckon where
  stamped _ _ := rfl
  graded e he hy := by
    obtain ⟨y, hy, hstate, htag⟩ := hy
    obtain ⟨⟨slot, p, g, hp, hg, -⟩, -⟩ := hs.lapses y (hin y hy).1 (hin y hy).2 hstate
    obtain ⟨hmem, hptag⟩ := State.pileAt_mem hp
    have : e = (slot, p) := List.inj_on_of_nodup_map hs.tags he hmem (htag.symm.trans hptag.symm)
    rw [this, State.gradeOr, hg]
    rfl
  refused acc y h := if_pos h
  lapsed acc y slot p h hp := by
    rw [State.reckon, if_neg (by rw [h]; decide), hp]
    rfl

/-! ## The evaluations in order -/

theorem permits_nodup (hs : s.RunsOut due) : s.permits.list.Nodup := hs.machines.of_map _

theorem due_clearing (hs : s.RunsOut due) {y : Permit} (h : y.state = .clearing) : due y = false := by
  refine Bool.eq_false_iff.2 fun hd => ?_
  rcases (hs.waits y).1 hd with ⟨hstate, -⟩ | ⟨hstate, -⟩ <;> (rw [h] at hstate; exact absurd hstate (by decide))

/-- Every permit evaluated under its limit, in request order. -/
theorem ranOut_limits (hs : s.RunsOut due) (hn : s.notices = n.wet s.notices.flags.water)
    (he : s.Expires (s.permits.list.filter due) grade expire) : ∃ v,
      Reaches none (s.permits.list.flatMap Permit.limitTask) s (8 * s.permits.list.length) v
      ∧ s.RanOut v (s.permits.list.filter due) ((s.permits.list.filter due).foldl expire (s.piles, s.permits.outcomes, n)) := by
  have hrun := ranOut_run (T := Permit.limitTask) (a := due) (expire := expire) (L := s.permits.list)
    (fun y hy gone acc u hu hnew => ?step) (permits_nodup hs) (fun _ _ _ => List.not_mem_nil) (ranOut_start hn)
  · rwa [List.nil_append] at hrun
  case step =>
    cases hstate : y.state with
    | pendingWet =>
      have h := hu.expirePrewet hs he hy
      simp only [hstate, beq_self_eq_true, Bool.and_true] at h
      rw [Permit.limitTask, hstate]
      exact h hnew
    | granted =>
      have h := hu.lapsePermit hs he hy
      simp only [hstate, beq_self_eq_true, Bool.and_true] at h
      rw [Permit.limitTask, hstate]
      exact h (fun hd => List.mem_filter.2 ⟨hy, hd⟩) hnew
    | clearing =>
      rw [Permit.limitTask, hstate, due_clearing hs hstate]
      exact ⟨u, (Reaches.nil u).mono (by omega), hu⟩

/-- The permits that end at a change of the minute: the prewet waits before the max holds. -/
def State.minuteEnding (s : State) (due : Permit → Bool) : List Permit :=
  (s.permits.list.filter fun y => due y && y.state == .pendingWet) ++ s.permits.list.filter fun y => due y && y.state == .granted

theorem mem_minuteEnding (hs : s.RunsOut due) (y : Permit) : y ∈ s.minuteEnding due ↔ y ∈ s.permits.list ∧ due y = true := by
  rw [State.minuteEnding, List.mem_append, List.mem_filter, List.mem_filter, Bool.and_eq_true, Bool.and_eq_true, beq_iff_eq,
    beq_iff_eq]
  refine ⟨fun h => h.elim (fun h => ⟨h.1, h.2.1⟩) fun h => ⟨h.1, h.2.1⟩, fun ⟨hy, hd⟩ => ?_⟩
  rcases (hs.waits y).1 hd with ⟨hstate, -⟩ | ⟨hstate, -⟩
  · exact .inl ⟨hy, hd, hstate⟩
  · exact .inr ⟨hy, hd, hstate⟩

/-- Every permit evaluated at a change of the minute; none is left to ask again for a PREWET order. -/
theorem ranOut_minute (hs : s.RunsOut due) (hn : s.notices = n.wet s.notices.flags.water)
    (hasks : ∀ y ∈ s.permits.list, y.state = .pendingWet → y.prewetOrder = none → due y = true)
    (he : s.Expires (s.minuteEnding due) grade expire) : ∃ v,
      Reaches none [.permitMinute] s (16 * s.permits.list.length + 2) v
      ∧ s.RanOut v (s.minuteEnding due) ((s.minuteEnding due).foldl expire (s.piles, s.permits.outcomes, n)) := by
  obtain ⟨u, hu, huran⟩ := ranOut_run (T := fun y => [.expirePrewet y.machine]) (a := fun y => due y && y.state == .pendingWet)
    (expire := expire) (L := s.permits.list) (fun y hy gone acc u hu hnew => hu.expirePrewet hs he hy hnew) (permits_nodup hs)
    (fun _ _ _ => List.not_mem_nil) (ranOut_start hn)
  rw [List.nil_append] at huran
  obtain ⟨v, hv, hvran⟩ := ranOut_run (T := fun y => [.lapsePermit y.machine]) (a := fun y => due y && y.state == .granted)
    (expire := expire) (L := s.permits.list) (fun y hy gone acc u hu hnew => hu.lapsePermit hs he hy
      (fun h => (mem_minuteEnding hs y).2 ⟨hy, (Bool.and_eq_true_iff.1 h).1⟩) hnew) (permits_nodup hs)
    (fun y _ hgranted hin => by
      have h1 := (Bool.and_eq_true_iff.1 hgranted).2
      have h2 := (Bool.and_eq_true_iff.1 (List.mem_filter.1 hin).2).2
      rw [beq_iff_eq] at h1 h2
      rw [h1] at h2
      exact absurd h2 (by decide)) huran
  rw [← List.foldl_append] at hvran
  have hretry : doTask none .retryPrewets v = (v, []) := by
    have hnone : (v.permits.list.filter fun x => x.asksOn x.tag none) = [] := List.filter_eq_nil_iff.2 fun y hy hask => by
      obtain ⟨hmem, hstands⟩ := hvran.permit_sub hy
      simp only [Permit.asksOn, Permit.waitsOn, Bool.and_eq_true, beq_iff_eq, Option.isNone_iff_eq_none] at hask
      exact hstands ((mem_minuteEnding hs y).2 ⟨hmem, hasks y hmem hask.1.1.2 hask.1.2⟩)
    change v.retryPrewets = (v, [])
    rw [State.retryPrewets, hnone]
    rfl
  have hminute : doTask none .permitMinute s = (s, (s.permits.list.flatMap fun y => [.expirePrewet y.machine])
      ++ (s.permits.list.flatMap fun y => [.lapsePermit y.machine]) ++ [.retryPrewets]) := by
    rw [← List.map_eq_flatMap, ← List.map_eq_flatMap]
    rfl
  exact ⟨v, (Reaches.one hminute ((hu.append hv).append (.single hretry))).mono (by omega), hvran⟩

/-! ## What is left, as the statement sets it out -/

theorem permitsRunOut_of {s0 t v : State} {now : Nat} (hpiles : s.piles = s0.piles)
    (hgrades : s.grades = s0.grades) (hlist : s.permits.list = s0.permits.list)
    (horders : s.dispatch.orders = s0.dispatch.orders) (hset : s.notices.orders = s0.notices.orders) (hnow : s.now = now)
    (hevents : s.events = s0.events + 1) (hin : ∀ y, y ∈ ending ↔ y ∈ s.permits.list ∧ due y = true)
    (hran : ∀ grade expire, s.Expires ending grade expire →
      s.RanOut v ending (ending.foldl expire (s0.piles, s0.permits.outcomes, s0.notices)))
    (htpiles : t.piles = v.piles) (htpermits : t.permits.list = v.permits.list ∧ t.permits.outcomes = v.permits.outcomes)
    (htorders : t.dispatch.orders = v.dispatch.orders) (htnotices : t.notices = v.notices) :
    permitsRunOut now due ending s0 t := by
  intro g blended expire orphan all hstamped hgraded hblended hrefused hlapsed horphan hall
  have hblend : ∀ p, blended p = p.lapsed (g p) := hblended
  have he : s.Expires ending g expire := by
    refine ⟨hstamped, fun e h => ?_, fun acc y h => ?_, fun acc y slot p h hp => ?_⟩
    · rw [hgrades]
      exact hgraded e (hpiles ▸ h)
    · rw [hnow]
      exact hrefused acc y h
    · rw [hnow, hlapsed acc y slot p h hp]
      simp only [hblend]
  have hu := hran g expire he
  rw [← hall] at hu
  have horph : ∀ o, orphan o = s.orphanedBy ending o := fun o => by
    rw [Bool.eq_iff_iff, horphan, orphanedBy_iff]
    refine and_congr_right fun _ => and_congr ?_ ?_
    · exact exists_congr fun y => and_congr_right fun _ => names_iff.symm
    · rw [← hlist]
      exact forall_congr' fun y => ⟨fun h hy hn => (hin y).2 ⟨hy, h hy (names_iff.1 hn).1 (names_iff.1 hn).2⟩,
        fun h hy h1 h2 => ((hin y).1 (h hy (names_iff.2 ⟨h1, h2⟩))).2⟩
  refine ⟨?_, ?_, ?_, ?_, ?_, fun i => ?_, fun hnone => ?_⟩
  · rw [htpiles, hu.frame]
  · rw [htpermits.1, hu.frame, ← hlist]
    refine List.filter_congr fun y hy => ?_
    rw [Bool.eq_iff_iff, decide_eq_true_iff, hin, Bool.not_eq_true', ← Bool.not_eq_true]
    exact not_congr (and_iff_right hy)
  · rw [htpermits.2, hu.frame]
  · rw [htorders, hu.frame, ← horders]
    refine List.map_congr_left fun o _ => ?_
    rw [horph, hnow, hevents]
    rfl
  · rw [htnotices]
    exact hu.like.eq
  · rw [htnotices, hu.orders, hset, horders]
    simp only [horph]
  · rw [htnotices, hu.water]
    refine (hu.same fun o ho => ?_)
    rw [← horph]
    exact hnone o (horders ▸ ho)

end

end Sys2Proof.Machine
end

section
set_option Elab.async false
/-! PROOFS. MAX_HOLD_LAPSE, PREWET_WAIT_EXPIRY and SET-PERMIT-LIMITS (R150, R152, R155). -/

namespace Sys2Proof.Machine

/-! ## One permit alone (R150, R152) -/

section
variable {s : State} {x : Permit} {slot : Nat} {p : Pile} {g : Grade}

/-- One GRANTED permit on the one pile of a yard without orders. -/
structure State.LoneGranted (s : State) (x : Permit) (slot : Nat) (p : Pile) (g : Grade) : Prop where
  list : s.permits.list = [x]
  orders : s.dispatch.orders = []
  piles : s.piles = [(slot, p)]
  tag : p.tag = x.tag
  live : p.life = .live
  grade : Table.get s.grades p.grade = some g
  fdef : g.fdef ≤ 100
  state : x.state = .granted
  reached : x.entered + s.permits.maxHold.of x.kind ≤ s.now

/-- The yard once the permit has lapsed and is gone. -/
def State.loneLapsed (s : State) (x : Permit) (slot : Nat) (p : Pile) (g : Grade) : State := { s with
  piles := [(slot, p.lapsed g)]
  notices := (if p.estimated then s.notices else s.notices.hand .pile slot).hand .permit x.machine
  permits := { s.permits with
    list := [], outcomes := Table.set s.permits.outcomes x.machine ⟨.lapsed, s.now, x.tag, x.id, some (p.lapsed g).m⟩ } }

theorem State.LoneGranted.permit (h : s.LoneGranted x slot p g) : s.permit? x.machine = some x := by
  rw [State.permit?, h.list]
  simp

theorem State.LoneGranted.pileAt (h : s.LoneGranted x slot p g) : s.pileAt? x.tag = some (slot, p) := by
  rw [State.pileAt?, h.piles, ← h.tag]
  simp

theorem State.LoneGranted.gone (h : s.LoneGranted x slot p g) :
    (s.pileLapsed slot p g).permitGone x ⟨.lapsed, s.now, x.tag, x.id, some (p.lapsed g).m⟩ = s.loneLapsed x slot p g := by
  have hpiles : (Table.update s.piles slot fun q => q.lapsed g) = [(slot, p.lapsed g)] := by
    rw [h.piles]
    simp [Table.update]
  have hlist : (s.permits.list.filter fun z => z.machine != x.machine) = [] := by
    rw [h.list]
    simp
  exact congrArg₂ (fun (l : Table Pile) (ps : List Permit) => { s with
    piles := l, notices := (if p.estimated then s.notices else s.notices.hand .pile slot).hand .permit x.machine
    permits := { s.permits with
      list := ps
      outcomes := Table.set s.permits.outcomes x.machine ⟨.lapsed, s.now, x.tag, x.id, some (p.lapsed g).m⟩ } }) hpiles hlist

theorem State.LoneGranted.wf (h : s.LoneGranted x slot p g) : Table.wf s.piles = true := by
  rw [h.piles]
  rfl

theorem State.LoneGranted.unawaited (h : s.LoneGranted x slot p g) :
    ∀ z ∈ s.permits.list, z.tag = x.tag → z.state ≠ .pendingWet := fun z hz _ => by
  rw [h.list] at hz
  rw [List.mem_singleton.1 hz, h.state]
  decide

theorem State.LoneGranted.reaches (h : s.LoneGranted x slot p g) (hretire : p.retirePending = false) :
    Reaches none [.lapsePermit x.machine] s 5 (s.loneLapsed x slot p g) := by
  rw [← h.gone]
  exact reaches_lapsed h.permit h.state h.reached h.pileAt h.grade h.fdef h.wf hretire (by rw [h.orders]; simp) h.unawaited

/-- The last permit of a retire-pending pile takes the pile with it. -/
theorem State.LoneGranted.reaches_last (h : s.LoneGranted x slot p g) (hretire : p.retirePending = true) :
    Reaches none [.lapsePermit x.machine] s 6 { s.loneLapsed x slot p g with
      piles := [], notices := ((s.loneLapsed x slot p g).notices.hand .pile slot).hand .pile slot } := by
  have hat : (s.loneLapsed x slot p g).pileAt? x.tag = some (slot, p.lapsed g) := by
    have : (p.lapsed g).tag = x.tag := h.tag
    simp [State.pileAt?, State.loneLapsed, this]
  have hretires : doTask none (.checkRetire x.tag) (s.loneLapsed x slot p g)
      = (((s.loneLapsed x slot p g).mapPile slot fun q => { q with life := .retiring, retirePending := false }).hand .pile slot,
        [.checkFree x.tag]) := by
    have hopen : (s.loneLapsed x slot p g).openOn x.tag = [] := by
      rw [State.openOn, show (s.loneLapsed x slot p g).dispatch.orders = [] from h.orders]
      rfl
    change (s.loneLapsed x slot p g).checkRetire x.tag = _
    simp only [State.checkRetire, hat, hopen]
    exact if_pos ⟨h.live, hretire, rfl⟩
  have hpiles : ((s.loneLapsed x slot p g).mapPile slot fun q => { q with life := .retiring, retirePending := false }).piles
      = [(slot, { p.lapsed g with life := .retiring, retirePending := false })] := by
    simp [State.mapPile, State.loneLapsed, Table.update]
  obtain ⟨u, hu⟩ : ∃ u, u = ((s.loneLapsed x slot p g).mapPile slot fun q =>
    { q with life := .retiring, retirePending := false }).hand .pile slot := ⟨_, rfl⟩
  have hupiles : u.piles = [(slot, { p.lapsed g with life := .retiring, retirePending := false })] := by
    rw [hu]
    exact hpiles
  have huorders : u.dispatch.orders = [] := by
    rw [hu]
    exact h.orders
  have huat : u.pileAt? x.tag = some (slot, { p.lapsed g with life := .retiring, retirePending := false }) := by
    have : ({ p.lapsed g with life := .retiring, retirePending := false } : Pile).tag = x.tag := h.tag
    rw [State.pileAt?, hupiles, List.find?_cons_of_pos (by rw [this]; exact beq_self_eq_true _)]
  have hfree : u.checkFree x.tag = u.freed slot :=
    checkFree_of_retiring huat rfl fun ⟨o, ho, _⟩ => by
      rw [huorders] at ho
      exact absurd ho List.not_mem_nil
  have hnone : (u.freed slot).liftZone x.tag = u.freed slot := by
    have : (u.freed slot).pileAt? x.tag = none := by
      simp [State.pileAt?, State.freed, State.hand, hupiles, Table.erase]
    simp only [State.liftZone, this]
  have hgone : u.freed slot = { s.loneLapsed x slot p g with
      piles := [], notices := ((s.loneLapsed x slot p g).notices.hand .pile slot).hand .pile slot } := by
    have herased : Table.erase u.piles slot = [] := by rw [hupiles]; simp [Table.erase]
    refine (congrArg (fun l : Table Pile => { u with piles := l, notices := u.notices.hand .pile slot }) herased).trans ?_
    rw [hu]
    rfl
  rw [← hgone]
  rw [← hu] at hretires
  have hcheck : doTask none (.checkFree x.tag) u = (u.freed slot, []) := congrArg (·, ([] : List Task)) hfree
  have hlift : doTask none (.liftZone x.tag) (u.freed slot) = (u.freed slot, []) := congrArg (·, ([] : List Task)) hnone
  have hrest : Reaches none [.checkRetire x.tag, .liftZone x.tag] (s.loneLapsed x slot p g) 3 (u.freed slot) :=
    (Reaches.one hretires (.single hcheck)).cons (.single hlift)
  rw [← h.gone] at hrest
  exact .one (lapsePermit_of_due h.permit h.state h.reached h.pileAt h.grade h.fdef h.wf)
    (lapsed_told h.permit h.state h.pileAt h.unawaited hrest)

/-- One permit that waits for working moisture, and the one order it waits for. -/
structure State.LoneWaiting (s : State) (x : Permit) (o : Order) : Prop where
  list : s.permits.list = [x]
  orders : s.dispatch.orders = [o]
  names : x.prewetOrder = some o.id
  waits : o.state = .waiting
  state : x.state = .pendingWet
  reached : x.entered + s.permits.prewetWait ≤ s.now
  kept : ∀ slot p, s.pileAt? x.tag = some (slot, p) → p.life = .live ∧ p.retirePending = false
  live : ∀ slot p, s.pileAt? o.tag = some (slot, p) → p.life = .live

/-- The yard once the permit is refused and the order cancelled. -/
def State.loneRefused (s : State) (x : Permit) (o : Order) : State := { s with
  notices := (s.notices.hand .permit x.machine).hand .order o.id
  dispatch := { s.dispatch with orders := [o.ended .cancelled s.now s.events] }
  permits := { s.permits with
    list := [], outcomes := Table.set s.permits.outcomes x.machine ⟨.refusedTooDry, s.now, x.tag, x.id, none⟩ } }

theorem State.LoneWaiting.reaches {o : Order} (h : s.LoneWaiting x o) :
    Reaches none [.expirePrewet x.machine] s 7 (s.loneRefused x o) := by
  have hpermit : s.permit? x.machine = some x := by
    rw [State.permit?, h.list]
    simp
  have ho : s.order? o.id = some o := by
    rw [State.order?, h.orders]
    simp
  have hany : (s.permits.list.any fun z => z.machine != x.machine && z.names o.id) = false := by
    rw [h.list]
    simp
  have horphan : s.orphanPrewet? x = some o.id := by
    rw [State.orphanPrewet?, if_pos h.state, h.names]
    simp [Option.filter, ho, hany, Order.isOpen, h.waits]
  have hrefused := reaches_refused_orphan hpermit h.state horphan ho (.inl h.waits) (fun z hz hne => by
    rw [h.list] at hz
    exact absurd (congrArg Permit.machine (List.mem_singleton.1 hz)) hne) h.live fun slot p hp => (h.kept slot p hp).2
  have hlist : (s.permits.list.filter fun z => z.machine != x.machine) = [] := by
    rw [h.list]
    simp
  have horders : (s.dispatch.orders.map fun y => if y.id ∈ [o.id] then y.ended .cancelled s.now s.events else y)
      = [o.ended .cancelled s.now s.events] := by
    rw [h.orders]
    simp
  have hgone : (s.permitGone x ⟨.refusedTooDry, s.now, x.tag, x.id, none⟩).endAll [o.id] .cancelled = s.loneRefused x o :=
    congrArg₂ (fun (ps : List Permit) (l : List Order) => { s with
      notices := (s.notices.hand .permit x.machine).hand .order o.id
      dispatch := { s.dispatch with orders := l }
      permits := { s.permits with
        list := ps, outcomes := Table.set s.permits.outcomes x.machine ⟨.refusedTooDry, s.now, x.tag, x.id, none⟩ } })
      hlist horders
  rw [hgone] at hrefused
  exact .one (expirePrewet_of_due hpermit h.state h.reached) hrefused

end

/-! ## SET-PERMIT-LIMITS -/

/-- The limits of SET-PERMIT-LIMITS written, in an event of its own. -/
def State.withLimits (s : State) (prewet : Byte) (stacker reclaimer dozer : Half) : State := { s with
  events := s.events + 1
  permits := { s.permits with
    prewetWait := prewet.toNat, maxHold := ⟨stacker.toNat, reclaimer.toNat, dozer.toNat⟩ } }

section
variable {s : State} {prewet : Byte} {stacker reclaimer dozer : Half}

theorem permitLimitsOk_iff : permitLimitsOk prewet stacker reclaimer dozer = true ↔
    ¬ (prewet.toNat < 5 ∨ 240 < prewet.toNat
      ∨ ∃ v, (v = stacker.toNat ∨ v = reclaimer.toNat ∨ v = dozer.toNat) ∧ (v < 10 ∨ 1440 < v)) := by
  simp only [permitLimitsOk, within, Bool.and_eq_true, decide_eq_true_eq, or_and_right, exists_or, exists_eq_left]
  omega

theorem setPermitLimits_of_bad (h : permitLimitsOk prewet stacker reclaimer dozer = false) :
    exec (.setPermitLimits prewet stacker reclaimer dozer) s = .next { s with port := s.replied .badArgument 0x62 [] } := by
  refine congrArg Host.Outcome.next (?_ : s.setPermitLimits prewet stacker reclaimer dozer = _)
  rw [State.setPermitLimits, h]
  rfl

/-- SET-PERMIT-LIMITS taken: what the evaluations reach, and how many permits ended. -/
theorem setPermitLimits_of_taken (h : permitLimitsOk prewet stacker reclaimer dozer = true) {v : State} {k : Nat}
    (hrun : Reaches none (s.permits.list.flatMap Permit.limitTask) (s.withLimits prewet stacker reclaimer dozer) k v)
    (hk : k ≤ 4096) : exec (.setPermitLimits prewet stacker reclaimer dozer) s = .next (v.answer 0x62 .ok (be8 prewet.toNat
      ++ be16 stacker.toNat ++ be16 reclaimer.toNat ++ be16 dozer.toNat ++ be8 (s.permits.list.length - v.permits.list.length))) := by
  refine congrArg Host.Outcome.next (?_ : s.setPermitLimits prewet stacker reclaimer dozer = _)
  rw [State.setPermitLimits, h, if_pos rfl, ← hrun.settled_eq hk]
  rfl

end

end Sys2Proof.Machine
end

section
set_option Elab.async false
/-! PROOFS. The limits of the permits at SET-PERMIT-LIMITS and at a change of the yard minute (R148, R155, R176). -/

namespace Sys2Proof.Machine

section
variable {s : State} {due : Permit → Bool} {hold : PermitKind → Nat}

theorem hold_eq_of {x : MaxHold} (h1 : hold .stacker = x.stacker) (h2 : hold .reclaimer = x.reclaimer)
    (h3 : hold .dozer = x.dozer) : hold = x.of := funext fun k => by
  cases k with
  | stacker => exact h1
  | reclaimer => exact h2
  | dozer => exact h3

/-- The yard of the statement, its limits written and its clock set. -/
theorem runsOut_of_apart {u : State} (h : expiriesApart due s) (hpiles : u.piles = s.piles) (hgrades : u.grades = s.grades)
    (hlist : u.permits.list = s.permits.list) (horders : u.dispatch.orders = s.dispatch.orders)
    (hdue : ∀ y, due y = true ↔ limitReached u.now u.permits.prewetWait u.permits.maxHold.of y) (hwait : 1 ≤ u.permits.prewetWait)
    (hhold : ∀ k, 1 ≤ u.permits.maxHold.of k) : u.RunsOut due := by
  obtain ⟨-, hmachines, hids, -, hwf, htags, hkept, horphans, hlapses⟩ := h
  have hat : ∀ tag, u.pileAt? tag = s.pileAt? tag := fun tag => by rw [State.pileAt?, hpiles, ← State.pileAt?]
  exact {
    machines := by rw [hlist]; exact hmachines
    ids := by rw [horders]; exact hids
    wf := by rw [hpiles]; exact hwf
    tags := by rw [hpiles]; exact htags
    kept := fun y hy slot p hp => (hkept y (hlist ▸ hy) slot p (by rw [← hat]; exact hp)).2
    orphans := fun y hy hd hstate o ho hn => by
      obtain ⟨hactive, hlive⟩ := horphans y (hlist ▸ hy) hd hstate o (horders ▸ ho) hn
      exact ⟨hactive, fun slot p hp => hlive slot p (by rw [← hat]; exact hp)⟩
    lapses := fun y hy hd hstate => by
      obtain ⟨⟨slot, p, g, hp, hg, hfdef⟩, hnone, hunawaited⟩ := hlapses y (hlist ▸ hy) hd hstate
      exact ⟨⟨slot, p, g, by rw [hat]; exact hp, by rw [hgrades]; exact hg, hfdef⟩, by rw [horders]; exact hnone,
        by rw [hlist]; exact hunawaited⟩
    waits := hdue
    wait := hwait
    hold := hhold }

/-! ## SET-PERMIT-LIMITS -/

section
variable {prewet : Byte} {stacker reclaimer dozer : Half}

theorem permitLimits_pos (h : permitLimitsOk prewet stacker reclaimer dozer = true) : 1 ≤ prewet.toNat
    ∧ ∀ k, 1 ≤ (⟨stacker.toNat, reclaimer.toNat, dozer.toNat⟩ : MaxHold).of k := by
  simp only [permitLimitsOk, within, Bool.and_eq_true, decide_eq_true_eq] at h
  obtain ⟨⟨⟨⟨hp, -⟩, ⟨hs, -⟩⟩, ⟨hr, -⟩⟩, ⟨hd, -⟩⟩ := h
  refine ⟨by omega, fun k => ?_⟩
  cases k with
  | stacker => exact le_trans (by decide) hs
  | reclaimer => exact le_trans (by decide) hr
  | dozer => exact le_trans (by decide) hd

/-- No permit has reached a limit: the four are written and nothing else. -/
theorem setPermitLimits_of_none (h : permitLimitsOk prewet stacker reclaimer dozer = true)
    (hnot : ∀ y ∈ s.permits.list, s.permit? y.machine = some y
      ∧ (y.state = .pendingWet → s.clock.minute < y.entered + prewet.toNat)
      ∧ (y.state = .granted → s.clock.minute < y.entered + (⟨stacker.toNat, reclaimer.toNat, dozer.toNat⟩ : MaxHold).of y.kind)) :
    exec (.setPermitLimits prewet stacker reclaimer dozer) s = .next ((s.withLimits prewet stacker reclaimer dozer).answer 0x62 .ok
      (be8 prewet.toNat ++ be16 stacker.toNat ++ be16 reclaimer.toNat ++ be16 dozer.toNat ++ [0])) := by
  obtain ⟨hwait, hhold⟩ := permitLimits_pos h
  have hquiet : ∀ t ∈ s.permits.list.flatMap Permit.limitTask,
      doTask none t (s.withLimits prewet stacker reclaimer dozer) = (s.withLimits prewet stacker reclaimer dozer, []) := fun t ht => by
    obtain ⟨y, hy, hty⟩ := List.mem_flatMap.1 ht
    obtain ⟨hself, hp, hg⟩ := hnot y hy
    have hself : ∀ z, (s.withLimits prewet stacker reclaimer dozer).permit? y.machine = some z → z = y := fun z hz =>
      Option.some.inj (hz.symm.trans hself)
    cases hstate : y.state with
    | pendingWet =>
      rw [Permit.limitTask, hstate] at hty
      rw [List.mem_singleton.1 hty]
      exact expirePrewet_of_not (fun z hz _ => by rw [hself z hz]; exact hp hstate) hwait
    | granted =>
      rw [Permit.limitTask, hstate] at hty
      rw [List.mem_singleton.1 hty]
      exact lapsePermit_of_not (fun z hz _ => by rw [hself z hz]; exact hg hstate) hhold
    | clearing =>
      rw [Permit.limitTask, hstate] at hty
      exact absurd hty List.not_mem_nil
  have hsettled := settled_quiet (s.permits.list.flatMap Permit.limitTask) (s.withLimits prewet stacker reclaimer dozer) hquiet
  have htaken : s.setPermitLimits prewet stacker reclaimer dozer
      = (settled (s.withLimits prewet stacker reclaimer dozer, s.permits.list.flatMap Permit.limitTask)).answer 0x62 .ok
        (be8 prewet.toNat ++ be16 stacker.toNat ++ be16 reclaimer.toNat ++ be16 dozer.toNat ++ be8 (s.permits.list.length
          - (settled (s.withLimits prewet stacker reclaimer dozer, s.permits.list.flatMap Permit.limitTask)).permits.list.length)) := by
    rw [State.setPermitLimits, h, if_pos rfl]
    rfl
  refine congrArg Host.Outcome.next (?_ : s.setPermitLimits prewet stacker reclaimer dozer = _)
  rw [htaken, hsettled, show (s.withLimits prewet stacker reclaimer dozer).permits.list = s.permits.list from rfl, Nat.sub_self]
  rfl

/-- The permits that have reached a new limit end, in request order. -/
theorem setPermitLimits_of_due (h : permitLimitsOk prewet stacker reclaimer dozer = true) (h1 : hold .stacker = stacker.toNat)
    (h2 : hold .reclaimer = reclaimer.toNat) (h3 : hold .dozer = dozer.toNat)
    (hdue : ∀ y, due y = true ↔ limitReached s.clock.minute prewet.toNat hold y) (hapart : expiriesApart due s) :
    ∃ t, exec (.setPermitLimits prewet stacker reclaimer dozer) s = .next t
      ∧ permitsRunOut s.clock.minute due (s.permits.list.filter due) s t
      ∧ t.notices.flags.water = s.notices.flags.water
      ∧ t = { s with
          events := s.events + 1, piles := t.piles, notices := t.notices
          dispatch := { s.dispatch with orders := t.dispatch.orders }
          permits := { s.permits with
            prewetWait := prewet.toNat, maxHold := ⟨stacker.toNat, reclaimer.toNat, dozer.toNat⟩
            list := t.permits.list, outcomes := t.permits.outcomes }
          port := s.replied .ok 0x62 (be8 prewet.toNat ++ be16 stacker.toNat ++ be16 reclaimer.toNat
            ++ be16 dozer.toNat ++ be8 (s.permits.list.countP due)) } := by
  obtain ⟨hwait, hhold⟩ := permitLimits_pos h
  have hlen := hapart.1
  have hs : (s.withLimits prewet stacker reclaimer dozer).RunsOut due := runsOut_of_apart hapart rfl rfl rfl rfl (fun y => by
    rw [hdue, hold_eq_of (x := ⟨stacker.toNat, reclaimer.toNat, dozer.toNat⟩) h1 h2 h3]
    rfl) hwait hhold
  have hin : ∀ y, y ∈ s.permits.list.filter due ↔ y ∈ s.permits.list ∧ due y = true := fun y => List.mem_filter
  obtain ⟨v, hv, hran⟩ := ranOut_limits (n := s.notices) hs rfl (expires_reckon hs fun y hy => (hin y).1 hy)
  have hk : 8 * (s.withLimits prewet stacker reclaimer dozer).permits.list.length ≤ 4096 := by
    change 8 * s.permits.list.length ≤ 4096
    omega
  have hexec := setPermitLimits_of_taken (s := s) h hv hk
  have hcount : s.permits.list.length - v.permits.list.length = s.permits.list.countP due := by
    have hlist : v.permits.list = s.permits.list.filter fun y => !due y := by
      rw [hran.frame]
      refine List.filter_congr fun y hy => ?_
      rw [Bool.eq_iff_iff, decide_eq_true_iff, Bool.not_eq_true', ← Bool.not_eq_true]
      exact not_congr ((hin y).trans (and_iff_right hy))
    rw [hlist, ← List.countP_eq_length_filter]
    have := List.length_eq_countP_add_countP due (l := s.permits.list)
    have hnot : s.permits.list.countP (fun y => !due y) = s.permits.list.countP fun y => decide ¬ due y = true := by
      refine List.countP_congr fun y _ => ?_
      simp
    omega
  rw [hcount] at hexec
  refine ⟨_, hexec, permitsRunOut_of (s := s.withLimits prewet stacker reclaimer dozer) (v := v) rfl rfl rfl rfl rfl rfl rfl hin
    (fun grade expire he => ?_) rfl ⟨rfl, rfl⟩ rfl rfl, hran.water, ?_⟩
  · obtain ⟨v', hv', hran'⟩ := ranOut_limits (n := s.notices) hs rfl he
    rw [← hv.settled_eq hk, hv'.settled_eq hk]
    exact hran'
  · have hport : v.port = s.port := by
      rw [hran.frame]
      rfl
    have hframe := congrArg (fun z : State => { z with
      piles := v.piles, notices := v.notices
      dispatch := { z.dispatch with orders := v.dispatch.orders }
      permits := { z.permits with list := v.permits.list, outcomes := v.permits.outcomes }
      port := s.replied .ok 0x62 (be8 prewet.toNat ++ be16 stacker.toNat ++ be16 reclaimer.toNat
        ++ be16 dozer.toNat ++ be8 (s.permits.list.countP due)) }) hran.frame
    refine Eq.trans ?_ hframe
    rw [State.replied, ← hport]
    rfl

end

/-! ## A change of the yard minute -/

theorem reaches_quiet {q : Option Nat} {ts : List Task} {s : State} (h : ∀ t ∈ ts, doTask q t s = (s, [])) :
    Reaches q ts s ts.length s := by
  induction ts with
  | nil => exact .nil s
  | cons t ts ih =>
    refine ((Reaches.single (h t List.mem_cons_self)).cons (ih fun t' ht => h t' (List.mem_cons_of_mem _ ht))).mono ?_
    rw [List.length_cons]
    omega

/-- The yard at a change of the minute when the permits come: the weather found as it was, no order lapsed. -/
theorem reaches_minute {minute : Nat} (hids : (s.dispatch.orders.map fun o => o.id).Nodup)
    (hlen : s.dispatch.orders.length ≤ 32)
    (hweather : State.weatherNow { s with clock := { s.clock with minute := minute } } = s.wind.weather)
    (hlapse : ∀ o ∈ s.dispatch.orders, (o.state = .volleyHeld ∨ o.state = .waiting) → minute ≤ o.lapseRef + s.dispatch.lapseTime) :
    ∃ w : State, (∀ k v, Reaches none [.permitMinute] w k v → Reaches none minuteTasks (s.openEvent.withMinute minute 0) (k + 36) v)
      ∧ w = { s with
          events := s.events + 1, clock := w.clock, wind := w.wind, cannons := w.cannons, water := w.water
          notices := s.notices.wet w.notices.flags.water
          dispatch := { s.dispatch with due := s.dispatch.due + if minute / 1440 = s.water.countedDay then 0 else 1 } }
      ∧ w.now = minute ∧ (minute / 1440 = s.water.countedDay → w.notices.flags.water = s.notices.flags.water) := by
  obtain ⟨u, hu⟩ : ∃ u, u = s.openEvent.withMinute minute 0 := ⟨_, rfl⟩
  have hselect : doTask none .selectWeather u = ({ u with wind := u.wind.withWeather s.wind.weather }, []) := by
    have hnow : u.weatherNow = s.wind.weather := (weatherNow_congr
      (s := { s with clock := { s.clock with minute := minute } }) (by rw [hu]; rfl) (by rw [hu]; rfl) (by rw [hu]; rfl)).trans hweather
    have hold : u.wind.weather = s.wind.weather := by rw [hu]; rfl
    change u.selectWeather = _
    simp only [State.selectWeather, hnow, hold, if_true]
  obtain ⟨u1, hu1⟩ : ∃ u1 : State, u1 = { u with wind := u.wind.withWeather s.wind.weather } := ⟨_, rfl⟩
  rw [← hu1] at hselect
  have horders : u1.dispatch = s.dispatch := by rw [hu1, hu]; rfl
  have hlapses : Reaches none [.lapseOrders] u1 33 u1 := by
    have hquiet := reaches_quiet (q := none) (s := u1) (ts := u1.dispatch.orders.map fun o => .lapseOrder o.id) fun t ht => by
      obtain ⟨o, ho, rfl⟩ := List.mem_map.1 ht
      rw [horders] at ho
      have hself : u1.order? o.id = some o := by rw [State.order?, horders]; exact order?_of_mem hids ho
      have hnot : o.lapses u1.now u1.dispatch.lapseTime = false := Bool.eq_false_iff.2 fun hl => by
        obtain ⟨hstate, hlate⟩ := (lapses_iff o u1.now u1.dispatch.lapseTime).1 hl
        rw [horders, hu1, hu] at hlate
        exact absurd (hlapse o ho hstate) (Nat.not_le.2 hlate)
      change u1.lapseOrder o.id = _
      simp only [State.lapseOrder, hself, hnot]
      rfl
    rw [List.length_map, horders] at hquiet
    rw [← horders] at hquiet
    exact (Reaches.one rfl hquiet).mono (by rw [horders]; omega)
  obtain ⟨w, hw⟩ : ∃ w : State, w = u1.decayTrips.rollOver := ⟨_, rfl⟩
  have hroll : w = { s with
      events := s.events + 1, clock := w.clock, wind := w.wind, cannons := w.cannons, water := w.water
      notices := s.notices.wet w.notices.flags.water
      dispatch := { s.dispatch with due := s.dispatch.due + if minute / 1440 = s.water.countedDay then 0 else 1 } }
      ∧ w.now = minute ∧ (minute / 1440 = s.water.countedDay → w.notices.flags.water = s.notices.flags.water) := by
    have hday : (dayOf u1.decayTrips.now = u1.decayTrips.water.countedDay) ↔ minute / 1440 = s.water.countedDay := by
      rw [hu1, hu]
      rfl
    rw [State.rollOver] at hw
    by_cases hd : minute / 1440 = s.water.countedDay
    · rw [if_pos (hday.2 hd)] at hw
      rw [if_pos hd, hw, hu1, hu]
      exact ⟨rfl, rfl, fun _ => rfl⟩
    · rw [if_neg fun h => hd (hday.1 h), evalSpent_eq] at hw
      rw [if_neg hd]
      refine ⟨?_, ?_, fun h => absurd h hd⟩
      · rw [hw, hu1, hu]
        rfl
      · rw [hw, hu1, hu]
        rfl
  refine ⟨w, fun k v hv => ?_, hroll⟩
  have hdecay : doTask none .decayTrips u1 = (u1.decayTrips, []) := rfl
  have hrollover : doTask none .rollOver u1.decayTrips = (w, []) := by rw [hw]; rfl
  rw [← hu]
  exact ((((Reaches.single hselect).append hlapses).append (.single hdecay)).append
    ((Reaches.single hrollover).append hv)).mono (by omega)

end

end Sys2Proof.Machine
end

section
set_option Elab.async false
/-! PROOFS. The limits of permits at their rows, at SET-PERMIT-LIMITS and at a change of the minute (R150, R152, R155). -/

namespace Sys2Proof.Machine

/-- The telling that an operation is, with what it brings about. -/
theorem Reaches.settled_doTask {t : Task} {s s1 : State} {k : Nat} (h : Reaches none [t] s k s1) (hk : k ≤ 4097) :
    settled (doTask none t s) = s1 := by
  obtain ⟨n, hn, hr⟩ := h
  cases hr with
  | cons hfirst hrest =>
    cases hrest with
    | nil => exact hfirst.settled_eq (by omega)

/-- A permit found by the number of a machine is that machine's. -/
theorem machine_of_permit? {s : State} {m : Nat} {x : Permit} (h : s.permit? m = some x) : x.machine = m :=
  beq_iff_eq.1 (List.find?_some (p := fun y : Permit => y.machine == m) h)

section
variable {s : State} {number : Byte} {x : Permit}

/-! ## MAX_HOLD_LAPSE and PREWET_WAIT_EXPIRY -/

theorem maxHoldLapse_of_not (h : s.permit? number.toNat = some x)
    (hnot : x.state ≠ .granted ∨ s.clock.minute < x.entered + s.permits.maxHold.of x.kind)
    (hpos : 1 ≤ s.permits.maxHold.of x.kind) : exec (.maxHoldLapse number) s = .next s.openEvent := by
  have hquiet : s.openEvent.lapsePermit number.toNat = (s.openEvent, []) := by
    simp only [State.lapsePermit, show s.openEvent.permit? number.toNat = some x from h]
    refine if_neg fun ⟨hstate, hreached⟩ => ?_
    have hlate := hnot.resolve_left (not_not.2 hstate)
    change s.permits.maxHold.of x.kind ≤ s.clock.minute - x.entered at hreached
    omega
  refine congrArg Host.Outcome.next (?_ : settled (s.openEvent.lapsePermit number.toNat) = s.openEvent)
  rw [hquiet, settled_nil]

theorem maxHoldLapse_of_reaches {t : State} {k : Nat} (h : Reaches none [.lapsePermit number.toNat] s.openEvent k t)
    (hk : k ≤ 4097) : exec (.maxHoldLapse number) s = .next t := congrArg Host.Outcome.next (h.settled_doTask hk)

theorem prewetWaitExpiry_of_not (h : s.permit? number.toNat = some x)
    (hnot : x.state ≠ .pendingWet ∨ s.clock.minute < x.entered + s.permits.prewetWait) (hpos : 1 ≤ s.permits.prewetWait) :
    exec (.prewetWaitExpiry number) s = .next s.openEvent := by
  have hquiet : s.openEvent.expirePrewet number.toNat = (s.openEvent, []) := by
    simp only [State.expirePrewet, show s.openEvent.permit? number.toNat = some x from h]
    refine if_neg fun ⟨hstate, hreached⟩ => ?_
    have hlate := hnot.resolve_left (not_not.2 hstate)
    change s.permits.prewetWait ≤ s.clock.minute - x.entered at hreached
    omega
  refine congrArg Host.Outcome.next (?_ : settled (s.openEvent.expirePrewet number.toNat) = s.openEvent)
  rw [hquiet, settled_nil]

theorem prewetWaitExpiry_of_reaches {t : State} {k : Nat} (h : Reaches none [.expirePrewet number.toNat] s.openEvent k t)
    (hk : k ≤ 4097) : exec (.prewetWaitExpiry number) s = .next t := congrArg Host.Outcome.next (h.settled_doTask hk)

end

/-! ## SET-PERMIT-LIMITS with one permit -/

section
variable {s : State} {prewet : Byte} {stacker reclaimer dozer : Half} {x : Permit}

/-- The one permit of a yard ends: the reply tells one. -/
theorem setPermitLimits_of_one (h : permitLimitsOk prewet stacker reclaimer dozer = true) (hlist : s.permits.list = [x])
    {v : State} {k : Nat} (hrun : Reaches none x.limitTask (s.withLimits prewet stacker reclaimer dozer) k v) (hk : k ≤ 4096)
    (hnone : v.permits.list = []) : exec (.setPermitLimits prewet stacker reclaimer dozer) s = .next (v.answer 0x62 .ok
      (be8 prewet.toNat ++ be16 stacker.toNat ++ be16 reclaimer.toNat ++ be16 dozer.toNat ++ [1])) := by
  have htasks : s.permits.list.flatMap Permit.limitTask = x.limitTask := by
    rw [hlist, List.flatMap_cons, List.flatMap_nil, List.append_nil]
  rw [← htasks] at hrun
  rw [setPermitLimits_of_taken h hrun hk, hlist, hnone]
  rfl

theorem maxHold_of_eq (x : MaxHold) (k : PermitKind) {hold : Nat} (h : hold = match k with
    | .stacker => x.stacker | .reclaimer => x.reclaimer | .dozer => x.dozer) : hold = x.of k := by
  cases k with
  | stacker => exact h
  | reclaimer => exact h
  | dozer => exact h

end

/-! ## SET-CLOCK, broadcast, to another minute -/

section
variable {s : State} {due : Permit → Bool} {hold : PermitKind → Nat} {minute : Long}

theorem setClock_of_reaches (hne : minute.toNat ≠ s.clock.minute) {v : State} {k : Nat}
    (h : Reaches none minuteTasks (s.openEvent.withMinute minute.toNat 0) k v) (hk : k ≤ 4096) :
    exec (.setClock true minute) s = .next v := by
  refine congrArg Host.Outcome.next (?_ : s.setClock true minute = v)
  rw [State.setClock, if_neg hne, State.changeMinute, h.settled_eq hk]
  rfl

/-- The permits that have reached a limit end at a change of the minute, the prewet waits before the max holds. -/
theorem setClock_of_due (hne : minute.toNat ≠ s.clock.minute) (h1 : hold .stacker = s.permits.maxHold.stacker)
    (h2 : hold .reclaimer = s.permits.maxHold.reclaimer) (h3 : hold .dozer = s.permits.maxHold.dozer)
    (hdue : ∀ y, due y = true ↔ limitReached minute.toNat s.permits.prewetWait hold y) (hapart : expiriesApart due s)
    (hwait : 1 ≤ s.permits.prewetWait) (hhold : ∀ k, 1 ≤ hold k)
    (hweather : State.weatherNow { s with clock := { s.clock with minute := minute.toNat } } = s.wind.weather)
    (hlapse : ∀ o ∈ s.dispatch.orders, (o.state = .volleyHeld ∨ o.state = .waiting) →
      minute.toNat ≤ o.lapseRef + s.dispatch.lapseTime)
    (hasks : ∀ y ∈ s.permits.list, y.state = .pendingWet → y.prewetOrder = none → due y = true) :
    ∃ t, exec (.setClock true minute) s = .next t ∧ permitsRunOut minute.toNat due (s.minuteEnding due) s t
      ∧ (minute.toNat / 1440 = s.water.countedDay → t.notices.flags.water = s.notices.flags.water)
      ∧ t = { s with
          events := s.events + 1, piles := t.piles, notices := t.notices, clock := t.clock, wind := t.wind
          cannons := t.cannons, water := t.water
          dispatch := { s.dispatch with
            orders := t.dispatch.orders
            due := s.dispatch.due + if minute.toNat / 1440 = s.water.countedDay then 0 else 1 }
          permits := { s.permits with list := t.permits.list, outcomes := t.permits.outcomes } } := by
  obtain ⟨hlen, -, hids, horders, -⟩ := id hapart
  obtain ⟨w, hw, hframe, hnow, hwater⟩ := reaches_minute (s := s) hids horders hweather hlapse
  have hpiles : w.piles = s.piles := by rw [hframe]
  have hgrades : w.grades = s.grades := by rw [hframe]
  have hpermits : w.permits = s.permits := by rw [hframe]
  have horders : w.dispatch.orders = s.dispatch.orders := by rw [hframe]
  have hnotices : w.notices = s.notices.wet w.notices.flags.water := congrArg State.notices hframe
  have hruns : w.RunsOut due := runsOut_of_apart hapart hpiles hgrades (by rw [hpermits]) horders (fun y => by
    rw [hdue, hnow, hpermits, hold_eq_of h1 h2 h3]) (by rw [hpermits]; exact hwait)
    (by rw [hpermits, ← hold_eq_of h1 h2 h3]; exact hhold)
  have hending : w.minuteEnding due = s.minuteEnding due := by rw [State.minuteEnding, State.minuteEnding, hpermits]
  have hin := mem_minuteEnding hruns
  rw [← hpermits] at hasks
  have hk : 16 * w.permits.list.length + 2 + 36 ≤ 4096 := by
    rw [hpermits]
    omega
  obtain ⟨v, hv, hran⟩ := ranOut_minute hruns hnotices hasks (expires_reckon hruns fun y hy => (hin y).1 hy)
  refine ⟨v, setClock_of_reaches hne (hw _ v hv) hk, ?_, fun hday => hran.water.trans (hwater hday), ?_⟩
  · rw [← hending]
    refine permitsRunOut_of hpiles hgrades (by rw [hpermits]) horders (by rw [hnotices]; rfl) hnow (by rw [hframe]) hin
      (fun grade expire he => ?_) rfl ⟨rfl, rfl⟩ rfl rfl
    obtain ⟨v', hv', hran'⟩ := ranOut_minute hruns hnotices hasks he
    rw [hpiles, hpermits] at hran'
    rw [← hv.settled_eq (by omega), hv'.settled_eq (by omega)]
    exact hran'
  · have hclock : v.clock = w.clock ∧ v.wind = w.wind ∧ v.cannons = w.cannons ∧ v.water = w.water := by
      rw [hran.frame]
      exact ⟨rfl, rfl, rfl, rfl⟩
    obtain ⟨hclock, hwind, hcannons, hwaters⟩ := hclock
    have hstep := congrArg (fun z : State => { z with
      piles := v.piles, notices := v.notices
      dispatch := { z.dispatch with orders := v.dispatch.orders }
      permits := { z.permits with list := v.permits.list, outcomes := v.permits.outcomes } }) hran.frame
    have hbefore := congrArg (fun z : State => { z with
      piles := v.piles, notices := v.notices
      dispatch := { z.dispatch with orders := v.dispatch.orders }
      permits := { z.permits with list := v.permits.list, outcomes := v.permits.outcomes } }) hframe
    rw [hclock, hwind, hcannons, hwaters]
    exact hstep.trans hbefore

end

/-- Settles O48, by the evaluation of each permit in turn: its end tells the pile and the order it alone waited for, and in
the yards stated no other. -/
theorem permitLimitsExpire : Obligations.PermitLimitsExpire := by
  refine ⟨fun number x s hx => ?_, fun prewet stacker reclaimer dozer bad written s hwritten hbad => ?_,
    fun minute hold due s hne h1 h2 h3 hdue hapart hwait hhold hweather hlapse hasks =>
      setClock_of_due hne h1 h2 h3 hdue hapart hwait hhold hweather hlapse hasks⟩
  · have hmachine := machine_of_permit? hx
    refine ⟨fun hold hhold => ?_, prewetWaitExpiry_of_not hx, fun o hstate hreached hlist horders hnames ho hkept hlive => ?_⟩
    · obtain rfl := maxHold_of_eq s.permits.maxHold x.kind hhold
      refine ⟨maxHoldLapse_of_not hx, fun hstate hreached hlist horders slot p g m hpiles htag hlive hg hfdef hm told left
        htold hleft => ?_⟩
      have hlone : s.openEvent.LoneGranted x slot p g := ⟨hlist, horders, hpiles, htag, hlive, hg, hfdef, hstate, hreached⟩
      subst hm htold hleft
      refine ⟨fun hretire => ?_, fun hretire => ?_⟩
      · have hrun := hlone.reaches hretire
        rw [hmachine] at hrun
        exact maxHoldLapse_of_reaches hrun (by decide)
      · have hrun := hlone.reaches_last hretire
        rw [hmachine] at hrun
        exact maxHoldLapse_of_reaches hrun (by decide)
    · have hlone : s.openEvent.LoneWaiting x o := ⟨hlist, horders, hnames, ho, hstate, hreached, hkept, hlive⟩
      have hrun := hlone.reaches
      rw [hmachine] at hrun
      exact prewetWaitExpiry_of_reaches hrun (by decide)
  · obtain rfl : written = fun z : Permits => { z with
        prewetWait := prewet.toNat, maxHold := ⟨stacker.toNat, reclaimer.toNat, dozer.toNat⟩ } := funext hwritten
    have hok : permitLimitsOk prewet stacker reclaimer dozer = true ↔ ¬ bad := by rw [permitLimitsOk_iff, hbad]
    refine ⟨fun h => setPermitLimits_of_bad (Bool.eq_false_iff.2 fun htrue => hok.1 htrue h), fun h hlen hnot => ?_,
      fun h x hold hlist hhold => ⟨fun slot p g m hstate hreached horders hpiles htag hlive hretire hg hfdef hm => ?_,
        fun o hstate hreached horders hnames ho hkept hlive => ?_⟩,
      fun h hold due h1 h2 h3 hdue hapart => setPermitLimits_of_due (hok.2 h) h1 h2 h3 hdue hapart⟩
    · refine setPermitLimits_of_none (hok.2 h) fun y hy => ?_
      obtain ⟨hself, hpending, hgranted⟩ := hnot y hy
      refine ⟨hself, hpending, fun hstate => ?_⟩
      rw [← maxHold_of_eq ⟨stacker.toNat, reclaimer.toNat, dozer.toNat⟩ y.kind rfl]
      exact hgranted hstate
    · obtain rfl := maxHold_of_eq ⟨stacker.toNat, reclaimer.toNat, dozer.toNat⟩ x.kind hhold
      have hlone : (s.withLimits prewet stacker reclaimer dozer).LoneGranted x slot p g :=
        ⟨hlist, horders, hpiles, htag, hlive, hg, hfdef, hstate, hreached⟩
      have hrun := hlone.reaches hretire
      rw [← show x.limitTask = [.lapsePermit x.machine] by rw [Permit.limitTask, hstate]] at hrun
      rw [setPermitLimits_of_one (hok.2 h) hlist hrun (by decide) rfl, hm]
      rfl
    · have hlone : (s.withLimits prewet stacker reclaimer dozer).LoneWaiting x o :=
        ⟨hlist, horders, hnames, ho, hstate, hreached, hkept, hlive⟩
      have hrun := hlone.reaches
      rw [← show x.limitTask = [.expirePrewet x.machine] by rw [Permit.limitTask, hstate]] at hrun
      rw [setPermitLimits_of_one (hok.2 h) hlist hrun (by decide) rfl]
      rfl

end Sys2Proof.Machine
end
